-- ==== Sys2Proof/Word.lean ====
section
/-! DEFINITION. The word types of the BVH-6400: bytes, 64-bit words and sparse tables. -/
namespace Sys2Proof

/-- One byte of a packet, a frame or a buffer. -/
abbrev Byte := BitVec 8

/-- One 64-bit word of a host-side layout (R51, R56, R237). -/
abbrev W64 := BitVec 64

/-- Sparse data by number: strictly rising keys, no entry equal to the table's default
(`Tab.wf` in Machine/Ops.lean). A key that is not listed reads as the default. -/
abbrev Tab (α : Type) := List (Nat × α)

/-- The versions of one versioned table (R24): the epoch from which each is current, newest first. -/
abbrev Vers (α : Type) := List (Nat × α)

end Sys2Proof
end

