-- ==== Sys2Proof/Config.lean ====
section
/-! DEFINITION. What the manual leaves to the part or leaves open: uninterpreted constants. None has a
body, so no statement can rest on a value. Each is named in a log entry. -/
namespace Sys2Proof.Config

/-- The n-th device key-encryption key drawn from the on-die random source (R332). Log 10. -/
opaque freeKek : Nat → BitVec 256

/-- The n-th transfer key agreed by ephemeral Diffie-Hellman over P-256 (R419). Log 11. -/
opaque freeTransferKey : Nat → BitVec 256

/-- Whether an ECDSA P-256 signature over an image verifies against the firmware public key, whose
value the manual does not give (R506): of the bytes of header and code, and of the signature. Log 12. -/
opaque signatureVerifies : List Byte → List Byte → Bool

/-- The byte string of HELLO content that a CMAC covers (R419): the manual lists the fields, not
their layout. Log 13. -/
opaque helloBytes : List Nat → List Byte

/-- The n-th phase correction, in units of 2^-16 ns, that the servo makes in one frame, before it is
clamped to SLEW_MAX (R363, R365): the manual gives the limit and not the loop. Log 14. -/
opaque freeSlew : Nat → Int

/-- The n-th value of a wear monitor's slowing, added equivalent time, roundings and mean temperature (R481, R482). Log 15. -/
opaque freeWear : Nat → Nat

/-- The n-th byte string whose layout the manual does not give: a message of a MIB upload, the content of a page of
items 1 to 4 (R145, R423, R449). Log 16. -/
opaque freeMessage : Nat → List Byte

/-- The eight digest registers, the n-th closed, by domain (R413): the manual lists the records and not their
layout. Log 30. -/
opaque freeDigest : Nat → Nat → BitVec 64

/-- The byte-slots of an allocation that carries a payload of n bytes on a standard-mode tree, XGS or 50G: burst
profile 1 and the FEC of the recommendation, which the manual does not restate (R233). Log 34. -/
opaque stdLength : Bool → Nat → Nat

/-- The bytes that a downstream frame of a standard-mode tree, XGS or 50G, has for SDU fragments and their headers, which
the recommendation gives and the manual does not restate (R138). Log 34. -/
opaque stdCapacity : Bool → Nat

/-- The clockIdentity that the head-end announces while it follows no master (R372): IEEE 1588 makes it of the board's address. Log 19. -/
opaque clockIdentity : Nat

/-- What stands for an arrival time on a part without a time unit, which has no hardware timestamps (R6), of the raw
time. Log 138. -/
opaque noStamp : Int → Int

/-- The integrity check of a PLOAM message to or from a terminal, by global terminal ID, over the message's bytes before it: AES-CMAC
with the default or derived PLOAM key of the recommendation (R143). Log 148. -/
opaque ploamMic : Nat → List Byte → List Byte

/-- The integrity check that ends a G.988 message to or from a terminal, by global terminal ID, over the message's bytes before it:
AES-CMAC with the OMCI integrity key of the recommendation (R145). Log 148. -/
opaque omciMic : Nat → List Byte → List Byte

/-- The key-stream byte of AES-128-CTR for a byte of an XGEM payload on a standard-mode tree: by flow index, downstream frame and
place in the frame, under the key that the PLOAM key exchange of the recommendation has made (R143, R144, R347). Log 148. -/
opaque xgemKeyByte : Nat → Nat → Nat → Byte

/-- A plain value, the n-th, where the manual states an effect and not its value. Log 17. -/
opaque freeValue : Nat → Nat

end Sys2Proof.Config
end

