-- ==== Sys2Proof/Syntax.lean ====
section
/-! DEFINITION. The commands of the block: one constructor of `Instr` for each row of the operation
table, and the structured operands of the commands that carry more than numbers. -/
namespace Sys2Proof

/-- The parts of the family (R3). -/
inductive Part where
  | bvh6400 | bvh6432 | bvh6416e
  deriving DecidableEq, Repr

/-- The levels of the five straps (R492, R520). -/
structure Straps where
  compat : Bool
  smbAddr : BitVec 2
  pairWave : Bool
  pairPref : Bool
  deriving DecidableEq, Repr

/-- The supply rails (R524). -/
inductive Rail where
  | core | sram | vddaSerdes | vddhSerdes | hbm | vddqHbm | io | aon
  deriving DecidableEq, Repr

/-- The reference clocks (R522). -/
inductive RefClk where
  | tree | uplink | pcie
  deriving DecidableEq, Repr

/-- The output balls as the boundary register drives them under EXTEST (R535): the low-speed outputs by
name, the transmit balls of the SerDes as a list of levels. -/
structure Boundary where
  txDisLow : BitVec 64
  rxRst : BitVec 64
  rssi : BitVec 64
  thermTripLow : Bool
  ppsOut : Bool
  pairActOut : Bool
  pairWdOut : Bool
  serdes : List Bool
  deriving DecidableEq, Repr

/-- An opcode command as a command processor or the sideband holds it once fetched (R51, R53, R78).
`ring` is 8 for the sideband (R62). `inl` is the inline payload as a number, least significant byte
first, `ext` the extended input read from host memory, `partner` whether the command came over the
Marionette link (R401), `mute` whether a PCIe reset has taken its reply away (R495), and `badHeader` the offset of the first malformed header field, if any (R54). -/
structure Cmd where
  tenant : Nat
  ring : Nat
  pos : Nat
  tag : Nat
  legacy : Bool
  asap : Bool
  irq : Bool
  unit : Nat
  epoch : Nat
  extAddr : Nat
  extLen : Nat
  inlineLen : Nat
  inl : Nat
  ext : List Byte
  partner : Bool
  mute : Bool := false
  badHeader : Option Nat := none
  deriving DecidableEq, Repr

/-- What the recommendation's FEC found in a burst of a standard tree (R121, R133, R146): codewords, those corrected, symbols corrected,
uncorrectable codewords, symbols received, and the data bytes from the first uncorrectable codeword on. -/
structure FecCount where
  words : Nat := 0
  corrected : Nat := 0
  symbols : Nat := 0
  uncorr : Nat := 0
  received : Nat := 0
  lost : Nat := 0
  deriving DecidableEq, Repr

/-- A burst as light gives it to a tree island: the burst window it falls in, the bits searched for its delimiter
as a number (most significant bit first in time, `bitsLen` of them, the first at `firstBit` bits from the
predicted arrival) (R119, R120), the time at which the framer found it, before the correction of R370 (R371), and the bytes that follow the delimiter, scrambled and
FEC-encoded as they arrive (R110, R113). `overrun`: the receive point had no room (R15); `checkFail`: a word of its report
block fails its check code on the way to Geyser (R13); `spent`: the copy budget of the tree's input is reached (R304). -/
structure RxBurst where
  tree : Nat
  uf : Nat
  start : Nat
  searchBits : Nat
  bitsLen : Nat
  firstBit : Int
  toa : Int
  bytes : List Byte
  overrun : Bool := false
  checkFail : Bool := false
  spent : Bool := false
  fec : FecCount := {}
  deriving DecidableEq, Repr

/-- A PAUSE or PFC frame (R314): the classes held and the quanta of each; `pfc` false is a PAUSE. -/
structure PauseFrame where
  pfc : Bool
  classes : BitVec 8
  quanta : List Nat
  deriving DecidableEq, Repr

/-- Why a frame is found bad after admission (R306). -/
inductive BadLate where
  | fcs | oversize | noCell | uncorrectable (row cell : Nat)
  deriving DecidableEq, Repr

/-- Why a SyncE source fails (R375). -/
inductive SyncLoss where
  | linkDown | esmcTimeout | frequency
  deriving DecidableEq, Repr

/-- A hardware event that some rows carry with them. -/
inductive Upset where
  /-- An error in a 32-byte granule of an endpoint context or a flow context in a pseudo-channel, found at its
  next read: corrected, or not (`fatal`) (R239, R260). -/
  | hbm (flow : Bool) (id granule channel : Nat) (fatal : Bool)
  /-- The two datapaths differ on the operation that the item names (an endpoint ID, or a flow index): on
  lane 0 to 11 or, with `unwrap`, unwrap unit 0 to 3; `again` says that the recomputation differs too (R331). -/
  | cipher (item unit : Nat) (unwrap again : Bool)
  /-- A parity error in a block's entry of CHECK_CONFIG (R352). -/
  | checkCfg (block : Nat)
  /-- A word of the item-th message fails its channel's check code (R13). -/
  | channel (item : Nat)
  deriving DecidableEq, Repr

/-- What the receiver samples of one micro-window (R165): the window's number j, and a sample of the light for each byte-slot from
window byte-slot 240 on, 12,000 of them. -/
structure ProbeWindow where
  window : Nat
  samples : List Int
  deriving DecidableEq, Repr

/-- A burst that chip A accepted, as an acquiring chip B searches for it (R182): the bits searched as a number, most significant bit
first in time, how many they are, the place of the first, in bits from the prediction, and the offset that chip A accepted. -/
structure SkewSearch where
  bits : Nat
  len : Nat
  first : Int
  ref : Int
  deriving DecidableEq, Repr

/-- What a HELLO says (R397). -/
structure Hello where
  state : Nat
  part : Nat
  rev : Nat
  fwVersion : Nat
  wave : Bool
  pref : Bool
  enable : Bool
  epoch : Nat
  fc : Nat
  deriving DecidableEq, Repr

/-- What the State of a HELLO tells of a tree of its sender (R127, R152, R183, R184, R397): whether its island is retired, LOS_T,
SKEW_STATE and UP_SKEW. -/
structure TreeFact where
  tree : Nat
  stopped : Bool
  los : Bool
  skew : Nat
  upSkew : Int
  deriving DecidableEq, Repr

/-- A link frame as it arrives (R397); `lane` is the lane of an uncorrectable codeword, if one was found
in it (R396). -/
structure LinkFrame where
  kind : Nat
  cls : Nat
  seq : Nat
  epoch : Nat
  crcOk : Bool
  lane : Option Nat
  deriving DecidableEq, Repr

/-- A terminal's view in a batch: its index, state (R192), LOB and DG (R206). -/
structure ViewItem where
  index : Nat
  state : Nat
  lob : Bool
  dg : Bool
  deriving DecidableEq, Repr

/-- What became of a burst at the reference chip (R177, R206, R227): its START, 0 received with its payload, idle and
lost bytes, 1 discarded under R113, 2 missed, 3 still open; δ where a delimiter was accepted; and the control message it brought:
its type, and the serial number of an SN_REPORT or MSG_SEQ × 256 + type of what an ACK answers (R175). -/
structure BurstEnd where
  start : Nat
  kind : Nat
  retired : Nat
  unfilled : Nat
  lost : Nat
  delta : Int
  message : Option (Nat × Nat)
  deriving DecidableEq, Repr

/-- A tree's part of a batch of the reference chip: reports (terminal index, START, BACKLOG and AGE of the four
classes), burst outcomes and ranging measurements, changed views, detections (first frame of the cycle, code and RTD)
and responses in a quiet window (RTD and serial number) (R177, R206, R397). -/
structure BatchTree where
  tree : Nat
  reports : List (Nat × Nat × List (Nat × Nat))
  ends : List BurstEnd
  views : List ViewItem
  probes : List (Nat × Nat × Nat)
  quiets : List (Nat × Nat)
  deriving DecidableEq, Repr

/-- A phase batch of the reference chip (R397). -/
structure PairBatch where
  uf : Nat
  phase : Nat
  trees : List BatchTree
  deriving DecidableEq, Repr

/-- A recipe entry (R405). -/
structure RecipeEntry where
  carrier : Nat
  len : Nat
  first : Bool
  fin : Nat
  sduLen : Nat
  sduCrc : Nat
  deriving DecidableEq, Repr

/-- The fragment list of one downstream frame of one tree (R405). -/
structure Recipe where
  tree : Nat
  frame : Nat
  entries : List RecipeEntry
  deriving DecidableEq, Repr

/-- The reference chip's time for a frame (R384, R397). -/
structure PairTime where
  frame : Nat
  tod : Nat
  gen : Nat
  valid : Bool
  /-- The content of TIME_INFO by tree, 42 bytes each. -/
  info : List (Nat × List Byte)
  deriving DecidableEq, Repr

/-- An entry of an accept list (R410). -/
structure AcceptEntry where
  kind : Nat
  tree : Nat
  burst : Nat
  endOff : Nat
  crc : Nat
  deriving DecidableEq, Repr

/-- An accept list (R410). -/
structure AcceptList where
  uf : Nat
  phase : Nat
  entries : List AcceptEntry
  deriving DecidableEq, Repr

/-- What a COMMAND frame carries (R397, R401, R414). -/
inductive PairCommand where
  /-- A pair-wide command the partner fetched: its function, ring, position, apply-epoch, slot and extended input. -/
  | forward (tenant ring pos epoch : Nat) (slot ext : List Byte)
  /-- The staging acknowledgement of a command sent. -/
  | ack (tenant ring pos : Nat)
  /-- The withdrawal of a command forwarded (R414). -/
  | withdraw (tenant ring pos : Nat)
  deriving DecidableEq, Repr

/-- A cold-state page (R423). -/
structure Page where
  item : Nat
  no : Nat
  asU : Nat
  asQ : Nat
  digest : Nat
  data : List Byte
  deriving DecidableEq, Repr

/-- A fault of a Tumbler engine (R454). -/
inductive EngineFault where
  | registers | instruction | overrun
  deriving DecidableEq, Repr

/-- A write on the SMBus as it came: its bytes, and whether its PEC is right (R70). -/
structure SbWrite where
  bytes : List Byte
  pecOk : Bool
  deriving DecidableEq, Repr

/-- What the frame tick meets on its way: the upsets of the cipher and cell units, and the cells corrected (R295). -/
structure TickFacts where
  upsets : List Upset
  corrected : Nat
  deriving DecidableEq, Repr

/-- The room an uplink frame finds: the port has none (R15), or the copy budget of its sub-port is reached (R304). -/
structure Room where
  overrun : Bool
  spent : Bool
  deriving DecidableEq, Repr

/-- A pass of the parser: its side, and whether the copy budget of the frame's input is reached (R304). -/
structure Pass where
  side : Nat
  spent : Bool
  deriving DecidableEq, Repr

/-- What the host port reads: words 0 and 1 of the next descriptor of the tenants' rings, and the cells corrected (R295). -/
structure HostReads where
  descs : List (Nat × W64 × W64)
  corrected : Nat
  deriving DecidableEq, Repr

/-- A HELLO frame of the partner: what R393 lists, and its tree facts (R127, R152, R183, R184, R409). -/
structure HelloFrame where
  hello : Hello
  trees : List TreeFact
  deriving DecidableEq, Repr

/-- The commands of the block, one constructor per row of the operation table. The docstring of a
constructor gives its row and the rule that governs it. -/
inductive Instr where
  /-- POWER_ON (R491). -/
  | powerOn
  /-- PIN_RESET (R530). -/
  | pinReset (lowNs : Nat)
  /-- RESET_RELEASE (R494). -/
  | resetRelease (straps : Straps)
  /-- SELFTEST_TEST_DONE (R497). -/
  | selftestTestDone (test : Nat) (failed : List Nat)
  /-- RAIL_UNDERVOLTAGE (R526). -/
  | railUndervoltage (rail : Rail)
  /-- UNDERVOLTAGE_RELEASE (R526). -/
  | undervoltageRelease (straps : Straps)
  /-- PERST (R495). -/
  | perst
  /-- PCIE_HOT_RESET (R495). -/
  | pcieHotReset
  /-- PCIE_FLR (R495). -/
  | pcieFlr (fn : Nat)
  /-- PCIE_CONFIG_REQUEST (R495). -/
  | pcieConfigRequest (fn sinceResetUs sincePerstUs : Nat)
  /-- REFCLK_LOSS (R523). -/
  | refclkLoss (ref : RefClk)
  /-- REFCLK_RETURN (R523). -/
  | refclkReturn (ref : RefClk)
  /-- HBM_TEMP_HIGH (R537). -/
  | hbmTempHigh (stack : Nat)
  /-- HBM_TEMP_NORMAL (R537). -/
  | hbmTempNormal (stack : Nat)
  /-- THERM_TRIP (R538). -/
  | thermTrip
  /-- TEST_PORT_RESET (R535). -/
  | testPortReset
  /-- EXTEST (R535). -/
  | extest (boundary : Boundary)
  /-- REGISTER_WRITE (R50). -/
  | registerWrite (fn offset value width : Nat)
  /-- RING_ENABLE (R48). -/
  | ringEnable (fn ring : Nat) (value : W64)
  /-- RING_DISABLE (R48). -/
  | ringDisable (fn ring : Nat) (value : W64)
  /-- RING_SIZE_SET (R48). -/
  | ringSizeSet (fn ring : Nat) (value : W64)
  /-- RING_OVERRUN_CLEAR (R10). -/
  | ringOverrunClear (fn ring : Nat) (value : W64)
  /-- CMD_DOORBELL (R45). -/
  | cmdDoorbell (fn ring : Nat) (prod : BitVec 32)
  /-- REPLY_DOORBELL (R44). -/
  | replyDoorbell (fn ring : Nat) (cons : BitVec 32)
  /-- COMMAND_FETCH (R44). -/
  | commandFetch (fn ring : Nat) (slot ext : List Byte)
  /-- REPLY_WRITE (R47). -/
  | replyWrite (fn ring : Nat) (sameWindow : Bool)
  /-- SB_SUBMIT (R72). -/
  | sbSubmit (count : Nat) (bytes : List Byte) (pecOk : Bool)
  /-- SB_REPLY (R72). -/
  | sbReply
  /-- SB_STATUS (R71). -/
  | sbStatus
  /-- SB_INVALID_WRITE (R72). -/
  | sbInvalidWrite (code : Nat) (write : SbWrite)
  /-- SB_INVALID_READ (R72). -/
  | sbInvalidRead (code : Nat) (block : Bool)
  /-- SMBUS_TIMEOUT (R532). -/
  | smbusTimeout
  /-- CHANGE_SET_CLOSE (R20). -/
  | changeSetClose
  /-- PREPARE (R19). -/
  | prepare
  /-- PREPARE_DEADLINE (R21). -/
  | prepareDeadline (missing : List Nat)
  /-- EPOCH_COMMIT (R23). -/
  | epochCommit
  /-- COMMIT_ACK_DEADLINE (R22). -/
  | commitAckDeadline (missing : List Nat)
  /-- WARM_START_COMPLETE (R503). -/
  | warmStartComplete (failed : List (Nat × Nat)) (us : Nat)
  /-- DOWNSTREAM_FRAME (R90). -/
  | downstreamFrame (facts : TickFacts)
  /-- PHASE_END_MARKER (R16). -/
  | phaseEndMarker (tree uf phase : Nat)
  /-- UPSTREAM_BURST (R113). -/
  | upstreamBurst (burst : RxBurst)
  /-- DELIMITER_WINDOW_CLOSE (R119). -/
  | delimiterWindowClose (tree uf start : Nat)
  /-- PROBE_DETECTION (R167). -/
  | probeDetection (tree : Nat) (windows : List ProbeWindow)
  /-- DEFECT_CHANGE (R122). -/
  | defectChange (tree object code : Nat)
  /-- AIS_PERIOD_END (R130). -/
  | aisPeriodEnd (flow : Nat) (up : Bool)
  /-- RANGING_TIMEOUT (R171). -/
  | rangingTimeout (tree index : Nat)
  /-- HELD_TIMEOUT (R171). -/
  | heldTimeout (tree index : Nat)
  /-- ACTIVATE_TIMEOUT (R171). -/
  | activateTimeout (tree index : Nat)
  /-- DRIFT_EPOCH (R179). -/
  | driftEpoch (tree index : Nat)
  /-- RERANGE_FAIL (R181). -/
  | rerangeFail (tree index : Nat)
  /-- SKEW_ACQUIRED (R182). -/
  | skewAcquired (tree : Nat) (bursts : List SkewSearch)
  /-- SKEW_TRACK (R182). -/
  | skewTrack (tree : Nat) (sum : Int) (count : Nat)
  /-- PROTECT_HOLD_OFF_EXPIRY (R152). -/
  | protectHoldOffExpiry (tree : Nat)
  /-- PROTECT_TX_WAIT_EXPIRY (R154). -/
  | protectTxWaitExpiry (tree : Nat)
  /-- PROTECT_WTR_EXPIRY (R153). -/
  | protectWtrExpiry (tree : Nat)
  /-- PLACEMENT_SLOT (R217). -/
  | placementSlot
  /-- SHARE_COMPUTATION (R216). -/
  | shareComputation
  /-- LATE_MARKER_ARRIVAL (R207). -/
  | lateMarkerArrival (tree uf phase : Nat)
  /-- BANK_BATCH (R245). -/
  | bankBatch (uf phase : Nat) (upsets : List Upset)
  /-- BANK_MARKER_DEADLINE (R246). -/
  | bankMarkerDeadline (uf phase : Nat) (upsets : List Upset)
  /-- LATE_ENDPOINT_MESSAGE (R246). -/
  | lateEndpointMessage (tree uf phase flow : Nat) (sdu : List Byte)
  /-- DOWNSTREAM_ENDPOINT_MESSAGE (R244). -/
  | downstreamEndpointMessage (upsets : List Upset)
  /-- OUTAGE_RECORD_CLOSE (R255). -/
  | outageRecordClose (terminal tenant kind : Nat)
  /-- OUTAGE_RECORD_DELIVER (R256). -/
  | outageRecordDeliver
  /-- UPLINK_FRAME_RX (R25). -/
  | uplinkFrameRx (sub : Nat) (bytes : List Byte) (bad : Bool) (room : Room) (toa : Int)
  /-- PAUSE_RX (R314). -/
  | pauseRx (sub : Nat) (frame : PauseFrame)
  /-- SUB_PORT_LINK_DOWN (R319). -/
  | subPortLinkDown (sub : Nat)
  /-- SUB_PORT_LINK_UP (R313). -/
  | subPortLinkUp (sub : Nat)
  /-- PARSER_PASS (R271). -/
  | parserPass (pass : Pass) (checkFail : Bool)
  /-- RECIRCULATION_PASS (R283). -/
  | recirculationPass (pass : Pass)
  /-- TABLE_PARITY_SCAN (R285). -/
  | tableParityScan (faults : List (Nat × Nat × Nat))
  /-- EGRESS_DEQUEUE (R299). -/
  | egressDequeue (port corrected : Nat) (checkFail : Bool)
  /-- FRAME_FOUND_BAD_LATE (R306). -/
  | frameFoundBadLate (queue pos : Nat) (why : BadLate)
  /-- FRER_SEQUENCE_POINT (R317). -/
  | frerSequencePoint (uf phase : Nat)
  /-- HOST_DELIVERY (R312). -/
  | hostDelivery (reads : HostReads)
  /-- RX_RING_POLL (R312). -/
  | rxRingPoll (tenant : Nat) (word1 : W64)
  /-- LEASE_READBACK_COMPLETE (R338). -/
  | leaseReadbackComplete (key : Nat)
  /-- KEY_CACHE_REFILL (R334). -/
  | keyCacheRefill (flow slot : Nat)
  /-- PTP_MESSAGE_RX (R373). -/
  | ptpMessageRx
  /-- PTP_MESSAGE_TX (R374). -/
  | ptpMessageTx (sub kind : Nat) (depart : Int)
  /-- PPS_IN_EDGE (R379). -/
  | ppsInEdge (edge : Int)
  /-- PPS_OUT_PULSE (R378). -/
  | ppsOutPulse
  /-- SOURCE_TIMEOUT (R365). -/
  | sourceTimeout
  /-- HO_VALID_EXPIRY (R366). -/
  | hoValidExpiry
  /-- ESMC_RX (R375). -/
  | esmcRx (sub ql : Nat) (ppb : Int)
  /-- SYNCE_SOURCE_LOSS (R375). -/
  | synceSourceLoss (entry : Nat) (why : SyncLoss)
  /-- SYNCE_WTR_EXPIRY (R375). -/
  | synceWtrExpiry (entry : Nat)
  /-- ESMC_TX (R377). -/
  | esmcTx
  /-- TOD_WRITE_STANDARD (R383). -/
  | todWriteStandard (tree : Nat)
  /-- HELLO_TX (R397). -/
  | helloTx
  /-- HELLO_RX (R393). -/
  | helloRx (frame : HelloFrame)
  /-- LINK_FRAME_RX (R397). -/
  | linkFrameRx (frame : LinkFrame)
  /-- WATCHDOG_TOGGLE (R394). -/
  | watchdogToggle
  /-- WATCHDOG_SILENCE (R416). -/
  | watchdogSilence
  /-- LINK_SILENCE (R416). -/
  | linkSilence
  /-- AGREED_ITEM_DEADLINE (R403). -/
  | agreedItemDeadline (item : Nat) (arg : Nat)
  /-- JOIN_HANDSHAKE (R419). -/
  | joinHandshake (hello : Hello) (mac kek : List Byte)
  /-- HANDSHAKE_RETRY (R419). -/
  | handshakeRetry
  /-- BATCH_RX (R208). -/
  | batchRx (batch : PairBatch)
  /-- CONSTRAINT_RX (R208). -/
  | constraintRx (epoch budget : Nat)
  /-- RECIPE_RX (R406). -/
  | recipeRx (recipe : Recipe)
  /-- TIME_FRAME_RX (R384). -/
  | timeFrameRx (time : PairTime)
  /-- LEASE_FRAME_RX (R412). -/
  | leaseFrameRx (key leaseEnd : Nat)
  /-- ACCEPT_LIST_RX (R410). -/
  | acceptListRx (accepts : AcceptList)
  /-- COMMAND_FRAME_RX (R401). -/
  | commandFrameRx (cmd : PairCommand)
  /-- DN_ENDPOINT_RX (R408). -/
  | dnEndpointRx (uf phase : Nat) (messages : List (Nat × List Byte))
  /-- MAP_FRAME_RX (R420). -/
  | mapFrameRx (tree uf : Nat) (entries : List Nat)
  /-- DIGEST_RX (R414). -/
  | digestRx (epoch : Nat) (digest : List W64) (faulted : Bool)
  /-- PAGE_SEND (R424). -/
  | pageSend
  /-- PAGE_RX (R424). -/
  | pageRx (page : Page)
  /-- PAGE_REQ_RX (R424). -/
  | pageReqRx (item : Nat) (pages : List Nat)
  /-- GRID_ALIGN (R421). -/
  | gridAlign (tree : Nat) (offsets : List Int)
  /-- JOIN_POINT (R425). -/
  | joinPoint (j : Nat)
  /-- WTR_EXPIRY (R426). -/
  | wtrExpiry
  /-- FW_VERSION_MISMATCH (R508). -/
  | fwVersionMismatch
  /-- HANDLER_JOB (R440). -/
  | handlerJob (engine cipherWait memoryWait outputWait : Nat)
  /-- JOB_WRITE_BACK (R443). -/
  | jobWriteBack (cluster : Nat)
  /-- ENGINE_FAULT (R454). -/
  | engineFault (engine cycles : Nat) (why : EngineFault)
  /-- MANAGEMENT_JOB (R449). -/
  | managementJob (tree : Nat)
  /-- MGMT_MESSAGE_RX (R450). -/
  | mgmtMessageRx (terminal : Nat) (checkFail : Bool)
  /-- MGMT_RETRY (R450). -/
  | mgmtRetry (tree terminal : Nat)
  /-- OUTAGE_JOB (R451). -/
  | outageJob
  /-- REPORT_CLOSE (R446). -/
  | reportClose (tenant cls key : Nat)
  /-- REPORT_DELIVER (R446). -/
  | reportDeliver
  /-- HBM_COPY_COMPLETE (R480). -/
  | hbmCopyComplete (pchannel : Nat)
  /-- RETEST_COMPLETE (R479). -/
  | retestComplete (kind index : Nat) (failed : Option Nat)
  /-- CAPS_QUERY (R73). -/
  | capsQuery (c : Cmd)
  /-- EPOCH_READ (R76). -/
  | epochRead (c : Cmd)
  /-- NOP (R76). -/
  | nop (c : Cmd)
  /-- TENANT_ASSIGN (R76). -/
  | tenantAssign (c : Cmd)
  /-- TENANT_QUERY (R76). -/
  | tenantQuery (c : Cmd)
  /-- TREE_CONFIG (R134). -/
  | treeConfig (c : Cmd)
  /-- DEFECT_CONFIG (R135). -/
  | defectConfig (c : Cmd)
  /-- TREE_STATUS (R136). -/
  | treeStatus (c : Cmd)
  /-- CIRCUIT_AIS_CONFIG (R137). -/
  | circuitAisConfig (c : Cmd)
  /-- TREE_SET_MODE (R138). -/
  | treeSetMode (c : Cmd)
  /-- TREE_PROTECT_CONFIG (R149). -/
  | treeProtectConfig (c : Cmd)
  /-- DISCOVERY_CONFIG (R189). -/
  | discoveryConfig (c : Cmd)
  /-- TERMINAL_ACTIVATE (R190). -/
  | terminalActivate (c : Cmd)
  /-- TERMINAL_DEACTIVATE (R191). -/
  | terminalDeactivate (c : Cmd)
  /-- RANGE_READ (R192). -/
  | rangeRead (c : Cmd)
  /-- SKEW_CONFIG (R193). -/
  | skewConfig (c : Cmd)
  /-- GQ_CONFIG (R198). -/
  | gqConfig (c : Cmd)
  /-- GQ_CONFIG_TREE (R199). -/
  | gqConfigTree (c : Cmd)
  /-- GQ_CONFIG_DEVICE (R199). -/
  | gqConfigDevice (c : Cmd)
  /-- GQ_READ (R234). -/
  | gqRead (c : Cmd)
  /-- CIRCUIT_RESERVE (R221). -/
  | circuitReserve (c : Cmd)
  /-- CIRCUIT_RELEASE (R223). -/
  | circuitRelease (c : Cmd)
  /-- ACCOUNT_READ (R231). -/
  | accountRead (c : Cmd)
  /-- EP_WRITE (R261). -/
  | epWrite (c : Cmd)
  /-- EP_READ (R262). -/
  | epRead (c : Cmd)
  /-- EP_BIND (R263). -/
  | epBind (c : Cmd)
  /-- EP_UNBIND (R264). -/
  | epUnbind (c : Cmd)
  /-- AGING_CONFIG (R265). -/
  | agingConfig (c : Cmd)
  /-- OUTAGE_CONFIG (R265). -/
  | outageConfig (c : Cmd)
  /-- FLOW_WRITE (R266). -/
  | flowWrite (c : Cmd)
  /-- FLOW_READ (R266). -/
  | flowRead (c : Cmd)
  /-- PARSE_NODE_WRITE (R287). -/
  | parseNodeWrite (c : Cmd)
  /-- PARSE_NODE_READ (R287). -/
  | parseNodeRead (c : Cmd)
  /-- RULE_WRITE (R288). -/
  | ruleWrite (c : Cmd)
  /-- RULE_READ (R288). -/
  | ruleRead (c : Cmd)
  /-- HASH_CONFIG (R289). -/
  | hashConfig (c : Cmd)
  /-- INDIRECTION_WRITE (R290). -/
  | indirectionWrite (c : Cmd)
  /-- EXCEPTION_CONFIG (R291). -/
  | exceptionConfig (c : Cmd)
  /-- PORT_CONFIG_PORT (R320). -/
  | portConfigPort (c : Cmd)
  /-- PORT_CONFIG_SUB_PORT (R320). -/
  | portConfigSubPort (c : Cmd)
  /-- PORT_CONFIG_HOST (R320). -/
  | portConfigHost (c : Cmd)
  /-- QUEUE_CONFIG (R321). -/
  | queueConfig (c : Cmd)
  /-- THRESHOLD_CONFIG (R321). -/
  | thresholdConfig (c : Cmd)
  /-- CARRIER_MAP (R322). -/
  | carrierMap (c : Cmd)
  /-- CARRIER_MAP_GROUP (R322). -/
  | carrierMapGroup (c : Cmd)
  /-- MIRROR_CONFIG_PORT (R323). -/
  | mirrorConfigPort (c : Cmd)
  /-- MIRROR_CONFIG_ENCAP (R323). -/
  | mirrorConfigEncap (c : Cmd)
  /-- SAMPLE_CONFIG (R324). -/
  | sampleConfig (c : Cmd)
  /-- FRER_CONFIG (R324). -/
  | frerConfig (c : Cmd)
  /-- FRAME_INJECT (R325). -/
  | frameInject (c : Cmd)
  /-- KEY_LOAD_ENDPOINT (R355). -/
  | keyLoadEndpoint (c : Cmd)
  /-- KEY_LOAD_CARRIER (R355). -/
  | keyLoadCarrier (c : Cmd)
  /-- KEY_LOAD_TENANT (R355). -/
  | keyLoadTenant (c : Cmd)
  /-- KEY_RETIRE (R356). -/
  | keyRetire (c : Cmd)
  /-- CARRIER_CIPHER (R357). -/
  | carrierCipher (c : Cmd)
  /-- NONCE_QUERY (R358). -/
  | nonceQuery (c : Cmd)
  /-- CHECK_CONFIG (R359). -/
  | checkConfig (c : Cmd)
  /-- CHECK_SAVE (R360). -/
  | checkSave (c : Cmd)
  /-- CHECK_RESTORE (R360). -/
  | checkRestore (c : Cmd)
  /-- TIME_CONFIG_DEVICE (R386). -/
  | timeConfigDevice (c : Cmd)
  /-- TIME_CONFIG_TREE (R386). -/
  | timeConfigTree (c : Cmd)
  /-- PTP_PORT_CONFIG (R387). -/
  | ptpPortConfig (c : Cmd)
  /-- STEP_TIME (R368). -/
  | stepTime (c : Cmd)
  /-- TIME_READ (R389). -/
  | timeRead (c : Cmd)
  /-- PPS_CONFIG (R390). -/
  | ppsConfig (c : Cmd)
  /-- SYNCE_CONFIG (R390). -/
  | synceConfig (c : Cmd)
  /-- PAIR_CONFIG (R429). -/
  | pairConfig (c : Cmd)
  /-- PAIR_STATUS (R430). -/
  | pairStatus (c : Cmd)
  /-- ROLE_SWAP (R431). -/
  | roleSwap (c : Cmd)
  /-- ROLE_LOCK (R431). -/
  | roleLock (c : Cmd)
  /-- ROLE_UNLOCK (R431). -/
  | roleUnlock (c : Cmd)
  /-- ROLE_LEAVE (R431). -/
  | roleLeave (c : Cmd)
  /-- ROLE_RESTORE_NOW (R431). -/
  | roleRestoreNow (c : Cmd)
  /-- RESYNC_START (R432). -/
  | resyncStart (c : Cmd)
  /-- WTR_CONFIG (R433). -/
  | wtrConfig (c : Cmd)
  /-- HANDLER_WRITE (R458). -/
  | handlerWrite (c : Cmd)
  /-- HANDLER_READ (R458). -/
  | handlerRead (c : Cmd)
  /-- MGMT_CONFIG_TREE (R459). -/
  | mgmtConfigTree (c : Cmd)
  /-- MGMT_CONFIG_SEND (R459). -/
  | mgmtConfigSend (c : Cmd)
  /-- ENGINE_STATUS (R460). -/
  | engineStatus (c : Cmd)
  /-- ENGINE_COUNTER_READ (R461). -/
  | engineCounterRead (c : Cmd)
  /-- COUNTER_READ (R484). -/
  | counterRead (c : Cmd)
  /-- COUNTER_CLEAR (R469). -/
  | counterClear (c : Cmd)
  /-- BIN_READ (R485). -/
  | binRead (c : Cmd)
  /-- VENT_READ (R486). -/
  | ventRead (c : Cmd)
  /-- VENT_EXTEND (R487). -/
  | ventExtend (c : Cmd)
  /-- FAULT_CONFIG_SOURCE (R488). -/
  | faultConfigSource (c : Cmd)
  /-- FAULT_CONFIG_WEAR (R488). -/
  | faultConfigWear (c : Cmd)
  /-- UNIT_RETEST (R489). -/
  | unitRetest (c : Cmd)
  /-- WEAR_READ (R490). -/
  | wearRead (c : Cmd)
  /-- DEVICE_STATUS (R511). -/
  | deviceStatus (c : Cmd)
  /-- SELFTEST_RUN (R509). -/
  | selftestRun (c : Cmd)
  /-- FW_LOAD (R506). -/
  | fwLoad (c : Cmd)
  /-- POWER_DOWN (R525). -/
  | powerDown
  /-- FW_IMAGE_WRITTEN (R507). -/
  | fwImageWritten
  deriving DecidableEq, Repr

end Sys2Proof
end

