-- ==== Sys2Proof/Machine/State.lean ====
section
/-! DEFINITION. The state of the BVH-6400 as plain data: one structure for each subsystem, `Blk` for the
whole block, and `State`, which adds the queue of commands that wait. The default of a field is its value
at reset. A field's docstring gives its width and the rule that names it; a mark says where the reset
value is the model's and not the manual's. -/
namespace Sys2Proof.Machine

/-- Why a step stops. No meaning of this block stops: the manual gives every command an effect. -/
inductive Fault where
  /-- Raised by no meaning: kept so that the type is inhabited. Safe. -/
  | outsideRatings
  deriving DecidableEq, Repr

/-- Why a command is turned away by the model. -/
inductive Refusal where
  /-- The command has no meaning yet; raised by Dispatch.lean alone. Safe. -/
  | notModelled (mnemonic : String)
  deriving DecidableEq, Repr

/-! ### Output -/

/-- An allocation of the bandwidth map of a standard-mode tree: its Alloc-ID, its place, whether a DBRu is asked for, and its burst
profile (R141, R143). -/
structure Alloc where
  alloc : Nat
  start : Nat
  length : Nat
  dbru : Bool
  profile : Nat
  deriving DecidableEq, Repr

/-- What an Announce says of a grandmaster (R372): IEEE 1588's data set of one port. -/
structure Announce where
  prio1 : Nat
  clockClass : Nat
  accuracy : Nat
  variance : Nat
  prio2 : Nat
  identity : Nat
  steps : Nat
  utcOffset : Int
  utcValid : Bool
  leap61 : Bool
  leap59 : Bool
  /-- totalTimeInaccuracy of an IEEE_C37_238 TLV, in ns (R372). -/
  inaccuracy : Option Nat := none
  deriving DecidableEq, Repr

/-- What the block sends: each entry is one thing that leaves through a ball. -/
inductive Output where
  /-- A write to host memory, made as a function: function, address and bytes (R47, R311, R475). -/
  | hostWrite (fn addr : Nat) (bytes : List Byte)
  /-- A read of host memory, made as a function: function, address and length (R42, R44, R77, R338). -/
  | hostRead (fn addr len : Nat)
  /-- An MSI-X message: function and vector (R68). -/
  | msix (fn vector : Nat)
  /-- The answer to a configuration request; `retry` is Configuration Request Retry Status (R495). -/
  | configAnswer (fn : Nat) (retry : Bool)
  /-- An SMBus answer: ACK or NACK of a write's PEC byte (R70). -/
  | smbAck (ok : Bool)
  /-- An SMBus answer to a read: its bytes, a block's byte count first, and the PEC byte (R70, R71). -/
  | smbData (bytes : List Byte) (pec : Nat)
  /-- A downstream frame of a native tree, as its line bytes (R82, R86, R90). -/
  | treeFrame (tree frame : Nat) (bytes : List Byte)
  /-- A downstream frame of a standard-mode tree: superframe counter, the allocations of its bandwidth map and its XGEM frames in the
  layout of native fragments, for whose encoding the recommendation stands (R138, R141). -/
  | stdFrame (tree frame : Nat) (map : List Alloc) (body : List Byte)
  /-- A PLOAM message on a standard-mode tree, in the native layout of what it says (R96, R175, R188). -/
  | treeControl (tree frame : Nat) (bytes : List Byte)
  /-- A relative Ranging_Time PLOAM after a switch: tree, terminal index and the change of its EqD (R154, R185). -/
  | rangingTime (tree index : Nat) (change : Int)
  /-- A frame sent on an uplink sub-port (R304). -/
  | uplinkFrame (sub : Nat) (bytes : List Byte)
  /-- A frame sent on the Fumarole port (R307). -/
  | fumaroleFrame (bytes : List Byte)
  /-- A PAUSE or PFC frame that a sub-port sends: XOFF or XON (R314). -/
  | pause (sub : Nat) (pfc xoff : Bool)
  /-- A Marionette link frame: header, payload and CRC-32C (R397). -/
  | linkFrame (bytes : List Byte)
  /-- A PTP message sent: sub-port, message type, sequence number, destination address, time carried in ns, correction, and the
  data set of an Announce (R372, R374). -/
  | ptpFrame (sub kind seq dest : Nat) (time correction : Int) (announce : Option Announce)
  /-- An ESMC PDU sent: sub-port and QL (R377). -/
  | esmc (sub ql : Nat)
  /-- A write of the OLT-G time of day to a standard terminal: global terminal ID, frame named, time (R383). -/
  | todWrite (terminal frame : Nat) (time : Int)
  /-- A pulse on an optics control: its name's number and index (R186, R187). -/
  | pulse (ball index : Nat)
  /-- A pulse at PPS_OUT: when it rises, from the second S, in units of 0.1 ns, and its width in units of 100 ns (R378). -/
  | ppsOut (rise : Int) (width : Nat)
  deriving DecidableEq, Repr

/-! ### Clock, epochs and tokens (01) -/

/-- The epoch sequencer and the token exchange. -/
structure Clk where
  /-- CUR_EPOCH, 64 bits, never wraps (R2, R17, R50). Reset 0 (R499). -/
  epoch : Nat := 0
  /-- The frame counter: the number of the next frame tick, 64 bits, never wraps (R2, R17). Reset 0 (R499). -/
  fc : Nat := 0
  /-- Whether the change set of the next epoch has closed (R20). Reset false: DESIGN CHOICE, log 1. -/
  closed : Bool := false
  /-- Whether PREPARE for the next epoch has been sent (R20). Reset false: DESIGN CHOICE, log 1. -/
  prepared : Bool := false
  /-- Islands that missed PREPARE for the next epoch (R21). Reset none: DESIGN CHOICE, log 1. -/
  missing : List Nat := []
  /-- Per island, the run of boundaries at which it missed PREPARE, 0 to 3 (R22). Reset 0: DESIGN CHOICE, log 1. -/
  missRun : Tab Nat := []
  /-- The change-set identifier of the last COMMIT, 32 bits (R19, R21). Reset 0: DESIGN CHOICE, log 1. -/
  changeSet : Nat := 0
  /-- Whether the sequencer paces from the health island's clock (R501, R523). Reset false (R499). -/
  healthPaced : Bool := false
  deriving DecidableEq, Repr

/-! ### Device (00, 15, 16) -/

/-- Where the head-end is in its life (R491, R494, R500, R503, R525). -/
inductive Phase where
  /-- The rails are down (R525). -/
  | unpowered
  /-- Held in reset by RESET_N, by a rail or by a failed test 0x01 (R493, R497, R526). -/
  | reset
  /-- The tests of a cold start run (R494). -/
  | selfTest
  /-- In service (R499). -/
  | service
  /-- In Dormant (R501). -/
  | dormant
  /-- In Dormant with the tests of a warm start running (R503). -/
  | warmStart
  deriving DecidableEq, Repr

/-- The device as a whole: its part, its start-up, firmware, references, rails and balls. -/
structure Sys where
  /-- The part fitted (R3). Reset BVH-6400: DESIGN CHOICE, log 2. -/
  part : Part := .bvh6400
  /-- SILICON_REV, 8 bits (R50). Reset 0x01, the first silicon. -/
  rev : Nat := 1
  /-- Where the head-end is in its life. Reset: held in reset (R493, R497). -/
  phase : Phase := .reset
  /-- The straps as sampled: COMPAT_CMD 1, SMB_ADDR 2, PAIR_WAVE 1, PAIR_PREF 1 bit (R492). Before the first
  sample 0, the pull-downs' level (R520): DEDUCED, log 3. -/
  straps : Straps := ⟨false, 0, false, false⟩
  /-- START_KIND, 2 bits (R491, R511). Reset 0, power-on. -/
  startKind : Nat := 0
  /-- START_EPOCH, 64 bits (R511). Reset 0 (R499). -/
  startEpoch : Nat := 0
  /-- ST_FAILS, 16 bits (R511). Reset 0. -/
  stFails : Nat := 0
  /-- DORMANT_CAUSE, 64 bits (R504). Reset 0. -/
  cause : Nat := 0
  /-- The epoch at which Dormant was entered (R505). Reset 0: DESIGN CHOICE, log 1. -/
  dormantEpoch : Nat := 0
  /-- A cause of Dormant that waits for the next boundary (R500). Reset none. -/
  dormantNext : Option Nat := none
  /-- Test codes of the running start that are not done, in the order of R497. Reset none. -/
  tests : List Nat := []
  /-- FW_VERSION of the loaded Tumbler firmware, 32 bits, 0 if none (R73). Reset 0 (R499). -/
  fwVersion : Nat := 0
  /-- FW_READY, 1 bit (R50). Reset 0. -/
  fwReady : Bool := false
  /-- The version of an accepted image whose writing is in progress (R507). Reset none. -/
  fwWriting : Option Nat := none
  /-- The version of the image staged in Dormant (R507). Reset none (R507: a cold start discards it). -/
  fwStaged : Option Nat := none
  /-- Whether REFCLK_TREE, REFCLK_UPL, REFCLK_PCIE show edges (R523). Reset true (R493). -/
  refTree : Bool := true
  /-- See `refTree`. -/
  refUplink : Bool := true
  /-- See `refTree`. -/
  refPcie : Bool := true
  /-- Whether the PCIe controller may train: false after a failed test 0x04 (R497). Reset false (R494). -/
  pcieUp : Bool := false
  /-- A rail is more than 7 % low (R526). Reset false (R493). -/
  railLow : Bool := false
  /-- Per HBM stack, whether its refresh rate is doubled (R537). Reset false: DESIGN CHOICE, log 1. -/
  refresh2x : BitVec 2 := 0
  /-- THERM_TRIP_N is low (R538). Reset false (it stays low until the next cold start). -/
  thermTrip : Bool := false
  /-- Bit t: OPT_TXDIS[t] is driven low, so tree t's transmitter may emit (R186, R521). Reset 0 (R493). -/
  txOn : BitVec 64 := 0
  /-- The balls under EXTEST, where the test port drives them (R535). Reset none (TRST_N held low). -/
  extest : Option Boundary := none
  deriving DecidableEq, Repr

/-! ### Commands, rings and replies (02) -/

/-- One command ring with its reply ring (R41, R50). -/
structure Ring where
  /-- ENABLE, 1 bit (R50). Reset 0. -/
  enable : Bool := false
  /-- OVERRUN, 1 bit (R50). Reset 0. -/
  overrun : Bool := false
  /-- Halted: nothing is fetched until ENABLE is cleared and set again, even if OVERRUN is cleared before (R49). Reset false. -/
  halted : Bool := false
  /-- SIZE_LOG2, 5 bits (R50). Reset 0. -/
  size : Nat := 0
  /-- CMD_BASE, 64 bits (R50). Reset 0: DESIGN CHOICE, log 4. -/
  cmdBase : Nat := 0
  /-- REPLY_BASE, 64 bits (R50). Reset 0: DESIGN CHOICE, log 4. -/
  replyBase : Nat := 0
  /-- CMD_PROD, 32 bits (R43). Reset 0: DESIGN CHOICE, log 4. -/
  cmdProd : BitVec 32 := 0
  /-- CMD_CONS, 32 bits (R43). Reset 0: DESIGN CHOICE, log 4. -/
  cmdCons : BitVec 32 := 0
  /-- REPLY_PROD, 32 bits (R43). Reset 0: DESIGN CHOICE, log 4. -/
  replyProd : BitVec 32 := 0
  /-- REPLY_CONS, 32 bits (R43). Reset 0: DESIGN CHOICE, log 4. -/
  replyCons : BitVec 32 := 0
  /-- Replies owed to commands fetched (R44); IDLE is `owed = 0` (R48). Reset 0 (IDLE reads 1). -/
  owed : Nat := 0
  deriving DecidableEq, Repr

/-- A vector of a function in BAR2's MSI-X table, and its bit of the pending-bit array (R68): PRESUMED, log 140 (the layout
of PCI Express). -/
structure Msix where
  /-- Message address, 64 bits. Reset 0: PRESUMED, log 140. -/
  addr : Nat := 0
  /-- Message data, 32 bits. Reset 0: PRESUMED, log 140. -/
  data : Nat := 0
  /-- The vector is masked: a message is kept as pending. Reset false: DESIGN CHOICE, log 140. -/
  masked : Bool := false
  /-- The vector's pending bit. Reset false: PRESUMED, log 140. -/
  pending : Bool := false
  deriving DecidableEq, Repr

/-- A completed reply that waits to be written (R46, R47, R56). -/
structure Reply where
  fn : Nat
  ring : Nat
  pos : Nat
  tag : Nat
  opcode : Nat
  status : Nat
  detail : Nat
  applied : Nat
  changeSet : Nat
  inl : List Byte
  ext : List Byte
  trunc : Bool
  extAddr : Nat
  irq : Bool
  legacy : Bool
  done : Nat
  deriving DecidableEq, Repr

/-- Owners of the assignable objects (R65), by granule; 0 is tenant 0. -/
structure Owners where
  /-- By flow index. Reset 0 (R65). -/
  carrier : Tab Nat := []
  /-- By grant queue ID. Reset 0 (R65). -/
  queue : Tab Nat := []
  /-- By endpoint block of 4,096 IDs. Reset 0 (R65). -/
  block : Tab Nat := []
  /-- By rule partition of 256 entries. Reset 0 (R65). -/
  rules : Tab Nat := []
  deriving DecidableEq, Repr

/-- The SMBus sideband (R70 to R72). -/
structure Sideband where
  /-- A command is outstanding (R72). Reset false: DESIGN CHOICE, log 1. -/
  outstanding : Bool := false
  /-- A submission held while self-test runs (R496). Reset none. -/
  held : Option (List Byte) := none
  /-- The 64-byte reply slot, when ready (R71). Reset none: DESIGN CHOICE, log 1. -/
  reply : Option (List Byte) := none
  /-- SB_STATUS bit 3: the last SB_SUBMIT was discarded (R71). Reset false: DESIGN CHOICE, log 1. -/
  discarded : Bool := false
  deriving DecidableEq, Repr

/-- The host command interface. -/
structure HostIf where
  /-- Rings by function × 8 + ring (R41). Reset: every field of `Ring` at its own. -/
  rings : Tab Ring := []
  /-- The ring after which the round of fetching goes on, by function × 8 + ring (R45). Reset 519, the last ring, so that the
  round begins with ring 0 of the physical function: DESIGN CHOICE, log 141. -/
  turn : Nat := 519
  /-- Completed replies that wait, oldest first (R46). Reset none. -/
  replies : List Reply := []
  /-- Change sets: apply-epoch and the commands accepted into it, in order of acceptance (R20, R31). Reset none. -/
  sets : List (Nat × List Instr) := []
  /-- Change sets deferred under R21, oldest first. Reset none. -/
  deferred : List (Nat × List Instr) := []
  /-- Owners of the assignable objects, by version: R66, and R280 at a frame's stamp. Reset tenant 0 (R65). -/
  owners : Vers Owners := [(0, ⟨[], [], [], []⟩)]
  /-- The sideband. -/
  sb : Sideband := {}
  deriving DecidableEq, Repr

/-! ### Telemetry and faults (14) -/

/-- One counter (R463, R467). -/
structure Ctr where
  /-- The value, 64 bits, saturating. Reset 0. -/
  val : Nat := 0
  /-- The sticky saturated flag. Reset false. -/
  sat : Bool := false
  /-- Whether it was cleared since the last latch (R469). Reset false. -/
  clr : Bool := false
  /-- Events since cold start, not reduced by clears: the bins count with it (R470). Reset 0. -/
  total : Nat := 0
  deriving DecidableEq, Repr

/-- A closed bin (R470, R485). -/
structure Bin where
  endEpoch : Nat
  partialBin : Bool
  vals : Tab Nat
  deriving DecidableEq, Repr

/-- A Vent record (R473). -/
structure Rec where
  type : Nat
  tenant : Nat
  island : Nat
  rep : Nat
  seq : Nat
  first : Nat
  last : Nat
  object : Nat
  detail : Nat
  w6 : Nat
  w7 : Nat
  deriving DecidableEq, Repr

/-- A pending loss of an island's records (R472). -/
structure Loss where
  count : Nat := 0
  first : Nat := 0
  last : Nat := 0
  deriving DecidableEq, Repr

/-- The part a fault source's unit plays (R476, R478, R479). -/
inductive Role where
  /-- As R476 gives the unit at start-up. -/
  | initial
  /-- In service: a spare that took a slot, or a unit that returned. -/
  | serving
  /-- Rejoined as a spare (R479). -/
  | spare
  /-- Retired. -/
  | retired
  /-- Retired, with its self-test running (R479). -/
  | testing
  /-- A pseudo-channel whose contents are being copied (R480). -/
  | copying
  /-- Passed its retest, in service again from the next boundary (R479). -/
  | returning
  deriving DecidableEq, Repr

/-- A fault source (R476 to R479). -/
structure Source where
  /-- Epochs of the last 16 events, newest first (R477). Reset none. -/
  events : List Nat := []
  /-- Judged permanent, to be retired at the next boundary (R477). Reset false. -/
  doomed : Bool := false
  /-- The role of the unit. Reset: as R476. -/
  role : Role := .initial
  /-- The slot (logical unit) a spare has taken, where it has (R478). Reset none. -/
  slot : Option Nat := none
  deriving DecidableEq, Repr

/-- A wear monitor (R481, R490). -/
structure Wear where
  /-- EQ_HOURS, 64 bits. Reset 0. -/
  eqHours : Nat := 0
  /-- SHIFT, 20 bits, units of 0.001 %. Reset 0. -/
  shift : Nat := 0
  /-- MARGIN, 10 bits, units of 0.1 %. Reset 1,000. -/
  margin : Nat := 1000
  /-- REMAIN, 16 bits, units of 0.1 year. Reset 0xFFFF. -/
  remain : Nat := 65535
  /-- TJ_AVG, 12 bits, two's complement, units of 0.1 °C. Reset 0. -/
  tjAvg : BitVec 12 := 0
  /-- UPDATED, 64 bits. Reset 0. -/
  updated : Nat := 0
  /-- The WARN_MARGIN step of the last WEAR_WARN (R482): the margin at that record. Reset none. -/
  warned : Option Nat := none
  /-- The equivalent time behind EQ_HOURS (R481), in units of 1/65,536 hour (log 15). Reset 0. -/
  time : Nat := 0
  /-- What each update of the last 30 days added to it, newest first (R482). Reset none. -/
  added : List Nat := []
  deriving DecidableEq, Repr

/-- The health island's own store. -/
structure Tele where
  /-- Counters by FAMILY × 2^40 + COUNTER × 2^32 + INSTANCE (R463, R474). Reset 0. -/
  ctrs : Tab Ctr := []
  /-- The per-second latch of every counter (R468). Reset 0. -/
  latch : Tab Ctr := []
  /-- LATCH_EPOCH, 64 bits (R468). Reset 0: DESIGN CHOICE, log 5. -/
  latchEpoch : Nat := 0
  /-- The quarter-hour bins, newest first, at most 96 (R470). Reset none. -/
  quarters : List Bin := []
  /-- The day bins, newest first, at most 7 (R470). Reset none. -/
  days : List Bin := []
  /-- The totals at the last quarter-hour bin close. Reset 0. -/
  quarterBase : Tab Nat := []
  /-- The totals at the last day bin close. Reset 0. -/
  dayBase : Tab Nat := []
  /-- Where the latest cold start falls in the epoch numbering in force (R420, R470). Reset 0. -/
  coldEpoch : Nat := 0
  /-- The Vent: records held, oldest first (R471). Reset none. -/
  vent : List Rec := []
  /-- The SEQ the next new record takes, 64 bits (R471). Reset 0. -/
  seq : Nat := 0
  /-- Pending losses by island (R472). Reset none. -/
  losses : Tab Loss := []
  /-- The Vent ring in host memory, BASE and S, where extended (R475, R487). Reset none: DESIGN CHOICE, log 5. -/
  ventExt : Option (Nat × Nat) := none
  /-- Objects whose once-a-second record was written in this latch second: type and object (R540). Reset none. -/
  secDone : List (Nat × Nat) := []
  /-- Counted objects of this latch second: (type × 2^32 + object) to count, first and last epoch (R540). Reset none. -/
  secCount : Tab Loss := []
  /-- Fault sources by kind × 65,536 + index (R476). Reset: every field of `Source` at its own. -/
  sources : Tab Source := []
  /-- W and N by kind, where FAULT_CONFIG changed them (R488). Reset: the defaults of R476. -/
  windows : Tab (Nat × Nat) := []
  /-- WARN_MARGIN, 10 bits (R488). Reset 200. -/
  warnMargin : Nat := 200
  /-- Wear monitors 0 to 103 (R481). Reset: every field of `Wear` at its own. -/
  wear : Tab Wear := []
  /-- The latch second in which each island's corrected-granule count of the epoch stands (R476): by
  pseudo-channel, corrected granules in this epoch. Reset 0. -/
  corrected : Tab Nat := []
  deriving DecidableEq, Repr

/-! ### Trees and ranging (03, 04, 05) -/

/-- The mode of a tree (R138). -/
inductive Mode where
  | native | fiftyG | xgs
  deriving DecidableEq, Repr

/-- DEFECT_CONFIG of a tree (R135): counts of 4 to 6 bits. -/
structure DefectCfg where
  losSet : Nat := 4
  losClr : Nat := 2
  lobSet : Nat := 4
  lobClr : Nat := 2
  lcdSet : Nat := 4
  lcdClr : Nat := 2
  sfSet : Nat := 3
  sfClr : Nat := 8
  sdExp : Nat := 4
  sdWin : Nat := 8
  deriving DecidableEq, Repr

/-- TREE_PROTECT_CONFIG of a tree (R149). -/
structure ProtectCfg where
  /-- SCHEME, 2 bits. Reset 0. -/
  scheme : Nat := 0
  /-- PEER, 6 bits. Reset 0: DESIGN CHOICE, log 6 (meaningful for SCHEME 0b10 alone). -/
  peer : Nat := 0
  /-- PREFER, 1 bit. Reset 0. -/
  prefer : Nat := 0
  /-- REVERT, 1 bit. Reset 0. -/
  revert : Bool := false
  /-- HOLD_OFF, 7 bits, ms. Reset 0. -/
  holdOff : Nat := 0
  /-- FORCE, 2 bits. Reset 0. -/
  force : Nat := 0
  /-- TX_WAIT, 5 bits, units of 0.1 ms. Reset 20. -/
  txWait : Nat := 20
  deriving DecidableEq, Repr

/-- DISCOVERY_CONFIG of a tree (R189). -/
structure DiscCfg where
  every : Nat := 0
  winPhase : Nat := 0
  reachMin : Nat := 0
  reachMax : Nat := 200
  probeTarget : Nat := 180
  dnLaunch : Nat := 0x24
  maxAck : Nat := 4
  auto : Bool := true
  deriving DecidableEq, Repr

/-- SKEW_CONFIG of a tree (R193). -/
structure SkewCfg where
  initSkew : Int := 0
  initValid : Bool := false
  dnDisp : Int := 0
  rstPos : Nat := 30
  rstWidth : Nat := 16
  rssiEvery : Nat := 1000
  deriving DecidableEq, Repr

/-- A control message that waits for a downstream frame (R96, R176). The fields that depend on the frame
that carries it are filled in when it is sent. -/
inductive Ctl where
  /-- DEACTIVATE: index, REASON, BACKOFF and how many consecutive frames still carry it (R171, R175). -/
  | deactivate (index reason backoff left : Nat)
  /-- ACTIVATE: index it goes to, SERIAL, NEW_TERMINAL (R172). -/
  | activate (index serial target : Nat)
  /-- PROBE_ACK: FC of D, CODE, provisional index, RTD (R167). -/
  | probeAck (cycle code index rtd : Nat)
  /-- EQD_SET: index and the new EqD (R179). -/
  | eqdSet (index eqd : Nat)
  /-- KEY_SYNC of a flow (R345). -/
  | keySync (flow : Nat)
  /-- GRID_SHIFT: shift and how many frames still carry it (R422). -/
  | gridShift (shift : Int) (applyUf left : Nat)
  deriving DecidableEq, Repr

/-- One direction of a circuit carrier (R129 to R132). -/
structure CircuitDir where
  /-- The last good SDU, if any, and downstream the class it was given (R130, R131). Reset none. -/
  saved : Option (List Byte × Option Nat) := none
  /-- The last grant phase of the period that runs, as 8 × frame + phase (R129). Reset 0. -/
  due : Nat := 0
  /-- The phases to which the SDUs that have arrived belong, from the period that runs on (R129). Reset none. -/
  arrived : List Nat := []
  /-- Consecutive periods with a substitution. Reset 0. -/
  subs : Nat := 0
  /-- Consecutive periods without one. Reset 0. -/
  goods : Nat := 0
  /-- The AIS defect is in force. Reset false. -/
  ais : Bool := false
  deriving DecidableEq, Repr

/-- A circuit carrier: CIRCUIT_AIS_CONFIG and its two directions (R137). -/
structure Circuit where
  dir : Nat
  periodLog2 : Nat
  offset : Nat
  aisSet : Nat
  aisClr : Nat
  up : CircuitDir := {}
  dn : CircuitDir := {}
  deriving DecidableEq, Repr

/-- The upstream SDU of a carrier on its way to be whole (R116), with what its first fragment's burst gave it. -/
structure Reasm where
  terminal : Nat
  qclass : Nat := 0
  data : List Byte := []
  toa : Int := 0
  gen : Nat := 0
  deriving DecidableEq, Repr

/-- SKEW_STATE of a tree (R192). -/
inductive SkewState where
  | notB | acquiring | tracking | beyond
  deriving DecidableEq, Repr

/-- A tree: its line, its defects, its ranging and its optics. -/
structure Tree where
  /-- Whether the tree island is out of service (R478). Reset false. -/
  stopped : Bool := false
  /-- MODE, 2 bits (R138). Reset native. -/
  mode : Mode := .native
  /-- TX_ON, 1 bit (R134). Reset 0. -/
  txOn : Bool := false
  /-- RX_ON, 1 bit (R134). Reset 0. -/
  rxOn : Bool := false
  /-- The frame from which RX_ON has its value (R232). Reset 0: DESIGN CHOICE, log 6. -/
  rxSince : Nat := 0
  /-- MAP_LEAD, 3 bits (R134). Reset 7. -/
  mapLead : Nat := 7
  /-- The downstream frame up to which maps stay empty after a MAP_LEAD that shrank (R100). Reset 0. -/
  mapEmpty : Nat := 0
  /-- The upstream frame up to which the maps before that have granted (R100). Reset 0. -/
  mapPast : Nat := 0
  /-- TREE_TAG, 32 bits (R134). Reset 0. -/
  tag : Nat := 0
  /-- DEFECT_CONFIG (R135). Reset: the values of the table. -/
  defects : DefectCfg := {}
  /-- TREE_PROTECT_CONFIG (R149). Reset: the values of the table. -/
  protect : ProtectCfg := {}
  /-- DISCOVERY_CONFIG, by version (R189, R203): a cycle runs under the version of its first frame. Reset: the
  values of the table. -/
  disc : Vers DiscCfg := [(0, {})]
  /-- SKEW_CONFIG (R193). Reset: the values of the table. -/
  skew : SkewCfg := {}
  /-- LOS_T is in force (R121). Reset false. -/
  los : Bool := false
  /-- Consecutive frames with an expected burst and no delimiter (R121). Reset 0. -/
  losRun : Nat := 0
  /-- Consecutive frames with a delimiter accepted (R121). Reset 0. -/
  losOk : Nat := 0
  /-- In the current upstream frame, a burst was expected (R121). Reset false. -/
  expected : Bool := false
  /-- In the current upstream frame, a delimiter was accepted (R121). Reset false. -/
  heard : Bool := false
  /-- Defect records withheld while LOS_T is in force: terminal index and code (R123). Reset none. -/
  hidden : List (Nat × Nat) := []
  /-- MSG_SEQ of the next broadcast, 8 bits (R96). Reset 0: DESIGN CHOICE, log 6. -/
  bcastSeq : BitVec 8 := 0
  /-- Control messages that wait (R176). Reset none. -/
  ctl : List Ctl := []
  /-- Round-robin position of KEY_SYNC refresh: the carrier sent last (R345). Reset 0: DESIGN CHOICE, log 6. -/
  keySyncPos : Nat := 0
  /-- TIME_INFO of this epoch has not been sent yet (R380). Reset false. -/
  timeInfo : Bool := false
  /-- UP_SKEW, 24 bits, signed (R182). Reset 0: DESIGN CHOICE, log 6. -/
  upSkew : Int := 0
  /-- RX_SKEW in bit periods (R155). Reset 0. -/
  rxSkew : Int := 0
  /-- SKEW_STATE, 2 bits (R192). Reset: not chip B (R499: SOLO). -/
  skewState : SkewState := .notB
  /-- D of the last completed cycle, 64 bits (R192). Reset 0. -/
  lastCycle : Nat := 0
  /-- RSSI_TERMINAL, 9 bits (R192). Reset 0: DESIGN CHOICE, log 6. -/
  rssiTerminal : Nat := 0
  /-- RSSI_UF, 64 bits (R192). Reset 0: DESIGN CHOICE, log 6. -/
  rssiUf : Nat := 0
  /-- Upstream SDUs by carrier ID: an entry means that the carrier's last SEQ is held (R107, R116). Reset none. -/
  reasm : Tab (Option Reasm) := []
  /-- Circuit carriers by carrier ID, at most 256 (R137). Reset none. -/
  circuits : Tab (Option Circuit) := []
  /-- Whether this side transmits under TREE_PROTECT_CONFIG (R150 to R152). Reset true. -/
  transmits : Bool := true
  /-- The frame at which HOLD_OFF began, while it runs (R152). Reset none. -/
  holdFrom : Option Nat := none
  /-- The frame at which TX_WAIT began, while it runs (R154). Reset none. -/
  waitFrom : Option Nat := none
  /-- Frames sent since the switch, 8 when none is recent (R154). Reset 8. -/
  sinceSwitch : Nat := 8
  /-- The frame from which this side has been free of LOS_T (R153). Reset 0. -/
  clearSince : Nat := 0
  /-- Whether the partner's island of the tree is retired, as its HELLO tells (R409). Reset false. -/
  otherStopped : Bool := false
  /-- LOS_T of the tree at the partner (R152). Reset false. -/
  otherLos : Bool := false
  /-- The frame from which the partner's side has been free of LOS_T (R153). Reset 0. -/
  otherClear : Nat := 0
  /-- On chip A, the SKEW_STATE that chip B reports (R183, R184). Reset: not chip B. -/
  otherSkew : SkewState := .notB
  deriving DecidableEq, Repr

/-- Index states (R171). -/
inductive IdxState where
  | free | provisioned | held | activating | active
  deriving DecidableEq, Repr

/-- A terminal index of a tree: its ranging, its defects and its switching request. -/
structure Term where
  /-- STATE, 3 bits (R171, R192). Reset FREE: DEDUCED, log 6. -/
  state : IdxState := .free
  /-- SERIAL, 64 bits, 0 when FREE (R192). Reset 0. -/
  serial : Nat := 0
  /-- RTD, 26 bits (R192). Reset 0: DESIGN CHOICE, log 6. -/
  rtd : Nat := 0
  /-- EqD that the terminal uses, or used before an EQD_SET or ACTIVATE that is on its way, in bit periods (R170). Reset
  0: DESIGN CHOICE, log 6. -/
  eqdUse : Nat := 0
  /-- MU, the last mean offset, 8 bits signed (R178, R192). Reset 0: DESIGN CHOICE, log 6. -/
  mu : Int := 0
  /-- Sum of the offsets of this epoch (R178). Reset 0. -/
  muSum : Int := 0
  /-- Bursts in that sum (R178). Reset 0. -/
  muCount : Nat := 0
  /-- Epochs in a row whose mean is 10 bits or more (R180). Reset 0. -/
  driftRun : Nat := 0
  /-- Epochs in a row whose mean is below 4 bits (R180). Reset 0. -/
  driftOk : Nat := 0
  /-- The upstream frame from which an EQD_SET that was sent applies (R178, R179); none outstanding: none. Reset none. -/
  eqdApply : Option Nat := none
  /-- RERANGING, 1 bit (R181). Reset 0: DESIGN CHOICE, log 6. -/
  reranging : Bool := false
  /-- The epoch at which re-ranging began, or at which its last failure was noted (R181). Reset 0. -/
  rerangeFrom : Nat := 0
  /-- Whether RERANGE_FAIL was written, so that one burst a second remains (R181). Reset false. -/
  rerangeSlow : Bool := false
  /-- The upstream frame of the next ranging grant of a HELD index (R171, R173). Reset none. -/
  nextRange : Option Nat := none
  /-- Ranging grants, then hold bursts, without an SN_REPORT (R171). Reset 0. -/
  rangeMiss : Nat := 0
  /-- Ranging grants given since PROBE_ACK (R171). Reset 0. -/
  rangeGrants : Nat := 0
  /-- An SN_REPORT has been accepted while HELD: the upstream frame of the first (R171, R173). Reset none. -/
  snFrom : Option Nat := none
  /-- The epoch at which the index became HELD (R171). Reset 0. -/
  heldFrom : Nat := 0
  /-- ACTIVATE messages sent (R171). Reset 0. -/
  actSent : Nat := 0
  /-- MSG_SEQ of each of them, which an ACK names (R175). Reset none. -/
  actSeqs : List Nat := []
  /-- The downstream frame of the last ACTIVATE (R171). Reset 0. -/
  actFrame : Nat := 0
  /-- The provisional index that ACTIVATE is addressed to (R172). Reset 0. -/
  provIndex : Nat := 0
  /-- The epoch of its last RSSI data burst (R187). Reset none. -/
  rssiEpoch : Option Nat := none
  /-- The last epoch in which a burst of the index was accepted (R171). Reset 0. -/
  lastBurst : Nat := 0
  /-- MSG_SEQ of the next message to the terminal, 8 bits (R96). Reset 0: DESIGN CHOICE, log 6. -/
  msgSeq : BitVec 8 := 0
  /-- LOB in force (R121). Reset false. -/
  lob : Bool := false
  /-- Consecutive missed bursts; consecutive accepted ones (R121). Reset 0. -/
  lobRun : Nat := 0
  /-- See `lobRun`. -/
  lobOk : Nat := 0
  /-- LCD in force (R121). Reset false. -/
  lcd : Bool := false
  /-- Consecutive bursts discarded under R113; consecutive ones that pass (R121). Reset 0. -/
  lcdRun : Nat := 0
  /-- See `lcdRun`. -/
  lcdOk : Nat := 0
  /-- SF in force (R121). Reset false. -/
  sf : Bool := false
  /-- Consecutive epochs with an uncorrectable codeword; without one (R121). Reset 0. -/
  sfRun : Nat := 0
  /-- See `sfRun`. -/
  sfOk : Nat := 0
  /-- An uncorrectable codeword was received in this epoch (R121). Reset false. -/
  uncorr : Bool := false
  /-- SD in force (R121). Reset false. -/
  sd : Bool := false
  /-- Corrected and received symbols of the last epochs, newest first, this epoch at the head (R121). Reset none. -/
  sdHist : List (Nat × Nat) := []
  /-- DG in force (R121). Reset false. -/
  dg : Bool := false
  /-- Consecutive bursts that pass R113 with DG 0 (R121). Reset 0. -/
  dgOk : Nat := 0
  /-- The DG bit of a passing burst was 1 since DG was last judged (R121). Reset false. -/
  dgSeen : Bool := false
  /-- DRIFT in force (R121, R180). Reset false. -/
  drift : Bool := false
  /-- The accepted SR_UP code, 4 bits (R126). Reset 0: DESIGN CHOICE, log 6. -/
  srUp : Nat := 0
  /-- The code being counted, and its count (R126). Reset 0. -/
  srCand : Nat := 0
  /-- See `srCand`. -/
  srCount : Nat := 0
  /-- WAVE_A_OK and WAVE_B_OK of the last accepted burst (R136). Reset 0: DESIGN CHOICE, log 6. -/
  waveA : Bool := false
  /-- See `waveA`. -/
  waveB : Bool := false
  deriving DecidableEq, Repr

/-! ### Geyser (06) -/

/-- Configuration of a grant queue (R198), written by GQ_CONFIG's queue form. -/
structure QueueCfg where
  enable : Bool
  lbLog2 : Nat
  ar : Nat
  weight : Nat
  maxRate : Nat
  maxBurst : Nat
  minGrant : Nat
  weightCap : Nat
  rateCap : Nat
  deriving DecidableEq, Repr

/-- The tree form of GQ_CONFIG (R199). -/
structure PlanCfg where
  /-- PLAN_EFF, 10 bits. Reset 928. -/
  planEff : Nat := 928
  /-- ENTRY_RESERVE, 12 bits. Reset 256. -/
  entryReserve : Nat := 256
  /-- POOL_MAX, 12 bits. Reset 1,024. -/
  poolMax : Nat := 1024
  deriving DecidableEq, Repr

/-- A circuit reservation (R221). -/
structure Resv where
  queue : Nat
  periodLog2 : Nat
  phaseOff : Nat
  length : Nat
  rpt : Bool
  offset : Nat
  deriving DecidableEq, Repr

/-- One version of Geyser's configuration (R24, R203). -/
structure GeyCfg where
  /-- Queue form by grant queue ID; none is the reset value of its class (R198). Reset none. -/
  queues : Tab (Option QueueCfg) := []
  /-- Tree form by tree (R199). Reset: the values of the table. -/
  trees : Tab PlanCfg := []
  /-- UP_SHARE, 9 bits (R199). Reset 192. -/
  upShare : Nat := 192
  /-- UP_CELL_LIMIT, 20 bits (R199). Reset 262,144. -/
  upCellLimit : Nat := 262144
  /-- Reservations by RES_ID, at most 16,384 (R221, R222). Reset none. -/
  resv : Tab (Option Resv) := []
  deriving DecidableEq, Repr

/-- The live state of a grant queue (R210 to R218). -/
structure QueueLive where
  /-- Demand D in bytes (R210). Reset 0 (R232). -/
  demand : Nat := 0
  /-- AGE of the last report, 8 bits (R212). Reset 0 (R232). -/
  age : Nat := 0
  /-- The upstream phase (8 × frame + phase) of that report (R212). Reset 0. -/
  agePhase : Nat := 0
  /-- Credit in 1/64 units (R218). Reset 0 (R232). -/
  credit : Nat := 0
  /-- The share in the share set in use, 24 bits (R216, R234). Reset 0 (R232). -/
  share : Nat := 0
  /-- Units charged in this share period, standing bursts included (R198, R217). Reset 0. -/
  used : Nat := 0
  deriving DecidableEq, Repr

/-- What a grant is for (R200, R209, R217). -/
inductive GrantFor where
  | micro | quiet | reservation (id : Nat) | standing | share | firstRange | hold | activation | rerange
  deriving DecidableEq, Repr

/-- How a grant closed (R227): received with its payload, idle and lost bytes. -/
inductive GrantEnd where
  | pending | received (retired unfilled lost : Nat) | bad | missed | unsent
  deriving DecidableEq, Repr

/-- A grant: a map entry with its upstream frame, allowance and outcome (R97, R224, R227). -/
structure Grant where
  tree : Nat
  term : Nat
  qclass : Nat
  start : Nat
  length : Nat
  kind : Nat
  tag : Nat
  uf : Nat
  mapFrame : Nat
  allowance : Nat
  clearance : Nat
  purpose : GrantFor
  outcome : GrantEnd := .pending
  /-- δ of its delimiter, where one was accepted (R119, R177). -/
  delta : Option Int := none
  /-- What its control message said: the type, and the serial number of an SN_REPORT or MSG_SEQ × 256 + type of what an ACK answers
  (R175, R177). -/
  message : Option (Nat × Nat) := none
  deriving DecidableEq, Repr

/-- A terminal as Geyser sees it (R206, R220). -/
structure TermView where
  state : IdxState := .free
  lob : Bool := false
  dg : Bool := false
  /-- The first upstream frame in which it gets data grants; none: it gets none (R181, R220). -/
  dataFrom : Option Nat := none
  /-- A ranging request: from which upstream frame, and whether for a hold burst (R168, R171, R173). -/
  range : Option (Nat × Bool) := none
  /-- A re-ranging request, and whether RERANGE_FAIL has slowed it (R181). -/
  rerange : Option Bool := none
  /-- The upstream frame of the last ranging burst that Geyser placed for it; 0: none. Geyser's own. -/
  placed : Nat := 0
  deriving DecidableEq, Repr

/-- A report block: tree, terminal, START of its burst and the four reports, BACKLOG and AGE (R114, R210). -/
structure ReportItem where
  term : Nat
  start : Nat
  queues : List (Nat × Nat)
  /-- The one class that a DBRu reports, on a standard tree (R141). -/
  only : Option Nat := none
  deriving DecidableEq, Repr

/-- One tree's part of the batch of one upstream phase (R206, R207). -/
structure BatchPart where
  tree : Nat
  uf : Nat
  phase : Nat
  marked : Bool := false
  reports : List ReportItem := []
  views : List (Nat × TermView) := []
  /-- Outcomes of the reference chip's bursts, by START, which this chip takes (R208). -/
  ends : List (Nat × GrantEnd) := []
  /-- This chip's own part, kept beside the reference chip's until it takes over (R208, R417). -/
  own : Bool := false
  deriving DecidableEq, Repr

/-- Byte-slots of an upstream frame that no burst was granted, by kind (R228). -/
structure Unused where
  front : Nat := 0
  budget : Nat := 0
  inflight : Nat := 0
  map : Nat := 0
  unsent : Bool := false
  deriving DecidableEq, Repr

/-- A share set that waits for its share period (R203, R205). -/
structure ShareSet where
  epoch : Nat
  shares : Tab Nat
  fill : Nat
  deriving DecidableEq, Repr

/-- Geyser. -/
structure Geyser where
  /-- Configuration by version (R24). Reset: `GeyCfg` at its own, current from epoch 0. -/
  cfg : Vers GeyCfg := [(0, {})]
  /-- Live queues by grant queue ID. Reset: `QueueLive` at its own (R232). -/
  queues : Tab QueueLive := []
  /-- The fill budget left in this share period (R216, R217). Reset 0 (R232). -/
  fill : Nat := 0
  /-- The epoch of the share set in use (R203). Reset 0. -/
  shareEpoch : Nat := 0
  /-- The share set computed and not yet in use (R205). Reset none. -/
  next : Option ShareSet := none
  /-- Grants issued and not yet accounted: the in-flight table and what R228 still needs (R224). Reset none. -/
  grants : List Grant := []
  /-- The next placement slot: map frame M and phase p (R202). Reset (1, 0): DEDUCED, log 7. -/
  slot : Nat × Nat := (1, 0)
  /-- The next upstream phase to consume, as 8 × frame + phase (R207). Reset 0. -/
  consume : Nat := 0
  /-- Parts of batches not yet consumed (R207). Reset none. -/
  parts : List BatchPart := []
  /-- Terminals as last put into a batch, by global terminal ID. Reset FREE. -/
  sent : Tab TermView := []
  /-- Terminals as the consumed batches left them, by global terminal ID (R206). Reset FREE. -/
  views : Tab TermView := []
  /-- Ungranted byte-slots by tree and upstream frame (tree + 64 × frame) (R228). Reset none. -/
  unused : Tab Unused := []
  /-- UPRATE in Gbit/s as sampled at the last frame tick 8E (R206, R215). Reset 0: DESIGN CHOICE, log 7. -/
  upRate : Nat := 0
  /-- C_up in cells as sampled there (R206, R215). Reset 0: DESIGN CHOICE, log 7. -/
  cUp : Nat := 0
  /-- B of the partner's constraint word and its epoch (R208). Reset none. -/
  partnerB : Option (Nat × Nat) := none
  /-- The epoch of the demand and terminal states held for the next share set (R205). Reset 0: DESIGN CHOICE, log 7. -/
  snapEpoch : Nat := 0
  /-- The demand of every queue as it stood then, in bytes (R205). Reset 0. -/
  snapDemand : Tab Nat := []
  /-- The terminals as they stood then (R205). Reset FREE. -/
  snapViews : Tab TermView := []
  /-- By grant queue of a standard tree, the upstream phase of its last received burst (R146). Reset 0: DESIGN CHOICE,
  log 7. -/
  lastRx : Tab Nat := []
  deriving DecidableEq, Repr

/-! ### Time (11) -/

/-- Servo states (R365). -/
inductive Servo where
  | freerun | acquiring | locked | holdover
  deriving DecidableEq, Repr

/-- The tree form of TIME_CONFIG (R386). -/
structure TreeTime where
  /-- OPT_TX, 14 bits, units of 0.1 ns. Reset 0. -/
  optTx : Nat := 0
  /-- OPT_RX, 14 bits, units of 0.1 ns. Reset 0. -/
  optRx : Nat := 0
  /-- DN_FRAC, 24 bits. Reset 0x80_0000. -/
  dnFrac : Nat := 0x800000
  deriving DecidableEq, Repr

/-- PTP_PORT_CONFIG of a sub-port (R387). -/
structure PtpCfg where
  /-- ROLE, 2 bits. Reset 0. -/
  role : Nat := 0
  /-- LOCAL_PRIO, 8 bits. Reset 128. -/
  prio : Nat := 128
  /-- MCAST, 1 bit. Reset 0. -/
  mcast : Bool := false
  /-- ASYM, 24 bits, signed, units of 0.1 ns. Reset 0. -/
  asym : Int := 0
  deriving DecidableEq, Repr

/-- One version of the time unit's configuration (R24, R386, R387, R390). -/
structure TimeCfg where
  /-- TIME_SRC, 2 bits. Reset 0. -/
  src : Nat := 0
  /-- PROFILE, 1 bit. Reset 0. -/
  profile : Nat := 0
  /-- DOMAIN, 8 bits. Reset 24. -/
  domain : Nat := 24
  /-- LOCK_THRESH, 10 bits, ns. Reset 100. -/
  lockThresh : Nat := 100
  /-- JUMP_LIMIT, 12 bits, units of 10 ns. Reset 100. -/
  jumpLimit : Nat := 100
  /-- HO_VALID, 16 bits, s. Reset 1,000. -/
  hoValid : Nat := 1000
  /-- SLEW_MAX, 7 bits, ppm. Reset 50. -/
  slewMax : Nat := 50
  /-- The tree form, by tree. Reset: `TreeTime` at its own. -/
  trees : Tab TreeTime := []
  /-- PTP_PORT_CONFIG by sub-port. Reset: `PtpCfg` at its own. -/
  ports : Tab PtpCfg := []
  /-- OUT_EN, 1 bit. Reset 0. -/
  outEn : Bool := false
  /-- SQUELCH, 1 bit. Reset 1. -/
  squelch : Bool := true
  /-- OUT_WIDTH, 22 bits, units of 100 ns. Reset 100. -/
  outWidth : Nat := 100
  /-- OUT_COMP, 16 bits, signed, units of 0.1 ns. Reset 0. -/
  outComp : Int := 0
  /-- IN_EN, 1 bit. Reset 0. -/
  inEn : Bool := false
  /-- IN_COMP, 16 bits, units of 0.1 ns. Reset 0. -/
  inComp : Nat := 0
  /-- SRC0 to SRC3, 6 bits, and EN0 to EN3. Reset 0. -/
  sources : List (Nat × Bool) := [(0, false), (0, false), (0, false), (0, false)]
  /-- QL_EN, 1 bit. Reset 1. -/
  qlEn : Bool := true
  /-- TX_FOLLOW, 1 bit. Reset 0. -/
  txFollow : Bool := false
  /-- WTR, 4 bits, minutes. Reset 5. -/
  wtr : Nat := 5
  deriving DecidableEq, Repr

/-- The live state of a PTP port. -/
structure PtpPort where
  /-- The last Announce received. Reset none: DESIGN CHOICE, log 19. -/
  announce : Option Announce := none
  /-- PORT_STATE, 3 bits (R389). Reset 0, disabled: DEDUCED, log 19. -/
  state : Nat := 0
  /-- PATH_DELAY, 64 bits, units of 2^-16 ns (R389). Reset 0: DESIGN CHOICE, log 19. -/
  delay : Int := 0
  /-- A Sync that waits for its Follow_Up: sequence and arrival. Reset none. -/
  twoStep : Option (Nat × Int) := none
  /-- Origin and arrival of the last complete Sync. Reset none. -/
  sync : Option (Int × Int) := none
  /-- Sequence and departure of the last Delay_Req or Pdelay_Req sent. Reset none. -/
  req : Option (Nat × Int) := none
  /-- Request receipt and arrival of a two-step Pdelay_Resp that waits: sequence, t2, t4. Reset none. -/
  resp : Option (Nat × Int × Int) := none
  /-- The last Delay_Req or Pdelay_Req received that has no reply yet: its type, sequence, arrival and correction (R374). Reset none. -/
  asked : Option (Nat × Nat × Int × Int) := none
  /-- The sequence number of the next message sent, 16 bits. Reset 0: DESIGN CHOICE, log 19. -/
  seq : Nat := 0
  deriving DecidableEq, Repr

/-- A SyncE source's condition (R375). -/
structure SyncSource where
  /-- QL of the last ESMC PDU, 4 bits; 15 is DNU. Reset 15: DESIGN CHOICE, log 19. -/
  ql : Nat := 15
  /-- An ESMC PDU came within the last 5 s. Reset false. -/
  heard : Bool := false
  /-- Its frequency is within range. Reset true: DESIGN CHOICE, log 19. -/
  inRange : Bool := true
  /-- It failed and its WTR has not ended. Reset false. -/
  failed : Bool := false
  deriving DecidableEq, Repr

/-- A PTP message the time unit has taken: sub-port, bytes after the EtherType, corrected arrival (R373) and stamp (R25). -/
structure PtpIn where
  sub : Nat
  bytes : List Byte
  toa : Int
  stamp : Nat
  deriving DecidableEq, Repr

/-- The time unit. Times and offsets are in units of 2^-16 ns. -/
structure Tim where
  /-- The time of day at frame tick `fc`: SECONDS, NS and FRAC as one number (R362). Reset 0. -/
  tod : Nat := 0
  /-- TIME_GEN, 16 bits (R362). Reset 0. -/
  gen : Nat := 0
  /-- The servo's state (R365). Reset FREERUN (R362). -/
  servo : Servo := .freerun
  /-- The time is valid (R366). Reset false (R362). -/
  valid : Bool := false
  /-- The time has been valid since cold start (R367). Reset false. -/
  everValid : Bool := false
  /-- An ABSOLUTE step has been applied since cold start (R366). Reset false. -/
  absStep : Bool := false
  /-- The frame at which the servo last left LOCKED (R366, R389). Reset none. -/
  leftLocked : Option Nat := none
  /-- The last 16 raw offsets, newest first (R365). Reset none. -/
  raws : List Int := []
  /-- Whether the source delivers offsets: one has come since it was selected, changed or lost (R365, R368). Reset false. -/
  delivers : Bool := false
  /-- Raw offsets in a row with the filtered offset within LOCK_THRESH (R365). Reset 0. -/
  lockRun : Nat := 0
  /-- Raw offsets in a row beyond JUMP_LIMIT, with their sign, and the filtered offset before them (R367). Reset none. -/
  jumpRun : Option (Nat × Bool × Int) := none
  /-- While a jump persists, the filtered offset before it (R367). Reset none. -/
  jump : Option Int := none
  /-- The epoch of the last TIME_JUMP record of this jump (R367). Reset none. -/
  jumpRec : Option Nat := none
  /-- The next raw offset is the first since the source was selected or changed (R367). Reset true. -/
  fresh : Bool := true
  /-- A step forward to the source waits for the next boundary (R367). Reset false. -/
  autoStep : Bool := false
  /-- The filtered offset as it stood at the start of slot (8N - 1, 0) (R368). Reset none. -/
  sampled : Option Int := none
  /-- Configuration by version (R24). Reset: `TimeCfg` at its own. -/
  cfg : Vers TimeCfg := [(0, {})]
  /-- PTP ports by sub-port. Reset: `PtpPort` at its own. -/
  ports : Tab PtpPort := []
  /-- The sub-port of the selected master (R389). Reset none. -/
  master : Option Nat := none
  /-- PTP messages taken and not yet handled (R373). Reset none. -/
  ptpIn : List PtpIn := []
  /-- SyncE sources by list position. Reset: `SyncSource` at its own. -/
  sync : Tab SyncSource := []
  /-- The list position of the selected SyncE source (R375). Reset none. -/
  selected : Option Nat := none
  /-- The timestamp of the last pulse at PPS_IN (R379). Reset none. -/
  lastPulse : Option Int := none
  /-- Missing pulses in a row (R379). Reset 0. -/
  missing : Nat := 0
  deriving DecidableEq, Repr

/-! ### Switch core (09) -/

/-- A frame, or another unit of traffic, inside the head-end. -/
structure Frame where
  /-- Its bytes without FCS. -/
  data : List Byte
  /-- Its bytes as it entered, without FCS (R307, R309). -/
  entered : List Byte := []
  /-- Bytes of FCS it carries beside `data`: 4, or 0 for what is no Ethernet frame. -/
  fcsLen : Nat := 4
  /-- The port code of its input (R293). -/
  input : Nat
  /-- The tenant of a host input, or of a host queue (R293). -/
  tenant : Nat := 0
  /-- The flow index it arrived on or goes to. -/
  flow : Nat := 0
  /-- The global terminal ID whose burst carried it. -/
  terminal : Nat := 0
  /-- Its stamp (R25). -/
  stamp : Nat
  /-- Its arrival time and TIME_GEN (R371). -/
  toa : Int := 0
  gen : Nat := 0
  /-- Upstream frame, phase, tree, START and position in the burst (R317). -/
  order : List Nat := []
  /-- The sub-port or tree code it is classified as received on (R325). -/
  source : Nat := 0
  /-- Traffic class. -/
  tclass : Nat := 0
  /-- It came from a cut-through sub-port (R305). -/
  cutThrough : Bool := false
  /-- It will be found bad late (R306). -/
  bad : Bool := false
  /-- FRER stream, 0 for none (R316). -/
  stream : Nat := 0
  /-- FRER number, once it has one (R317). -/
  number : Option Nat := none
  /-- Bytes already sent on a tree (R103). -/
  sent : Nat := 0
  /-- Its head has left; it is to be ended under R108. -/
  abandon : Bool := false
  /-- One of its fragments was replaced under R331: this chip sends the rest of it as idle fill, the partner as it is. -/
  void : Bool := false
  deriving DecidableEq, Repr

/-- QUEUE_CONFIG of a class queue (R321). -/
structure QueueSet where
  weighted : Bool
  weight : Nat
  deriving DecidableEq, Repr

/-- CARRIER_MAP of a flow index (R318, R322). -/
structure Carrier where
  /-- PURPOSE, 3 bits. Reset 0. -/
  purpose : Nat := 0
  /-- DEF_CLASS, 3 bits. Reset 0. -/
  defClass : Nat := 0
  /-- GROUP, 10 bits. Reset 0. -/
  group : Nat := 0
  deriving DecidableEq, Repr

/-- MIRROR_CONFIG's port form (R323). -/
structure MirrorPort where
  ing : Bool := false
  egr : Bool := false
  snap : Nat := 0
  deriving DecidableEq, Repr

/-- MIRROR_CONFIG's encapsulation form (R323). -/
structure Encap where
  enable : Bool := false
  etherType : Nat := 0
  snap : Nat := 0
  da : Nat := 0
  sa : Nat := 0
  deriving DecidableEq, Repr

/-- SAMPLE_CONFIG of a port (R324). -/
structure SampleCfg where
  all : Bool := false
  n : Nat := 0
  deriving DecidableEq, Repr

/-- One version of the switch core's configuration (R24). -/
structure SwCfg where
  /-- QUEUE_CONFIG by queue ID; none is the reset value of its class (R321). Reset none. -/
  queues : Tab (Option QueueSet) := []
  /-- ALPHA_LOG2 + 7 by threshold group, where THRESHOLD_CONFIG set it; 0 is the reset value (R296). Reset 0. -/
  alphas : Tab Nat := []
  /-- CARRIER_MAP by flow index (R322). Reset: `Carrier` at its own. -/
  carriers : Tab Carrier := []
  /-- Members of each group (R322). Reset none: DESIGN CHOICE, log 20. -/
  groups : Tab (List Nat) := []
  /-- Port mirrors by port code (R323). Reset: `MirrorPort` at its own. -/
  mirrors : Tab MirrorPort := []
  /-- The mirror encapsulation (R323). Reset: `Encap` at its own. -/
  encap : Encap := {}
  /-- Samplers by port code (R324). Reset: `SampleCfg` at its own. -/
  samples : Tab SampleCfg := []
  deriving DecidableEq, Repr

/-- An uplink sub-port (R313, R314, R320). -/
structure SubPort where
  /-- ENABLE, 1 bit. Reset 0. -/
  enable : Bool := false
  /-- CT, 1 bit. Reset 0. -/
  ct : Bool := false
  /-- MAX_FRAME, 14 bits. Reset 9,216. -/
  maxFrame : Nat := 9216
  /-- FC, 2 bits. Reset 0. -/
  fc : Nat := 0
  /-- PUSH, 1 bit. Reset 0. -/
  push : Bool := false
  /-- PUSH_STAG, 1 bit. Reset 0. -/
  stag : Bool := false
  /-- PUSH_VID, 12 bits. Reset 0. -/
  vid : Nat := 0
  /-- DEF_CLASS, 3 bits. Reset 0. -/
  defClass : Nat := 0
  /-- The link is up (R313). Reset false (R499). -/
  up : Bool := false
  /-- XOFF has been sent and XON has not (R314). Reset false. -/
  xoff : Bool := false
  /-- Class queues held by a received PAUSE or PFC (R314). Reset none. -/
  held : BitVec 8 := 0
  deriving DecidableEq, Repr

/-- A tenant's receive ring (R311, R320). -/
structure RxRing where
  /-- ENABLE, 1 bit. Reset 0. -/
  enable : Bool := false
  /-- SIZE_LOG2, 5 bits. Reset 0. -/
  size : Nat := 0
  /-- HOST_WEIGHT, 8 bits. Reset 1. -/
  weight : Nat := 1
  /-- RX_BASE, 64 bits. Reset 0. -/
  base : Nat := 0
  /-- The next descriptor (R312). Reset 0: DESIGN CHOICE, log 20. -/
  pos : Nat := 0
  /-- The next descriptor was read with OWN 0 (R312). Reset false. -/
  stalled : Bool := false
  deriving DecidableEq, Repr

/-- An FRER stream (R316, R317, R324). -/
structure Stream where
  /-- ENABLE, 1 bit. Reset 0. -/
  enable : Bool := false
  /-- DUP, 1 bit. Reset 0. -/
  dup : Bool := false
  /-- SUB_B, 6 bits. Reset 0. -/
  subB : Nat := 0
  /-- The next number, 16 bits (R317). Reset 0. -/
  number : Nat := 0
  deriving DecidableEq, Repr

/-- A sampler's counts (R309). -/
structure Sampler where
  /-- Eligible frames since the last sample. Reset 0. -/
  count : Nat := 0
  /-- Eligible frames since SAMPLE_CONFIG last set it, 64 bits. Reset 0. -/
  eligible : Nat := 0
  /-- Frames that no parser classifies and that entered after frames whose classification is still to come: each with how many of
  those there are, as eligible frames are counted in order of entry (R309). Reset none. -/
  line : List (Nat × Frame) := []
  deriving DecidableEq, Repr

/-- The switch core and the Caldera. -/
structure Switch where
  /-- Configuration by version (R24). Reset: `SwCfg` at its own. -/
  cfg : Vers SwCfg := [(0, {})]
  /-- MODE of each uplink port, 2 bits (R320). Reset 0. -/
  modes : Tab Nat := []
  /-- Sub-ports 0 to 47. Reset: `SubPort` at its own. -/
  subs : Tab SubPort := []
  /-- Receive rings by tenant. Reset: `RxRing` at its own. -/
  rings : Tab RxRing := []
  /-- Frames held in each queue, oldest first, by queue ID (R293). Reset none. -/
  queues : Tab (List Frame) := []
  /-- Deficits of the weighted class queues, by queue ID (R299). Reset 0: DESIGN CHOICE, log 20. -/
  deficit : Tab Nat := []
  /-- The class whose turn it is at each port (R299). Reset 0: DESIGN CHOICE, log 20. -/
  turn : Tab Nat := []
  /-- Deficits of the host port's tenants (R301). Reset 0: DESIGN CHOICE, log 20. -/
  hostDeficit : Tab Nat := []
  /-- The tenant whose turn it is at the host port (R301). Reset 0: DESIGN CHOICE, log 20. -/
  hostTurn : Nat := 0
  /-- Samplers by port code (R309). Reset: `Sampler` at its own. -/
  samplers : Tab Sampler := []
  /-- FRER streams 1 to 4,095. Reset: `Stream` at its own. -/
  streams : Tab Stream := []
  /-- Stream frames that wait at the sequence point (R317). Reset none. -/
  seqWait : List Frame := []
  /-- SDUs a tree island has read and not yet sent whole, by tree (R300). Reset none. -/
  treeTx : Tab (List Frame) := []
  deriving DecidableEq, Repr

/-! ### Classification (08) -/

/-- A rule entry (R274, R275): 48 key bytes of value and of mask as numbers, most significant byte first, and
words 0 and 1 of the action. Reset 0. -/
structure RuleEntry where
  value : Nat := 0
  mask : Nat := 0
  w0 : Nat := 0
  w1 : Nat := 0
  deriving DecidableEq, Repr

/-- A hash profile (R281, R289). -/
structure HashCfg where
  /-- BYTE_SEL, 48 bits. Reset 0. -/
  sel : Nat := 0
  /-- SEED, 32 bits. Reset 0xFFFF_FFFF. -/
  seed : Nat := 0xFFFFFFFF
  deriving DecidableEq, Repr

/-- EXCEPTION_CONFIG of a tenant (R291). -/
structure ExcCfg where
  /-- TREE_MISS, 1 bit. Reset 0. -/
  treeMiss : Bool := false
  /-- UP_MISS, 1 bit. Reset 0. -/
  upMiss : Bool := false
  /-- RATE, 16 bits. Reset 1,000. -/
  rate : Nat := 1000
  /-- SNAP_64, 8 bits. Reset 2. -/
  snap : Nat := 2
  deriving DecidableEq, Repr

/-- The tables of one parser island but its rules. -/
structure ClsSide where
  /-- Parse nodes 0 to 127, eight words each (R270). Reset 0. -/
  nodes : Tab (List Nat) := []
  /-- Hash profiles 0 to 15. Reset: `HashCfg` at its own. -/
  hashes : Tab HashCfg := []
  /-- Indirection entries by table × 512 + entry, 32 bits each (R282). Reset 0. -/
  ind : Tab Nat := []
  deriving DecidableEq, Repr

/-- One version of the classification tables (R24). -/
structure ClsCfg where
  /-- Rule entries 0 to 65,535 of both islands (R268). Reset 0. -/
  rules : Tab RuleEntry := []
  /-- The tree-side island's tables. -/
  tree : ClsSide := {}
  /-- The uplink-side island's tables. -/
  up : ClsSide := {}
  /-- EXCEPTION_CONFIG by tenant. Reset: `ExcCfg` at its own. -/
  exc : Tab ExcCfg := []
  /-- Entries with a parity fault: island 68 or 69, table code and entry (R285). Reset none. -/
  faults : List (Nat × Nat × Nat) := []
  deriving DecidableEq, Repr

/-- A frame on its way to a second pass (R283). -/
structure Recirc where
  frame : Frame
  /-- Its bytes after those before header[DECAP_HDR] are removed. -/
  data : List Byte
  /-- RECIRC_NODE, and TENANT of the first pass. -/
  node : Nat
  tenant : Nat
  /-- MIRROR and SAMPLE of the first pass, and whether the tenant lookup set SAMPLE. -/
  mirror : Bool
  sample : Bool
  tenantSample : Bool
  deriving DecidableEq, Repr

/-- The two parser and classifier islands. -/
structure Classify where
  /-- Tables by version (R24, R26). Reset: `ClsCfg` at its own. -/
  cfg : Vers ClsCfg := [(0, {})]
  /-- Frames that wait for their first pass, oldest first, by side: 0 tree, 1 uplink. Reset none. -/
  wait : Tab (List Frame) := []
  /-- Frames that wait for their second pass, oldest first, by side. Reset none. -/
  recirc : Tab (List Recirc) := []
  /-- Frames queued to each tenant's exception queue in this epoch (R284). Reset 0. -/
  excCount : Tab Nat := []
  deriving DecidableEq, Repr

/-! ### Endpoint directory (07) -/

/-- An endpoint context (R237). Every field is 0 at reset (R238). The words that are handed out are made by
`Ctx.words`; TENANT is the owner of the block (R65) and is not stored twice. -/
structure Ctx where
  valid : Bool := false
  bound : Bool := false
  isStatic : Bool := false
  /-- TERMINAL, 15 bits. -/
  terminal : Nat := 0
  /-- CARRIER, 16 bits. -/
  carrier : Nat := 0
  /-- SVC_CLASS, 7 bits. -/
  svc : Nat := 0
  /-- PROT, 3 bits. -/
  prot : Nat := 0
  /-- CHECK_POLY, 3 bits. -/
  poly : Nat := 0
  aliveEn : Bool := false
  outageEn : Bool := false
  /-- CAND_TERMINAL, 15 bits. -/
  candTerminal : Nat := 0
  /-- CAND_CARRIER, 16 bits. -/
  candCarrier : Nat := 0
  /-- CAND_COUNT, 2 bits. -/
  candCount : Nat := 0
  /-- CAND_FIRST, 64 bits. -/
  candFirst : Nat := 0
  /-- LAST_SEEN, 64 bits. -/
  lastSeen : Nat := 0
  /-- AGE is STALE. -/
  stale : Bool := false
  /-- OUTAGE is GASPED. -/
  gasped : Bool := false
  /-- GASP_EPOCH, 64 bits. -/
  gaspEpoch : Nat := 0
  /-- WRAPPED_KEY, words 6 to 10 as a number, least significant byte first. -/
  wrapped : Nat := 0
  /-- KEY_GEN, 31 bits. -/
  keyGen : Nat := 0
  keyLoaded : Bool := false
  /-- KEY_LEN: AES-256. -/
  key256 : Bool := false
  keyWarn : Bool := false
  keySpent : Bool := false
  /-- TX_COUNTER, 64 bits. -/
  txCounter : Nat := 0
  /-- TX_LEASE, 64 bits. -/
  txLease : Nat := 0
  /-- RX_COUNTER, 64 bits. -/
  rxCounter : Nat := 0
  /-- CHECK_VALUE, 64 bits. -/
  checkValue : Nat := 0
  /-- ALIVE_LAST, 16 bits. -/
  aliveLast : Nat := 0
  aliveSeen : Bool := false
  /-- HANDLER_STATE, 56 bytes as a number, least significant byte first. -/
  handler : Nat := 0
  /-- HOST_DATA, 64 bytes as a number, least significant byte first. -/
  host : Nat := 0
  deriving DecidableEq, Repr

/-- A flow context (R259). Every field is 0 at reset. -/
structure Flow where
  /-- DN_SEQ, 21 bits. -/
  dnSeq : Nat := 0
  /-- UP_SEQ, 21 bits. -/
  upSeq : Nat := 0
  upOpen : Bool := false
  /-- DN_COUNTER, 64 bits. -/
  dnCounter : Nat := 0
  /-- DN_KEY_GEN, 31 bits. -/
  dnKeyGen : Nat := 0
  /-- DN_KEY_SLOT, 2 bits. -/
  dnSlot : Nat := 0
  /-- LAST_UP_EPOCH, 64 bits. -/
  lastUp : Nat := 0
  /-- LAST_DN_EPOCH, 64 bits. -/
  lastDn : Nat := 0
  /-- HOST_DATA, 16 bytes as a number, least significant byte first. -/
  host : Nat := 0
  deriving DecidableEq, Repr

/-- CHECK_CONFIG of an endpoint block (R359). -/
structure BlockCfg where
  /-- ALIVE_W, 15 bits. Reset 16. -/
  aliveW : Nat := 16
  /-- RUN_SCOPE, 2 bits. Reset 0. -/
  runScope : Nat := 0
  deriving DecidableEq, Repr

/-- An endpoint message on its way to its bank. -/
structure UpMsg where
  /-- The SDU. -/
  sdu : List Byte
  flow : Nat
  terminal : Nat
  stamp : Nat
  toa : Int
  gen : Nat
  /-- Upstream frame, phase, tree, START, position in the burst (R245). -/
  order : List Nat
  deriving DecidableEq, Repr

/-- A downstream endpoint message on its way to the directory (R244). -/
structure DnMsg where
  frame : Frame
  /-- The frame as it was classified, and where the message begins in it (R275, R284). -/
  data : List Byte
  payload : Nat
  /-- Word 0 of the exception header it would get, but for REASON and TENANT (R284), and EXC_TAG. -/
  exc0 : Nat
  excTag : Nat
  /-- Owner of the rule entry that set the destination (R244). -/
  owner : Nat
  /-- An EMIT_DOWN copy, or a message agreed in a pair (R408, R443). -/
  emitted : Bool := false
  /-- It waits for a lease, counted once (R338). -/
  waiting : Bool := false
  deriving DecidableEq, Repr

/-- An outage event (R253): record kind, tenant, terminal, endpoint and stamp; and, where it was produced, the last boundary
point passed and WINDOW (R255, R265). -/
structure OutEvent where
  kind : Nat
  tenant : Nat
  terminal : Nat
  endpoint : Nat
  stamp : Nat
  cluster : Nat
  point : Nat := 0
  window : Nat := 0
  deriving DecidableEq, Repr

/-- An outage record: open, or closed with its SEQ (R254, R255). -/
structure OutRec where
  kind : Nat
  tenant : Nat
  terminal : Nat
  entries : List Nat
  first : Nat
  last : Nat
  closeAt : Nat
  cluster : Nat
  seq : Nat := 0
  boundCount : Nat := 0
  deriving DecidableEq, Repr

/-- The endpoint directory. -/
structure Directory where
  /-- Contexts by endpoint ID (R235). Reset 0 (R238). -/
  ctxs : Tab Ctx := []
  /-- Flow contexts by flow index. Reset 0. -/
  flows : Tab Flow := []
  /-- Bit g of an endpoint: its granule g is marked faulted (R239). Reset 0. -/
  faults : Tab Nat := []
  /-- Bit g of a flow index: its granule g is marked faulted (R239, R260). Reset 0. -/
  flowFaults : Tab Nat := []
  /-- Errors in granules that no read has met yet: flow, ID, granule, pseudo-channel, fatal. Reset none. -/
  latent : List (Bool × Nat × Nat × Nat × Bool) := []
  /-- CHECK_CONFIG by endpoint block (R359). Reset: `BlockCfg` at its own. -/
  blocks : Tab BlockCfg := []
  /-- Blocks whose entry has a parity fault; `true` once it has been found (R352). Reset none. -/
  blockFaults : Tab (Option Bool) := []
  /-- BOUND_COUNT by global terminal ID (R249). Reset 0. -/
  boundCount : Tab Nat := []
  /-- AGE_T, 32 bits (R265), each value with the epoch from which visits are made under it, the latest first (R250). Reset none: 0. -/
  ages : List (Nat × Nat) := []
  /-- ENABLE of OUTAGE_CONFIG, 1 bit. Reset 0. -/
  outEnable : Bool := false
  /-- AGED_NOTICE, 1 bit. Reset 0. -/
  agedNotice : Bool := false
  /-- WINDOW, 16 bits, epochs. Reset 100. -/
  window : Nat := 100
  /-- Upstream messages at the directory, not yet applied (R245). Reset none. -/
  inbox : List UpMsg := []
  /-- Batches applied, as 8 × frame + phase of the next one (R245). Reset 0. -/
  next : Nat := 0
  /-- Phase-end markers that have arrived: tree and 8 × frame + phase (R245). Reset none. -/
  markers : List (Nat × Nat) := []
  /-- Parts left out of a batch: tree and 8 × frame + phase (R246). Reset none. -/
  late : List (Nat × Nat) := []
  /-- The epoch of the last boundary point passed (R245). Reset 0. -/
  point : Nat := 0
  /-- Commands that wait for their boundary point, in the order of R32: apply-epoch, change set and command (R23, R245). Reset
  none. -/
  due : List (Nat × Nat × Instr) := []
  /-- Messages that wait for a working lane of their cipher island, in the order of the bank stream, each with whether the pair
  agreed on it (R247, R331). Reset none. -/
  held : List (UpMsg × Bool) := []
  /-- Downstream endpoint messages that wait, oldest first. Reset none. -/
  dnWait : List DnMsg := []
  /-- Outage events not yet gathered (R253). Reset none. -/
  events : List OutEvent := []
  /-- Open outage records (R255). Reset none. -/
  open_ : List OutRec := []
  /-- Closed outage records that wait for delivery, oldest first. Reset none. -/
  closed : List OutRec := []
  /-- SEQ of the next outage record, by tenant, 16 bits (R254). Reset 0: DESIGN CHOICE, log 26. -/
  outSeq : Tab Nat := []
  /-- Outage records dropped since the last one delivered, by tenant (R256). Reset 0. -/
  outLost : Tab Nat := []
  deriving DecidableEq, Repr

/-! ### Cipher engine (10) -/

/-- Where the key-encryption key comes from (R332, R419). -/
inductive Kek where
  /-- The n-th drawn from the on-die random source. -/
  | drawn (n : Nat)
  /-- Adopted from the partner. -/
  | adopted (key : BitVec 256)
  deriving DecidableEq, Repr

/-- CARRIER_CIPHER of a carrier (R357). -/
structure CipherCfg where
  /-- MODE, 2 bits. Reset 0. -/
  mode : Nat := 0
  /-- ACTIVE_SLOT, 2 bits. Reset 0. -/
  slot : Nat := 0
  deriving DecidableEq, Repr

/-- A key in the carrier key store (R332). -/
structure StoredKey where
  wrapped : List Byte
  key256 : Bool
  gen : Nat
  deriving DecidableEq, Repr

/-- A lease (R338): where it is written, and the end whose write or read-back is outstanding. -/
structure Lease where
  /-- LEASE_ADDR, 64 bits. Reset 0. -/
  addr : Nat := 0
  /-- E + 2^20, while its read-back is outstanding. Reset none. -/
  pending : Option Nat := none
  /-- Work waits under R338. Reset false. -/
  waiting : Bool := false
  /-- In a pair, the new E, its read-back complete, that the next boundary point adopts (R412). Reset none. -/
  adopt : Option Nat := none
  deriving DecidableEq, Repr

/-- A carrier in the carrier key store. -/
structure CarrierKeys where
  /-- Slots 1 to 3. Reset none. -/
  slots : Tab (Option StoredKey) := []
  /-- The cipher island's key cache: plaintext keys by slot while MODE is not 0, `[]` where none is held (R332, R334). Reset none. -/
  cache : Tab (List Byte) := []
  /-- E, 64 bits (R338). Reset 0. -/
  leaseEnd : Nat := 0
  lease : Lease := {}
  /-- Slots whose key has KEY_WARN set (R341). Reset none. -/
  warn : List Nat := []
  /-- Slots whose key is spent (R341). Reset none. -/
  spent : List Nat := []
  /-- The last KEY_SYNC's reference: slot, KEY_GEN, and counter less SEQ modulo 2^64 (R345). Reset none. -/
  announced : Option (Nat × Nat × Nat) := none
  deriving DecidableEq, Repr

/-- The cipher engine and the check-value units. -/
structure CipherUnit where
  /-- The key-encryption key (R332). Reset: the first drawn. -/
  kek : Kek := .drawn 0
  /-- Keys drawn so far: the model's own count. Reset 1. -/
  keks : Nat := 1
  /-- Tenant load keys, wrapped under the KEK (R332). Reset none. -/
  loadKeys : Tab (List Byte) := []
  /-- CARRIER_CIPHER by flow index, by version (R24). Reset: `CipherCfg` at its own. -/
  cfg : Vers (Tab CipherCfg) := [(0, [])]
  /-- The carrier key store, by flow index. Reset none. -/
  carriers : Tab CarrierKeys := []
  /-- Leases of the endpoints' keys, by endpoint ID. Reset: `Lease` at its own. -/
  leases : Tab Lease := []
  /-- Mismatches that the next operations will meet (R331). Reset none. -/
  upsets : List (Nat × Nat × Bool × Bool) := []
  /-- Islands whose CIPHER_ISLAND_DOWN record was written (R331). Reset none. -/
  down : List Nat := []
  deriving DecidableEq, Repr

/-! ### Tumbler engines (13) -/

/-- What an output of a job is (R442, R443). -/
inductive JobOut where
  | forward (frame : List Byte) (sub cls stream : Nat)
  | coalesce (entry : List Byte) (key : Nat)
  | emitDown (kind : Nat) (payload : List Byte)
  | host (frame : List Byte)
  deriving DecidableEq, Repr

/-- How a handler job ended (R442, R444). -/
structure JobEnd where
  /-- The failure code, 0 for none. -/
  fail : Nat
  /-- FAIL_ACTION of a valid handler. -/
  failAction : Bool
  outs : List JobOut
  /-- Handler counters to increment, one entry for each COUNT step run. -/
  counts : List Nat
  /-- HANDLER_STATE to write back. -/
  handler : Nat
  cycles : Nat
  /-- The engine that ran it. -/
  engine : Nat
  /-- The epoch in which it ran, which stamps what it creates (R25). -/
  stamp : Nat := 0
  deriving DecidableEq, Repr

/-- A handler job (R438, R439). -/
structure Job where
  endpoint : Nat
  tenant : Nat
  svc : Nat
  stamp : Nat
  toa : Int
  gen : Nat
  /-- The message as accepted, tag removed, and its LEN and MKIND. -/
  msg : List Byte
  len : Nat
  mkind : Nat
  /-- INFO. -/
  info : Nat
  /-- The order of its message (R317, R443). -/
  order : List Nat
  /-- Only this chip of the pair accepted the message: nothing is written back (R247). -/
  oneSided : Bool := false
  /-- Reruns so far (R454). -/
  reruns : Nat := 0
  /-- How it ended, once it has. -/
  result : Option JobEnd := none
  deriving DecidableEq, Repr

/-- An open or closed coalesced report (R446). -/
structure Report where
  tenant : Nat
  svc : Nat
  key : Nat
  cluster : Nat
  first : Nat
  closeAt : Nat
  entries : List (List Byte)
  /-- Endpoint blocks that its entries come from (R457). -/
  blocks : List Nat
  seq : Nat := 0
  /-- The epoch in which it closed, which stamps its frame (R25). -/
  stamp : Nat := 0
  deriving DecidableEq, Repr

/-- MGMT_CONFIG of a tree (R459). -/
structure MgmtCfg where
  /-- ENABLE, 1 bit. Reset 0. -/
  enable : Bool := false
  /-- MIB_UPLOAD, 1 bit. Reset 0. -/
  mib : Bool := false
  /-- MAX_OUT, 3 bits. Reset 4. -/
  maxOut : Nat := 4
  /-- RETRIES, 3 bits. Reset 3. -/
  retries : Nat := 3
  /-- RETRY_S, 4 bits. Reset 1. -/
  retryS : Nat := 1
  deriving DecidableEq, Repr

/-- An outstanding management transaction (R450). -/
structure Trans where
  tci : Nat
  msg : List Byte
  /-- The epoch of the last send, and the retries left. -/
  sent : Nat
  left : Nat
  deriving DecidableEq, Repr

/-- The cycles of an engine in this epoch, by kind (R452). -/
structure Cycles where
  retired : Nat := 0
  failed : Nat := 0
  rerun : Nat := 0
  cipher : Nat := 0
  memory : Nat := 0
  output : Nat := 0
  deriving DecidableEq, Repr

/-- The Tumbler engines. -/
structure Tumbler where
  /-- Handlers by class, 65 words each, by version (R24, R447). Reset 0 but COAL_WINDOW 1; a class never written is not listed. -/
  handlers : Vers (Tab (List Nat)) := [(0, [])]
  /-- Handler jobs, in bank-stream order (R443). Reset none. -/
  jobs : List Job := []
  /-- Open reports (R446). Reset none. -/
  reports : List Report := []
  /-- Closed reports that wait for delivery, oldest first. Reset none. -/
  closed : List Report := []
  /-- SEQ of the next service frame or report, by tenant, 16 bits (R445). Reset 0: DESIGN CHOICE, log 33. -/
  seq : Tab Nat := []
  /-- Service frames dropped since the last delivered, by tenant (R446). Reset 0. -/
  lost : Tab Nat := []
  /-- MGMT_CONFIG by tree. Reset: `MgmtCfg` at its own. -/
  mgmt : Tab MgmtCfg := []
  /-- Outstanding transactions by global terminal ID (R449). Reset none. -/
  trans : Tab (List Trans) := []
  /-- Terminals by tree whose MIB upload is due (R449). Reset none. -/
  uploads : List Nat := []
  /-- Management messages that wait for their job: global terminal ID, message and the epoch of the send (R449). Reset none. -/
  sends : List (Nat × List Byte × Nat) := []
  /-- Management SDUs from terminals that the service has not taken yet, oldest first: global terminal ID, bytes and stamp (R318,
  R449). Reset none. -/
  mgmtIn : List (Nat × List Byte × Nat) := []
  /-- Cycles of each engine in this epoch. Reset 0. -/
  cycles : Tab Cycles := []
  /-- Clusters whose work cluster c XOR 1 does (R455). Reset none. -/
  fallback : List Nat := []
  deriving DecidableEq, Repr

/-! ### Pair operation (12) -/

/-- Pair states (R415). -/
inductive PairRole where
  | solo | alone | joining | active | standby | isolated
  deriving DecidableEq, Repr

/-- What a chip accepted of one phase (R410). -/
structure PhaseAccepts where
  slot : Nat
  entries : List AcceptEntry
  deriving DecidableEq, Repr

/-- What a newcomer replays on a page (R424). -/
inductive LogItem where
  | msg (m : UpMsg)
  | cmd (i : Instr)
  deriving DecidableEq, Repr

/-- A forwarded command: what names it, the epoch it is staged for (R401). -/
structure Staged where
  tenant : Nat
  ring : Nat
  pos : Nat
  epoch : Nat
  deriving DecidableEq, Repr

/-- The pair unit. -/
structure Pair where
  /-- ENABLE, 1 bit (R429). Reset 0. -/
  enable : Bool := false
  /-- RESYNC_AUTO, 1 bit (R429). Reset 1. -/
  auto : Bool := true
  /-- PAIR_SECRET, 256 bits (R429). Reset 0. -/
  secret : BitVec 256 := 0
  /-- The pair state (R415). Reset SOLO (R499). -/
  role : PairRole := .solo
  /-- A state that the next boundary brings (R414, R418, R425, R431): the epoch and the state. Reset none. -/
  next : Option (Nat × PairRole) := none
  /-- PARTNER_STATE, 4 bits; 0xF if none (R430). Reset 0xF. -/
  partner : Nat := 0xF
  /-- The last HELLO. Reset none. -/
  hello : Option Hello := none
  /-- The link is up: a valid frame came since the last silence (R416). Reset false. -/
  linkUp : Bool := false
  /-- PAIR_WD_IN toggles (R394). Reset false. -/
  wdIn : Bool := false
  /-- A PAIR_WD record stands for this silence (R416). Reset false. -/
  wdNoted : Bool := false
  /-- Level of PAIR_ACT_IN. Reset false (a pull-down, R520): DEDUCED, log 29. -/
  actIn : Bool := false
  /-- Level of PAIR_WD_OUT (R394). Reset false (R493). -/
  wdOut : Bool := false
  /-- The latest epoch token was acknowledged in time by the islands that PAIR_WD_OUT rests on (R394). Reset true: DESIGN
  CHOICE, log 1. -/
  wdGood : Bool := true
  /-- The straps matched: it refuses to join until reset (R393). Reset false. -/
  strapBad : Bool := false
  /-- The handshake has succeeded (R419). Reset false. -/
  agreed : Bool := false
  /-- LOCKOUT, 1 bit (R431). Reset 0. -/
  lockout : Bool := false
  /-- REVERT, 1 bit (R433). Reset 1. -/
  revert : Bool := true
  /-- WTR, 12 bits, s (R433). Reset 300. -/
  wtr : Nat := 300
  /-- The epoch at which wait-to-restore ends, while it runs (R426). Reset none. -/
  wtrEnd : Option Nat := none
  /-- This chip acts as the reference chip (R177, R417, R428). Reset true: a single chip's own value governs. -/
  reference : Bool := true
  /-- STEP, 3 bits (R430). Reset 0. -/
  step : Nat := 0
  /-- J of the JOIN frame (R420, R425). Reset none. -/
  joinAt : Option Nat := none
  /-- The upstream frame from which the reference chip's batches are the present one's; those before it are the other chip's (R425).
  Reset 0. -/
  batchFrom : Nat := 0
  /-- The epoch at which the shadow began (R420). Reset 0. -/
  shadowFrom : Nat := 0
  /-- Queues reported since the shadow began (R425). Reset none. -/
  reported : List Nat := []
  /-- PAGES_DONE, 32 bits (R430). Reset 0. -/
  pagesDone : Nat := 0
  /-- PAGES_TOTAL, 32 bits (R430). Reset 0. -/
  pagesTotal : Nat := 0
  /-- Pages installed: item and number. Reset none. -/
  installed : List (Nat × Nat) := []
  /-- The next page to send: item and number (R423). Reset none. -/
  sending : Option (Nat × Nat) := none
  /-- Agreed messages and live-state writes of the last 64 phases, with their phase, for replay (R424). Reset none. -/
  log : List (Nat × LogItem) := []
  /-- Digest failures of each page asked for (R427). Reset none. -/
  badPages : List ((Nat × Nat) × Nat) := []
  /-- Epoch boundaries in a row at which the partner's FW_VERSION differed (R508). Reset 0. -/
  fwDiffer : Nat := 0
  /-- LAST_DIGEST, 64 bits (R430). Reset 0. -/
  lastDigest : Nat := 0
  /-- This chip wrote a fault record or returned FAULT in the epoch (R414). Reset false. -/
  faulted : Bool := false
  /-- Own digests closed and not yet compared: epoch, registers, `faulted`. Reset none. -/
  mine : List (Nat × List Nat × Bool) := []
  /-- The partner's digests not yet compared: epoch, registers, and whether the partner was `faulted`. Reset none. -/
  theirs : List (Nat × List Nat × Bool) := []
  /-- Endpoints held as unsynced, from the first page not installed (R428). Reset none. -/
  unsyncedFrom : Option Nat := none
  /-- Unsynced marks cleared by EP_WRITE (R428). Reset none. -/
  resynced : List Nat := []
  /-- The place last heard of an unsynced endpoint: endpoint to terminal × 65,536 + carrier + 1 (R428). Reset none. -/
  heard : Tab Nat := []
  /-- LSEQ of the next frame of each class sent, 32 bits (R397). Reset 0: DESIGN CHOICE, log 31. -/
  txSeq : Tab Nat := []
  /-- LSEQ expected of each class, 32 bits (R397). Reset 0: DESIGN CHOICE, log 31. -/
  rxSeq : Tab Nat := []
  /-- Consecutive requests for a frame, by class (R397). Reset 0. -/
  retries : Tab Nat := []
  /-- Own accept lists of the phases not yet applied (R410). Reset none. -/
  own : List PhaseAccepts := []
  /-- The partner's accept lists of the phases not yet applied. Reset none. -/
  other : List PhaseAccepts := []
  /-- Fragment lists received, not yet sent: tree and frame first (R405). Reset none. -/
  recipes : List Recipe := []
  /-- The reference chip's time for the frame to come (R384). Reset none. -/
  time : Option PairTime := none
  /-- The epoch of the last TIME_PAIR_DIFF record (R384). Reset none. -/
  timeRec : Option Nat := none
  /-- Pair-wide commands sent that wait for their acknowledgement (R401). Reset none. -/
  staged : List Staged := []
  /-- Per tree, the residual offset o[t] (R421). Reset 0. -/
  offsets : Tab Int := []
  /-- Downstream endpoint messages agreed, not yet applied: upstream phase, owner of the rule and message, in the
  reference chip's order (R408). Reset none. -/
  agreedDn : List (Nat × Nat × List Byte) := []
  /-- Fragment lists sent one frame ahead: whether the next downstream frame holds idle fragments only (R404). Reset false. -/
  idleFrame : Bool := false
  deriving DecidableEq, Repr

/-! ### The block -/

/-- The block: everything but the queue of commands. -/
structure Blk where
  clk : Clk := {}
  sys : Sys := {}
  host : HostIf := {}
  tele : Tele := {}
  trees : Tab Tree := []
  terms : Tab Term := []
  gey : Geyser := {}
  sw : Switch := {}
  tim : Tim := {}
  cls : Classify := {}
  dir : Directory := {}
  cip : CipherUnit := {}
  tum : Tumbler := {}
  pair : Pair := {}
  /-- BAR2's MSI-X table and pending-bit array, by function × 16 + vector (R68). Reset: every field of `Msix` at its own. -/
  msix : Tab Msix := []
  /-- What the block has sent, newest first: the model's own log of its outputs. Reset none: DESIGN CHOICE, log 8. -/
  out : List Output := []
  /-- The MODEL's own counter of free values drawn, not the manual's. Reset 0: DESIGN CHOICE, log 9. -/
  free : Nat := 0
  deriving DecidableEq, Repr

/-- The machine: the block and the commands that wait, first in, first out. -/
structure State where
  blk : Blk := {}
  /-- Commands that wait. Reset none. -/
  pending : List Instr := []
  deriving DecidableEq, Repr

/-- The machine right after reset: power has just come up and RESET_N is low, so everything is held in
reset (R491, R493), at the values the fields give. -/
def State.reset : State := {}

end Sys2Proof.Machine
end

