-- ==== Sys2Proof/Machine/Operands.lean ====
section
/-! DEFINITION. Operand forms: bit fields and byte orders, the payload of an opcode command, identifiers and
the units they name. -/
namespace Sys2Proof.Machine

/-! ### Bits and bytes (R9) -/

/-- Bits [hi:lo] of a word. -/
def bits (w hi lo : Nat) : Nat := w / 2 ^ lo % 2 ^ (hi + 1 - lo)

/-- Bit i of a word. -/
def bit (w i : Nat) : Bool := w / 2 ^ i % 2 == 1

/-- A Bool as a bit. -/
def b2n (b : Bool) : Nat := if b then 1 else 0

/-- The number that bytes spell, least significant byte first (R9, host memory). -/
def leNat : List Byte → Nat
  | [] => 0
  | b :: r => b.toNat + 256 * leNat r

/-- The number that bytes spell, most significant byte first (R9, the wire). -/
def beNat (l : List Byte) : Nat := l.foldl (fun a b => a * 256 + b.toNat) 0

/-- A number as k bytes, least significant first. -/
def toLe (n : Nat) : Nat → List Byte
  | 0 => []
  | k + 1 => BitVec.ofNat 8 n :: toLe (n / 256) k

/-- A number as k bytes, most significant first. -/
def toBe (n k : Nat) : List Byte := (toLe n k).reverse

/-- 64-bit words as bytes in host memory (R9). -/
def wordsLe (ws : List Nat) : List Byte := ws.flatMap (fun w => toLe w 8)

/-- Word i of a byte string in host memory. -/
def leWord (l : List Byte) (i : Nat) : Nat := leNat ((l.drop (8 * i)).take 8)

/-- A signed value of a field of n bits. -/
def signed (w n : Nat) : Int := if w < 2 ^ (n - 1) then (w : Int) else (w : Int) - 2 ^ n

/-- A signed value as a field of n bits, two's complement. -/
def unsign (v : Int) (n : Nat) : Nat := (v % (2 ^ n : Int)).toNat

/-- Rounded quotient, half away from zero (R179). -/
def roundDiv (a : Int) (n : Nat) : Int :=
  if 0 ≤ a then ((2 * a.toNat + n) / (2 * n) : Nat)
  else - (((2 * (-a).toNat + n) / (2 * n) : Nat) : Int)

/-- Ceiling of a quotient. -/
def ceilDiv (a b : Nat) : Nat := (a + b - 1) / b

/-- The word made of fields, each a value shifted to its low bit. -/
def pack (fs : List (Nat × Nat)) : Nat := fs.foldl (fun a f => a + f.1 * 2 ^ f.2) 0

/-! ### Units (R52) and what each part fits (R3, R4, R12) -/

/-- Trees fitted. -/
def Part.trees : Sys2Proof.Part → Nat
  | .bvh6400 => 64
  | .bvh6432 => 32
  | .bvh6416e => 16

/-- PART of IDENTITY (R50). -/
def Part.code : Sys2Proof.Part → Nat
  | .bvh6400 => 0x6400
  | .bvh6432 => 0x6432
  | .bvh6416e => 0x6416

/-- Instances of each unit type (R52). -/
def unitCount (utype : Nat) : Nat :=
  match utype with
  | 0x1 => 64
  | 0x2 => 48
  | 0x6 => 2
  | 0x7 => 2
  | 0xC => 16
  | 0xF => 0
  | _ => 1

/-- Whether the part fits a unit, by its UNIT encoding (R3, R6). -/
def unitFitted (p : Sys2Proof.Part) (unit : Nat) : Bool :=
  match unit / 4096 with
  | 0x1 => unit % 4096 < Part.trees p
  | 0x3 => p != .bvh6416e
  | 0x9 => p == .bvh6400
  | 0xA => p != .bvh6416e
  | 0xB => p != .bvh6416e
  | _ => true

/-- The UNIT of a tree. -/
def treeUnit (t : Nat) : Nat := 0x1000 + t

/-- Whether an island is fitted (R12, R465): absent islands are unpowered. -/
def islandFitted (p : Sys2Proof.Part) (i : Nat) : Bool :=
  if i < 64 then i < Part.trees p
  else if i = 77 ∨ i = 82 ∨ i = 83 then p != .bvh6416e
  else if 78 ≤ i ∧ i ≤ 81 then p == .bvh6400
  else decide (i < 102)

/-- UNITS_FITTED of CAPS_QUERY (R73): a type counts when any instance is fitted. -/
def unitsFitted (p : Sys2Proof.Part) : Nat :=
  pack ((List.range 15).map (fun u => (b2n (unitFitted p (u * 4096)), u)))

/-! ### Identifiers (R2) -/

/-- Global terminal ID. -/
def gid (tree index : Nat) : Nat := tree * 512 + index

/-- The tree of a grant queue. -/
def queueTree (q : Nat) : Nat := q / 2048

/-- The tree of a flow index. -/
def flowTree (f : Nat) : Nat := f / 65536

/-! ### Opcodes (R57, R58, R75) -/

/-- Who may issue an opcode (R64, R75): tenant 0, any tenant on what it owns, any tenant. -/
inductive Perm where
  | o | t | a
  deriving DecidableEq, Repr

end Sys2Proof.Machine

namespace Sys2Proof

/-- Word i of the inline payload. -/
def Cmd.word (c : Cmd) (i : Nat) : Nat := c.inl / 2 ^ (64 * i) % 2 ^ 64

/-- Bits [hi:lo] of word i of the inline payload. -/
def Cmd.f (c : Cmd) (i hi lo : Nat) : Nat := Machine.bits (c.word i) hi lo

/-- One bit of the inline payload. -/
def Cmd.b (c : Cmd) (i lo : Nat) : Bool := c.f i lo lo == 1

end Sys2Proof

namespace Sys2Proof.Machine

/-- The byte offset of the field whose low bit is `lo` of payload word i, within the command slot (R57). -/
def fieldAt (i lo : Nat) : Nat := 32 + 8 * i + lo / 8

/-- What the opcode index and its chapter fix for an opcode in one form: its code, who may issue it, its
marks, its unit, its payload and the static checks of its fields. -/
structure Op where
  /-- OPCODE (R75). -/
  code : Nat
  /-- The Tenants column (R75). -/
  perm : Perm
  /-- In the Dormant set (R502). -/
  dormant : Bool := false
  /-- It only reads, so it applies after the writes of its boundary (R33). -/
  read : Bool := false
  /-- It takes AS_OF (R63). -/
  snap : Bool := false
  /-- The unit type it addresses (R52). -/
  utype : Nat
  /-- Its UNIT where the chapter fixes it. -/
  unit : Option Nat := none
  /-- Inline payload bytes. -/
  len : Nat := 0
  /-- Its payload fields: word, high bit, low bit. All other bits are reserved (R54). -/
  fields : List (Nat × Nat × Nat) := []
  /-- Byte offsets of static fields that are out of range or inconsistent (R57). -/
  bad : Cmd → List Nat := fun _ => []
  /-- Units named by identifiers of the payload, with the offset of the identifier (R52). -/
  names : Cmd → List (Nat × Nat) := fun _ => []
  /-- Units named that may differ from the one addressed: only their presence counts. -/
  others : Cmd → List Nat := fun _ => []
  /-- The inline result that comes with BAD_PARAM for the extended input (R506). -/
  extResult : Cmd → List Byte := fun _ => []

/-- The mask of the fields of payload word i. -/
def Op.mask (o : Op) (i : Nat) : Nat :=
  (o.fields.filter (fun f => f.1 == i)).foldl (fun m f => m ||| ((2 ^ (f.2.1 + 1 - f.2.2) - 1) * 2 ^ f.2.2)) 0

/-- The low bit of the reserved field that holds bit n: reserved bits run down from it without a break. -/
def gapLow (mask : Nat) : Nat → Nat
  | 0 => 0
  | n + 1 => if bit mask n then n + 1 else gapLow mask n

/-- Offsets of reserved fields of the payload that are not zero (R54). -/
def Op.reservedBad (o : Op) (c : Cmd) : List Nat :=
  (List.range ((o.len + 7) / 8)).flatMap (fun i =>
    let m := o.mask i
    let top := min 64 (8 * (o.len - 8 * i))
    ((List.range top).filter (fun n => bit (c.word i) n && !bit m n)).map (fun n => fieldAt i (gapLow m n)))

/-- The least of some numbers. -/
def least : List Nat → Option Nat
  | [] => none
  | a :: r => some (r.foldl min a)

/-- Offsets of the header fields at fault (R51, R52, R54, R60, R63, R72). `openEpoch` is OPEN_EPOCH. -/
def Op.headerBad (o : Op) (openEpoch : Nat) (c : Cmd) : List Nat :=
  (if c.inlineLen > 96 ∨ c.inlineLen < o.len then [2] else [])
  ++ (match o.unit with
      | some u => if c.unit = u then [] else [0]
      | none => if c.unit / 4096 = o.utype ∧ c.unit % 4096 < unitCount o.utype then [] else [0])
  ++ (if c.epoch = 0 ∧ c.asap = false then [8] else [])
  ++ (if c.epoch > openEpoch + 2 ^ 24 then [8] else [])
  ++ (if c.extAddr % 64 ≠ 0 then [16] else [])
  ++ (if c.ring = 8 ∧ c.extAddr ≠ 0 then [16] else [])
  ++ (if c.ring = 8 ∧ c.legacy then [3] else [])

/-- Bytes of the extended buffer: none where EXT_ADDR is 0 (R51). -/
def extRoom (c : Cmd) : Nat := if c.extAddr = 0 then 0 else c.extLen

/-- The offset of EXT_LEN, where the extended input is shorter than n bytes. -/
def extNeed (c : Cmd) (n : Nat) : List Nat :=
  if n = 0 then [] else if c.extAddr = 0 then [16] else if c.extLen < n then [26] else []

/-- Offsets of payload identifiers that name another unit of the type addressed (R52). -/
def Op.unitBad (o : Op) (c : Cmd) : List Nat :=
  ((o.names c).filter (fun n => n.1 / 4096 == c.unit / 4096 && n.1 != c.unit)).map Prod.snd

/-- The first offending field among the static ones, if any (R57). -/
def Op.firstBad (o : Op) (openEpoch : Nat) (c : Cmd) : Option Nat :=
  least (o.headerBad openEpoch c ++ o.reservedBad c ++ o.unitBad c ++ o.bad c)

/-- The first unit addressed or named that the part lacks (R5, R57). -/
def Op.absentUnit (o : Op) (p : Part) (c : Cmd) : Option Nat :=
  ((c.unit :: (o.names c).map Prod.fst ++ o.others c).find? (fun u => !unitFitted p u)).map (· / 4096)

/-- Whether the tenant may issue the opcode at all (R64). -/
def Op.permits (o : Op) (tenant : Nat) : Bool := tenant == 0 || o.perm != .o

end Sys2Proof.Machine
end

