-- ==== Sys2Proof/Machine/Flags.lean ====
section
/-! DEFINITION. Status codes, check codes and the small computations that flags and status bits follow. -/
namespace Sys2Proof.Machine

/-- Status codes (R57). -/
inductive Status where
  | ok | late | absent | denied | busy | badParam | dormant | diverged | staleEpoch | unknownOp
  | noSpace | keySpent | fault
  deriving DecidableEq, Repr

/-- The value of a status code (R57). -/
def Status.code : Status → Nat
  | .ok => 0x00
  | .late => 0x01
  | .absent => 0x02
  | .denied => 0x03
  | .busy => 0x04
  | .badParam => 0x05
  | .dormant => 0x06
  | .diverged => 0x07
  | .staleEpoch => 0x08
  | .unknownOp => 0x09
  | .noSpace => 0x0A
  | .keySpent => 0x0B
  | .fault => 0x0C

/-- STATUS4 of a BVH-2100 reply, from the native status (R81). -/
def status4 (st : Nat) : Nat :=
  if st = 0x00 then 0x0 else if st = 0x02 ∨ st = 0x09 then 0x3 else if st = 0x06 then 0x4 else 0x1

/-! ### Check codes -/

/-- One bit step of a CRC that is not reflected, `w` bits wide. -/
def crcBit (w poly acc : Nat) (b : Bool) : Nat :=
  let top := acc / 2 ^ (w - 1) % 2
  let sh := acc * 2 % 2 ^ w
  if (top == 1) != b then sh ^^^ poly else sh

/-- The bits of a byte, most significant first. -/
def byteBits (b : Byte) : List Bool := [7, 6, 5, 4, 3, 2, 1, 0].map (fun i => b.getLsbD i)

/-- A CRC that is not reflected, over bytes in wire order. -/
def crcMsb (w poly init : Nat) (l : List Byte) : Nat :=
  l.foldl (fun a b => (byteBits b).foldl (crcBit w poly) a) init

/-- One bit step of a reflected CRC with the reflected polynomial `rpoly`. -/
def crcRefBit (rpoly acc : Nat) (b : Bool) : Nat :=
  if (acc % 2 == 1) != b then (acc / 2) ^^^ rpoly else acc / 2

/-- A reflected CRC, over bytes in wire order. -/
def crcLsb (rpoly init : Nat) (l : List Byte) : Nat :=
  l.foldl (fun a b => (byteBits b).reverse.foldl (crcRefBit rpoly) a) init

/-- CRC-16/CCITT with initial value 0xFFFF (R92). -/
def crc16 (l : List Byte) : Nat := crcMsb 16 0x1021 0xFFFF l

/-- CRC-8 of a fragment header (R102). -/
def crc8 (l : List Byte) : Nat := crcMsb 8 0x07 0 l

/-- CRC-32C (R99): polynomial 0x1EDC_6F41 reflected, inverted in and out. -/
def crc32c (l : List Byte) : Nat := crcLsb 0x82F63B78 0xFFFFFFFF l ^^^ 0xFFFFFFFF

/-- CRC-32 of Ethernet (R348): polynomial 0x04C1_1DB7 reflected, inverted in and out. -/
def crc32 (l : List Byte) : Nat := crcLsb 0xEDB88320 0xFFFFFFFF l ^^^ 0xFFFFFFFF

/-- The FCS of an Ethernet frame as it is sent: least significant byte first. -/
def fcs (l : List Byte) : List Byte := toLe (crc32 l) 4

/-- Whether a frame's last four bytes are its FCS. -/
def fcsGood (l : List Byte) : Bool := l.drop (l.length - 4) == fcs (l.take (l.length - 4)) && 4 ≤ l.length

/-! ### DEV_STATUS (R50) -/

/-- SELFTEST_BUSY (R50, R494, R503). -/
def Phase.busy : Phase → Bool
  | .reset => true
  | .selfTest => true
  | .warmStart => true
  | _ => false

/-- DORMANT (R50). -/
def Phase.inDormant : Phase → Bool
  | .dormant => true
  | .warmStart => true
  | _ => false

/-- DEV_STATUS, with the pair's role in [59:56] (R50). -/
def devStatusWord (p : Phase) (fwReady compat : Bool) (role : Nat) : Nat :=
  pack [(b2n p.inDormant, 63), (b2n p.busy, 62), (b2n fwReady, 61), (b2n compat, 60), (role % 16, 56)]

end Sys2Proof.Machine
end

