-- ==== Sys2Proof/Machine/Ops.lean ====
section
/-! DEFINITION. The named operations on state: sparse tables, versions, counters, the Vent, fault sources,
outputs, replies, owners and the shape of every meaning. -/
namespace Sys2Proof

/-! ### Sparse tables -/

/-- The entry of key k, the default where none is listed. -/
def Tab.get {α : Type} (d : α) : Tab α → Nat → α
  | [], _ => d
  | (j, v) :: r, k => if j = k then v else Tab.get d r k

/-- Puts a value at a key, keys rising, the default left out. -/
def Tab.set {α : Type} [DecidableEq α] (d : α) : Tab α → Nat → α → Tab α
  | [], k, v => if v = d then [] else [(k, v)]
  | (j, w) :: r, k, v =>
    if k < j then (if v = d then (j, w) :: r else (k, v) :: (j, w) :: r)
    else if k = j then (if v = d then r else (k, v) :: r)
    else (j, w) :: Tab.set d r k v

/-- Changes the entry of a key. -/
def Tab.upd {α : Type} [DecidableEq α] (d : α) (t : Tab α) (k : Nat) (f : α → α) : Tab α :=
  Tab.set d t k (f (Tab.get d t k))

/-- The canonical form: keys strictly rising, no entry equal to the default. -/
def Tab.wf {α : Type} [DecidableEq α] (d : α) : Tab α → Bool
  | [] => true
  | [(_, v)] => decide (v ≠ d)
  | (j, v) :: (k, w) :: r => decide (v ≠ d) && decide (j < k) && Tab.wf d ((k, w) :: r)

/-! ### Versions (R24, R26, R29) -/

/-- The version that is current now. -/
def Vers.cur {α : Type} (d : α) : Vers α → α
  | [] => d
  | (_, x) :: _ => x

/-- The version that was current for epoch n: the newest that began at or before it. -/
def Vers.at {α : Type} (d : α) : Vers α → Nat → α
  | [], _ => d
  | [(_, x)], _ => x
  | (e, x) :: r, n => if e ≤ n then x else Vers.at d r n

/-- The version that was current for epoch n, if it is still kept. -/
def Vers.kept {α : Type} : Vers α → Nat → Option α
  | [], _ => none
  | (e, x) :: r, n => if e ≤ n then some x else Vers.kept r n

/-- A write at epoch n: a new version, or a change of the one that n itself began (R24, R32). -/
def Vers.write {α : Type} (d : α) (v : Vers α) (n : Nat) (f : α → α) : Vers α :=
  match v with
  | [] => [(n, f d)]
  | (e, x) :: r => if e = n then (e, f x) :: r else (n, f x) :: (e, x) :: r

/-- Retirement at the start of epoch m: a version last current at n goes at n + 4 (R29). -/
def Vers.retire {α : Type} (m : Nat) : Vers α → Vers α
  | [] => []
  | [x] => [x]
  | x :: y :: r => if x.1 + 3 ≤ m then [x] else x :: Vers.retire m (y :: r)

end Sys2Proof

namespace Sys2Proof.Machine

/-! ### Order -/

/-- Lexicographic order of two positions. -/
def lexLt : List Nat → List Nat → Bool
  | [], _ :: _ => true
  | a :: r, c :: q => decide (a < c) || (decide (a = c) && lexLt r q)
  | _, [] => false

/-- Puts an element behind those that are not after it. -/
def insertBy {α : Type} (key : α → List Nat) (x : α) : List α → List α
  | [] => [x]
  | a :: r => if lexLt (key x) (key a) then x :: a :: r else a :: insertBy key x r

/-- Sorts by position, equal positions in the order given. -/
def sortBy {α : Type} (key : α → List Nat) (l : List α) : List α := l.foldl (fun acc x => insertBy key x acc) []

/-! ### Output -/

/-- Whether a transmitter sends an output: all but the SMBus answers and the pulses (R521). -/
def Output.serdes (o : Output) : Bool :=
  match o with
  | .smbAck _ => false
  | .smbData _ _ => false
  | .pulse _ _ => false
  | .ppsOut _ _ => false
  | _ => true

/-- Whether an output goes over PCIe. -/
def Output.overPcie (o : Output) : Bool :=
  match o with
  | .hostWrite _ _ _ => true
  | .hostRead _ _ _ => true
  | .msix _ _ => true
  | .configAnswer _ _ => true
  | _ => false

/-- Whether the PCIe side is up (R494, R497, R523). -/
def Blk.pcie (b : Blk) : Bool := b.sys.pcieUp && b.sys.refPcie

/-- Whether a message's vector is masked (R68). -/
def Blk.masked (b : Blk) (o : Output) : Bool :=
  match o with
  | .msix fn v => (Tab.get {} b.msix (fn * 16 + v)).masked
  | _ => false

/-- Whether an output leaves: not while the test port drives the balls (R535), nor through a transmitter after a thermal
trip (R538), nor over PCIe while that is down (R523), nor as a message whose vector is masked (R68). -/
def Blk.leaves (b : Blk) (o : Output) : Bool :=
  b.sys.extest.isNone && !(b.sys.thermTrip && o.serdes) && (b.pcie || !o.overPcie) && !b.masked o

/-- A message whose vector is masked sets its pending bit (R68). -/
def pend (m : Tab Msix) (o : Output) : Tab Msix :=
  match o with
  | .msix fn v => if (Tab.get {} m (fn * 16 + v)).masked then Tab.upd {} m (fn * 16 + v) (fun x => { x with pending := true }) else m
  | _ => m

/-- Sends some outputs out of the block; the last in the list leaves first. -/
def Blk.emits (b : Blk) (l : List Output) : Blk := { b with msix := l.foldl pend b.msix, out := l.filter b.leaves ++ b.out }

/-- Sends something out of the block. -/
def Blk.emit (b : Blk) (o : Output) : Blk := b.emits [o]

/-- Draws the next free value's number. -/
def Blk.draw (b : Blk) : Blk := { b with free := b.free + 1 }

/-! ### Counters (R463 to R467) -/

/-- The address of a counter as one number (R474). -/
def ctrKey (family counter inst : Nat) : Nat := family * 2 ^ 40 + counter * 2 ^ 32 + inst

/-- All ones in 64 bits. -/
def allOnes : Nat := 2 ^ 64 - 1

/-- Counts n events; the flag says that the counter has just saturated (R467). -/
def Ctr.bump (c : Ctr) (n : Nat) : Ctr × Bool :=
  if allOnes ≤ c.val + n then
    ({ c with val := allOnes, sat := true, total := c.total + n }, n ≠ 0 && !c.sat)
  else ({ c with val := c.val + n, total := c.total + n }, false)

/-- Counts in the health island's store. -/
def Tele.bump (t : Tele) (key n : Nat) : Tele × Bool :=
  let r := (Tab.get {} t.ctrs key).bump n
  ({ t with ctrs := Tab.set {} t.ctrs key r.1 }, r.2)

/-! ### The Vent (R471 to R475) -/

/-- A record before the Vent gives it SEQ, epochs and REPEAT. -/
structure RecIn where
  type : Nat
  tenant : Nat := 0x7F
  island : Nat := 101
  object : Nat := 0
  detail : Nat := 0
  w6 : Nat := 0
  w7 : Nat := 0
  first : Option Nat := none
  last : Option Nat := none

/-- The eight words of a record (R473). -/
def Rec.words (r : Rec) : List Nat :=
  [pack [(r.type, 48), (r.tenant, 41), (r.island, 34), (r.rep, 16)], r.seq, r.first, r.last, r.object,
   r.detail, r.w6, r.w7]

/-- The FAULT record's type (R474). -/
def faultType : Nat := 0x0C02

/-- Whether a new record equals a held one (R471). -/
def Rec.same (r : Rec) (n : RecIn) : Bool :=
  r.type == n.type && r.tenant == n.tenant && r.island == n.island && r.object == n.object
  && r.detail == n.detail && r.w6 == n.w6 && (r.w7 == n.w7 || n.type == faultType)

/-- A record merged with an equal one (R471). -/
def Rec.merge (r : Rec) (n : RecIn) (epoch : Nat) : Rec :=
  { r with rep := min 262143 (r.rep + 1), last := n.last.getD epoch,
           w7 := if n.type = faultType then n.w7 else r.w7 }

/-- Records the ring holds (R471, R475). -/
def Tele.capacity (t : Tele) : Nat :=
  match t.ventExt with
  | none => 4096
  | some (_, s) => 2 ^ s

/-- The record a RecIn becomes. -/
def RecIn.toRec (n : RecIn) (seq epoch : Nat) : Rec :=
  { type := n.type, tenant := n.tenant, island := n.island, rep := 1, seq := seq,
    first := n.first.getD epoch, last := n.last.getD epoch, object := n.object, detail := n.detail,
    w6 := n.w6, w7 := n.w7 }

/-- The write of a record to its slot of the extended ring (R475). -/
def Tele.slotWrite (t : Tele) (r : Rec) : List Output :=
  match t.ventExt with
  | none => []
  | some (base, s) => [.hostWrite 0 (base + r.seq % 2 ^ s * 64) (wordsLe r.words)]

/-- Vector 8 of tenant 0, and of the tenant concerned (R473). -/
def ventVectors (tenant : Nat) : List Output :=
  if 1 ≤ tenant ∧ tenant ≤ 64 then [.msix tenant 8, .msix 0 8] else [.msix 0 8]

/-- Appends a record that has a slot (R471). -/
def Blk.ventAppend (b : Blk) (n : RecIn) : Blk :=
  let r := n.toRec b.tele.seq b.clk.epoch
  { b.emits (ventVectors r.tenant ++ b.tele.slotWrite r) with
    tele := { (b.tele.bump (ctrKey 0xC0 0 0) 1).1 with vent := b.tele.vent ++ [r], seq := b.tele.seq + 1 } }

/-- The LOST record of an island (R472). -/
def lostRec (island : Nat) (l : Loss) : RecIn :=
  { type := 0x0C00, object := island, w6 := l.count, w7 := l.first, first := some l.first, last := some l.last }

/-- Writes the pending LOST records, lowest island first, while slots are free (R472). -/
def Blk.flushLost : Nat → Blk → Blk
  | 0, b => b
  | n + 1, b =>
    match b.tele.losses with
    | [] => b
    | (i, l) :: r =>
      if b.tele.vent.length < b.tele.capacity then
        Blk.flushLost n (({ b with tele := { b.tele with losses := r } }).ventAppend (lostRec i l))
      else b

/-- A record that does not merge: LOST records first, then the record, or its loss (R472). -/
def Blk.ventRoom (b : Blk) (n : RecIn) : Blk :=
  let b := Blk.flushLost 128 b
  if b.tele.vent.length < b.tele.capacity then b.ventAppend n
  else
    let e := b.clk.epoch
    let t := (b.tele.bump (ctrKey 0xC4 3 n.island) 1).1
    { b with tele := { t with losses := Tab.upd {} t.losses n.island (fun l =>
        { count := l.count + 1, first := if l.count = 0 then e else l.first, last := e }) } }

/-- One record into the ring: merged, appended or lost (R471, R472). -/
def Blk.ventStore (b : Blk) (n : RecIn) : Blk :=
  match b.tele.vent.getLast? with
  | some r =>
    if r.same n then
      let r' := r.merge n b.clk.epoch
      { b.emits (b.tele.slotWrite r') with
        tele := { (b.tele.bump (ctrKey 0xC0 1 0) 1).1 with vent := b.tele.vent.dropLast ++ [r'] } }
    else b.ventRoom n
  | none => b.ventRoom n

/-- The COUNTER_SAT record of a counter (R467). -/
def satRec (key : Nat) : RecIn := { type := 0x0C01, object := key }

/-- Writes a record, and the COUNTER_SAT records of Vent counters that this saturates (R467, R471). -/
def Blk.ventGo : Nat → Blk → RecIn → Blk
  | 0, b, _ => b
  | f + 1, b, n =>
    let b' := b.ventStore n
    [ctrKey 0xC0 0 0, ctrKey 0xC0 1 0, ctrKey 0xC4 3 n.island].foldl (fun acc k =>
      if (Tab.get {} b'.tele.ctrs k).sat && !(Tab.get {} b.tele.ctrs k).sat then
        Blk.ventGo f { acc with tele := (acc.tele.bump (ctrKey 0xC0 2 0) 1).1 } (satRec k)
      else acc) b'

/-- Writes a record into the Vent (R471). -/
def Blk.vent (b : Blk) (n : RecIn) : Blk := Blk.ventGo 4 b n

/-- Counts n events of a counter; saturation writes one COUNTER_SAT record (R463, R467). -/
def Blk.countN (b : Blk) (family counter inst n : Nat) : Blk :=
  if n = 0 then b
  else
    let key := ctrKey family counter inst
    let r := b.tele.bump key n
    let b' := { b with tele := r.1 }
    if r.2 then ({ b' with tele := (b'.tele.bump (ctrKey 0xC0 2 0) 1).1 }).vent (satRec key) else b'

/-- Counts one event. -/
def Blk.count (b : Blk) (family counter inst : Nat) : Blk := b.countN family counter inst 1

/-- A record written at most once per latch second for its object (R540, second row). -/
def Blk.ventOnce (b : Blk) (mark : Nat) (n : RecIn) : Blk :=
  if (n.type, mark) ∈ b.tele.secDone then b
  else ({ b with tele := { b.tele with secDone := (n.type, mark) :: b.tele.secDone } }).vent n

/-- Counts an event of an object whose record comes at the end of the latch second (R540, first row). -/
def Blk.noteSec (b : Blk) (type object : Nat) : Blk :=
  let e := b.clk.epoch
  { b with tele := { b.tele with secCount := Tab.upd {} b.tele.secCount (type * 2 ^ 32 + object) (fun l =>
      { count := l.count + 1, first := if l.count = 0 then e else l.first, last := e }) } }

/-- A discard of a frame or message whose stamp is too old, at an island (R28). -/
def Blk.staleDiscard (b : Blk) (island : Nat) : Blk :=
  (b.count 0xC4 1 island).noteSec 0x0004 island

/-- The stamp that an island recovers at an epoch from the 4 bits that a descriptor carries: the latest epoch that matches
them (R27). -/
def stampAt (stamp epoch : Nat) : Nat := if stamp ≤ epoch then epoch - (epoch - stamp) % 16 else stamp

/-- Whether work stamped `stamp` is too old at epoch m (R28). -/
def stale (stamp epoch : Nat) : Bool := stampAt stamp epoch + 4 ≤ epoch

/-! ### Fault sources (R476, R477) -/

/-- The number of a fault source (R476). -/
def sourceKey (kind index : Nat) : Nat := kind * 65536 + index

/-- W in seconds and N, as R476 gives them. -/
def windowDefault (kind : Nat) : Nat × Nat :=
  match kind with
  | 0x01 => (60, 2)
  | 0x02 => (1, 64)
  | 0x03 => (1, 8)
  | 0x04 => (1, 4)
  | 0x05 => (1, 4)
  | 0x06 => (3600, 4)
  | 0x07 => (1, 16)
  | 0x08 => (86400, 2)
  | 0x09 => (1, 3)
  | _ => (3600, 2)

/-- W and N in force for a kind (R488). -/
def Tele.window (t : Tele) (kind : Nat) : Nat × Nat :=
  let w := Tab.get (0, 0) t.windows kind
  if w.1 = 0 then windowDefault kind else w

/-- One event of a fault source, judged transient or permanent (R477); the pair's digest is told that a fault record was
written (R414). -/
def Blk.faultEvent (b : Blk) (kind index : Nat) : Blk :=
  let key := sourceKey kind index
  let e := b.clk.epoch
  let src := Tab.get {} b.tele.sources key
  let events := (e :: src.events).take 16
  let w := b.tele.window kind
  let n := (events.filter (fun x => e < x + 1000 * w.1)).length
  let perm := w.2 ≤ n
  let src' := { src with events := events, doomed := src.doomed || perm }
  let b := { b with
    tele := { b.tele with sources := Tab.set {} b.tele.sources key src' }, pair := { b.pair with faulted := true } }
  (b.count 0xCE 0 key).vent { type := faultType, object := key, detail := b2n perm, w7 := n }

/-- A word that fails its channel's check code at an island (R13): what it belongs to is discarded. -/
def Blk.checkFail (b : Blk) (island : Nat) : Blk := (b.count 0xC4 0 island).faultEvent 0x02 island

/-- The role a unit starts with: in service or spare (R476). -/
def spareAtStart (kind index : Nat) : Bool :=
  match kind with
  | 0x04 => index % 3 == 2
  | 0x06 => 32 ≤ index % 34
  | 0x09 => index % 17 == 16
  | 0x0A => 12288 ≤ index
  | _ => false

/-- The role a unit has now. -/
def Tele.role (t : Tele) (kind index : Nat) : Role :=
  match (Tab.get {} t.sources (sourceKey kind index)).role with
  | .initial => if spareAtStart kind index then .spare else .serving
  | r => r

/-- Whether a unit is retired, in any form (R478, R511). -/
def Tele.retired (t : Tele) (kind index : Nat) : Bool :=
  match t.role kind index with
  | .retired => true
  | .testing => true
  | .copying => true
  | .returning => true
  | _ => false

/-- Whether an island is retired, whichever of kinds 0x01, 0x02 and 0x03 judged it (R478). -/
def Tele.islandRetired (t : Tele) (i : Nat) : Bool :=
  t.retired 0x01 i || t.retired 0x02 i || (decide (i < 64) && t.retired 0x03 i)

/-- Sets the role of a unit. -/
def Blk.setRole (b : Blk) (kind index : Nat) (r : Role) : Blk :=
  let key := sourceKey kind index
  { b with tele := { b.tele with sources := Tab.upd {} b.tele.sources key (fun s => { s with role := r, doomed := false }) } }

/-! ### Owners (R65, R66) -/

/-- The owners in force. -/
def Blk.owners (b : Blk) : Owners := Vers.cur {} b.host.owners

/-- The owner of a carrier. -/
def Blk.carrierOwner (b : Blk) (flow : Nat) : Nat := Tab.get 0 b.owners.carrier flow

/-- The owner of a grant queue. -/
def Blk.queueOwner (b : Blk) (q : Nat) : Nat := Tab.get 0 b.owners.queue q

/-- The owner of an endpoint, by its block. -/
def Blk.endpointOwner (b : Blk) (ep : Nat) : Nat := Tab.get 0 b.owners.block (ep / 4096)

/-- The owner of a rule entry, by its partition. -/
def Blk.ruleOwner (b : Blk) (rule : Nat) : Nat := Tab.get 0 b.owners.rules (rule / 256)

/-- Whether a tenant may act on an object of an owner (R64). -/
def mayAct (tenant owner : Nat) : Bool := tenant == 0 || tenant == owner

/-! ### Results and replies (R46, R53 to R57) -/

/-- What an opcode command answers: status, DETAIL, inline result, extended result and TRUNC. -/
structure Res where
  st : Status := .ok
  detail : Nat := 0
  inl : List Byte := []
  ext : List Byte := []
  trunc : Bool := false

/-- A status other than OK, with its DETAIL. -/
def Res.err (st : Status) (detail : Nat := 0) : Res := { st := st, detail := detail }

/-- DENIED for an object (R57). -/
def Res.deniedObject : Res := { st := .denied, detail := 2 }

/-- BAD_PARAM for a field of the payload (R57). -/
def Res.badField (i lo : Nat) : Res := { st := .badParam, detail := fieldAt i lo }

/-- BAD_PARAM for the extended input (R57). -/
def Res.badExt : Res := { st := .badParam, detail := 0xFF }

/-- A result in inline words. -/
def Res.words (ws : List Nat) : Res := { inl := wordsLe ws }

/-- What the sideband returns of a result: inline, extended results too, cut to 32 bytes (R72). -/
def Res.flat (r : Res) : Res :=
  { r with inl := (r.inl ++ r.ext).take 32, ext := [], trunc := r.trunc || decide (32 < r.inl.length + r.ext.length) }

/-- The reply that a result becomes: the extended result cut to EXT_LEN, the inline result to 32 bytes (R53,
R56, R72). -/
def mkReply (opcode : Nat) (c : Cmd) (r : Res) (applied changeSet done : Nat) : Reply :=
  let r := if c.ring = 8 then r.flat else r
  let room := if c.extAddr = 0 then 0 else c.extLen
  { fn := c.tenant, ring := c.ring, pos := c.pos, tag := c.tag, opcode := opcode, status := r.st.code,
    detail := r.detail % 256, applied := applied, changeSet := changeSet, inl := r.inl.take 32,
    ext := r.ext.take room, trunc := r.trunc || decide (room < r.ext.length) || decide (32 < r.inl.length),
    extAddr := c.extAddr, irq := c.irq, legacy := c.legacy, done := done }

/-- The 64-byte reply slot of a native reply (R56). -/
def Reply.slot (r : Reply) (phase : Bool) : List Byte :=
  wordsLe [pack [(r.opcode % 65536, 48), (r.tag % 65536, 32), (r.status, 24), (r.detail, 16), (b2n phase, 15),
                 (b2n r.trunc, 14), (r.inl.length, 0)],
           r.applied % 2 ^ 64, r.ext.length % 2 ^ 24,
           pack [(r.changeSet % 2 ^ 32, 32), (r.pos % 2 ^ 32, 0)]]
  ++ r.inl ++ List.replicate (32 - r.inl.length) 0

/-- The counters of a command's outcome (R466). -/
def Blk.countReply (b : Blk) (tenant : Nat) (st : Status) : Blk :=
  if st = .ok then b.count 0xC5 1 tenant
  else
    let b := b.count 0xC5 2 tenant
    if st = .late then b.count 0xC5 3 tenant else b

/-- The TENANT_DENIED record of a DENIED reply (R59, R540): once per latch second per tenant. -/
def Blk.noteDenied (b : Blk) (tenant opcode : Nat) (st : Status) : Blk :=
  if st = .denied then b.ventOnce tenant { type := 0x0003, tenant := tenant, island := 100, object := opcode }
  else b

/-- Completes a command: counts, records a denial and hands the reply to its ring, to the sideband (R46, R72)
or to nobody: the partner fetched the command (R402), or a PCIe reset has taken its reply away (R495). The sideband's slot has no
reply index, so PHASE is 0 there: DESIGN CHOICE, log 142. -/
def Blk.answer (b : Blk) (opcode : Nat) (c : Cmd) (r : Res) (applied changeSet done : Nat) : Blk :=
  let b := (b.countReply c.tenant r.st).noteDenied c.tenant opcode r.st
  let rep := mkReply opcode c r applied changeSet done
  let b := if r.st = .fault then { b with pair := { b.pair with faulted := true } } else b
  if c.partner ∨ c.mute then b
  else if c.ring = 8 then
    { b with host := { b.host with sb := { b.host.sb with reply := some (rep.slot false) } } }
  else { b with host := { b.host with replies := b.host.replies ++ [rep] } }

/-! ### Configuration and state of units -/

/-- A tree. -/
def Blk.tree (b : Blk) (t : Nat) : Tree := Tab.get {} b.trees t

/-- Changes a tree. -/
def Blk.updTree (b : Blk) (t : Nat) (f : Tree → Tree) : Blk := { b with trees := Tab.upd {} b.trees t f }

/-- A terminal, by global terminal ID. -/
def Blk.term (b : Blk) (g : Nat) : Term := Tab.get {} b.terms g

/-- Changes a terminal. -/
def Blk.updTerm (b : Blk) (g : Nat) (f : Term → Term) : Blk := { b with terms := Tab.upd {} b.terms g f }

/-- Whether this chip is in service: alone, or one of a joined pair (R415). -/
def Blk.lit (b : Blk) : Bool := b.pair.role != .joining && b.pair.role != .isolated

/-- PAIR_WAVE: the strap as sampled, which a part without the Marionette link ignores (R6, R518). -/
def Blk.wave (b : Blk) : Bool := b.sys.part != .bvh6416e && b.sys.straps.pairWave

/-- PAIR_PREF, likewise. -/
def Blk.pref (b : Blk) : Bool := b.sys.part != .bvh6416e && b.sys.straps.pairPref

/-- OPEN_EPOCH: the earliest epoch whose change set is open (R20, R50). -/
def Blk.openEpoch (b : Blk) : Nat := if b.clk.closed then b.clk.epoch + 2 else b.clk.epoch + 1

/-! ### The shape of a meaning -/

/-- The outcome of a command: always a next state, with the queue as it was. -/
def State.run (s : State) (f : Blk → Blk) : Host.Outcome State Fault Refusal := .next { s with blk := f s.blk }

/-- The numbers of an epoch and a frame (R17). -/
def Blk.at (b : Blk) (epoch fc : Nat) : Blk := { b with clk := { b.clk with epoch := epoch, fc := fc } }

/-- An effect that leaves alone what only the epoch sequencer and a start from cold change: CUR_EPOCH, the frame counter, the
part and the straps as sampled (R3, R17, R492). -/
def Blk.timed (b after : Blk) : Blk :=
  { after with
    clk := { after.clk with epoch := b.clk.epoch, fc := b.clk.fc },
    sys := { after.sys with part := b.sys.part, rev := b.sys.rev, straps := b.sys.straps } }

/-- The effect of a unit: it leaves besides the phase of the head-end's life alone (R491, R500, R503). -/
def Blk.within (b after : Blk) : Blk :=
  let r := b.timed after
  { r with sys := { r.sys with phase := b.sys.phase } }

/-- A command whose unit acts in every phase. -/
def State.unit (s : State) (f : Blk → Blk) : Host.Outcome State Fault Refusal := s.run (fun b => b.within (f b))

/-- A command that acts in service alone: in any other phase its units are held in reset or without power
(R493, R501), so it changes nothing. -/
def State.svc (s : State) (f : Blk → Blk) : Host.Outcome State Fault Refusal :=
  s.run (fun b => if b.sys.phase = .service then b.within (f b) else b)

/-- Whether the epoch sequencer runs: in service and in Dormant (R501). -/
def Phase.paced (p : Phase) : Bool := p == .service || p == .dormant || p == .warmStart

/-- A command that acts in service and in Dormant (R501, R502). -/
def State.alive (s : State) (f : Blk → Blk) : Host.Outcome State Fault Refusal :=
  s.run (fun b => if b.sys.phase.paced then b.within (f b) else b)

/-- The static checks of an opcode command, in the order of R58, but for LATE and BUSY, which belong to its
acceptance into a change set: none of them failed, or the status and DETAIL. -/
def Blk.acceptCheck (b : Blk) (o : Op) (c : Cmd) : Option (Status × Nat) :=
  if b.sys.phase.inDormant && !o.dormant then some (.dormant, 0)
  else
    match least ((c.badHeader.toList) ++ (o.firstBad b.openEpoch c).toList) with
    | some off => some (.badParam, off)
    | none =>
      match o.absentUnit b.sys.part c with
      | some u => some (.absent, u)
      | none => if o.permits c.tenant then none else some (.denied, 1)

/-- What stays of an application that met a parity fault: the finding, its counts and its record (R257, R260). -/
def Blk.keepFindings (b after : Blk) : Blk :=
  { b with
    tele := after.tele, msix := after.msix, out := after.out,
    dir := { b.dir with
      faults := after.dir.faults, flowFaults := after.dir.flowFaults, latent := after.dir.latent } }

/-- An application that fails changes nothing (R55). -/
def whole (b : Blk) (r : Blk × Res) : Blk × Res :=
  if r.2.st = .ok then r else if r.2.st = .fault then (b.keepFindings r.1, r.2) else (b, r.2)

/-- DONE_TIME: the time of day in ns, or the frame counter's on a part without a time unit (R78). -/
def Blk.doneTime (b : Blk) : Nat :=
  if b.sys.part = .bvh6416e then b.clk.fc * 125000 else b.tim.tod / 65536 % 2 ^ 64

/-- What applying an opcode command does: its effect, whole or not at all, and its reply, which names the
epoch in force and the change set the command was built for (R31, R55, R56). -/
def Blk.applyOp (b : Blk) (o : Op) (c : Cmd) (f : Cmd → Blk → Blk × Res) (changeSet : Nat) : Blk :=
  let r := whole b (f c b)
  r.1.answer o.code c r.2 b.clk.epoch (changeSet % 2 ^ 32) r.1.doneTime

/-- The result of a command that its static checks reject (R57, R506). -/
def Op.rejection (o : Op) (c : Cmd) (st : Status) (d : Nat) : Res :=
  { st := st, detail := d, inl := if st = .badParam ∧ d = 0xFF then o.extResult c else [] }

/-- An opcode command given by itself: its static checks, then its application in the epoch in force. While
self-test runs, or without power, nothing is taken (R496). -/
def Blk.runOp (b : Blk) (o : Op) (c : Cmd) (f : Cmd → Blk → Blk × Res) : Blk :=
  if b.sys.phase = .service ∨ b.sys.phase = .dormant then
    match b.acceptCheck o c with
    | some (st, d) => b.answer o.code c (o.rejection c st d) b.clk.epoch 0 b.doneTime
    | none => b.applyOp o c f b.clk.epoch
  else b

/-- The meaning of an opcode row. -/
def State.opcode (s : State) (o : Op) (c : Cmd) (f : Cmd → Blk → Blk × Res) : Host.Outcome State Fault Refusal :=
  s.unit (fun b => b.runOp o c f)

/-- The version an S read names (R63). -/
def snapshot {α : Type} (c : Cmd) (epoch : Nat) (d : α) (v : Vers α) : Except Res α :=
  let n := if c.legacy then 0 else c.word 0
  if n = 0 then .ok (Vers.cur d v)
  else if epoch < n then .error (Res.badField 0 0)
  else
    match Vers.kept v n with
    | some x => .ok x
    | none => .error (Res.err .staleEpoch)

end Sys2Proof.Machine
end

