-- ==== Sys2Proof/Machine/Line.lean ====
section
/-! DEFINITION. The line code of a native tree (03): the Reed-Solomon code, the scrambler, and the cutting of bursts and
frames into codewords. -/
namespace Sys2Proof.Machine

/-! ### GF(2^10) (R84) -/

/-- Multiplication by α: p(x) = x^10 + x^3 + 1. -/
def gfX (a : Nat) : Nat := if 1024 ≤ 2 * a then (2 * a) ^^^ 0x409 else 2 * a

/-- The product of two elements. -/
def gfMul (a c : Nat) : Nat :=
  [9, 8, 7, 6, 5, 4, 3, 2, 1, 0].foldl (fun acc i => if bit c i then gfX acc ^^^ a else gfX acc) 0

/-- A power, n counted in bits: a^k for k below 2^n. -/
def gfPow (a k : Nat) : Nat → Nat
  | 0 => 1
  | n + 1 =>
    let h := gfPow a (k / 2) n
    if k % 2 = 1 then gfMul (gfMul h h) a else gfMul h h

/-- α^i. -/
def alpha (i : Nat) : Nat := gfPow 2 (i % 1023) 10

/-- The inverse of an element other than 0. -/
def gfInv (a : Nat) : Nat := gfPow a 1022 10

/-- The value of a polynomial, highest coefficient first. -/
def gfEval (p : List Nat) (x : Nat) : Nat := p.foldl (fun acc c => gfMul acc x ^^^ c) 0

/-- The product of a polynomial, highest coefficient first, and x + a. -/
def timesRoot (p : List Nat) (a : Nat) : List Nat :=
  List.zipWith (· ^^^ ·) (p ++ [0]) (0 :: p.map (gfMul a))

/-- g(x), highest coefficient first. -/
def generator : List Nat := (List.range 20).foldl (fun p i => timesRoot p (alpha i)) [1]

/-! ### Codewords (R85) -/

/-- Bytes as 10-bit symbols: five bytes hold four. -/
def toSymbols (l : List Byte) : List Nat :=
  (List.range (l.length / 5)).flatMap (fun i =>
    let w := beNat ((l.drop (5 * i)).take 5)
    [bits w 39 30, bits w 29 20, bits w 19 10, bits w 9 0])

/-- Symbols as bytes. -/
def ofSymbols (l : List Nat) : List Byte :=
  (List.range (l.length / 4)).flatMap (fun i =>
    toBe ((((l.getD (4 * i) 0) * 1024 + l.getD (4 * i + 1) 0) * 1024 + l.getD (4 * i + 2) 0) * 1024 + l.getD (4 * i + 3) 0) 5)

/-- The 20 parity symbols of data symbols, highest degree first. -/
def parity (d : List Nat) : List Nat :=
  let g := generator.drop 1
  d.foldl (fun r s =>
    let f := s ^^^ r.headD 0
    List.zipWith (· ^^^ ·) (r.drop 1 ++ [0]) (g.map (gfMul f))) (List.replicate 20 0)

/-- The codeword of data bytes, a multiple of five of them. -/
def encodeWord (data : List Byte) : List Byte := data ++ ofSymbols (parity (toSymbols data))

/-! ### Correction (R87) -/

/-- The syndromes of a received word. -/
def syndromes (r : List Nat) : List Nat := (List.range 20).map (fun i => gfEval r (alpha i))

/-- The state of the search for the error locator: C and B lowest coefficient first, L, m and b. -/
structure Locator where
  c : List Nat := [1]
  p : List Nat := [1]
  len : Nat := 0
  m : Nat := 1
  b : Nat := 1

/-- a + k x^m p, lowest coefficient first. -/
def addShifted (a p : List Nat) (k m : Nat) : List Nat :=
  let q := List.replicate m 0 ++ p.map (gfMul k)
  (List.range (max a.length q.length)).map (fun i => a.getD i 0 ^^^ q.getD i 0)

/-- One step of the Berlekamp-Massey algorithm. -/
def Locator.step (syn : List Nat) (s : Locator) (n : Nat) : Locator :=
  let d := (List.range (s.len + 1)).foldl (fun a i => a ^^^ gfMul (s.c.getD i 0) (syn.getD (n - i) 0)) 0
  if d = 0 then { s with m := s.m + 1 }
  else
    let k := gfMul d (gfInv s.b)
    if 2 * s.len ≤ n then { c := addShifted s.c s.p k s.m, p := s.c, len := n + 1 - s.len, m := 1, b := d }
    else { s with c := addShifted s.c s.p k s.m, m := s.m + 1 }

/-- The error at a root x^-1 of the locator (Forney), the first root of g being α^0. -/
def errorValue (syn loc : List Nat) (x : Nat) : Nat :=
  let xi := gfInv x
  let omega := (List.range 20).map (fun i =>
    (List.range (i + 1)).foldl (fun a j => a ^^^ gfMul (loc.getD j 0) (syn.getD (i - j) 0)) 0)
  let at_ := fun (p : List Nat) => gfEval p.reverse xi
  let slope := (List.range (loc.length - 1)).map (fun i => if i % 2 = 0 then loc.getD (i + 1) 0 else 0)
  if at_ slope = 0 then 0 else gfMul x (gfMul (at_ omega) (gfInv (at_ slope)))

/-- A received word corrected, with the number of symbols corrected; none where it is uncorrectable (R87). -/
def correct (r : List Nat) : Option (List Nat × Nat) :=
  let syn := syndromes r
  if syn.all (· == 0) then some (r, 0)
  else
    let loc := (List.range 20).foldl (Locator.step syn) {}
    let n := r.length
    let errs := (List.range n).filterMap (fun j =>
      let x := alpha (n - 1 - j)
      if gfEval loc.c.reverse (gfInv x) = 0 then some (j, errorValue syn loc.c x) else none)
    if loc.len ≤ 10 ∧ errs.length = loc.len then
      let fixed := errs.foldl (fun l e => l.set e.1 (l.getD e.1 0 ^^^ e.2)) r
      if (syndromes fixed).all (· == 0) then some (fixed, loc.len) else none
    else none

/-- A codeword as received: its data bytes, its symbols and how many were corrected; none where it is uncorrectable. -/
structure Word864 where
  bytes : Nat
  symbols : Nat
  result : Option (List Byte × Nat)

/-- Decodes one codeword. -/
def decodeWord (l : List Byte) : Word864 :=
  let s := toSymbols l
  { bytes := l.length - 25, symbols := s.length,
    result := (correct s).map (fun r => (ofSymbols (r.1.take (s.length - 20)), r.2)) }

/-- The codewords of burst bytes: full ones, then the shortened one (R111). -/
def cutWords : Nat → List Byte → List (List Byte)
  | 0, _ => []
  | n + 1, l => if l = [] then [] else l.take 1080 :: cutWords n (l.drop 1080)

/-! ### The scrambler (R88, R89) -/

/-- The generator's output bit, and its next state. -/
def prbsStep (s : Nat) : Bool × Nat :=
  let b := bit s 30 != bit s 27
  (b, s * 2 % 2 ^ 31 + b2n b)

/-- Scrambles, or descrambles, bytes from a seed. -/
def scramble (seed : Nat) (l : List Byte) : List Byte :=
  (l.foldl (fun (a : Nat × List Byte) x =>
    let r := (List.range 8).foldl (fun (y : Nat × Nat) _ =>
      let b := b2n (bit y.1 30 != bit y.1 27)
      (y.1 * 2 % 2 ^ 31 + b, y.2 * 2 + b)) (a.1, 0)
    (r.1, (x ^^^ BitVec.ofNat 8 r.2) :: a.2)) (seed, [])).2.reverse

/-- The seed of a downstream frame. -/
def frameSeed (fc : Nat) : Nat := fc % 2 ^ 30 * 2 + 1

/-- The seed of a burst. -/
def burstSeed (tag term uf : Nat) : Nat := pack [(tag % 4096, 19), (term % 512, 10), (uf % 512, 1), (1, 0)]

/-- A downstream frame as its line bytes: data bytes in 720 codewords, scrambled from the frame header on (R86, R88). -/
def lineFrame (fc : Nat) (data : List Byte) : List Byte :=
  let l := (List.range 720).flatMap (fun k => encodeWord ((data.drop (1055 * k)).take 1055))
  l.take 8 ++ scramble (frameSeed fc) (l.drop 8)

/-! ### The delimiter (R110, R119) -/

/-- The delimiter of a burst. -/
def delimiter : Nat := 0xC4A1E83D76F2095B

/-- The Hamming weight of 64 bits. -/
def weight64 (n : Nat) : Nat := ((List.range 64).filter (bit n)).length

/-- The offset at which a delimiter is accepted within ±w bits of the prediction: the least distance, at most 6, and of
equal ones the earliest (R119). `n` bits were searched, the first of them at `first`. -/
def findDelimiter (searched n : Nat) (first : Int) (w : Nat) : Option Int :=
  let hits := (List.range (n - 63)).filterMap (fun (i : Nat) =>
    let off : Int := first + (i : Nat)
    let d := weight64 ((searched / 2 ^ (n - 64 - i) % 2 ^ 64) ^^^ delimiter)
    if off.natAbs ≤ w ∧ d ≤ 6 then some (d, off) else none)
  (hits.foldl (fun (a : Option (Nat × Int)) h => match a with
    | some x => if h.1 < x.1 then some h else a
    | none => some h) none).map Prod.snd

end Sys2Proof.Machine
end

