-- ==== Sys2Proof/Machine/GeyBase.lean ====
section
/-! DEFINITION. Geyser's shared operations (06): sizing a burst, the configuration of queues, the fixed bursts of a
phase and where they lie, and the limits that commands are judged by. -/
namespace Sys2Proof.Machine

/-! ### Sizes (R98, R213, R214) -/

/-- Guard before a burst, in byte-slots (R98). -/
def guardLen : Nat := 64

/-- Byte-slots of a grant phase (R82). -/
def phaseSlots : Nat := 97200

/-- Byte-slots of an upstream frame (R229). -/
def frameSlots : Mode → Nat
  | .xgs => 155520
  | _ => 777600

/-- Data bytes that A payload bytes need (R213). -/
def needOf (a : Nat) : Nat := a + 32 + 8 * ceilDiv a 1040

/-- LENGTH of a data burst for A payload bytes (R213). -/
def sizeFor (a : Nat) : Nat :=
  let n := needOf a / 1055
  let r := needOf a % 1055
  if r = 0 then 200 + 1080 * n
  else
    let r' := max 20 (5 * ceilDiv r 5)
    if r' ≤ 1050 then 200 + 1080 * n + r' + 25 else 200 + 1080 * (n + 1)

/-- Data bytes of a burst (R111, R214). -/
def dataBytes (len : Nat) : Nat :=
  let r := (len - 200) % 1080
  1055 * ((len - 200) / 1080) + (if r = 0 then 0 else r - 25)

/-- The largest A whose need is at most some data bytes (R214). -/
def payloadOf (d : Nat) : Nat :=
  let d := d - 32
  1040 * (d / 1048) + (d % 1048 - 8)

/-- The allowance of a burst on a native tree (R214). -/
def allowanceOf (len : Nat) : Nat := payloadOf (dataBytes len)

/-- Whether a LENGTH is valid for a data or ranging burst (R98). -/
def validLen (len : Nat) : Bool :=
  decide (245 ≤ len) && len % 5 == 0 && ((len - 200) % 1080 == 0 || decide (45 ≤ (len - 200) % 1080))

/-- The largest valid LENGTH of at most n byte-slots, 0 if there is none (R98). -/
def largestValid (n : Nat) : Nat :=
  let x := n - n % 5
  if x < 245 then 0
  else
    let r := (x - 200) % 1080
    if r = 0 ∨ 45 ≤ r then x else x - r

/-- LENGTH for A payload bytes on a tree of a mode (R213, R233). -/
def sizeOn (m : Mode) (a : Nat) : Nat :=
  match m with
  | .native => sizeFor a
  | .fiftyG => Config.stdLength false a
  | .xgs => Config.stdLength true a

/-! ### Configuration (R198, R199, R203) -/

/-- The queue form at reset, by class (R198). -/
def queueReset (cls : Nat) : QueueCfg :=
  { enable := decide (2 ≤ cls), lbLog2 := 0, ar := 0, weight := 1, maxRate := 0, maxBurst := 0, minGrant := 4,
    weightCap := 65535, rateCap := 0 }

/-- The configuration of a queue. -/
def GeyCfg.queue (c : GeyCfg) (q : Nat) : QueueCfg := (Tab.get none c.queues q).getD (queueReset (q % 4))

/-- The tree form of a tree. -/
def GeyCfg.plan (c : GeyCfg) (t : Nat) : PlanCfg := Tab.get {} c.trees t

/-- Geyser's configuration in force. -/
def Blk.geyCfg (b : Blk) : GeyCfg := Vers.cur {} b.gey.cfg

/-- The epoch whose share period holds a map frame (R203). -/
def periodOf (m : Nat) : Nat := (m - 2) / 8

/-- Geyser's configuration for a map frame (R203). -/
def Blk.geyAt (b : Blk) (m : Nat) : GeyCfg := Vers.at {} b.gey.cfg (periodOf m)

/-- The reservations of a tree, by RES_ID. -/
def GeyCfg.treeResv (c : GeyCfg) (t : Nat) : List (Nat × Resv) :=
  c.resv.filterMap (fun r => r.2.bind (fun v => if queueTree v.queue = t then some (r.1, v) else none))

/-- The enabled class-1 queues of a tree with standing bursts, by ID (R196). -/
def GeyCfg.standing (c : GeyCfg) (t : Nat) : List (Nat × QueueCfg) :=
  (c.queues.filterMap (fun q => q.2.map (fun v => (q.1, v)))).filter (fun q =>
    queueTree q.1 == t && q.1 % 4 == 1 && q.2.enable && decide (0 < q.2.ar))

/-- Whether a pattern with period 2^k and offset holds phase j (R196, R221). -/
def inPattern (k off j : Nat) : Bool := j % 2 ^ k == off % 2 ^ k

/-! ### Fixed bursts (R200, R209) -/

/-- A burst that is to be placed. -/
structure Item where
  purpose : GrantFor
  term : Nat
  qclass : Nat
  length : Nat
  kind : Nat
  allowance : Nat
  /-- Clearance on each side (R169). -/
  clearance : Nat := 0
  /-- Where its footprint begins within the phase, where that is set (R221). -/
  offset : Option Nat := none

/-- Footprint of a burst. -/
def Item.footprint (i : Item) : Nat := guardLen + i.length + 2 * i.clearance

/-- LENGTH of a micro-window (R161). -/
def microLen : Nat := 12440

/-- The micro-window. -/
def microItem : Item := { purpose := .micro, term := 0, qclass := 0, length := microLen, kind := 2, allowance := 0 }

/-- The burst of a reservation (R219, R221). -/
def resvItem (id : Nat) (r : Resv) : Item :=
  { purpose := .reservation id, term := r.queue / 4 % 512, qclass := r.queue % 4, length := r.length,
    kind := b2n r.rpt, allowance := allowanceOf r.length, offset := some r.offset }

/-- The standing burst of a queue (R196). -/
def standItem (m : Mode) (q : Nat) (c : QueueCfg) : Item :=
  let len := sizeOn m (16 * c.ar)
  { purpose := .standing, term := q / 4 % 512, qclass := q % 4, length := len, kind := 1,
    allowance := if m = .native then allowanceOf len else 16 * c.ar }

/-- The quiet window of a frame (R148). -/
def quietItem (m : Mode) : Item :=
  { purpose := .quiet, term := 0, qclass := 0, length := frameSlots m - guardLen, kind := 3, allowance := 0 }

/-- The ranging bursts of R169. -/
def rangeItem (k : GrantFor) (idx : Nat) : Item :=
  if k = .rerange then
    { purpose := k, term := idx, qclass := 0, length := 245, kind := 3, allowance := 0, clearance := 128 }
  else { purpose := k, term := idx, qclass := 0, length := 290, kind := 3, allowance := 0, clearance := 8 }

/-- The activation burst of R220. -/
def activationItem (idx : Nat) : Item :=
  { purpose := .activation, term := idx, qclass := 0, length := 490, kind := 1, allowance := allowanceOf 490 }

/-- The reservations of a tree by terminal index, those of the queues that `live` names (R209). -/
def GeyCfg.liveResv (c : GeyCfg) (t : Nat) (live : Nat → Bool) : List (Nat × Resv) :=
  sortBy (fun (r : Nat × Resv) => [r.2.queue / 4, r.1]) ((c.treeResv t).filter (fun r => live r.2.queue))

/-- The reservations and standing bursts of a tree in phase j of an epoch, those of the queues that `live` names. -/
def GeyCfg.patterned (c : GeyCfg) (m : Mode) (t j : Nat) (live : Nat → Bool) : List Item :=
  ((c.liveResv t live).filter (fun r => inPattern r.2.periodLog2 r.2.phaseOff j)).map (fun r => resvItem r.1 r.2)
  ++ ((c.standing t).filter (fun q => inPattern q.2.lbLog2 q.1 j && live q.1)).map (fun q => standItem m q.1 q.2)

/-- The first phase of a pattern in a frame of an epoch. -/
def phaseIn (k off f : Nat) : Option Nat := (List.range 8).find? (fun p => inPattern k off (8 * f + p))

/-- Keeps the first burst of each queue. -/
def oncePerQueue : List Nat → List (Nat × Nat × Item) → List (Nat × Item)
  | _, [] => []
  | seen, (q, x) :: r => if seen.contains q then oncePerQueue seen r else x :: oncePerQueue (q :: seen) r

/-- The patterned bursts of a standard tree in a frame of an epoch, with their phases: one for each frame that contains a
phase of the pattern, one for each queue, and OFFSET counted from the start of the frame (R146, R233). -/
def GeyCfg.patternedFrame (c : GeyCfg) (m : Mode) (t f : Nat) (live : Nat → Bool) : List (Nat × Item) :=
  oncePerQueue [] (
    (c.liveResv t live).filterMap (fun r => (phaseIn r.2.periodLog2 r.2.phaseOff f).map (fun p =>
      (r.2.queue, p, { resvItem r.1 r.2 with offset := some (p * (frameSlots m / 8) + r.2.offset) })))
    ++ ((c.standing t).filter (fun q => live q.1)).filterMap (fun q => (phaseIn q.2.lbLog2 q.1 f).map (fun p =>
      (q.1, p, standItem m q.1 q.2))))

/-- The reservations and standing bursts of a tree in a frame of an epoch. -/
def GeyCfg.frameItems (c : GeyCfg) (m : Mode) (t f : Nat) (live : Nat → Bool) : List Item :=
  if m = .native then (List.range 8).flatMap (fun p => c.patterned m t (8 * f + p) live)
  else (c.patternedFrame m t f live).map Prod.snd

/-- Occupied spans, first byte-slot and one past the last, kept in order. -/
abbrev Spans := List (Nat × Nat)

/-- Adds a span in order. -/
def addSpan (x : Nat × Nat) : Spans → Spans
  | [] => [x]
  | y :: r => if x.1 ≤ y.1 then x :: y :: r else y :: addSpan x r

/-- The lowest place at or after `pos` that a footprint fits before `top` (R209). -/
def lowestFit (fp top : Nat) : Nat → Spans → Option Nat
  | pos, [] => if pos + fp ≤ top then some pos else none
  | pos, (a, z) :: r => if pos + fp ≤ a then some pos else lowestFit fp top (max pos z) r

/-- Lays bursts out in order; `none` when one does not fit. -/
def layAll (top : Nat) : Spans → List Item → Option Spans
  | occ, [] => some occ
  | occ, i :: r =>
    match (match i.offset with
           | some o => some o
           | none => lowestFit i.footprint top 0 occ) with
    | none => none
    | some o => layAll top (addSpan (o, o + i.footprint) occ) r

/-- The two footprints that the gaps of every phase must still hold (R200). -/
def spareItem : Item := { purpose := .activation, term := 0, qclass := 0, length := 501, kind := 1, allowance := 0 }

/-- Fixed bursts of the busiest frame of an epoch, with the micro-window (R200). -/
def GeyCfg.fixedMost (c : GeyCfg) (m : Mode) (t : Nat) : Nat :=
  ((List.range 8).map (fun f => b2n (m == .native) + (c.frameItems m t f (fun _ => true)).length)).foldl max 0

/-- In-flight entries that R200 keeps for the fixed bursts of a tree. -/
def GeyCfg.kept (c : GeyCfg) (m : Mode) (t lead : Nat) : Nat := (c.fixedMost m t + 8) * (lead + 2)

/-- The third limit of R200. -/
def GeyCfg.entriesOk (c : GeyCfg) (m : Mode) (t lead : Nat) : Bool := decide (c.kept m t lead ≤ (c.plan t).entryReserve)

/-- The first two limits of R200 on the bursts of a phase. -/
def fewEnough (l : List Item) : Bool := decide ((l.map Item.footprint).sum ≤ 72900) && decide (l.length ≤ 40)

/-- The limits of R200 for one phase of a native tree. -/
def GeyCfg.phaseOk (c : GeyCfg) (t winPhase j : Nat) : Bool :=
  let l := (if j % 8 = winPhase then [microItem] else []) ++ c.patterned .native t j (fun _ => true)
  fewEnough l && (layAll phaseSlots [] (l ++ [spareItem, spareItem])).isSome

/-- The limits of R200 for one frame of a standard tree, which is placed as a whole (R233): its phases hold few enough
bursts, all fit, and so do the eight dynamic ones of R541. -/
def GeyCfg.frameOk (c : GeyCfg) (m : Mode) (t f : Nat) : Bool :=
  let l := c.patternedFrame m t f (fun _ => true)
  (List.range 8).all (fun p => fewEnough ((l.filter (fun x => x.1 == p)).map Prod.snd)) && decide (l.length ≤ 512)
  && (layAll (frameSlots m) [] (l.map Prod.snd ++ List.replicate 8 spareItem)).isSome

/-- Whether the fixed bursts of a tree obey R200, and on a standard tree the 512 of R233. -/
def GeyCfg.limitsOk (c : GeyCfg) (m : Mode) (t lead winPhase : Nat) : Bool :=
  c.entriesOk m t lead
  && (if m = .native then (List.range 64).all (c.phaseOk t winPhase) else (List.range 8).all (c.frameOk m t))

/-- The admission capacity of a tree in units (R200, R215). -/
def GeyCfg.admission (c : GeyCfg) (m : Mode) (t : Nat) : Nat :=
  let used := (((List.range 8).flatMap (fun f => c.frameItems m t f (fun _ => true))).map Item.footprint).sum
  (6220800 - used - 8 * microItem.footprint) * (c.plan t).planEff / 16384

/-- Assured units of the enabled class-2 queues of a tree (R200). -/
def GeyCfg.assured (c : GeyCfg) (t : Nat) : Nat :=
  ((c.queues.filterMap (fun q => q.2.map (fun v => (q.1, v)))).map (fun q =>
    if queueTree q.1 = t ∧ q.1 % 4 = 2 ∧ q.2.enable then q.2.ar else 0)).sum

/-- The DISCOVERY_CONFIG of a tree in force. -/
def Tree.discNow (t : Tree) : DiscCfg := Vers.cur {} t.disc

/-- Whether a configuration keeps the limits of R200 on a tree. -/
def Blk.geyOk (b : Blk) (c : GeyCfg) (t : Nat) : Bool :=
  let x := b.tree t
  c.limitsOk x.mode t x.mapLead x.discNow.winPhase && decide (c.assured t ≤ c.admission x.mode t)

/-! ### Demand (R210 to R212) -/

/-- The live state of a queue. -/
def Blk.gq (b : Blk) (q : Nat) : QueueLive := Tab.get {} b.gey.queues q

/-- Changes the live state of a queue. -/
def Blk.updGq (b : Blk) (q : Nat) (f : QueueLive → QueueLive) : Blk :=
  { b with gey := { b.gey with queues := Tab.upd {} b.gey.queues q f } }

/-- The grant queue of a terminal and class (R2). -/
def gqOf (tree term cls : Nat) : Nat := 4 * gid tree term + cls

/-- Current age of a queue at an upstream phase (R212). -/
def QueueLive.current (q : QueueLive) (phase : Nat) : Nat :=
  if q.demand = 0 then 0 else min 255 (q.age + (phase - q.agePhase))

/-- Demand in units (R217). -/
def QueueLive.dem (q : QueueLive) : Nat := ceilDiv q.demand 16

/-- A queue whose demand becomes n; one without demand has no credit (R218). -/
def QueueLive.withDemand (q : QueueLive) (n : Nat) : QueueLive :=
  { q with demand := n, credit := if n = 0 then 0 else q.credit }

/-- A terminal whose index is FREE or PROVISIONED has no demand, credit or age (R211). -/
def Blk.clearQueues (b : Blk) (g : Nat) : Blk :=
  (List.range 4).foldl (fun b c => b.updGq (4 * g + c) (fun q => { q with demand := 0, credit := 0, age := 0 })) b

/-- A terminal as Geyser sees it. -/
def Blk.view (b : Blk) (g : Nat) : TermView := Tab.get {} b.gey.views g

/-- Whether a terminal gets data grants in an upstream frame (R181, R220). -/
def TermView.data (v : TermView) (uf : Nat) : Bool := v.dataFrom.any (fun a => decide (a ≤ uf))

/-- Whether a terminal's reservations and standing bursts are placed: they are suspended while its LOB is set (R220). -/
def TermView.fixed (v : TermView) : Bool := v.state == .active && !v.lob

end Sys2Proof.Machine
end

