-- ==== Sys2Proof/Machine/Crypto.lean ====
section
/-! DEFINITION. The ciphers of the cipher engine (10): AES and its modes, CMAC, GCM and the RFC 3394 key wrap.
The manual names these algorithms and does not restate them; they are those of FIPS 197, SP 800-38 and RFC 3394:
PRESUMED, log 22. -/
namespace Sys2Proof.Machine

/-! ### AES -/

/-- The substitution table, entry x in bits [8x + 7:8x]. -/
def sboxTable : Nat := 0x16bb54b00f2d99416842e6bf0d89a18cdf2855cee9871e9b948ed9691198f8e19e1dc186b95735610ef6034866b53e708a8bbd4b1f74dde8c6b4a61c2e2578ba08ae7a65eaf4566ca94ed58d6d37c8e779e4959162acd3c25c2406490a3a32e0db0b5ede14b8ee4688902a22dc4f816073195d643d7ea7c41744975fec130ccdd2f3ff1021dab6bcf5389d928f40a351a89f3c507f02f94585334d43fbaaefd0cf584c4a39becb6a5bb1fc20ed00d153842fe329b3d63b52a05a6e1b1a2c830975b227ebe28012079a059618c323c7041531d871f1e5a534ccf73f362693fdb7c072a49cafa2d4adf04759fa7dc982ca76abd7fe2b670130c56f6bf27b777c63

/-- The inverse substitution table, laid out alike. -/
def sboxInverse : Nat := 0x7d0c2155631469e126d677ba7e042b17619953833cbbebc8b0f52aae4d3be0a0ef9cc9939f7ae52d0d4ab519a97f51605fec8027591012b131c7078833a8dd1ff45acd78fec0db9a2079d2c64b3e56fc1bbe18aa0e62b76f89c5291d711af1476edf751ce837f9e28535ade72274ac9673e6b4f0cecff297eadc674f4111913a6b8a130103bdafc1020f3fca8f1e2cd00645b3b80558e4f70ad3bc8c00abd890849d8da75746155edab9edfd5048706c92b6655dcc5ca4d41698688664f6f87225d18b6d49a25b76b224d92866a12e084ec3fa420b954cee3d23c2a632947b54cbe9dec444438e3487ff2f9b8239e37cfbd7f3819ea340bf38a53630d56a0952

/-- A table look-up. -/
def sub8 (t x : Nat) : Nat := t / 2 ^ (8 * x) % 256

/-- Multiplication by x in the field of 256 elements. -/
def xtime (a : Nat) : Nat := if 128 ≤ a then ((2 * a) % 256) ^^^ 0x1B else 2 * a

/-- Multiplication in the field of 256 elements, by the low bits of b. -/
def gmul : Nat → Nat → Nat → Nat
  | 0, _, _ => 0
  | n + 1, a, b => (if b % 2 = 1 then a else 0) ^^^ gmul n (xtime a) (b / 2)

/-- Two byte lists, added. -/
def xorList : List Nat → List Nat → List Nat
  | a :: r, b :: q => (a ^^^ b) :: xorList r q
  | _, _ => []

/-- The round constant of round i, from 1. -/
def rcon : Nat → Nat
  | 0 => 0
  | 1 => 1
  | n + 2 => xtime (rcon (n + 1))

/-- The next word of the key schedule: `i` its number, `nk` words in the key, the words so far newest first. -/
def nextKeyWord (nk i : Nat) (ws : List (List Nat)) : List Nat :=
  let t := ws.headD []
  let t := if i % nk = 0 then
      xorList ((t.drop 1 ++ t.take 1).map (sub8 sboxTable)) [rcon (i / nk), 0, 0, 0]
    else if 6 < nk ∧ i % nk = 4 then t.map (sub8 sboxTable) else t
  xorList (ws.getD (nk - 1) []) t

/-- The key schedule, newest word first: n words more. -/
def keyWords (nk : Nat) : Nat → Nat → List (List Nat) → List (List Nat)
  | 0, _, ws => ws
  | n + 1, i, ws => keyWords nk n (i + 1) (nextKeyWord nk i ws :: ws)

/-- Splits a list into pieces of k. -/
def chunks {α : Type} (k : Nat) : Nat → List α → List (List α)
  | 0, _ => []
  | n + 1, l => l.take k :: chunks k n (l.drop k)

/-- The round keys of a key of 16 or 32 bytes, first round first. -/
def roundKeys (key : List Nat) : List (List Nat) :=
  let nk := key.length / 4
  let first := (chunks 4 nk key).reverse
  let ws := (keyWords nk (4 * (nk + 7) - nk) nk first).reverse
  (chunks 4 (nk + 7) ws).map List.flatten

/-- The rows shifted by a number of columns for each row. -/
def shiftBy (f : Nat → Nat → Nat) (s : List Nat) : List Nat :=
  (List.range 16).map (fun i => s.getD (i % 4 + 4 * f (i / 4) (i % 4)) 0)

/-- One column by the matrix whose first row is given. -/
def mixColumn (m : List Nat) (c : List Nat) : List Nat :=
  (List.range 4).map (fun r =>
    (List.range 4).foldl (fun a k => a ^^^ gmul 8 (c.getD k 0) (m.getD ((k + 4 - r) % 4) 0)) 0)

/-- Every column. -/
def mixColumns (m s : List Nat) : List Nat := ((chunks 4 4 s).map (mixColumn m)).flatten

/-- The rounds of encryption. -/
def encRounds : List Nat → List (List Nat) → List Nat
  | s, [] => s
  | s, [k] => xorList (shiftBy (fun c r => (c + r) % 4) (s.map (sub8 sboxTable))) k
  | s, k :: ks =>
    encRounds (xorList (mixColumns [2, 3, 1, 1] (shiftBy (fun c r => (c + r) % 4) (s.map (sub8 sboxTable)))) k) ks

/-- The rounds of decryption, the round keys last round first. -/
def decRounds : List Nat → List (List Nat) → List Nat
  | s, [] => s
  | s, [k] => xorList ((shiftBy (fun c r => (c + 4 - r) % 4) s).map (sub8 sboxInverse)) k
  | s, k :: ks =>
    decRounds (mixColumns [14, 11, 13, 9]
      (xorList ((shiftBy (fun c r => (c + 4 - r) % 4) s).map (sub8 sboxInverse)) k)) ks

/-- AES encryption of one block, round keys given. -/
def aesEnc (ks : List (List Nat)) (blk : List Nat) : List Nat :=
  match ks with
  | [] => blk
  | k :: r => encRounds (xorList blk k) r

/-- AES decryption of one block, round keys given. -/
def aesDec (ks : List (List Nat)) (blk : List Nat) : List Nat :=
  match ks.reverse with
  | [] => blk
  | k :: r => decRounds (xorList blk k) r

/-! ### Modes (R336) -/

/-- Bytes as numbers. -/
def nums (l : List Byte) : List Nat := l.map BitVec.toNat

/-- Numbers as bytes. -/
def byteList (l : List Nat) : List Byte := l.map (BitVec.ofNat 8)

/-- The number that byte values spell, most significant first. -/
def beNum (l : List Nat) : Nat := l.foldl (fun a x => a * 256 + x) 0

/-- A number as k byte values, most significant first. -/
def beList (n k : Nat) : List Nat := (List.range k).map (fun i => n / 256 ^ (k - 1 - i) % 256)

/-- Blocks of 16 in n bytes. -/
def blocks16 (n : Nat) : Nat := (n + 15) / 16

/-- Counter mode: block i of the data uses nonce and count + i. -/
def ctrMode (ks : List (List Nat)) (nonce : List Nat) (count : Nat) (data : List Nat) : List Nat :=
  let n := blocks16 data.length
  (((chunks 16 n data).zip (List.range n)).map (fun d =>
    xorList d.1 (aesEnc ks (nonce ++ beList ((count + d.2) % 2 ^ 32) 4)))).flatten

/-- Multiplication in GHASH's field. -/
def ghashMul : Nat → Nat → Nat → Nat → Nat
  | 0, _, _, z => z
  | n + 1, x, v, z =>
    ghashMul n x (if v % 2 = 1 then (v / 2) ^^^ (0xE1 * 2 ^ 120) else v / 2)
      (if x / 2 ^ n % 2 = 1 then z ^^^ v else z)

/-- A block as a number, filled with zeros. -/
def blockNum (l : List Nat) : Nat := beNum (l ++ List.replicate (16 - l.length) 0)

/-- GHASH over additional data and ciphertext. -/
def ghash (h : Nat) (aad ct : List Nat) : Nat :=
  let bs := (chunks 16 (blocks16 aad.length) aad).map blockNum ++ (chunks 16 (blocks16 ct.length) ct).map blockNum
    ++ [aad.length * 8 * 2 ^ 64 + ct.length * 8]
  bs.foldl (fun y b => ghashMul 128 (y ^^^ b) h 0) 0

/-- The GCM tag. -/
def gcmTag (ks : List (List Nat)) (nonce aad ct : List Nat) : List Nat :=
  let h := beNum (aesEnc ks (List.replicate 16 0))
  xorList (beList (ghash h aad ct) 16) (aesEnc ks (nonce ++ [0, 0, 0, 1]))

/-- GCM encryption: ciphertext, then tag. -/
def gcmSeal (key nonce aad data : List Byte) : List Byte :=
  let ks := roundKeys (nums key)
  let ct := ctrMode ks (nums nonce) 2 (nums data)
  byteList (ct ++ gcmTag ks (nums nonce) (nums aad) ct)

/-- GCM decryption of data that ends in its tag: the plaintext, where the tag verifies. -/
def gcmOpen (key nonce aad data : List Byte) : Option (List Byte) :=
  let ks := roundKeys (nums key)
  let n := data.length - 16
  let ct := nums (data.take n)
  if data.length < 16 then none
  else if nums (data.drop n) = gcmTag ks (nums nonce) (nums aad) ct then
    some (byteList (ctrMode ks (nums nonce) 2 ct))
  else none

/-- CTR encryption of a carrier fragment: block i uses nonce and i + 1 (R336). -/
def ctrSeal (key nonce data : List Byte) : List Byte :=
  byteList (ctrMode (roundKeys (nums key)) (nums nonce) 1 (nums data))

/-- A CMAC subkey doubled. -/
def cmacDouble (l : Nat) : Nat := if 2 ^ 127 ≤ l then ((2 * l) % 2 ^ 128) ^^^ 0x87 else 2 * l

/-- CMAC over a message. -/
def cmac (key msg : List Byte) : List Byte :=
  let ks := roundKeys (nums key)
  let m := nums msg
  let k1 := cmacDouble (beNum (aesEnc ks (List.replicate 16 0)))
  let k2 := cmacDouble k1
  let n := max 1 (blocks16 m.length)
  let bs := chunks 16 n m
  let lastB := bs.getLastD []
  let fin := if lastB.length = 16 then beNum lastB ^^^ k1
    else beNum (lastB ++ [128] ++ List.replicate (15 - lastB.length) 0) ^^^ k2
  let x := bs.dropLast.foldl (fun x b => aesEnc ks (xorList x b)) (List.replicate 16 0)
  byteList (aesEnc ks (xorList x (beList fin 16)))

/-- CBC encryption of whole blocks. -/
def cbcEnc (ks : List (List Nat)) : List Nat → List (List Nat) → List (List Nat)
  | _, [] => []
  | iv, b :: r => let c := aesEnc ks (xorList iv b); c :: cbcEnc ks c r

/-- CBC decryption of whole blocks. -/
def cbcDec (ks : List (List Nat)) : List Nat → List (List Nat) → List (List Nat)
  | _, [] => []
  | iv, b :: r => xorList (aesDec ks b) iv :: cbcDec ks b r

/-- CFB-128 encryption. -/
def cfbEnc (ks : List (List Nat)) : List Nat → List (List Nat) → List (List Nat)
  | _, [] => []
  | iv, b :: r => let c := xorList b (aesEnc ks iv); c :: cfbEnc ks c r

/-- CFB-128 decryption. -/
def cfbDec (ks : List (List Nat)) : List Nat → List (List Nat) → List (List Nat)
  | _, [] => []
  | iv, b :: r => xorList b (aesEnc ks iv) :: cfbDec ks b r

/-- A CIPHER step's work (R442): 0 CBC encrypt, 1 CBC decrypt, 2 CFB encrypt, 3 CFB decrypt. -/
def chainMode (mode : Nat) (key iv data : List Byte) : List Byte :=
  let ks := roundKeys (nums key)
  let bs := chunks 16 (blocks16 data.length) (nums data)
  let iv := nums iv
  byteList (match mode with
    | 0 => (cbcEnc ks iv bs).flatten
    | 1 => (cbcDec ks iv bs).flatten
    | 2 => (cfbEnc ks iv bs).flatten
    | _ => (cfbDec ks iv bs).flatten)

/-- AES of one block, as bytes. -/
def aesBlock (key blk : List Byte) : List Byte := byteList (aesEnc (roundKeys (nums key)) (nums blk))

/-! ### Key wrap (R333) -/

/-- The default initial value. -/
def wrapIv : List Nat := List.replicate 8 0xA6

/-- One pass of the wrap over n registers, from the one numbered i; `t` counts steps. -/
def wrapPass (ks : List (List Nat)) : List (List Nat) → List Nat → Nat → List (List Nat) × List Nat × Nat
  | [], a, t => ([], a, t)
  | r :: rs, a, t =>
    let b := aesEnc ks (a ++ r)
    let rest := wrapPass ks rs (xorList (b.take 8) (beList (t + 1) 8)) (t + 1)
    (b.drop 8 :: rest.1, rest.2)

/-- Passes of the wrap. -/
def wrapGo (ks : List (List Nat)) : Nat → List (List Nat) → List Nat → Nat → List Nat
  | 0, rs, a, _ => a ++ rs.flatten
  | n + 1, rs, a, t => let p := wrapPass ks rs a t; wrapGo ks n p.1 p.2.1 p.2.2

/-- RFC 3394 wrap of a key. -/
def keyWrap (kek key : List Byte) : List Byte :=
  byteList (wrapGo (roundKeys (nums kek)) 6 (chunks 8 (key.length / 8) (nums key)) wrapIv 0)

/-- One pass of the unwrap, the registers last first. -/
def unwrapPass (ks : List (List Nat)) : List (List Nat) → List Nat → Nat → List (List Nat) × List Nat × Nat
  | [], a, t => ([], a, t)
  | r :: rs, a, t =>
    let b := aesDec ks (xorList a (beList t 8) ++ r)
    let rest := unwrapPass ks rs (b.take 8) (t - 1)
    (b.drop 8 :: rest.1, rest.2)

/-- Passes of the unwrap. -/
def unwrapGo (ks : List (List Nat)) : Nat → List (List Nat) → List Nat → Nat → List Nat × List Nat
  | 0, rs, a, _ => (a, rs.reverse.flatten)
  | n + 1, rs, a, t => let p := unwrapPass ks rs a t; unwrapGo ks n p.1 p.2.1 p.2.2

/-- RFC 3394 unwrap: the key, where the recovered initial value is right. -/
def keyUnwrap (kek data : List Byte) : Option (List Byte) :=
  let n := data.length / 8 - 1
  let rs := chunks 8 n (nums (data.drop 8))
  let r := unwrapGo (roundKeys (nums kek)) 6 rs.reverse (nums (data.take 8)) (6 * n)
  if r.1 = wrapIv then some (byteList r.2) else none

/-! ### Check-value units (R348) -/

/-- The initial register of a check. -/
def checkInit (poly : Nat) : Nat :=
  match poly with
  | 1 => 0xFFFFFFFF
  | 2 => 0xFFFFFFFF
  | 3 => 0xFFFF
  | _ => 0

/-- The final XOR of a check. -/
def checkFinal (poly : Nat) : Nat :=
  match poly with
  | 1 => 0xFFFFFFFF
  | 2 => 0xFFFFFFFF
  | _ => 0

/-- The register of a check after some bytes. -/
def checkRun (poly reg : Nat) (l : List Byte) : Nat :=
  match poly with
  | 1 => crcLsb 0xEDB88320 reg l
  | 2 => crcLsb 0x82F63B78 reg l
  | 3 => crcMsb 16 0x1021 reg l
  | 4 => crcMsb 64 0x42F0E1EBA9EA3693 reg l
  | _ => 0

/-- Bytes of a check value (R237). -/
def checkWidth (poly : Nat) : Nat :=
  match poly with
  | 1 => 4
  | 2 => 4
  | 3 => 2
  | 4 => 8
  | _ => 0

/-- The check value of some bytes, as it is sent (R348, R349). -/
def checkBytes (poly : Nat) (l : List Byte) : List Byte :=
  toBe (checkRun poly (checkInit poly) l ^^^ checkFinal poly) (checkWidth poly)

/-- CRC-64/ECMA of some bytes from a register (R348, R413). -/
def crc64 (reg : Nat) (l : List Byte) : Nat := checkRun 4 reg l

end Sys2Proof.Machine
end

