-- ==== Sys2Proof/Machine/DirBase.lean ====
section
/-! DEFINITION. Endpoint and flow contexts in HBM: their layouts (R237, R259), the check code of their granules
(R239, R260) and the operations that read and write them. -/
namespace Sys2Proof.Machine

/-! ### Places (R235, R236) -/

/-- The directory instance of an endpoint: ID bit 12. -/
def stackOf (e : Nat) : Nat := e / 4096 % 2

/-- The directory island of an endpoint. -/
def dirIsland (e : Nat) : Nat := 66 + stackOf e

/-- The bank of an endpoint, numbered over both stacks (R328). -/
def bankOf (e : Nat) : Nat := 32 * stackOf e + e % 32

/-- The Tumbler cluster of an endpoint (R436). -/
def clusterOf (e : Nat) : Nat := bankOf e / 4

/-- Counts in a directory island and in a tenant's copy (R267). -/
def Blk.countDir (b : Blk) (ctr island tenant n : Nat) : Blk := (b.countN 0x54 ctr island n).countN 0x55 ctr tenant n

/-- Counts for an endpoint: its island, and the owner of its block. -/
def Blk.countEp (b : Blk) (ctr e : Nat) : Blk := b.countDir ctr (dirIsland e) (b.endpointOwner e) 1

/-! ### Layouts -/

/-- The 32 words of a context (R237). -/
def Ctx.words (c : Ctx) (tenant : Nat) : List Nat :=
  [pack [(b2n c.valid, 63), (b2n c.bound, 62), (b2n c.isStatic, 61), (c.terminal, 46), (c.carrier, 30), (tenant, 23),
         (c.svc, 16), (c.prot, 13), (c.poly, 10), (b2n c.aliveEn, 9), (b2n c.outageEn, 8)],
   pack [(c.candTerminal, 49), (c.candCarrier, 33), (c.candCount, 31)], c.candFirst, c.lastSeen,
   pack [(b2n c.stale, 62), (b2n c.gasped, 60)], c.gaspEpoch]
  ++ (List.range 5).map (fun i => c.wrapped / 2 ^ (64 * i) % 2 ^ 64)
  ++ [pack [(c.keyGen, 33), (b2n c.keyLoaded, 32), (b2n c.key256, 31), (b2n c.keyWarn, 30), (b2n c.keySpent, 29)],
      c.txCounter, c.txLease, c.rxCounter, c.checkValue, pack [(c.aliveLast, 48), (b2n c.aliveSeen, 47)]]
  ++ (List.range 7).map (fun i => c.handler / 2 ^ (64 * i) % 2 ^ 64)
  ++ (List.range 8).map (fun i => c.host / 2 ^ (64 * i) % 2 ^ 64)

/-- The words from i, n of them, as one number. -/
def wordsNum (ws : List Nat) (i n : Nat) : Nat :=
  (List.range n).foldl (fun a k => a + ws.getD (i + k) 0 * 2 ^ (64 * k)) 0

/-- A context from its words. -/
def Ctx.ofWords (ws : List Nat) : Ctx :=
  let w := fun (i : Nat) => ws.getD i 0
  { valid := bit (w 0) 63, bound := bit (w 0) 62, isStatic := bit (w 0) 61, terminal := bits (w 0) 60 46,
    carrier := bits (w 0) 45 30, svc := bits (w 0) 22 16, prot := bits (w 0) 15 13, poly := bits (w 0) 12 10,
    aliveEn := bit (w 0) 9, outageEn := bit (w 0) 8, candTerminal := bits (w 1) 63 49, candCarrier := bits (w 1) 48 33,
    candCount := bits (w 1) 32 31, candFirst := w 2, lastSeen := w 3, stale := bits (w 4) 63 62 == 1,
    gasped := bits (w 4) 61 60 == 1, gaspEpoch := w 5, wrapped := wordsNum ws 6 5, keyGen := bits (w 11) 63 33,
    keyLoaded := bit (w 11) 32, key256 := bit (w 11) 31, keyWarn := bit (w 11) 30, keySpent := bit (w 11) 29,
    txCounter := w 12, txLease := w 13, rxCounter := w 14, checkValue := w 15, aliveLast := bits (w 16) 63 48,
    aliveSeen := bit (w 16) 47, handler := wordsNum ws 17 7, host := wordsNum ws 24 8 }

/-- The eight words of a flow context (R259). -/
def Flow.words (f : Flow) : List Nat :=
  [pack [(f.dnSeq, 43), (f.upSeq, 22), (b2n f.upOpen, 21)], f.dnCounter,
   pack [(f.dnKeyGen, 33), (f.dnSlot, 31)], f.lastUp, f.lastDn, 0, f.host % 2 ^ 64, f.host / 2 ^ 64 % 2 ^ 64]

/-- A flow context from its words. -/
def Flow.ofWords (ws : List Nat) : Flow :=
  let w := fun (i : Nat) => ws.getD i 0
  { dnSeq := bits (w 0) 63 43, upSeq := bits (w 0) 42 22, upOpen := bit (w 0) 21, dnCounter := w 1,
    dnKeyGen := bits (w 2) 63 33, dnSlot := bits (w 2) 32 31, lastUp := w 3, lastDn := w 4, host := wordsNum ws 6 2 }

/-! ### Granules (R239, R260) -/

/-- The pseudo-channel that serves a bank: its own, or the one that took its slot; one whose copy runs still serves
(R235, R480). -/
def Tele.pchannel (t : Tele) (bank : Nat) : Nat :=
  let own := 34 * (bank / 32) + bank % 32
  let takers := ((List.range 34).map (34 * (bank / 32) + ·)).filter (fun i =>
    (Tab.get {} t.sources (sourceKey 0x06 i)).slot == some own)
  if t.role 0x06 own = .copying then own
  else (takers.find? (fun i => t.role 0x06 i == .copying)).getD (takers.headD own)

/-- A corrected granule: counted, and an event of its pseudo-channel at the 1,024th of an epoch (R239, R476). -/
def Blk.corrected (b : Blk) (pch island tenant : Nat) : Blk :=
  let b := b.countDir 24 island tenant 1
  let n := Tab.get 0 b.tele.corrected pch + 1
  let b := { b with tele := { b.tele with corrected := Tab.set 0 b.tele.corrected pch n } }
  if n = 1024 then b.faultEvent 0x06 pch else b

/-- The first finding of an error in a granule that cannot be corrected: the mark, the event and the record. -/
def Blk.findFault (b : Blk) (flow : Bool) (id g pch : Nat) : Blk :=
  let marks := if flow then b.dir.flowFaults else b.dir.faults
  let m := Tab.get 0 marks id
  if bit m g then b
  else
    let marks := Tab.set 0 marks id (m ||| 2 ^ g)
    let b := { b with dir := if flow then { b.dir with flowFaults := marks } else { b.dir with faults := marks } }
    (b.vent
      (if flow then { type := 0x0502, tenant := b.carrierOwner id, island := if id / 65536 < 64 then id / 65536 else 101, object := id }
       else { type := 0x0501, tenant := b.endpointOwner id, island := dirIsland id, object := id, detail := g })).faultEvent 0x06 pch

/-- The read of a context meets the errors that wait in its granules. -/
def Blk.meetErrors (b : Blk) (flow : Bool) (id : Nat) : Blk :=
  let mine := b.dir.latent.filter (fun x => x.1 == flow && x.2.1 == id)
  let b := { b with dir := { b.dir with latent := b.dir.latent.filter (fun x => !(x.1 == flow && x.2.1 == id)) } }
  mine.foldl (fun b x =>
    let g := x.2.2.1
    let pch := if flow then x.2.2.2.1 else b.tele.pchannel (bankOf id)
    if x.2.2.2.2 then b.findFault flow id g pch
    else if flow then b.corrected pch (66 + pch / 34 % 2) (b.carrierOwner id)
    else b.corrected pch (dirIsland id) (b.endpointOwner id)) b

/-- Reads a context: none where it has a parity fault, which is counted (R257). -/
def Blk.readCtx (b : Blk) (e : Nat) : Blk × Option Ctx :=
  let b := b.meetErrors false e
  if Tab.get 0 b.dir.faults e = 0 then (b, some (Tab.get {} b.dir.ctxs e))
  else (b.countEp 4 e, none)

/-- Writes a context back. -/
def Blk.writeCtx (b : Blk) (e : Nat) (c : Ctx) : Blk := { b with dir := { b.dir with ctxs := Tab.set {} b.dir.ctxs e c } }

/-- Writes a context whole, which ends its faults (R239, R257). -/
def Blk.healCtx (b : Blk) (e : Nat) : Blk :=
  { b with dir := { b.dir with faults := Tab.set 0 b.dir.faults e 0, latent := b.dir.latent.filter (fun x => !(x.1 == false && x.2.1 == e)) } }

/-- Reads a flow context: none where it has a parity fault, which is counted (R260). -/
def Blk.readFlow (b : Blk) (f : Nat) : Blk × Option Flow :=
  let b := b.meetErrors true f
  if Tab.get 0 b.dir.flowFaults f = 0 then (b, some (Tab.get {} b.dir.flows f))
  else (b.countDir 25 66 (b.carrierOwner f) 1, none)

/-- Changes a flow context. -/
def Blk.updFlow (b : Blk) (f : Nat) (g : Flow → Flow) : Blk :=
  { b with dir := { b.dir with flows := Tab.upd {} b.dir.flows f g } }

/-- Writes a flow context whole, which ends its faults (R260). -/
def Blk.healFlow (b : Blk) (f : Nat) : Blk :=
  { b with dir := { b.dir with flowFaults := Tab.set 0 b.dir.flowFaults f 0, latent := b.dir.latent.filter (fun x => !(x.1 == true && x.2.1 == f)) } }

/-- The hardware events that a row carries with it take their places. -/
def Blk.plant (b : Blk) (l : List Upset) : Blk :=
  l.foldl (fun b u =>
    match u with
    | .hbm flow id g ch fatal =>
      { b with dir := { b.dir with latent := b.dir.latent ++ [(flow, id, g % 8, ch, fatal)] } }
    | .cipher item unit unwrap again =>
      { b with cip := { b.cip with upsets := b.cip.upsets ++ [(item, unit, unwrap, again)] } }
    | .checkCfg block =>
      { b with dir := { b.dir with
          blockFaults := Tab.upd none b.dir.blockFaults block (fun x => some (x.getD false)) } }
    | .channel _ => b) b

/-! ### Bindings (R249) -/

/-- BOUND_COUNT rises for a terminal. -/
def Blk.boundUp (b : Blk) (g : Nat) : Blk :=
  { b with dir := { b.dir with boundCount := Tab.upd 0 b.dir.boundCount g (· + 1) } }

/-- BOUND_COUNT falls for a terminal. -/
def Blk.boundDown (b : Blk) (g : Nat) : Blk :=
  { b with dir := { b.dir with boundCount := Tab.upd 0 b.dir.boundCount g (· - 1) } }

/-- Keeps BOUND_COUNT when a context changes from `old` to `new` (R249). -/
def Blk.rebound (b : Blk) (old new : Ctx) : Blk :=
  let b := if old.bound then b.boundDown old.terminal else b
  if new.bound then b.boundUp new.terminal else b

/-- Writes a context and keeps BOUND_COUNT. -/
def Blk.putCtx (b : Blk) (e : Nat) (old new : Ctx) : Blk := (b.rebound old new).writeCtx e new

/-! ### CHECK_CONFIG (R352) -/

/-- The block configuration of an endpoint: the reset values where its entry has a parity fault, which is counted,
and recorded the first time. -/
def Blk.blockCfg (b : Blk) (e : Nat) : Blk × BlockCfg :=
  let k := e / 4096
  match Tab.get none b.dir.blockFaults k with
  | none => (b, Tab.get {} b.dir.blocks k)
  | some known =>
    let b := b.count 0x84 4 (dirIsland e)
    let b := if known then b
      else ({ b with dir := { b.dir with blockFaults := Tab.set none b.dir.blockFaults k (some true) } }).vent
        { type := 0x0805, tenant := b.endpointOwner e, island := dirIsland e, object := k }
    (b, {})

end Sys2Proof.Machine
end

