-- ==== Sys2Proof/Machine/SwitchBase.lean ====
section
/-! DEFINITION. The switch core's shared operations (09): ports and queues, admission, copies made at the
input, and what the time unit needs of the uplink and Fumarole ports. -/
namespace Sys2Proof.Machine

/-- A raw arrival time as the head-end knows it: a part without a time unit has no hardware timestamps (R6). -/
def Blk.stampedTime (b : Blk) (t : Int) : Int := if b.sys.part = .bvh6416e then Config.noStamp t else t

/-! ### Ports, sub-ports and queues (R293, R294, R313) -/

/-- The switch core's configuration in force. -/
def Blk.swCfg (b : Blk) : SwCfg := Vers.cur {} b.sw.cfg

/-- The switch core's configuration for a stamp (R26). -/
def Blk.swAt (b : Blk) (stamp : Nat) : SwCfg := Vers.at {} b.sw.cfg (stampAt stamp b.clk.epoch)

/-- A sub-port. -/
def Blk.sub (b : Blk) (s : Nat) : SubPort := Tab.get {} b.sw.subs s

/-- Changes a sub-port. -/
def Blk.updSub (b : Blk) (s : Nat) (f : SubPort → SubPort) : Blk :=
  { b with sw := { b.sw with subs := Tab.upd {} b.sw.subs s f } }

/-- Whether a port mode forms sub-port i of its port (R313). -/
def modeForms (mode i : Nat) : Bool :=
  match mode with
  | 0 => i == 0
  | 1 => i % 4 == 0
  | _ => true

/-- Whether a sub-port is formed under the mode of its port. -/
def Blk.subFormed (b : Blk) (s : Nat) : Bool :=
  decide (s < 48) && modeForms (Tab.get 0 b.sw.modes (s / 8)) (s % 8)

/-- Whether a sub-port is up: a chip that is not in service holds its sub-ports down (R415). -/
def Blk.subUp (b : Blk) (s : Nat) : Bool := b.lit && b.subFormed s && (b.sub s).enable && (b.sub s).up

/-- The rate of a sub-port in Gbit/s (R313). -/
def Blk.subRate (b : Blk) (s : Nat) : Nat :=
  match Tab.get 0 b.sw.modes (s / 8) with
  | 0 => 800
  | 1 => 400
  | _ => 100

/-- The sum of the rates of the sub-ports that are up. -/
def Blk.upRate (b : Blk) : Nat := (((List.range 48).filter b.subUp).map b.subRate).sum

/-- What is wrong with a port code that must be a tree's or a sub-port's (R294): the offset is the field's. -/
def Blk.portBad (b : Blk) (port off : Nat) : Option Res :=
  if port < 64 then (if port < Part.trees b.sys.part then none else some (Res.err .absent 0x1))
  else if port < 112 then (if b.subFormed (port - 64) then none else some (Res.err .badParam off))
  else some (Res.err .badParam off)

/-- The queue of a traffic class at a tree or sub-port. -/
def classQueue (port cls : Nat) : Nat := if port < 64 then 8 * port + cls else 512 + 8 * (port - 64) + cls

/-- The Fumarole queue. -/
def fumaroleQueue : Nat := 896

/-- The endpoint queue. -/
def endpointQueue : Nat := 897

/-- A host queue of a tenant. -/
def hostQueue (tenant kind : Nat) : Nat := 1024 + 4 * tenant + kind

/-- The port that serves a queue. -/
def portOf (q : Nat) : Nat :=
  if q < 512 then q / 8
  else if q < 896 then 64 + (q - 512) / 8
  else if q = 896 then 112
  else if q = 897 then 113
  else 114

/-- The threshold group of a queue (R296). -/
def queueGroup (q : Nat) : Nat :=
  if q < 896 then q % 8 else if q = 896 then 8 else if q = 897 then 9 else 10 + q % 4

/-- ALPHA_LOG2 of a group at reset (R296). -/
def alphaReset (g : Nat) : Int :=
  if g < 6 then 0 else if g = 6 then 1 else if g = 7 then 2 else if g = 8 then -3 else if g = 9 then 2 else -4

/-- ALPHA_LOG2 of a group. -/
def SwCfg.alpha (c : SwCfg) (g : Nat) : Int :=
  let v := Tab.get 0 c.alphas g
  if v = 0 then alphaReset g else (v : Int) - 7

/-- QUEUE_CONFIG of a class queue, with its reset value (R299, R321). -/
def SwCfg.queueSet (c : SwCfg) (q : Nat) : QueueSet :=
  (Tab.get none c.queues q).getD ⟨decide (q % 8 < 4), 1⟩

/-! ### Cells and admission (R295 to R298) -/

/-- Cells of the Caldera. -/
def calderaCells : Nat := 786432

/-- Bytes of a frame, FCS included. -/
def Frame.length (f : Frame) : Nat := f.data.length + f.fcsLen

/-- Cells a frame occupies. -/
def Frame.cells (f : Frame) : Nat := ceilDiv f.length 256

/-- The frame as it entered. -/
def Frame.orig (f : Frame) : List Byte := if f.entered = [] then f.data else f.entered

/-- The cells of some frames. -/
def cellsOf (l : List Frame) : Nat := (l.map Frame.cells).sum

/-- Every list of frames that holds cells. -/
def Blk.stores (b : Blk) : List (List Frame) := b.sw.queues.map Prod.snd ++ b.sw.treeTx.map Prod.snd

/-- Cells held. -/
def Blk.cellsHeld (b : Blk) : Nat := (b.stores.map cellsOf).sum

/-- C_up: cells held by frames whose input is a tree (R298). -/
def Blk.cUp (b : Blk) : Nat := (b.stores.map (fun l => cellsOf (l.filter (fun f => f.input < 64)))).sum

/-- The frames of a queue. -/
def Blk.queue (b : Blk) (q : Nat) : List Frame := Tab.get [] b.sw.queues q

/-- Replaces the frames of a queue. -/
def Blk.setQueue (b : Blk) (q : Nat) (l : List Frame) : Blk :=
  { b with sw := { b.sw with queues := Tab.set [] b.sw.queues q l } }

/-- The limit of R297 for a free space F and an exponent. -/
def admitLimit (free : Nat) (a : Int) : Nat :=
  if 0 ≤ a then free * 2 ^ a.toNat else free / 2 ^ (-a).toNat

/-- The test of R297. -/
def Blk.admits (b : Blk) (q : Nat) (f : Frame) : Bool :=
  let n := if f.cutThrough then 1 else f.cells
  decide (cellsOf (b.queue q) + n ≤ admitLimit (calderaCells - b.cellsHeld) (b.swCfg.alpha (queueGroup q)))

/-- Admission to a queue: the frame is queued, or discarded and counted (R297, R319); one that is admitted and finds no free cell
for a later cell is found bad at that cell, and discarded (R306). The flag says whether it is queued. -/
def Blk.admitFlag (b : Blk) (q : Nat) (f : Frame) : Blk × Bool :=
  if 512 ≤ q ∧ q < 896 ∧ !b.subUp ((q - 512) / 8) then (b.count 0x76 5 (portOf q), false)
  else if !b.admits q f then (b.count 0x77 0 q, false)
  else if calderaCells < b.cellsHeld + f.cells then (b.count 0x76 4 (portOf q), false)
  else (b.setQueue q (b.queue q ++ [f]), true)

/-- Admission to a queue. -/
def Blk.enqueue (b : Blk) (q : Nat) (f : Frame) : Blk := (b.admitFlag q f).1

/-- Counts a frame out of a port (R326): `len` its bytes, FCS included. -/
def Blk.countOut (b : Blk) (port len : Nat) : Blk := (b.count 0x76 2 port).countN 0x76 3 port len

/-- Counts a frame into a port (R326). -/
def Blk.countIn (b : Blk) (port len : Nat) : Blk := (b.count 0x76 0 port).countN 0x76 1 port len

/-! ### Copies: mirror and sample (R304, R307 to R309) -/

/-- Seconds and nanoseconds of a time, as the 64 bits of TS_SEC and TS_NS. -/
def tsWord (t : Int) : Nat :=
  let n := (t / 65536).toNat
  pack [(n / 1000000000 % 2 ^ 32, 32), (n % 1000000000, 0)]

/-- What a mirror copy says of its original. -/
structure MirrorOf where
  egress : Bool
  byRule : Bool
  port : Nat
  origLen : Nat
  stamp : Nat
  tenant : Nat
  time : Int
  snap : Nat

/-- The mirror frame of a copy, without its FCS (R308). -/
def mirrorBytes (e : Encap) (m : MirrorOf) (copy : List Byte) : List Byte :=
  let cut := if m.snap = 0 then copy else copy.take (64 * m.snap)
  let hi := pack [(1, 56), (b2n m.egress, 55), (b2n m.byRule, 54), (b2n (cut.length < copy.length), 53),
                  (m.port % 256, 45), (m.origLen % 2 ^ 14, 31), (m.stamp % 16, 27), (m.tenant % 128, 20)]
  toBe e.da 6 ++ toBe e.sa 6 ++ toBe e.etherType 2 ++ toBe hi 8 ++ toBe (tsWord m.time) 8 ++ cut

/-- Queues a mirror copy at the Fumarole port, which counts it at the port concerned (R307, R308). -/
def Blk.mirrorCopy (b : Blk) (f : Frame) (m : MirrorOf) (copy : List Byte) : Blk :=
  let e := (b.swAt f.stamp).encap
  if !e.enable || b.sys.part == .bvh6416e then b
  else if b.tele.islandRetired 77 then b.count 0x76 10 m.port
  else
    let r := b.admitFlag fumaroleQueue
      { data := mirrorBytes e m copy, input := f.input, stamp := f.stamp, bad := f.bad }
    if r.2 then r.1.count 0x76 9 m.port else r.1.count 0x76 10 m.port

/-- The ingress mirror copy of a frame: at most one, by rule or by port (R307, R319); dropped where the input's copy budget is
`spent` (R304). -/
def Blk.mirrorIn (b : Blk) (f : Frame) (byRule : Bool) (tenant : Nat) (spent : Bool) : Blk :=
  let c := b.swAt f.stamp
  let p := Tab.get {} c.mirrors f.input
  if (byRule || p.ing) && spent && c.encap.enable && b.sys.part != .bvh6416e then b.count 0x76 10 f.input
  else if byRule || p.ing then
    b.mirrorCopy f { egress := false, byRule := byRule, port := f.input, origLen := f.orig.length + f.fcsLen,
                     stamp := f.stamp, tenant := if byRule then tenant else 0, time := f.toa,
                     snap := if byRule then c.encap.snap else p.snap } f.orig
  else b

/-- The egress mirror copy of a frame that leaves a port as `wire` (R307). -/
def Blk.mirrorOut (b : Blk) (f : Frame) (port : Nat) (wire : List Byte) : Blk :=
  let p := Tab.get {} (b.swAt f.stamp).mirrors port
  if p.egr then
    b.mirrorCopy f { egress := true, byRule := false, port := port, origLen := wire.length + f.fcsLen,
                     stamp := f.stamp, tenant := 0, time := b.tim.tod, snap := p.snap } wire
  else b

/-- The mirror frame that marks a change of TIME_GEN (R369). -/
def Blk.mirrorMark (b : Blk) (newTod : Nat) : Blk :=
  let e := b.swCfg.encap
  if !e.enable || b.sys.part == .bvh6416e || b.tele.islandRetired 77 then b
  else b.enqueue fumaroleQueue
    { data := mirrorBytes e { egress := false, byRule := false, port := 0xFF, origLen := 0, stamp := b.clk.epoch,
                              tenant := 0, time := newTod, snap := 0 } [],
      input := 112, stamp := b.clk.epoch }

/-- The sample copy with its header (R309). -/
def sampleBytes (f : Frame) (tenant eligible : Nat) : List Byte :=
  wordsLe [pack [(f.input % 256, 56), (tenant % 128, 49), ((f.orig.length + f.fcsLen) % 2 ^ 14, 35)],
           f.stamp % 2 ^ 64, pack [((if f.input < 64 then f.flow else 0) % 2 ^ 22, 42)], eligible % 2 ^ 64]
  ++ f.orig.take 128

/-- The sampler of a frame's input (R309): `asked` is SAMPLE of the result, `tenant` whose queue gets the copy, which is dropped
where the input's copy budget is `spent` (R304). -/
def Blk.sampleIn (b : Blk) (f : Frame) (asked : Bool) (tenant : Nat) (spent : Bool) : Blk :=
  let c := Tab.get {} (b.swAt f.stamp).samples f.input
  if 112 ≤ f.input ∨ !(c.all || asked) then b
  else
    let s := Tab.get {} b.sw.samplers f.input
    let due := decide (0 < c.n) && decide (c.n ≤ s.count + 1)
    let s' : Sampler := { s with count := if due then 0 else s.count + 1, eligible := s.eligible + 1 }
    let b := { b with sw := { b.sw with samplers := Tab.set {} b.sw.samplers f.input s' } }
    if due && spent then b.count 0x76 12 f.input
    else if due then
      let r := b.admitFlag (hostQueue tenant 2)
        { data := sampleBytes f tenant s'.eligible, fcsLen := 0, input := f.input, tenant := tenant, stamp := f.stamp,
          bad := f.bad }
      r.1.count 0x76 (if r.2 then 11 else 12) f.input
    else b

/-- Frames of an input whose classification is still to come. -/
def Blk.unclassified (b : Blk) (input : Nat) : Nat :=
  ((b.cls.wait.flatMap Prod.snd ++ (b.cls.recirc.flatMap Prod.snd).map Recirc.frame).filter (fun f => f.input == input)).length

/-- The copies of a frame that no classification touches: its sampler counts it after the frames that entered before it (R309). -/
def Blk.plainCopies (b : Blk) (f : Frame) (spent : Bool) : Blk :=
  let b := b.mirrorIn f false 0 spent
  let n := b.unclassified f.input
  if n = 0 then b.sampleIn f false 0 spent
  else if 112 ≤ f.input then b
  else { b with sw := { b.sw with samplers := Tab.upd {} b.sw.samplers f.input (fun s => { s with line := s.line ++ [(n, f)] }) } }

/-- A frame of an input is classified, or discarded before: the frames in its sampler's line that no other stands before are
counted (R309). -/
def Blk.lineOn (b : Blk) (input : Nat) (spent : Bool) : Blk :=
  let l := (Tab.get {} b.sw.samplers input).line.map (fun x => (x.1 - 1, x.2))
  let b := if l.isEmpty then b
    else { b with sw := { b.sw with
      samplers := Tab.upd {} b.sw.samplers input (fun s => { s with line := l.filter (fun x => decide (0 < x.1)) }) } }
  (l.filter (fun x => x.1 == 0)).foldl (fun b x => b.sampleIn x.2 false 0 spent) b

/-! ### Destinations (R303, R315 to R318) -/

/-- The mapping of a carrier for a stamp (R318). -/
def Blk.carrierAt (b : Blk) (stamp flow : Nat) : Carrier := Tab.get {} (b.swAt stamp).carriers flow

/-- Changes the circuits of a tree. -/
def Blk.updCircuit (b : Blk) (flow : Nat) (f : Circuit → Circuit) : Blk :=
  b.updTree (flowTree flow) (fun t =>
    { t with circuits := Tab.upd none t.circuits (flow % 65536) (fun c => c.map f) })

/-- An SDU has arrived in a direction, in a grant phase (R129, R130). -/
def CircuitDir.note (d : CircuitDir) (slot : Nat) (sdu : List Byte) (cls : Option Nat) : CircuitDir :=
  { d with saved := some (sdu, cls), arrived := if d.arrived.contains slot then d.arrived else d.arrived ++ [slot] }

/-- A good upstream SDU of a circuit carrier belongs to the phase in which its burst was granted (R129). -/
def Circuit.arriveUp (c : Circuit) (slot : Nat) (sdu : List Byte) : Circuit :=
  if bit c.dir 0 then { c with up := c.up.note slot sdu none } else c

/-- A good downstream SDU of a circuit carrier belongs to the period that runs when it reaches the tree's queue (R129, R132). -/
def Circuit.arriveDn (c : Circuit) (sdu : List Byte) (cls : Option Nat) : Circuit :=
  if bit c.dir 1 then { c with dn := c.dn.note c.dn.due sdu cls } else c

/-- The class of a frame at the tree of a carrier: the one decided, or DEF_CLASS (R318). -/
def Blk.treeClass (b : Blk) (f : Frame) (flow : Nat) (cls : Option Nat) : Nat := cls.getD (b.carrierAt f.stamp flow).defClass

/-- Queues a frame in a class of the tree of a carrier. The flag says whether it is queued. -/
def Blk.admitTree (b : Blk) (f : Frame) (flow k : Nat) : Blk × Bool :=
  b.admitFlag (classQueue (flowTree flow) k) { f with flow := flow, tclass := k, stream := 0 }

/-- Queues a frame at the tree of a data carrier; an SDU that reaches the queue of a circuit counts as
arrived, unless it will be found bad (R129, R132, R318). -/
def Blk.toTree (b : Blk) (f : Frame) (flow : Nat) (cls : Option Nat) : Blk :=
  let k := b.treeClass f flow cls
  let r := b.admitTree f flow k
  if r.2 && !f.bad then r.1.updCircuit flow (fun c => c.arriveDn f.data (some k)) else r.1

/-- The copies of a frame for the members of a group, in member order (R303). -/
def Blk.toGroup (b : Blk) (f : Frame) (cls : Option Nat) : List Nat → Blk
  | [] => b
  | m :: r =>
    let b := if (b.carrierAt f.stamp m).purpose = 1 then b.toTree { f with cutThrough := false } m cls else b.count 0x71 0 (flowTree m)
    Blk.toGroup b f cls r

/-- A frame toward a carrier, by the carrier's purpose in force for its stamp (R318). -/
def Blk.toCarrier (b : Blk) (f : Frame) (flow : Nat) (cls : Option Nat) : Blk :=
  let c := b.carrierAt f.stamp flow
  if c.purpose = 1 then b.toTree f flow cls
  else if c.purpose = 4 then b.toGroup f cls (Tab.get [] (b.swAt f.stamp).groups c.group)
  else b.count 0x71 0 (flowTree flow)

/-- Whether a frame that waits at the sequence point goes, itself or by its duplicate, where another frame of its input goes: to
the same sub-port in the same class (R302). -/
def Blk.precedes (b : Blk) (g f : Frame) : Bool :=
  let x := Tab.get {} b.sw.streams g.stream
  g.input == f.input && g.tenant == f.tenant && g.tclass == f.tclass
    && (g.source == f.source || (g.stream != 0 && x.enable && x.dup && x.subB == f.source))

/-- A frame toward an uplink sub-port: a frame of an enabled stream goes by the sequence point (R315 to R317), and so, without a
number, does one that would overtake it there (R302). -/
def Blk.toSub (b : Blk) (f : Frame) (sub : Nat) (cls : Option Nat) (stream : Nat) : Blk :=
  let k := cls.getD (b.sub sub).defClass
  let f := { f with source := sub, tclass := k }
  let park := fun (st : Nat) => { b with sw := { b.sw with seqWait := b.sw.seqWait ++ [{ f with stream := st }] } }
  if stream ≠ 0 ∧ (Tab.get {} b.sw.streams stream).enable then park stream
  else if b.sw.seqWait.any (fun g => b.precedes g f) then park 0
  else b.enqueue (classQueue (64 + sub) k) { f with stream := 0 }

/-! ### Timestamps at the balls of the uplinks (R370) -/

/-- What is added to a departure at the MAC of a sub-port, in units of 2^-16 ns. -/
def Blk.txCorrection (b : Blk) (s : Nat) : Int :=
  match Tab.get 0 b.sw.modes (s / 8) with
  | 0 => 586 * 65536 / 10
  | 1 => 672 * 65536 / 10
  | _ => 884 * 65536 / 10

/-- What is added to an arrival at the MAC of a sub-port, in units of 2^-16 ns. -/
def Blk.rxCorrection (b : Blk) (s : Nat) : Int :=
  match Tab.get 0 b.sw.modes (s / 8) with
  | 0 => -(2124 * 65536 / 10)
  | 1 => -(2319 * 65536 / 10)
  | _ => -(2963 * 65536 / 10)

end Sys2Proof.Machine
end

