-- ==== Sys2Proof/Machine/Cipher.lean ====
section
/-! DEFINITION. The cipher engine and the check-value units (10): lanes, keys, counters and leases, sealing and
opening, and their commands. -/
namespace Sys2Proof.Machine

/-! ### Lanes and unwrap units (R327 to R331) -/

/-- The cipher island that serves a tree's carriers (R328). -/
def cipherOfTree (t : Nat) : Nat := t / 16

/-- The cipher island that serves an endpoint (R328). -/
def cipherOfEp (e : Nat) : Nat := bankOf e / 16

/-- The working lanes of a cipher island, lowest first. -/
def Blk.lanes (b : Blk) (i : Nat) : List Nat :=
  if b.tele.islandRetired (78 + i) then []
  else ([3 * i, 3 * i + 1, 3 * i + 2]).filter (fun l => b.tele.role 0x04 l == .serving)

/-- An island without a working lane lets its work wait; the first time, it writes one record (R331). -/
def Blk.noteDown (b : Blk) (i : Nat) : Blk :=
  if b.cip.down.contains i then b
  else ({ b with cip := { b.cip with down := i :: b.cip.down } }).vent { type := 0x0800, island := 78 + i, object := i }

/-- One operation of the cipher engine on an item: the mismatches that wait for it are handled, and the flag says
whether its result is released (R330, R331). `bytes` is the length of the data. -/
def Blk.cipherOp (b : Blk) (i item : Nat) (unwrap : Bool) (bytes : Nat) : Blk × Bool :=
  let lane := (b.lanes i).headD (3 * i)
  match b.cip.upsets.find? (fun u => u.1 == item && u.2.2.1 == unwrap) with
  | none => (if unwrap then b else b.countN 0x8A 0 lane (blocks16 bytes), true)
  | some u =>
    let unit := u.2.1
    let kind := if unwrap then 0x05 else 0x04
    let inst := if unwrap then 12 + unit else unit
    let b := { b with cip := { b.cip with upsets := b.cip.upsets.filter (· != u) } }
    let b := (b.count 0x8A 1 inst).faultEvent kind unit
    let other := if unwrap then unit else (((b.lanes i).filter (· != unit)).headD unit)
    if u.2.2.2 then
      let b := b.faultEvent kind other
      (b.count 0x8A 2 (if unwrap then inst else other), false)
    else (if unwrap then b else b.countN 0x8A 0 other (blocks16 bytes), true)

/-! ### Keys (R332, R333) -/

/-- The key-encryption key. -/
def Kek.bytes : Kek → List Byte
  | .drawn n => toBe (Config.freeKek n).toNat 32
  | .adopted k => toBe k.toNat 32

/-- Wraps a key under the key-encryption key. -/
def Blk.wrap (b : Blk) (key : List Byte) : List Byte := keyWrap b.cip.kek.bytes key

/-- Unwraps a key kept under the key-encryption key. -/
def Blk.unwrap (b : Blk) (w : List Byte) : Option (List Byte) := keyUnwrap b.cip.kek.bytes w

/-- The wrapped key of a context. -/
def Ctx.wrappedBytes (c : Ctx) : List Byte := toLe c.wrapped (if c.key256 then 40 else 24)

/-- The failed unwrap of an endpoint key: counted, and recorded at most once a second (R333). -/
def Blk.unwrapFail (b : Blk) (e : Nat) : Blk :=
  let b := (b.count 0x84 0 (dirIsland e)).count 0x85 0 (b.endpointOwner e)
  b.ventOnce (dirIsland e) { type := 0x0801, island := dirIsland e, object := dirIsland e, w6 := e }

/-- Unwraps a key kept under the key-encryption key for an item of a cipher island, compared on both datapaths: none where the
comparison fails twice or the initial value is wrong (R330, R331, R333). -/
def Blk.unwrapOp (b : Blk) (i item : Nat) (w : List Byte) : Blk × Option (List Byte) :=
  let r := b.cipherOp i item true 0
  if r.2 then (r.1, r.1.unwrap w) else (r.1, none)

/-- What an unwrap for a message gives (R331, R333). -/
inductive KeyFor where
  | key (k : List Byte)
  | failed
  | mismatch

/-- The key of an endpoint's message. -/
def Blk.endpointKey (b : Blk) (e : Nat) (c : Ctx) : Blk × KeyFor :=
  let r := b.cipherOp (cipherOfEp e) e true 0
  if !r.2 then (r.1, .mismatch)
  else
    match r.1.unwrap c.wrappedBytes with
    | some k => (r.1, .key k)
    | none => (r.1.unwrapFail e, .failed)

/-- The nonce (R337). -/
def nonce (sealer gen counter : Nat) : List Byte :=
  toBe (sealer * 2 ^ 95 + gen % 2 ^ 31 * 2 ^ 64 + counter % 2 ^ 64) 12

/-! ### Leases (R338 to R341) -/

/-- A lease of counters. -/
def leaseSize : Nat := 2 ^ 20

/-- The counter value at which a key is spent (R341). -/
def spentAt : Nat := 2 ^ 64 - 2 ^ 20

/-- The counter value of the warning (R341). -/
def warnAt : Nat := 2 ^ 63

/-- Whether a joined pair runs (R415). -/
def Blk.joined (b : Blk) : Bool := b.pair.role == .active || b.pair.role == .standby

/-- Whether this chip is in service alone and the source of a join (R418, R420). -/
def Blk.feeding (b : Blk) : Bool := b.pair.role == .alone && b.pair.agreed

/-- The class of a link frame's kind (R397). -/
def linkClass (kind : Nat) : Nat :=
  if kind ≤ 3 then 0 else if kind ≤ 8 then 1 else if kind = 0xC ∨ kind = 0xD then 3 else 2

/-- A link frame: KIND, CLASS, LEN, LSEQ and EPOCH, the payload, and the CRC-32C over both (R397). -/
def linkBytes (kind seq epoch : Nat) (payload : List Byte) : List Byte :=
  let l := toBe (pack [(kind % 256, 120), (linkClass kind, 118), (payload.length % 2 ^ 17, 101), (seq % 2 ^ 32, 69),
    (epoch % 2 ^ 64, 5)]) 16 ++ payload
  l ++ toBe (crc32c l) 4

/-- Sends a link frame, numbered in its class (R397). -/
def Blk.sendLink (b : Blk) (kind : Nat) (payload : List Byte) : Blk :=
  let c := linkClass kind
  ({ b with pair := { b.pair with txSeq := Tab.upd 0 b.pair.txSeq c (fun n => (n + 1) % 2 ^ 32) } }.emit
    (.linkFrame (linkBytes kind (Tab.get 0 b.pair.txSeq c) b.clk.epoch payload))).count 0xA4 0 83

/-- Whether the batches of an upstream frame are this chip's own (R177, R208, R425). -/
def Blk.ownBatch (b : Blk) (uf : Nat) : Bool := if uf < b.pair.batchFrom then !b.pair.reference else b.pair.reference

/-- A BATCH frame of the reference chip of a pair, or of the source of a join (R177, R208, R397, R420): the phase, and then items of
a kind each. DESIGN CHOICE, log 90: the layout of the content. -/
def Blk.sendBatch (b : Blk) (t slot : Nat) (items : List (List Nat)) : Blk :=
  if (b.joined && b.ownBatch (slot / 8)) || b.feeding then
    b.sendLink 0x04 (toBe t 1 ++ toBe slot 8 ++ items.flatMap (fun i => i.flatMap (fun w => toBe w 8)))
  else b

/-- The key of a lease as KEY_WARN names it: an endpoint ID, or 2^32 + a flow index. -/
def flowKey (flow : Nat) : Nat := 2 ^ 32 + flow

/-- The cipher island and the tenant of a lease key. -/
def Blk.leaseHome (b : Blk) (key : Nat) : Nat × Nat :=
  if key < 2 ^ 32 then (78 + cipherOfEp key, b.endpointOwner key)
  else (78 + cipherOfTree (flowTree (key - 2 ^ 32)), b.carrierOwner (key - 2 ^ 32))

/-- The carrier's entry in the key store. -/
def Blk.carrier (b : Blk) (flow : Nat) : CarrierKeys := Tab.get {} b.cip.carriers flow

/-- Changes a carrier's entry. -/
def Blk.updCarrier (b : Blk) (flow : Nat) (f : CarrierKeys → CarrierKeys) : Blk :=
  { b with cip := { b.cip with carriers := Tab.upd {} b.cip.carriers flow f } }

/-- The lease of a key. -/
def Blk.lease (b : Blk) (key : Nat) : Lease :=
  if key < 2 ^ 32 then Tab.get {} b.cip.leases key else (b.carrier (key - 2 ^ 32)).lease

/-- Changes the lease of a key. -/
def Blk.updLease (b : Blk) (key : Nat) (f : Lease → Lease) : Blk :=
  if key < 2 ^ 32 then { b with cip := { b.cip with leases := Tab.upd {} b.cip.leases key f } }
  else b.updCarrier (key - 2 ^ 32) (fun c => { c with lease := f c.lease })

/-- Sets E of a key. -/
def Blk.setLeaseEnd (b : Blk) (key e : Nat) : Blk :=
  if key < 2 ^ 32 then b.writeCtx key { Tab.get {} b.dir.ctxs key with txLease := e }
  else b.updCarrier (key - 2 ^ 32) (fun c => { c with leaseEnd := e })

/-- E takes its new value: the lease is taken (R338, R361). -/
def Blk.leaseTaken (b : Blk) (key e : Nat) : Blk :=
  let h := b.leaseHome key
  ((((b.setLeaseEnd key e).updLease key (fun l => { l with waiting := false, adopt := none })).count 0x84 3 h.1).count
    0x85 2 h.2)

/-- The owner of a key: of the endpoint's block, or of the carrier. -/
def Blk.keyOwner (b : Blk) (key : Nat) : Nat :=
  if key < 2 ^ 32 then b.endpointOwner key else b.carrierOwner (key - 2 ^ 32)

/-- Takes the next lease beyond E: written and read back, or at once where LEASE_ADDR is 0 (R338); in a joined
pair the active chip alone writes (R412). The write and the read-back go as the function of the key's owner: DESIGN CHOICE, log 144. -/
def Blk.startLease (b : Blk) (key e : Nat) : Blk :=
  let l := b.lease key
  if l.pending.isSome ∨ l.adopt.isSome then b
  else if l.addr = 0 then b.leaseTaken key (e + leaseSize)
  else
    let b := b.updLease key (fun l => { l with pending := some (e + leaseSize) })
    if b.pair.role = .standby then b
    else (b.emit (.hostWrite (b.keyOwner key) l.addr (toLe (e + leaseSize) 8))).emit (.hostRead (b.keyOwner key) l.addr 8)

/-- What a key's counter limits ask after it has moved to c (R341): the records of a first warning and a first
spending. -/
def Blk.limitRecords (b : Blk) (key c : Nat) (warned spent : Bool) : Blk :=
  let isl := (b.leaseHome key).1
  let own := b.keyOwner key
  let b := if !warned && decide (warnAt ≤ c) then b.vent { type := 0x0802, tenant := own, island := isl, object := key, w6 := c } else b
  if !spent && decide (spentAt ≤ c) then b.vent { type := 0x0803, tenant := own, island := isl, object := key, w6 := c } else b

/-- The slots of a carrier, whose keys share one counter. -/
def carrierSlots : List Nat := [1, 2, 3]

/-- A ciphered carrier's C takes a value, with the limits of all three slots (R341). -/
def Blk.moveCarrier (b : Blk) (flow n : Nat) : Blk :=
  let k := b.carrier flow
  let b := b.limitRecords (flowKey flow) n (k.warn == carrierSlots) (k.spent == carrierSlots)
  let b := b.updCarrier flow (fun k => { k with
    warn := if warnAt ≤ n then carrierSlots else k.warn, spent := if spentAt ≤ n then carrierSlots else k.spent })
  b.updFlow flow (fun f => { f with dnCounter := n })

/-- An endpoint's C takes a value, with its limits (R341). -/
def Blk.moveEp (b : Blk) (e n : Nat) : Blk :=
  let c := Tab.get {} b.dir.ctxs e
  (b.limitRecords e n c.keyWarn c.keySpent).writeCtx e { c with
    txCounter := n, keyWarn := c.keyWarn || decide (warnAt ≤ n), keySpent := c.keySpent || decide (spentAt ≤ n) }

/-- The work that waited for a lease of a key is discarded: its waiting episode is over (R28, R338). -/
def Blk.stopWaiting (b : Blk) (key : Nat) : Blk := b.updLease key (fun l => { l with waiting := false })

/-- Draws an endpoint's next counter: none while the work waits for a lease (R338). -/
def Blk.drawEp (b : Blk) (e : Nat) : Blk × Option Nat :=
  let c := Tab.get {} b.dir.ctxs e
  let n := c.txCounter
  if !c.keyLoaded then (b.writeCtx e { c with txCounter := (n + 1) % 2 ^ 64 }, some n)
  else if c.txLease ≤ n then
    let h := b.leaseHome e
    let l := b.lease e
    let b := if l.waiting then b else (b.count 0x84 2 h.1).count 0x85 1 h.2
    ((b.updLease e (fun l => { l with waiting := true })).startLease e c.txLease, none)
  else
    let b := b.moveEp e (n + 1)
    (if c.txLease ≤ n + 1 + leaseSize / 4 then b.startLease e c.txLease else b, some n)

/-- CARRIER_CIPHER of a carrier for a stamp (R342). -/
def Blk.cipherAt (b : Blk) (stamp flow : Nat) : CipherCfg := Tab.get {} (Vers.at [] b.cip.cfg (stampAt stamp b.clk.epoch)) flow

/-- CARRIER_CIPHER of a carrier in force. -/
def Blk.cipherNow (b : Blk) (flow : Nat) : CipherCfg := Tab.get {} (Vers.cur [] b.cip.cfg) flow

/-- Draws a carrier's next counter; a carrier of MODE 0 draws without a lease (R344): DEDUCED, log 23. -/
def Blk.drawCarrier (b : Blk) (flow : Nat) (ciphered : Bool) : Blk × Option Nat :=
  let n := (Tab.get {} b.dir.flows flow).dnCounter
  let k := b.carrier flow
  if !ciphered then (b.updFlow flow (fun f => { f with dnCounter := (n + 1) % 2 ^ 64 }), some n)
  else if k.leaseEnd ≤ n then
    let h := b.leaseHome (flowKey flow)
    let b := if k.lease.waiting then b else (b.count 0x84 2 h.1).count 0x85 1 h.2
    ((b.updLease (flowKey flow) (fun l => { l with waiting := true })).startLease (flowKey flow) k.leaseEnd, none)
  else
    let b := b.moveCarrier flow (n + 1)
    (if k.leaseEnd ≤ n + 1 + leaseSize / 4 then b.startLease (flowKey flow) k.leaseEnd else b, some n)

/-! ### Endpoint messages (R240, R241) -/

/-- The 16-byte header of a message. -/
def msgHeader (kind endpoint alive len counter : Nat) : List Byte :=
  toBe (pack [(1, 124), (kind % 16, 120), (endpoint % 2 ^ 25, 95), (alive % 65536, 79), (len % 256, 71),
              (counter % 2 ^ 64, 0)]) 16

/-- Seals a message: header, payload and check value, protected as PROT says (R241). -/
def sealMsg (c : Ctx) (key hdr payload : List Byte) (counter : Nat) : List Byte :=
  let plain := payload ++ checkBytes c.poly (hdr ++ payload)
  match c.prot with
  | 1 => hdr ++ gcmSeal key (nonce 0 c.keyGen counter) hdr plain
  | 2 => hdr ++ plain ++ cmac key (hdr ++ plain)
  | _ => hdr ++ plain

/-- Opens a message an endpoint sealed: the plaintext after the header, where the tag verifies. -/
def openMsg (c : Ctx) (key sdu : List Byte) (counter : Nat) : Option (List Byte) :=
  let hdr := sdu.take 16
  let rest := sdu.drop 16
  match c.prot with
  | 1 => gcmOpen key (nonce 1 c.keyGen counter) hdr rest
  | 2 =>
    let n := rest.length - 16
    if rest.length < 16 then none
    else if rest.drop n = cmac key (hdr ++ rest.take n) then some (rest.take n) else none
  | _ => some rest

/-- The running value takes in a payload (R350). -/
def Ctx.take (c : Ctx) (payload : List Byte) : Ctx := { c with checkValue := checkRun c.poly c.checkValue payload }

/-! ### The rows -/

/-- LEASE_READBACK_COMPLETE (R338): the read-back of a key's lease write completes. In a joined pair the new E
waits for the next boundary point (R412). -/
def execLeaseReadbackComplete (key : Nat) (s : State) : Host.Outcome State Fault Refusal :=
  s.svc (fun b =>
    match (b.lease key).pending with
    | none => b
    | some e =>
      let b := b.updLease key (fun l => { l with pending := none })
      if b.joined then
        if b.pair.role = .active then
          (b.updLease key (fun l => { l with adopt := some e })).sendLink 0x08 (toBe key 8 ++ toBe e 8)
        else b.updLease key (fun l => { l with pending := some e })
      else b.leaseTaken key e)

/-- The leases whose read-back has completed are adopted at a boundary point (R412). -/
def Blk.adoptLeases (b : Blk) : Blk :=
  let eps := (b.cip.leases.filterMap (fun x => x.2.adopt.map (fun e => (x.1, e))))
  let cars := (b.cip.carriers.filterMap (fun x => x.2.lease.adopt.map (fun e => (flowKey x.1, e))))
  (eps ++ cars).foldl (fun b x => b.leaseTaken x.1 x.2) b

/-- What the key cache holds of a slot. -/
def Blk.setCache (b : Blk) (flow slot : Nat) (key : List Byte) : Blk :=
  b.updCarrier flow (fun k => { k with cache := Tab.set [] k.cache slot key })

/-- The key of a carrier's slot from the key cache, or unwrapped into it; none where no key is loaded or its unwrap fails
(R332, R334, R342). -/
def Blk.carrierKey (b : Blk) (flow slot : Nat) : Blk × Option (List Byte) :=
  let k := b.carrier flow
  match Tab.get [] k.cache slot, Tab.get none k.slots slot with
  | x :: l, _ => (b, some (x :: l))
  | [], none => (b, none)
  | [], some s =>
    match b.unwrapOp (cipherOfTree (flowTree flow)) flow s.wrapped with
    | (b, none) => (b, none)
    | (b, some key) => (b.setCache flow slot key, some key)

/-- Unwraps the keys of a carrier that becomes ciphered into the key cache (R332). -/
def Blk.fillCache (b : Blk) (flow : Nat) : Blk := carrierSlots.foldl (fun b s => (b.carrierKey flow s).1) b

/-- Whether a carrier is ciphered in a version in use. -/
def Blk.ciphered (b : Blk) (flow : Nat) : Bool := b.cip.cfg.any (fun v => (Tab.get {} v.2 flow).mode != 0)

/-- The key cache lets go of carriers whose MODE is 0 in every version in use (R332). -/
def Blk.dropCaches (b : Blk) : Blk :=
  { b with cip := { b.cip with carriers := b.cip.carriers.foldl (fun (l : Tab CarrierKeys) x =>
      if b.ciphered x.1 then l else Tab.upd {} l x.1 (fun k => { k with cache := [] })) b.cip.carriers } }

/-- KEY_CACHE_REFILL (R334): a parity fault in a cached key, which is unwrapped again. -/
def execKeyCacheRefill (flow slot : Nat) (s : State) : Host.Outcome State Fault Refusal :=
  s.svc (fun b =>
    match Tab.get [] (b.carrier flow).cache slot with
    | [] => b
    | _ => (((b.count 0x84 1 (78 + cipherOfTree (flowTree flow))).setCache flow slot []).carrierKey flow slot).1)

/-! ### KEY_LOAD and KEY_RETIRE (R354 to R356) -/

/-- The fields of KEY_LOAD: word 0 and the identifier in word 1 down to bit `lo`. -/
def keyLoadFields (lo : Nat) (start : Bool) : List (Nat × Nat × Nat) :=
  [(0, 63, 62), (0, 61, 61), (0, 60, 60), (0, 59, 29), (0, 28, 27), (1, 63, lo)]
  ++ (if start then [(2, 63, 0), (3, 63, 0), (4, 63, 0)] else [])
  ++ [(5, 63, 0), (6, 63, 0), (7, 63, 0), (8, 63, 0), (9, 63, 0)]

/-- TX_START and LEASE_ADDR out of form: payload words i and i + 1 (R339, R354). -/
def startBad (c : Cmd) (i : Nat) : List Nat :=
  (if c.word i % 2 ^ 20 ≠ 0 ∨ spentAt ≤ c.word i then [fieldAt i 0] else [])
  ++ (if c.word (i + 1) % 8 ≠ 0 then [fieldAt (i + 1) 0] else [])

/-- The key material of KEY_LOAD: bytes from the lowest address of word 5. -/
def keyMaterial (c : Cmd) : List Byte :=
  let n := (if c.b 0 61 then 32 else 16) + (if c.b 0 60 then 8 else 0)
  toLe (c.inl / 2 ^ 320) n

/-- The key that KEY_LOAD carries, unwrapped under a load key where WRAPPED is 1 (R355). -/
def Blk.loadedKey (b : Blk) (c : Cmd) : Option (List Byte) :=
  if c.b 0 60 then
    match Tab.get [] b.cip.loadKeys c.tenant with
    | [] => none
    | w => (b.unwrap w).bind (fun k => keyUnwrap k (keyMaterial c))
  else some (keyMaterial c)

/-- KEY_LOAD's unwrap as an operation of a cipher island: whether its result is released (R330, R331). -/
def Blk.loadOp (b : Blk) (c : Cmd) (i item : Nat) : Blk × Bool :=
  if c.b 0 60 ∧ Tab.get [] b.cip.loadKeys c.tenant ≠ [] then b.cipherOp i item true 0 else (b, true)

/-- An unwrap that the unwrap unit could not compute (R331): DESIGN CHOICE, log 149. -/
def Res.unwrapFault : Res := Res.err .fault 0x9

/-- KEY_LOAD of an endpoint key (R354). -/
def Op.keyLoadEndpoint : Op := {
  code := 0x0800, perm := .t, utype := 0x9, unit := some 0x9000, len := 80, fields := keyLoadFields 39 true,
  bad := fun c =>
    (if c.f 0 63 62 = 0 then [] else [fieldAt 0 62]) ++ (if c.f 0 28 27 = 0 then [] else [fieldAt 0 27]) ++ startBad c 2 }

/-- The effect of KEY_LOAD on an endpoint (R355). -/
def applyKeyLoadEndpoint (c : Cmd) (b : Blk) : Blk × Res :=
  let e := c.f 1 63 39
  if !mayAct c.tenant (b.endpointOwner e) then (b, Res.deniedObject)
  else
    match b.readCtx e with
    | (b, none) => (b, if (b.loadedKey c).isNone then Res.badField 5 0 else Res.err .fault 0x6)
    | (b, some x) =>
      if !x.valid then (b, Res.badField 1 39)
      else
        match b.loadOp c (cipherOfEp e) e, b.loadedKey c with
        | (b, false), _ => (b, Res.unwrapFault)
        | (b, true), none => (b, Res.badField 5 0)
        | (b, true), some key =>
          let start := c.word 2
          let x := { x with
            wrapped := leNat (b.wrap key), keyGen := c.f 0 59 29, keyLoaded := true, key256 := c.b 0 61,
            keyWarn := false, keySpent := false, txCounter := start, txLease := start, rxCounter := c.word 4 }
          let b := (b.writeCtx e x).updLease e (fun _ => { addr := c.word 3 })
          (b.startLease e start, {})

/-- KEY_LOAD, target endpoint (R355). -/
def execKeyLoadEndpoint (c : Cmd) (s : State) : Host.Outcome State Fault Refusal :=
  s.opcode Op.keyLoadEndpoint c applyKeyLoadEndpoint

/-- Whether a carrier's slot is active in a version in use (R353, R355). -/
def Blk.slotActive (b : Blk) (flow slot : Nat) : Bool :=
  b.cip.cfg.any (fun v => let x := Tab.get {} v.2 flow; x.mode != 0 && x.slot == slot)

/-- KEY_LOAD of a carrier slot (R354). -/
def Op.keyLoadCarrier : Op := {
  code := 0x0800, perm := .t, utype := 0x9, unit := some 0x9000, len := 80, fields := keyLoadFields 42 false,
  bad := fun c => (if c.f 0 63 62 = 1 then [] else [fieldAt 0 62]) ++ (if c.f 0 28 27 = 0 then [fieldAt 0 27] else []),
  names := fun c => [(treeUnit (flowTree (c.f 1 63 42)), fieldAt 1 42)] }

/-- The effect of KEY_LOAD on a carrier slot (R355). -/
def applyKeyLoadCarrier (c : Cmd) (b : Blk) : Blk × Res :=
  let flow := c.f 1 63 42
  let slot := c.f 0 28 27
  if !mayAct c.tenant (b.carrierOwner flow) then (b, Res.deniedObject)
  else if b.slotActive flow slot then (b, Res.badField 0 27)
  else if (b.tree (flowTree flow)).mode ≠ .native then (b, Res.badField 1 42)
  else
    match b.loadOp c (cipherOfTree (flowTree flow)) flow, b.loadedKey c with
    | (b, false), _ => (b, Res.unwrapFault)
    | (b, true), none => (b, Res.badField 5 0)
    | (b, true), some key =>
      let k : StoredKey := { wrapped := b.wrap key, key256 := c.b 0 61, gen := c.f 0 59 29 }
      let cached := if b.ciphered flow then key else []
      (b.updCarrier flow (fun x =>
        { x with slots := Tab.set none x.slots slot (some k), cache := Tab.set [] x.cache slot cached, warn := x.warn.filter (· != slot), spent := x.spent.filter (· != slot) }), {})

/-- KEY_LOAD, target carrier slot (R355). -/
def execKeyLoadCarrier (c : Cmd) (s : State) : Host.Outcome State Fault Refusal :=
  s.opcode Op.keyLoadCarrier c applyKeyLoadCarrier

/-- KEY_LOAD of a tenant load key (R354). -/
def Op.keyLoadTenant : Op := {
  code := 0x0800, perm := .t, utype := 0x9, unit := some 0x9000, len := 80, fields := keyLoadFields 57 false,
  bad := fun c =>
    (if c.f 0 63 62 = 2 then [] else [fieldAt 0 62]) ++ (if c.b 0 61 then [] else [fieldAt 0 61])
    ++ (if c.f 0 28 27 = 0 then [] else [fieldAt 0 27]) ++ (if 64 < c.f 1 63 57 then [fieldAt 1 57] else []) }

/-- The effect of KEY_LOAD on a tenant load key (R355). -/
def applyKeyLoadTenant (c : Cmd) (b : Blk) : Blk × Res :=
  if c.tenant ≠ 0 then (b, Res.deniedObject)
  else
    match b.loadOp c 0 (c.f 1 63 57), b.loadedKey c with
    | (b, false), _ => (b, Res.unwrapFault)
    | (b, true), none => (b, Res.badField 5 0)
    | (b, true), some key =>
      ({ b with cip := { b.cip with loadKeys := Tab.set [] b.cip.loadKeys (c.f 1 63 57) (b.wrap key) } }, {})

/-- KEY_LOAD, target tenant load key (R355). -/
def execKeyLoadTenant (c : Cmd) (s : State) : Host.Outcome State Fault Refusal :=
  s.opcode Op.keyLoadTenant c applyKeyLoadTenant

/-- What word 1 of KEY_RETIRE and NONCE_QUERY names (R356, R358): bits below the identifier are reserved. -/
def idBad (c : Cmd) : List Nat :=
  if c.f 0 63 62 = 0 then (if c.f 1 38 0 = 0 then [] else [fieldAt 1 0])
  else (if c.f 1 41 0 = 0 then [] else [fieldAt 1 0])

/-- The carrier named, as a unit (R52). -/
def idUnit (c : Cmd) : List (Nat × Nat) :=
  if c.f 0 63 62 = 1 then [(treeUnit (flowTree (c.f 1 63 42)), fieldAt 1 42)] else []

/-- KEY_RETIRE (R356). -/
def Op.keyRetire : Op := {
  code := 0x0801, perm := .t, utype := 0x9, unit := some 0x9000, len := 16,
  fields := [(0, 63, 62), (0, 61, 60), (1, 63, 0)],
  bad := fun c =>
    (if 2 ≤ c.f 0 63 62 then [fieldAt 0 62] else [])
    ++ (if c.f 0 63 62 = 0 ∧ c.f 0 61 60 ≠ 0 then [fieldAt 0 60] else [])
    ++ (if c.f 0 63 62 = 1 ∧ c.f 0 61 60 = 0 then [fieldAt 0 60] else []) ++ idBad c,
  names := idUnit }

/-- The effect of KEY_RETIRE (R356). -/
def applyKeyRetire (c : Cmd) (b : Blk) : Blk × Res :=
  if c.f 0 63 62 = 0 then
    let e := c.f 1 63 39
    if !mayAct c.tenant (b.endpointOwner e) then (b, Res.deniedObject)
    else
      match b.readCtx e with
      | (b, none) => (b, Res.err .fault 0x6)
      | (b, some x) => (b.writeCtx e { x with wrapped := 0, keyLoaded := false }, {})
  else
    let flow := c.f 1 63 42
    let slot := c.f 0 61 60
    if !mayAct c.tenant (b.carrierOwner flow) then (b, Res.deniedObject)
    else if b.slotActive flow slot then (b, Res.badField 0 60)
    else (b.updCarrier flow (fun x => { x with slots := Tab.set none x.slots slot none, cache := Tab.set [] x.cache slot [] }), {})

/-- KEY_RETIRE (R356). -/
def execKeyRetire (c : Cmd) (s : State) : Host.Outcome State Fault Refusal := s.opcode Op.keyRetire c applyKeyRetire

/-! ### CARRIER_CIPHER and NONCE_QUERY (R357, R358) -/

/-- CARRIER_CIPHER (R357). -/
def Op.carrierCipher : Op := {
  code := 0x0802, perm := .t, utype := 0x9, unit := some 0x9000, len := 24,
  fields := [(0, 63, 42), (0, 41, 40), (0, 39, 38), (1, 63, 0), (2, 63, 0)],
  bad := fun c => if c.f 0 41 40 = 3 then [fieldAt 0 40] else [],
  names := fun c => [(treeUnit (flowTree (c.f 0 63 42)), fieldAt 0 42)] }

/-- Ciphered carriers of a tree in a version. -/
def cipheredOn (cfg : Tab CipherCfg) (t : Nat) : List Nat :=
  (cfg.filter (fun x => flowTree x.1 == t && x.2.mode != 0)).map Prod.fst

/-- Offsets of fields of CARRIER_CIPHER that the carrier's tree or its state makes wrong (R357). -/
def Blk.carrierCipherBad (b : Blk) (c : Cmd) : List Nat :=
  let flow := c.f 0 63 42
  let mode := c.f 0 41 40
  let slot := c.f 0 39 38
  let std := (b.tree (flowTree flow)).mode != .native
  let starts := !std && mode != 0 && (b.cipherNow flow).mode == 0
  (if std then (if slot = 0 then [] else [fieldAt 0 38]) ++ (if mode = 2 then [fieldAt 0 40] else [])
   else if (mode = 0) ≠ (slot = 0) then [fieldAt 0 38]
   else if mode ≠ 0 ∧ (Tab.get none (b.carrier flow).slots slot).isNone then [fieldAt 0 38] else [])
  ++ (if (Tab.get {} b.swCfg.carriers flow).purpose = 1 then [] else [fieldAt 0 42])
  ++ (if starts then startBad c 1
      else (if c.word 1 = 0 then [] else [fieldAt 1 0]) ++ (if c.word 2 = 0 then [] else [fieldAt 2 0]))

/-- The effect of CARRIER_CIPHER (R340, R357). -/
def applyCarrierCipher (c : Cmd) (b : Blk) : Blk × Res :=
  let flow := c.f 0 63 42
  let mode := c.f 0 41 40
  let slot := c.f 0 39 38
  let t := flowTree flow
  let native := (b.tree t).mode == .native
  if !mayAct c.tenant (b.carrierOwner flow) then (b, Res.deniedObject)
  else
    match least (b.carrierCipherBad c) with
    | some off => (b, Res.err .badParam off)
    | none =>
      if native ∧ mode ≠ 0 ∧ (b.carrier flow).spent.contains slot then (b, Res.err .keySpent)
      else if mode ≠ 0 ∧ 1024 ≤ ((cipheredOn (Vers.cur [] b.cip.cfg) t).filter (· != flow)).length then (b, Res.err .noSpace)
      else
        let starts := native && mode != 0 && (b.cipherNow flow).mode == 0
        let cfg := Vers.write [] b.cip.cfg b.clk.epoch (fun x => Tab.set {} x flow { mode := mode, slot := slot })
        let b := { b with cip := { b.cip with cfg := cfg } }
        let gen := match Tab.get none (b.carrier flow).slots slot with
          | some k => k.gen
          | none => 0
        let b := if native then b.updFlow flow (fun f => { f with dnKeyGen := gen, dnSlot := slot }) else b
        if starts then
          let b := b.updFlow flow (fun f => { f with dnCounter := c.word 1 })
          let b := (b.updCarrier flow (fun k => { k with leaseEnd := c.word 1, lease := { addr := c.word 2 } })).fillCache flow
          (b.startLease (flowKey flow) (c.word 1), {})
        else (b, {})

/-- CARRIER_CIPHER (R357). -/
def execCarrierCipher (c : Cmd) (s : State) : Host.Outcome State Fault Refusal :=
  s.opcode Op.carrierCipher c applyCarrierCipher

/-- NONCE_QUERY (R358). -/
def Op.nonceQuery : Op := {
  code := 0x0803, perm := .t, read := true, utype := 0x9, unit := some 0x9000, len := 16,
  fields := [(0, 63, 62), (1, 63, 0)],
  bad := fun c => (if 2 ≤ c.f 0 63 62 then [fieldAt 0 62] else []) ++ idBad c, names := idUnit }

/-- The effect of NONCE_QUERY (R358). -/
def applyNonceQuery (c : Cmd) (b : Blk) : Blk × Res :=
  if c.f 0 63 62 = 0 then
    let e := c.f 1 63 39
    if !mayAct c.tenant (b.endpointOwner e) then (b, Res.deniedObject)
    else
      match b.readCtx e with
      | (b, none) => (b, Res.err .fault 0x6)
      | (b, some x) =>
        (b, Res.words [x.txCounter, x.txLease, x.rxCounter,
          pack [(x.keyGen, 33), (b2n x.keyLoaded, 32), (b2n x.key256, 31), (b2n x.keyWarn, 30), (b2n x.keySpent, 29),
                (b2n (b.lease e).waiting, 26)]])
  else
    let flow := c.f 1 63 42
    if !mayAct c.tenant (b.carrierOwner flow) then (b, Res.deniedObject)
    else
      match b.readFlow flow with
      | (b, none) => (b, Res.err .fault 0x1)
      | (b, some x) =>
        let k := b.carrier flow
        let cfg := b.cipherNow flow
        let w3 := if cfg.mode = 0 then 0
          else
            let key := Tab.get none k.slots cfg.slot
            pack [((key.map StoredKey.gen).getD 0, 33), (b2n key.isSome, 32), (b2n ((key.map StoredKey.key256).getD false), 31),
                  (b2n (k.warn.contains cfg.slot), 30), (b2n (k.spent.contains cfg.slot), 29), (cfg.slot, 27)]
        (b, Res.words [x.dnCounter, k.leaseEnd, 0, w3 + pack [(b2n k.lease.waiting, 26)]])

/-- NONCE_QUERY (R358). -/
def execNonceQuery (c : Cmd) (s : State) : Host.Outcome State Fault Refusal := s.opcode Op.nonceQuery c applyNonceQuery

/-! ### CHECK_CONFIG, CHECK_SAVE and CHECK_RESTORE (R359, R360) -/

/-- The unit of the directory that serves an endpoint. -/
def dirUnit (e : Nat) : Nat := 0x6000 + stackOf e

/-- CHECK_CONFIG (R359). -/
def Op.checkConfig : Op := {
  code := 0x0804, perm := .t, utype := 0x6, len := 8, fields := [(0, 63, 51), (0, 50, 36), (0, 35, 34)],
  bad := fun c => if c.f 0 50 36 = 0 then [fieldAt 0 36] else [],
  names := fun c => [(dirUnit (c.f 0 63 51 * 4096), fieldAt 0 51)] }

/-- The effect of CHECK_CONFIG. -/
def applyCheckConfig (c : Cmd) (b : Blk) : Blk × Res :=
  let k := c.f 0 63 51
  if !mayAct c.tenant (Tab.get 0 b.owners.block k) then (b, Res.deniedObject)
  else
    ({ b with dir := { b.dir with
        blocks := Tab.set {} b.dir.blocks k { aliveW := c.f 0 50 36, runScope := c.f 0 35 34 },
        blockFaults := Tab.set none b.dir.blockFaults k none } }, {})

/-- CHECK_CONFIG (R359). -/
def execCheckConfig (c : Cmd) (s : State) : Host.Outcome State Fault Refusal := s.opcode Op.checkConfig c applyCheckConfig

/-- The first 8 bytes of the EP_WRITE input: FIRST and COUNT (R261). -/
def rangeFields : List (Nat × Nat × Nat) := [(0, 63, 39), (0, 38, 26)]

/-- FIRST and COUNT. -/
def epRange (c : Cmd) : Nat × Nat := (c.f 0 63 39, c.f 0 38 26)

/-- A range of endpoints out of form (R236, R261). -/
def rangeBad (c : Cmd) : List Nat :=
  let r := epRange c
  if r.2 = 0 ∨ 4096 < r.2 ∨ 4096 < r.1 % 4096 + r.2 then [fieldAt 0 26] else []

/-- The directory that a range names (R52). -/
def rangeUnit (c : Cmd) : List (Nat × Nat) := [(dirUnit (epRange c).1, fieldAt 0 39)]

/-- The endpoints of a range. -/
def epList (c : Cmd) : List Nat := (List.range (epRange c).2).map (fun i => (epRange c).1 + i)

/-- Reads every context of a list: none where one has a parity fault (R257, R360). -/
def Blk.readAll (b : Blk) : List Nat → Blk × Option (List Ctx)
  | [] => (b, some [])
  | e :: r =>
    let x := b.readCtx e
    let y := Blk.readAll x.1 r
    (y.1, x.2.bind (fun c => y.2.map (fun l => c :: l)))

/-- CHECK_SAVE (R360). -/
def Op.checkSave : Op := {
  code := 0x0805, perm := .t, read := true, utype := 0x6, len := 8, fields := rangeFields, bad := rangeBad,
  names := rangeUnit }

/-- The effect of CHECK_SAVE. -/
def applyCheckSave (c : Cmd) (b : Blk) : Blk × Res :=
  if !mayAct c.tenant (b.endpointOwner (epRange c).1) then (b, Res.deniedObject)
  else
    match b.readAll (epList c) with
    | (b, none) => (b, Res.err .fault 0x6)
    | (b, some l) =>
      (b, { ext := l.flatMap (fun x =>
        wordsLe [x.checkValue, pack [(x.aliveLast, 48), (b2n x.aliveSeen, 47), (x.poly, 44)]]) })

/-- CHECK_SAVE (R360). -/
def execCheckSave (c : Cmd) (s : State) : Host.Outcome State Fault Refusal := s.opcode Op.checkSave c applyCheckSave

/-- Whether a check record disagrees with the check of its context: another CHECK_POLY, or a value beyond the width of
the check (R360). -/
def checkRecBad (ext : List Byte) (i poly : Nat) : Bool :=
  bits (leWord ext (2 * i + 1)) 46 44 != poly || decide (256 ^ checkWidth poly ≤ leWord ext (2 * i))

/-- CHECK_RESTORE (R360). -/
def Op.checkRestore : Op := {
  code := 0x0806, perm := .t, utype := 0x6, len := 8, fields := rangeFields,
  bad := fun c => rangeBad c ++ extNeed c (16 * (epRange c).2)
    ++ (if (List.range (epRange c).2).any (fun i => bits (leWord c.ext (2 * i + 1)) 43 0 != 0) then [0xFF] else []),
  names := rangeUnit }

/-- The effect of CHECK_RESTORE. -/
def applyCheckRestore (c : Cmd) (b : Blk) : Blk × Res :=
  if !mayAct c.tenant (b.endpointOwner (epRange c).1) then (b, Res.deniedObject)
  else
    match b.readAll (epList c) with
    | (b, none) => (b, Res.err .fault 0x6)
    | (b, some l) =>
      let items := (epList c).zip (l.zip (List.range (epRange c).2))
      if items.any (fun x => checkRecBad c.ext x.2.2 x.2.1.poly) then (b, Res.badExt)
      else
        (items.foldl (fun b x =>
          let w1 := leWord c.ext (2 * x.2.2 + 1)
          b.writeCtx x.1 { x.2.1 with
            checkValue := leWord c.ext (2 * x.2.2), aliveLast := bits w1 63 48, aliveSeen := bit w1 47 }) b, {})

/-- CHECK_RESTORE (R360). -/
def execCheckRestore (c : Cmd) (s : State) : Host.Outcome State Fault Refusal :=
  s.opcode Op.checkRestore c applyCheckRestore

end Sys2Proof.Machine
end

