-- ==== Sys2Proof/Machine/Classify.lean ====
section
/-! DEFINITION. Parsing and classification (08): the parse graph, keys, rules, hashing, recirculation and the
exception queue. -/
namespace Sys2Proof.Machine

/-! ### Tables (R268, R270, R275, R282) -/

/-- The classification tables in force. -/
def Blk.clsCfg (b : Blk) : ClsCfg := Vers.cur {} b.cls.cfg

/-- The classification tables for a stamp (R26). -/
def Blk.clsAt (b : Blk) (stamp : Nat) : ClsCfg := Vers.at {} b.cls.cfg (stampAt stamp b.clk.epoch)

/-- The owners for a stamp (R280). -/
def Blk.ownersAt (b : Blk) (stamp : Nat) : Owners := Vers.at {} b.host.owners (stampAt stamp b.clk.epoch)

/-- The island of a side: 68 tree, 69 uplink. -/
def sideIsland (side : Nat) : Nat := 68 + side

/-- The tables of a side. -/
def ClsCfg.side (c : ClsCfg) (side : Nat) : ClsSide := if side = 0 then c.tree else c.up

/-- Whether an entry of a table of a side has a parity fault (R285). -/
def ClsCfg.faulty (c : ClsCfg) (side table entry : Nat) : Bool := c.faults.contains (sideIsland side, table, entry)

/-- Word i of a node. -/
def nodeWord (n : List Nat) (i : Nat) : Nat := n.getD i 0

/-- A node's descriptor: 0 to 3 extraction, 4 to 11 transition (R270). -/
def nodeDesc (n : List Nat) (i : Nat) : Nat :=
  let w := nodeWord n (2 + i / 2)
  if i % 2 = 0 then w / 2 ^ 32 else w % 2 ^ 32

/-- A 16-bit field of a header (R270). -/
def field16 (l : List Byte) (off : Nat) : Nat := beNat ((l.drop off).take 2)

/-! ### One pass of the parser (R271, R272) -/

/-- How a pass stops. -/
inductive Stop where
  | complete | truncated | conflict
  deriving DecidableEq, Repr

/-- A parser on its way. -/
structure Walk where
  node : Nat
  pos : Nat := 0
  bound : Nat
  headers : List Nat := []
  /-- The extraction area, 40 bytes. -/
  area : List Byte := List.replicate 40 0
  flags : Nat := 0
  stop : Stop := .complete
  /-- The pass stopped at a node whose entry has a parity fault (R285). -/
  parity : Bool := false

/-- The ends of the fields a node reads. -/
def nodeEnds (n : List Nat) : List Nat :=
  let w0 := nodeWord n 0
  let w1 := nodeWord n 1
  (if bit w0 62 then [bits w0 53 46 + 2] else [])
  ++ (if bit w1 63 then [bits w1 62 55 + 2] else [])
  ++ (if bits w1 22 7 = 0 then [] else [bits w1 30 23 + 2])
  ++ ((List.range 4).filter (fun i => bit (nodeDesc n i) 31)).map (fun i =>
      bits (nodeDesc n i) 30 23 + bits (nodeDesc n i) 22 19 + 1)

/-- Puts bytes over a part of a list. -/
def overlay (l : List Byte) (at_ : Nat) (bs : List Byte) : List Byte :=
  l.take at_ ++ (bs.take (l.length - at_)) ++ l.drop (at_ + bs.length)

/-- The extractions of a node from its header. -/
def extract (n : List Nat) (hdr area : List Byte) : List Byte :=
  (List.range 4).foldl (fun a i =>
    let d := nodeDesc n i
    if bit d 31 then overlay a (bits d 18 13) ((hdr.drop (bits d 30 23)).take (bits d 22 19 + 1)) else a) area

/-- The length of a node's header (R271). -/
def headerLen (n : List Nat) (hdr : List Byte) : Nat :=
  let w := nodeWord n 0
  if bit w 62 then
    ((field16 hdr (bits w 53 46) &&& bits w 45 30) / 2 ^ bits w 29 26) * 2 ^ bits w 25 24 + bits w 23 16
  else bits w 61 54

/-- The node after a node, if the chain goes on (R271). -/
def nextNode (n : List Nat) (hdr : List Byte) : Option Nat :=
  let w1 := nodeWord n 1
  let mask := bits w1 22 7
  let sel := field16 hdr (bits w1 30 23) &&& mask
  let hit := if mask = 0 then none
    else (List.range 8).find? (fun i => bit (nodeDesc n (4 + i)) 31 && bits (nodeDesc n (4 + i)) 15 0 == sel)
  match hit with
  | some i => some (bits (nodeDesc n (4 + i)) 30 24)
  | none => if bit (nodeWord n 0) 10 then none else some (bits w1 6 0)

/-- What one node does, once its fields lie inside the bounds: the walk after it, or the stop. -/
def walkNode (n : List Nat) (frame : List Byte) (w : Walk) : Walk × Bool :=
  let hdr := frame.drop w.pos
  let e := (nodeEnds n).foldl max 0
  let hlen := headerLen n hdr
  let w1 := nodeWord n 1
  let span := (field16 hdr (bits w1 62 55) &&& bits w1 54 39) + bits w1 38 31
  if w.bound < w.pos + e then ({ w with stop := .conflict }, true)
  else if 512 < w.pos + e then ({ w with stop := .truncated }, true)
  else if hlen = 0 ∨ hlen < e ∨ w.bound < w.pos + hlen then ({ w with stop := .conflict }, true)
  else if 512 < w.pos + hlen then ({ w with stop := .truncated }, true)
  else if bit w1 63 ∧ (span < hlen ∨ w.bound < w.pos + span) then ({ w with stop := .conflict }, true)
  else
    ({ w with
        bound := if bit w1 63 then w.pos + span else w.bound,
        area := extract n hdr w.area,
        flags := if bit (nodeWord n 0) 15 then w.flags ||| 2 ^ bits (nodeWord n 0) 14 11 else w.flags,
        headers := w.headers ++ [w.pos], pos := w.pos + hlen }, false)

/-- The loop of R271; the fuel is the depth limit. -/
def walkGo (c : ClsCfg) (side : Nat) (frame : List Byte) : Nat → Walk → Walk
  | 0, w => { w with stop := .truncated }
  | f + 1, w =>
    let n := Tab.get [] (c.side side).nodes w.node
    if !bit (nodeWord n 0) 63 then { w with stop := .truncated }
    else if c.faulty side 1 w.node then { w with stop := .truncated, parity := true }
    else
      let r := walkNode n frame w
      if r.2 then r.1
      else
        match nextNode n (frame.drop w.pos) with
        | none => { r.1 with stop := .complete }
        | some m =>
          if bit (nodeWord (Tab.get [] (c.side side).nodes m) 0) 63 then walkGo c side frame f { r.1 with node := m }
          else { r.1 with stop := .complete }

/-- One pass from a node (R271). -/
def walk (c : ClsCfg) (side node : Nat) (frame : List Byte) : Walk :=
  walkGo c side frame 24 { node := node, bound := frame.length }

/-! ### Keys and lookups (R273 to R277) -/

/-- The key of a pass as a number of 48 bytes, byte 0 most significant (R273). -/
def keyNum (w : Walk) (tenant src carrier pass : Nat) : Nat :=
  pack [(tenant % 128, 57), (src % 64, 51), (carrier % 65536, 35), (pass, 34), (b2n (w.stop = .truncated), 33),
        (b2n (w.stop = .conflict), 32), (w.flags % 65536, 16)] * 2 ^ 320 + beNat w.area

/-- The rule entries of a side that one lookup searches: those in partitions of one owner (R276). -/
def ruleRange (c : ClsCfg) (o : Owners) (side owner : Nat) : List (Nat × RuleEntry) :=
  c.rules.filter (fun r => r.1 / 32768 == side && Tab.get 0 o.rules (r.1 / 256) == owner)

/-- The first entry that matches a key (R274); faulted entries do not (R285). -/
def ruleMatch (c : ClsCfg) (side key : Nat) (l : List (Nat × RuleEntry)) : Option (Nat × RuleEntry) :=
  l.find? (fun r => bit r.2.w0 63 && !c.faulty side 0 r.1 && (key &&& r.2.mask) == (r.2.value &&& r.2.mask))

/-- Faulted entries that a lookup meets before the one that decides it (R285). -/
def ruleFaults (c : ClsCfg) (o : Owners) (side owner : Nat) (hit : Option (Nat × RuleEntry)) : Nat :=
  (c.faults.filter (fun f => f.1 == sideIsland side && f.2.1 == 0 && Tab.get 0 o.rules (f.2.2 / 256) == owner
    && (match hit with
        | some r => decide (f.2.2 < r.1)
        | none => true))).length

/-- A lookup, with its counts (R276, R285, R292). -/
def Blk.lookup (b : Blk) (c : ClsCfg) (o : Owners) (side owner key : Nat) : Blk × Option (Nat × RuleEntry) :=
  let hit := ruleMatch c side key (ruleRange c o side owner)
  let b := b.countN 0x64 10 (sideIsland side) (ruleFaults c o side owner hit)
  match hit with
  | some r => (b.count 0x68 0 r.1, hit)
  | none => (b, none)

/-- The result of a pass (R277). -/
structure Verdict where
  kind : Nat := 0
  dest : Nat := 0
  /-- The entry that set the destination, and whether it is the tenant lookup's. -/
  entry : Option Nat := none
  byTenant : Bool := false
  cls : Option Nat := none
  mirror : Bool := false
  sample : Bool := false
  tenantSample : Bool := false
  recirc : Bool := false
  node : Nat := 0
  decap : Nat := 0
  /-- The entry that asked for recirculation. -/
  asker : Nat := 0
  profile : Nat := 0
  stream : Nat := 0
  excTag : Nat := 0

/-- The operator lookup's part of a result. -/
def operatorVerdict : Option (Nat × RuleEntry) → Verdict
  | none => {}
  | some (i, r) =>
    { kind := bits r.w0 61 59, dest := bits r.w0 58 37, entry := some i,
      cls := if bit r.w0 33 then some (bits r.w0 36 34) else none, mirror := bit r.w0 32, sample := bit r.w0 31,
      recirc := bit r.w0 22, node := bits r.w0 21 15, decap := bits r.w0 14 10, asker := i,
      profile := bits r.w1 63 60, stream := bits r.w1 59 48, excTag := bits r.w1 47 40 }

/-- The tenant lookup's changes (R277). -/
def tenantVerdict (v : Verdict) : Option (Nat × RuleEntry) → Verdict
  | none => v
  | some (i, r) =>
    let k := bits r.w0 61 59
    let v := if k = 0 then v else { v with
      kind := k, dest := bits r.w0 58 37, entry := some i, byTenant := true, excTag := bits r.w1 47 40 }
    let v := if bit r.w0 33 then { v with cls := some (bits r.w0 36 34) } else v
    let v := { v with
      mirror := v.mirror || bit r.w0 32, sample := v.sample || bit r.w0 31, tenantSample := bit r.w0 31 }
    if bit r.w0 22 then { v with recirc := true, node := bits r.w0 21 15, decap := bits r.w0 14 10, asker := i } else v

/-- What a pass sees and finds. -/
structure PassOut where
  walk : Walk
  tenant : Nat
  key : Nat
  verdict : Verdict

/-- One pass: parse, key and the two lookups (R271, R276). -/
def Blk.pass (b : Blk) (side node tenant passNo : Nat) (f : Frame) (data : List Byte) : Blk × PassOut :=
  let c := b.clsAt f.stamp
  let o := b.ownersAt f.stamp
  let w := walk c side node data
  let carrier := if side = 0 then f.flow % 65536 else 0
  let b := b.count 0x64 0 (sideIsland side)
  let b := if w.parity then b.count 0x64 11 (sideIsland side) else b
  let key := keyNum w tenant f.source carrier passNo
  let op := b.lookup c o side 0 key
  let t := match op.2 with
    | some (_, r) => if side = 1 ∧ bit r.w0 23 then bits r.w0 30 24 else tenant
    | none => tenant
  let final := match op.2 with
    | some (_, r) => bit r.w0 62
    | none => false
  let key := keyNum w t f.source carrier passNo
  let tn := if t == 0 || final then (op.1, none) else op.1.lookup c o side t key
  (tn.1, { walk := w, tenant := t, key := key, verdict := tenantVerdict (operatorVerdict op.2) tn.2 })

/-- Counts of an island and of the tenant concerned (R292). -/
def Blk.countCls (b : Blk) (side tenant ctr tctr : Nat) : Blk := (b.count 0x64 ctr (sideIsland side)).count 0x65 tctr tenant

/-- The counts of a pass that stopped early (R272). -/
def Blk.countStop (b : Blk) (side tenant : Nat) : Stop → Blk
  | .complete => b
  | .truncated => b.countCls side tenant 2 0
  | .conflict => b.countCls side tenant 3 1

/-! ### The exception queue (R284) -/

/-- EXCEPTION_CONFIG of a tenant. -/
def ClsCfg.excOf (c : ClsCfg) (tenant : Nat) : ExcCfg := Tab.get {} c.exc tenant

/-- What an exception says of a frame. -/
structure ExcInfo where
  reason : Nat
  tenant : Nat
  side : Nat
  /-- Word 0 [47:0]: SRC, PASS, NODE, DEPTH, OFFSET, RULE and RULE_VALID. -/
  low : Nat
  flow : Nat := 0
  endpoint : Nat := 0
  excTag : Nat := 0

/-- Word 0 [47:0] of the exception header for a pass. -/
def excLow (w : Walk) (src passNo : Nat) (entry : Option Nat) : Nat :=
  pack [(src % 64, 42), (passNo, 41), (w.node % 128, 34), (w.headers.length % 32, 29), (w.pos % 1024, 19),
        ((entry.getD 0) % 65536, 3), (b2n entry.isSome, 2)]

/-- The exception header and the frame behind it. -/
def excBytes (x : ExcInfo) (stamp snap : Nat) (data : List Byte) : List Byte :=
  wordsLe [pack [(x.reason, 56), (x.tenant % 128, 49), (x.side % 2, 48), (x.low, 0)], stamp % 2 ^ 64,
           pack [(x.flow % 2 ^ 22, 42), (x.endpoint % 2 ^ 25, 17)],
           pack [(x.excTag % 256, 56), (data.length % 2 ^ 14, 42)]]
  ++ (if snap = 0 then data else data.take (64 * snap))

/-- Queues a frame to a tenant's exception queue, within the rate of the epoch (R284). -/
def Blk.except (b : Blk) (f : Frame) (x : ExcInfo) (data : List Byte) : Blk :=
  let n := Tab.get 0 b.cls.excCount x.tenant
  if (b.clsCfg.excOf x.tenant).rate ≤ n then b.countCls x.side x.tenant 6 4
  else
    let r := b.admitFlag (hostQueue x.tenant 0)
      { data := excBytes x (stampAt f.stamp b.clk.epoch) ((b.clsAt f.stamp).excOf x.tenant).snap data, fcsLen := 0,
        input := f.input, tenant := x.tenant, stamp := f.stamp, bad := f.bad }
    if r.2 then
      ({ r.1 with cls := { r.1.cls with excCount := Tab.set 0 r.1.cls.excCount x.tenant (n + 1) } }).countCls x.side x.tenant 5 3
    else r.1

/-! ### Hashing and indirection (R281, R282) -/

/-- The key bytes that a profile selects, the others 0. -/
def maskedKey (sel key : Nat) : List Byte :=
  (List.range 48).map (fun i => if bit sel (47 - i) then BitVec.ofNat 8 (key / 256 ^ (47 - i)) else 0)

/-- The index of a key in an indirection table. -/
def hashIndex (h : HashCfg) (key : Nat) : Nat :=
  (crcLsb 0x82F63B78 h.seed (maskedKey h.sel key) ^^^ 0xFFFFFFFF) % 512

/-- The destination a table gives, kind 0 for a miss (R282, R285). -/
def Blk.indirect (b : Blk) (c : ClsCfg) (side table profile key : Nat) : Blk × Nat × Nat :=
  let h := Tab.get {} (c.side side).hashes profile
  let bad := c.faulty side 3 profile
  let b := if bad then b.count 0x64 12 (sideIsland side) else b
  let i := hashIndex (if bad then { h with sel := 0 } else h) key
  let e := Tab.get 0 (c.side side).ind (table * 512 + i)
  if c.faulty side 2 (table * 512 + i) then (b.count 0x64 12 (sideIsland side), 0, 0)
  else (b, bits e 31 29, bits e 28 7)

/-! ### What a pass decides (R278 to R284) -/

/-- The frame as a pass saw it, with what the pass found. -/
structure Decided where
  side : Nat
  passNo : Nat
  frame : Frame
  data : List Byte
  out : PassOut
  /-- The copy budget of the frame's input is spent (R304). -/
  spent : Bool := false

/-- Puts a frame in the exception queue for a pass's reason. -/
def Blk.exceptPass (b : Blk) (d : Decided) (reason tenant : Nat) (entry : Option Nat) (endpoint excTag : Nat) : Blk :=
  b.except d.frame
    { reason := reason, tenant := tenant, side := d.side, low := excLow d.out.walk d.frame.source d.passNo entry,
      flow := if d.side = 0 then d.frame.flow else 0, endpoint := endpoint, excTag := excTag } d.data

/-- The default rule (R278). -/
def Blk.defaultRule (b : Blk) (d : Decided) : Blk :=
  let t := d.out.tenant
  let b := b.countCls d.side t 4 2
  let x := (b.clsAt d.frame.stamp).excOf t
  match d.out.walk.stop with
  | .conflict => b
  | .truncated => b.exceptPass d 0x02 t none 0 0
  | .complete =>
    if (if d.side = 0 then x.treeMiss else x.upMiss) then b.exceptPass d 0x01 t none 0 0 else b

/-- The owner of a rule entry at a stamp. -/
def Blk.ruleOwnerAt (b : Blk) (stamp entry : Nat) : Nat := Tab.get 0 (b.ownersAt stamp).rules (entry / 256)

/-- A frame that goes to the directory as a downstream endpoint message (R244, R280). -/
def Blk.toDirectory (b : Blk) (d : Decided) (v : Verdict) : Blk :=
  let pos := d.out.walk.pos
  let hdr := beNat ((d.data.drop pos).take 16)
  let ep := bits hdr 119 95
  let t := d.out.tenant
  if v.byTenant && decide (pos + 16 ≤ d.data.length) && Tab.get 0 (b.ownersAt d.frame.stamp).block (ep / 4096) != t then
    (b.countCls d.side t 9 7).exceptPass d 0x08 t v.entry ep v.excTag
  else
    let m : DnMsg := {
      frame := d.frame, data := d.data, payload := pos,
      exc0 := excLow d.out.walk d.frame.source d.passNo v.entry, excTag := v.excTag,
      owner := (v.entry.map (b.ruleOwnerAt d.frame.stamp)).getD 0 }
    { b with dir := { b.dir with dnWait := b.dir.dnWait ++ [m] } }

/-- Sends a frame to the destination of a result (R275, R278, R280). -/
def Blk.dispatch (b : Blk) (d : Decided) (v : Verdict) (kind dest : Nat) : Blk :=
  let f := { d.frame with
    data := d.data, entered := d.frame.orig }
  let t := d.out.tenant
  match kind with
  | 0 => b.defaultRule d
  | 1 => b
  | 2 => b.exceptPass d 0x03 ((v.entry.map (b.ruleOwnerAt d.frame.stamp)).getD 0) v.entry 0 v.excTag
  | 3 =>
    if v.byTenant && Tab.get 0 (b.ownersAt d.frame.stamp).carrier dest != t then
      (b.countCls d.side t 9 7).exceptPass d 0x08 t v.entry 0 v.excTag
    else b.toCarrier f dest v.cls
  | 4 => b.toDirectory d v
  | 5 => b.toSub f dest v.cls v.stream
  | _ => b

/-- The destination of a result, through its indirection table where it names one (R282). -/
def Blk.resolve (b : Blk) (d : Decided) (v : Verdict) : Blk :=
  if v.kind = 6 then
    let r := b.indirect (b.clsAt d.frame.stamp) d.side v.dest v.profile d.out.key
    r.1.dispatch d v r.2.1 r.2.2
  else b.dispatch d v v.kind v.dest

/-- The copies of a classified frame (R307, R309). -/
def Blk.passCopies (b : Blk) (d : Decided) (v : Verdict) : Blk :=
  ((b.mirrorIn d.frame v.mirror d.out.tenant d.spent).sampleIn d.frame v.sample (if v.tenantSample then d.out.tenant else 0)
    d.spent).lineOn d.frame.input d.spent

/-- A frame that a parser island discards before it is classified. -/
def Blk.unparsed (b : Blk) (f : Frame) : Blk := b.lineOn f.input false

/-- Whether the destination of a result is a group, whose copies hold the input channel where the copy budget is spent (R304). -/
def Blk.holdsInput (b : Blk) (d : Decided) : Bool :=
  let v := d.out.verdict
  let dest := if v.kind = 6 then (b.indirect (b.clsAt d.frame.stamp) d.side v.dest v.profile d.out.key).2 else (v.kind, v.dest)
  d.spent && (!v.recirc || d.passNo == 1) && dest.1 == 3 && (b.carrierAt d.frame.stamp dest.2).purpose == 4

/-- The end of a pass (R277, R283). -/
def Blk.endPass (b : Blk) (d : Decided) : Blk :=
  let v := d.out.verdict
  let b := b.countStop d.side d.out.tenant d.out.walk.stop
  let asker := b.ruleOwnerAt d.frame.stamp v.asker
  let tag := match (b.clsAt d.frame.stamp).rules.find? (fun r => r.1 == v.asker) with
    | some r => bits r.2.w1 47 40
    | none => 0
  if v.recirc then
    if d.passNo = 1 then
      ((b.passCopies d v).countCls d.side asker 7 5).exceptPass d 0x04 asker (some v.asker) 0 tag
    else
      match d.out.walk.headers[v.decap]? with
      | none => ((b.passCopies d v).countCls d.side asker 8 6).exceptPass d 0x05 asker (some v.asker) 0 tag
      | some p =>
        let r : Recirc := {
          frame := d.frame, data := d.data.drop p, node := v.node, tenant := d.out.tenant,
          mirror := v.mirror, sample := v.sample, tenantSample := v.tenantSample }
        { b with cls := { b.cls with recirc := Tab.upd [] b.cls.recirc d.side (fun l => l ++ [r]) } }
  else (b.passCopies d v).resolve d v

/-- The pipeline that serves a frame (R269). -/
def pipeline (side : Nat) (f : Frame) : Nat := if side = 0 then f.source / 16 else f.source / 8

/-- Takes the first element that satisfies a test out of a list. -/
def takeFirst {α : Type} (p : α → Bool) : List α → Option (α × List α)
  | [] => none
  | a :: r => if p a then some (a, r) else (takeFirst p r).map (fun x => (x.1, a :: x.2))

/-! ### Input channels and PAUSE (R314) -/

/-- Bytes of a sub-port's frames that wait at the parser. -/
def Blk.channelBytes (b : Blk) (sub : Nat) : Nat :=
  (((Tab.get [] b.cls.wait 1).filter (fun f => f.input == 64 + sub)).map Frame.length).sum

/-- Sends XOFF or XON as the channel of a sub-port asks (R314). -/
def Blk.flowControl (b : Blk) (sub : Nat) : Blk :=
  let p := b.sub sub
  let n := b.channelBytes sub
  if p.fc = 0 then b
  else if !p.xoff && decide (65536 ≤ n) then
    ((b.updSub sub (fun p => { p with xoff := true })).emit (.pause sub (p.fc == 2) true)).count 0x76 7 (64 + sub)
  else if p.xoff && decide (n < 16384) then
    ((b.updSub sub (fun p => { p with xoff := false })).emit (.pause sub (p.fc == 2) false)).count 0x76 7 (64 + sub)
  else b

/-- Puts a frame into the input channel of a parser island. -/
def Blk.toParser (b : Blk) (side : Nat) (f : Frame) : Blk :=
  { b with cls := { b.cls with wait := Tab.upd [] b.cls.wait side (fun l => l ++ [f]) } }

/-! ### The rows -/

/-- PARSER_PASS (R271): the first pass of the oldest frame whose pipeline has no recirculated pass waiting
(R269). With `checkFail`, a word of it fails its channel's check code (R13); with `pass.spent`, the copy budget of its input is reached,
and a frame to a group holds the channel (R304). -/
def execParserPass (pass : Pass) (checkFail : Bool) (s : State) : Host.Outcome State Fault Refusal :=
  s.svc (fun b0 =>
    let side := pass.side
    let b := b0
    let busy := (Tab.get [] b.cls.recirc side).map (fun r => pipeline side r.frame)
    match takeFirst (fun f => !busy.contains (pipeline side f)) (Tab.get [] b.cls.wait side) with
    | none => b
    | some (f, rest) =>
      let b := { b with cls := { b.cls with wait := Tab.set [] b.cls.wait side rest } }
      let b := if side = 1 ∧ 64 ≤ f.input ∧ f.input < 112 then b.flowControl (f.input - 64) else b
      if checkFail then (b.checkFail (sideIsland side)).unparsed f
      else if stale f.stamp b.clk.epoch then (b.staleDiscard (sideIsland side)).unparsed f
      else
        let tenant := if side = 0 then Tab.get 0 (b.ownersAt f.stamp).carrier f.flow else 0
        let r := b.pass side 0 tenant 0 f f.data
        let d : Decided := { side := side, passNo := 0, frame := f, data := f.data, out := r.2, spent := pass.spent }
        if r.1.holdsInput d then b0 else r.1.endPass d)

/-- RECIRCULATION_PASS (R283): the second pass of the oldest frame that recirculates; `pass.spent` as for PARSER_PASS. -/
def execRecirculationPass (pass : Pass) (s : State) : Host.Outcome State Fault Refusal :=
  s.svc (fun b0 =>
    let side := pass.side
    let b := b0
    match Tab.get [] b.cls.recirc side with
    | [] => b
    | r :: rest =>
      let b := { b with cls := { b.cls with recirc := Tab.set [] b.cls.recirc side rest } }
      if stale r.frame.stamp b.clk.epoch then (b.staleDiscard (sideIsland side)).unparsed r.frame
      else
        let b := b.count 0x64 1 (sideIsland side)
        let p := b.pass side r.node r.tenant 1 r.frame r.data
        let v := p.2.verdict
        let v := { v with
          mirror := v.mirror || r.mirror, sample := v.sample || r.sample,
          tenantSample := v.tenantSample || r.tenantSample }
        let d : Decided := {
          side := side, passNo := 1, frame := r.frame, data := r.data, out := { p.2 with verdict := v }, spent := pass.spent }
        if p.1.holdsInput d then b0 else p.1.endPass d)

/-- TABLE_PARITY_SCAN (R285): entries found faulted: island 68 or 69, table code, entry. A fault stands in every
version in use, once in each, and its first detection in the current version writes the record. -/
def execTableParityScan (faults : List (Nat × Nat × Nat)) (s : State) : Host.Outcome State Fault Refusal :=
  s.svc (fun b => faults.foldl (fun b x =>
    if b.clsCfg.faults.contains x ∨ !(x.1 == 68 || x.1 == 69) then b
    else
      let cfg := b.cls.cfg.map (fun v => if v.2.faults.contains x then v else (v.1, { v.2 with faults := v.2.faults ++ [x] }))
      ({ b with cls := { b.cls with cfg := cfg } }).vent
        { type := 0x0600, island := x.1, object := x.1, detail := x.2.1, w6 := x.2.2 }) b)

/-! ### Commands (R287 to R291) -/

/-- Writes a version of the classification tables. -/
def Blk.setCls (b : Blk) (f : ClsCfg → ClsCfg) : Blk :=
  { b with cls := { b.cls with cfg := Vers.write {} b.cls.cfg b.clk.epoch f } }

/-- Changes the tables of a side. -/
def ClsCfg.setSide (c : ClsCfg) (side : Nat) (f : ClsSide → ClsSide) : ClsCfg :=
  if side = 0 then { c with tree := f c.tree } else { c with up := f c.up }

/-- Entries rewritten hold no fault (R285). -/
def ClsCfg.heal (c : ClsCfg) (side table first count : Nat) : ClsCfg :=
  { c with faults := c.faults.filter (fun x =>
      !(x.1 == sideIsland side && x.2.1 == table && decide (first ≤ x.2.2) && decide (x.2.2 < first + count))) }

/-- The side a classification command addresses. -/
def sideOf (c : Cmd) : Nat := c.unit % 4096

/-- The eight words of a node in the extended input. -/
def nodeWords (ext : List Byte) (i : Nat) : List Nat := (List.range 8).map (fun k => leWord ext (8 * i + k))

/-- Whether a node entry breaks R287 or holds a reserved bit (R54). -/
def nodeBad (n : List Nat) : Bool :=
  let w0 := nodeWord n 0
  let ends := nodeEnds n
  let xs := (List.range 4).map (nodeDesc n)
  let ts := (List.range 8).map (fun i => nodeDesc n (4 + i))
  (bits w0 9 0 != 0) || xs.any (fun d => bits d 12 0 != 0) || ts.any (fun d => bits d 23 16 != 0)
  || (bit w0 63
      && ((!bit w0 62 && (bits w0 61 54 == 0 || ends.any (fun e => decide (bits w0 61 54 < e))))
          || xs.any (fun d => decide (39 < bits d 18 13 + bits d 22 19))
          || ends.any (fun e => decide (255 < e))))

/-- PARSE_NODE_WRITE (R287). -/
def Op.parseNodeWrite : Op := {
  code := 0x0600, perm := .o, utype := 0x7, len := 8, fields := [(0, 63, 57), (0, 56, 49)],
  bad := fun c =>
    let first := c.f 0 63 57
    let n := c.f 0 56 49
    (if n = 0 ∨ 128 < n ∨ 128 < first + n then [fieldAt 0 49] else []) ++ extNeed c (64 * n)
    ++ (if (List.range n).any (fun i => nodeBad (nodeWords c.ext i)) then [0xFF] else []) }

/-- A node as the table keeps it: nothing for a node of zeros. -/
def nodeValue (ws : List Nat) : List Nat := if ws.all (· == 0) then [] else ws

/-- The effect of PARSE_NODE_WRITE. -/
def applyParseNodeWrite (c : Cmd) (b : Blk) : Blk × Res :=
  let first := c.f 0 63 57
  let n := c.f 0 56 49
  (b.setCls (fun x => (x.setSide (sideOf c) (fun sd =>
    { sd with nodes := (List.range n).foldl (fun t i => Tab.set [] t (first + i) (nodeValue (nodeWords c.ext i))) sd.nodes })).heal
      (sideOf c) 1 first n), {})

/-- PARSE_NODE_WRITE (R287). -/
def execParseNodeWrite (c : Cmd) (s : State) : Host.Outcome State Fault Refusal :=
  s.opcode Op.parseNodeWrite c applyParseNodeWrite

/-- PARSE_NODE_READ (R287). -/
def Op.parseNodeRead : Op := {
  code := 0x0601, perm := .o, read := true, snap := true, utype := 0x7, len := 16,
  fields := [(0, 63, 0), (1, 63, 57), (1, 56, 49)],
  bad := fun c =>
    let n := c.f 1 56 49
    if n = 0 ∨ 128 < n ∨ 128 < c.f 1 63 57 + n then [fieldAt 1 49] else [] }

/-- The effect of PARSE_NODE_READ. -/
def applyParseNodeRead (c : Cmd) (b : Blk) : Blk × Res :=
  match snapshot c b.clk.epoch {} b.cls.cfg with
  | .error r => (b, r)
  | .ok x =>
    (b, { ext := (List.range (c.f 1 56 49)).flatMap (fun i =>
      let n := Tab.get [] (x.side (sideOf c)).nodes (c.f 1 63 57 + i)
      wordsLe ((List.range 8).map (nodeWord n))) })

/-- PARSE_NODE_READ (R287). -/
def execParseNodeRead (c : Cmd) (s : State) : Host.Outcome State Fault Refusal :=
  s.opcode Op.parseNodeRead c applyParseNodeRead

/-- A rule entry of the extended input (R274). -/
def ruleOf (ext : List Byte) (i : Nat) : RuleEntry :=
  let l := (ext.drop (128 * i)).take 128
  { value := beNat (l.take 48), mask := beNat ((l.drop 48).take 48), w0 := leWord l 12, w1 := leWord l 13 }

/-- Words 2 and 3 of an entry's action, which are reserved. -/
def ruleSpare (ext : List Byte) (i : Nat) : Nat := leWord ext (16 * i + 14) + leWord ext (16 * i + 15)

/-- Whether a side allows a destination kind (R275). -/
def sideAllows (side kind : Nat) : Bool :=
  match kind with
  | 4 => side == 1
  | 5 => side == 0
  | 7 => false
  | _ => true

/-- Whether an entry is BAD_PARAM for any writer (R279), its DEST within its range (R275). -/
def ruleBad (side : Nat) (r : RuleEntry) : Bool :=
  let k := bits r.w0 61 59
  let d := bits r.w0 58 37
  !sideAllows side k || ((k == 0 || k == 1 || k == 2 || k == 4) && d != 0) || (side == 0 && bit r.w0 23)
  || decide (64 < bits r.w0 30 24) || bits r.w0 9 0 != 0 || bits r.w1 39 0 != 0
  || (k == 5 && decide (47 < d)) || (k == 6 && decide (63 < d)) || decide (23 < bits r.w0 14 10)

/-- Whether a tenant other than 0 may not write an entry (R279). -/
def ruleDenied (b : Blk) (tenant : Nat) (r : RuleEntry) : Bool :=
  let k := bits r.w0 61 59
  bit r.w0 62 || bit r.w0 23 || bits r.w1 59 48 != 0 || bits r.w1 63 60 != 0 || k == 5 || k == 6
  || (k == 3 && b.carrierOwner (bits r.w0 58 37) != tenant)

/-- RULE_WRITE (R288). -/
def Op.ruleWrite : Op := {
  code := 0x0602, perm := .t, utype := 0x7, len := 8, fields := [(0, 63, 48), (0, 47, 39)],
  bad := fun c =>
    let first := c.f 0 63 48
    let n := c.f 0 47 39
    (if first / 32768 ≠ sideOf c then [fieldAt 0 48] else [])
    ++ (if n = 0 ∨ 256 < n ∨ 256 < first % 256 + n then [fieldAt 0 39] else []) ++ extNeed c (128 * n)
    ++ (if (List.range n).any (fun i => ruleBad (sideOf c) (ruleOf c.ext i) || ruleSpare c.ext i != 0) then [0xFF] else []),
  names := fun c => ((List.range (c.f 0 47 39)).map (ruleOf c.ext)).filterMap (fun r =>
    if bits r.w0 61 59 = 3 then some (treeUnit (flowTree (bits r.w0 58 37)), 0xFF) else none) }

/-- The effect of RULE_WRITE (R279, R288). -/
def applyRuleWrite (c : Cmd) (b : Blk) : Blk × Res :=
  let first := c.f 0 63 48
  let n := c.f 0 47 39
  if !mayAct c.tenant (b.ruleOwner first) then (b, Res.deniedObject)
  else if c.tenant ≠ 0 ∧ (List.range n).any (fun i => ruleDenied b c.tenant (ruleOf c.ext i)) then (b, Res.deniedObject)
  else
    (b.setCls (fun x =>
      { (x.heal (sideOf c) 0 first n) with
        rules := (List.range n).foldl (fun t i => Tab.set {} t (first + i) (ruleOf c.ext i)) x.rules }), {})

/-- RULE_WRITE (R288). -/
def execRuleWrite (c : Cmd) (s : State) : Host.Outcome State Fault Refusal := s.opcode Op.ruleWrite c applyRuleWrite

/-- RULE_READ (R288). -/
def Op.ruleRead : Op := {
  code := 0x0603, perm := .t, read := true, snap := true, utype := 0x7, len := 16,
  fields := [(0, 63, 0), (1, 63, 48), (1, 47, 39)],
  bad := fun c =>
    let first := c.f 1 63 48
    let n := c.f 1 47 39
    (if first / 32768 ≠ sideOf c then [fieldAt 1 48] else [])
    ++ (if n = 0 ∨ 256 < n ∨ 32768 < first % 32768 + n then [fieldAt 1 39] else []) }

/-- A rule entry as its 128 bytes. -/
def RuleEntry.bytes (r : RuleEntry) : List Byte := toBe r.value 48 ++ toBe r.mask 48 ++ wordsLe [r.w0, r.w1, 0, 0]

/-- The effect of RULE_READ: zeros for partitions the tenant does not own. -/
def applyRuleRead (c : Cmd) (b : Blk) : Blk × Res :=
  match snapshot c b.clk.epoch {} b.cls.cfg with
  | .error r => (b, r)
  | .ok x =>
    (b, { ext := (List.range (c.f 1 47 39)).flatMap (fun i =>
      let e := c.f 1 63 48 + i
      if mayAct c.tenant (b.ruleOwner e) then (Tab.get {} x.rules e).bytes else List.replicate 128 0) })

/-- RULE_READ (R288). -/
def execRuleRead (c : Cmd) (s : State) : Host.Outcome State Fault Refusal := s.opcode Op.ruleRead c applyRuleRead

/-- HASH_CONFIG (R289). -/
def Op.hashConfig : Op := {
  code := 0x0604, perm := .o, utype := 0x7, len := 16, fields := [(0, 63, 60), (0, 59, 12), (1, 63, 32)] }

/-- The effect of HASH_CONFIG. -/
def applyHashConfig (c : Cmd) (b : Blk) : Blk × Res :=
  let p := c.f 0 63 60
  (b.setCls (fun x => (x.setSide (sideOf c) (fun sd =>
    { sd with hashes := Tab.set {} sd.hashes p { sel := c.f 0 59 12, seed := c.f 1 63 32 } })).heal (sideOf c) 3 p 1), {})

/-- HASH_CONFIG (R289). -/
def execHashConfig (c : Cmd) (s : State) : Host.Outcome State Fault Refusal := s.opcode Op.hashConfig c applyHashConfig

/-- An indirection entry of the extended input. -/
def indOf (ext : List Byte) (i : Nat) : Nat := leNat ((ext.drop (4 * i)).take 4)

/-- Whether an indirection entry is of a kind its side does not allow, or holds a reserved bit (R54, R282). -/
def indBad (side e : Nat) : Bool :=
  let k := bits e 31 29
  !(k == 0 || k == 1 || k == 3 || (k == 5 && side == 0)) || bits e 6 0 != 0
  || ((k == 0 || k == 1) && bits e 28 7 != 0) || (k == 5 && decide (47 < bits e 28 7))

/-- INDIRECTION_WRITE (R290). -/
def Op.indirectionWrite : Op := {
  code := 0x0605, perm := .o, utype := 0x7, len := 8, fields := [(0, 63, 58), (0, 57, 49), (0, 48, 39)],
  bad := fun c =>
    let n := c.f 0 48 39
    (if n = 0 ∨ 512 < n ∨ 512 < c.f 0 57 49 + n then [fieldAt 0 39] else []) ++ extNeed c (4 * n)
    ++ (if (List.range n).any (fun i => indBad (sideOf c) (indOf c.ext i)) then [0xFF] else []),
  names := fun c => ((List.range (c.f 0 48 39)).map (indOf c.ext)).filterMap (fun e =>
    if bits e 31 29 = 3 then some (treeUnit (flowTree (bits e 28 7)), 0xFF) else none) }

/-- The effect of INDIRECTION_WRITE. -/
def applyIndirectionWrite (c : Cmd) (b : Blk) : Blk × Res :=
  let base := c.f 0 63 58 * 512 + c.f 0 57 49
  let n := c.f 0 48 39
  (b.setCls (fun x => (x.setSide (sideOf c) (fun sd =>
    { sd with ind := (List.range n).foldl (fun t i => Tab.set 0 t (base + i) (indOf c.ext i)) sd.ind })).heal
      (sideOf c) 2 base n), {})

/-- INDIRECTION_WRITE (R290). -/
def execIndirectionWrite (c : Cmd) (s : State) : Host.Outcome State Fault Refusal :=
  s.opcode Op.indirectionWrite c applyIndirectionWrite

/-- EXCEPTION_CONFIG (R291). -/
def Op.exceptionConfig : Op := {
  code := 0x0606, perm := .o, utype := 0x7, unit := some 0x7000, len := 8,
  fields := [(0, 63, 57), (0, 56, 56), (0, 55, 55), (0, 54, 39), (0, 38, 31)],
  bad := fun c => (if 64 < c.f 0 63 57 then [fieldAt 0 57] else []) ++ (if c.f 0 54 39 = 0 then [fieldAt 0 39] else []) }

/-- The effect of EXCEPTION_CONFIG. -/
def applyExceptionConfig (c : Cmd) (b : Blk) : Blk × Res :=
  (b.setCls (fun x => { x with
    exc := Tab.set {} x.exc (c.f 0 63 57)
      { treeMiss := c.b 0 56, upMiss := c.b 0 55, rate := c.f 0 54 39, snap := c.f 0 38 31 } }), {})

/-- EXCEPTION_CONFIG (R291). -/
def execExceptionConfig (c : Cmd) (s : State) : Host.Outcome State Fault Refusal :=
  s.opcode Op.exceptionConfig c applyExceptionConfig

end Sys2Proof.Machine
end

