-- ==== Sys2Proof/Machine/Directory.lean ====
section
/-! DEFINITION. The endpoint directory (07): upstream and downstream endpoint messages, learning, aging, outage
records and the commands on contexts. -/
namespace Sys2Proof.Machine

/-! ### Order (R245) -/

/-- An upstream phase as one number. -/
def slotOf (uf phase : Nat) : Nat := 8 * uf + phase

/-- The upstream phase of a position. -/
def orderSlot (o : List Nat) : Nat := slotOf (o.getD 0 0) (o.getD 1 0)

/-! ### Outage events and records (R253 to R256) -/

/-- Produces an outage event, while records are built (R255). -/
def Blk.outage (b : Blk) (ev : OutEvent) : Blk :=
  if b.dir.outEnable then
    { b with dir := { b.dir with events := b.dir.events ++ [{ ev with point := b.dir.point, window := b.dir.window }] } }
  else b

/-- Whether an event is one of a terminal, whose record closes at the next boundary point (R255). -/
def OutEvent.ofTerminal (ev : OutEvent) : Bool := ev.kind == 3 || ev.kind == 4

/-- Closes an open record: SEQ is assigned, and BOUND of a terminal record (R254). -/
def Blk.closeRec (b : Blk) (r : OutRec) : Blk :=
  let seq := Tab.get 0 b.dir.outSeq r.tenant
  let bound := if r.kind = 3 ∨ r.kind = 4 then Tab.get 0 b.dir.boundCount r.terminal else 0
  { b with dir := { b.dir with
      open_ := b.dir.open_.filter (· != r), closed := b.dir.closed ++ [{ r with seq := seq, boundCount := bound }],
      outSeq := Tab.set 0 b.dir.outSeq r.tenant ((seq + 1) % 65536) } }

/-- Whether a record gathers an event. -/
def OutRec.takes (r : OutRec) (ev : OutEvent) : Bool :=
  r.kind == ev.kind && r.tenant == ev.tenant && r.terminal == ev.terminal

/-- Open records and reports of a cluster (R435). -/
def Blk.storeUsed (b : Blk) (cluster : Nat) : Nat :=
  (b.dir.open_.filter (fun r => r.cluster == cluster)).length + (b.tum.reports.filter (fun r => r.cluster == cluster)).length

/-- Opens of a report store (R435). -/
def reportStore : Nat := 4096

/-- The directory island whose counters take a record: that of its cluster's banks. -/
def recIsland (cluster : Nat) : Nat := 66 + cluster / 8

/-- An outage record is dropped (R256). -/
def Blk.loseRec (b : Blk) (tenant island : Nat) : Blk :=
  ({ b with dir := { b.dir with outLost := Tab.upd 0 b.dir.outLost tenant (· + 1) } }).countDir 23 island tenant 1

/-- Opens a record with its first event; a full store drops it (R451). -/
def Blk.openRec (b : Blk) (ev : OutEvent) : Blk :=
  if reportStore ≤ b.storeUsed ev.cluster then
    ({ b with dir := { b.dir with
      outSeq := Tab.upd 0 b.dir.outSeq ev.tenant (fun n => (n + 1) % 65536) } }).loseRec ev.tenant (recIsland ev.cluster)
  else
    let r : OutRec := {
      kind := ev.kind, tenant := ev.tenant, terminal := ev.terminal, first := ev.stamp, last := ev.stamp,
      entries := if ev.ofTerminal then [] else [ev.endpoint], cluster := ev.cluster,
      closeAt := if ev.ofTerminal then ev.point + 1 else max (ev.point + 1) (ev.stamp + ev.window) }
    { b with dir := { b.dir with open_ := b.dir.open_ ++ [r] } }

/-- Gathers an event into its record: the one that is open at the event's place in the bank stream, or a new one (R255). -/
def Blk.gather (b : Blk) (ev : OutEvent) : Blk :=
  if ev.ofTerminal then b.openRec ev
  else
  match b.dir.open_.find? (fun r => r.takes ev) with
  | none => b.openRec ev
  | some r =>
    if r.closeAt ≤ ev.point then (b.closeRec r).openRec ev
    else
      let r' := { r with entries := r.entries ++ [ev.endpoint], last := ev.stamp }
      let b := { b with dir := { b.dir with open_ := b.dir.open_.map (fun x => if x = r then r' else x) } }
      if 1016 ≤ r'.entries.length then b.closeRec r' else b

/-- Gathers every event that waits, so that records can close at this place of the bank stream (R255, R258). -/
def Blk.gatherAll (b : Blk) : Blk :=
  b.dir.events.foldl Blk.gather { b with dir := { b.dir with events := [] } }

/-- An outage record as its bytes (R254). -/
def OutRec.bytes (r : OutRec) (lost : Nat) : List Byte :=
  wordsLe [pack [(r.kind, 56), (r.tenant % 128, 49), (r.terminal % 2 ^ 15, 34), (r.entries.length % 2 ^ 18, 16), (r.seq, 0)],
           r.first % 2 ^ 64, r.last % 2 ^ 64, pack [(lost % 2 ^ 32, 32), (r.boundCount % 2 ^ 32, 0)]]
  ++ r.entries.flatMap (fun e => toLe (e % 2 ^ 25) 4)

/-- Queues a closed record for its tenant's notice queue, or drops it (R255, R256). LOST is written when the host port delivers
it. -/
def Blk.deliverRec (b : Blk) (r : OutRec) : Blk :=
  let x := b.admitFlag (hostQueue r.tenant 1)
    { data := r.bytes 0, fcsLen := 0, input := 113, tenant := r.tenant, stamp := b.clk.epoch, source := recIsland r.cluster }
  if x.2 then x.1 else x.1.loseRec r.tenant (recIsland r.cluster)

/-- Whether a record can close: its boundary point has been passed, and every event before that point is in its record (R255). -/
def Blk.closes (b : Blk) (r : OutRec) : Bool :=
  decide (r.closeAt ≤ b.dir.point) && !b.dir.events.any (fun ev => r.takes ev && decide (ev.point < r.closeAt))

/-- OUTAGE_RECORD_CLOSE (R255): the open record of a terminal, tenant and kind closes at its boundary point. -/
def execOutageRecordClose (terminal tenant kind : Nat) (s : State) : Host.Outcome State Fault Refusal :=
  s.svc (fun b =>
    match b.dir.open_.find? (fun r => r.terminal == terminal && r.tenant == tenant && r.kind == kind) with
    | some r => if b.closes r then b.closeRec r else b
    | none => b)

/-- OUTAGE_RECORD_DELIVER (R256): the oldest closed record goes to its tenant's notice queue. -/
def execOutageRecordDeliver (s : State) : Host.Outcome State Fault Refusal :=
  s.svc (fun b =>
    match b.dir.closed with
    | [] => b
    | r :: rest => ({ b with dir := { b.dir with closed := rest } }).deliverRec r)

/-! ### Sightings (R248) -/

/-- What a sighting was: INFO's SIGHTING codes (R439). -/
inductive Sight where
  | hit | learned | moved | other
  deriving DecidableEq, Repr

/-- The code of a sighting. -/
def Sight.code : Sight → Nat
  | .hit => 0
  | .learned => 1
  | .moved => 2
  | .other => 3

/-- No candidate. -/
def Ctx.noCandidate (c : Ctx) : Ctx := { c with candTerminal := 0, candCarrier := 0, candCount := 0, candFirst := 0 }

/-- A binding to a place, heard at n. -/
def Ctx.bindTo (c : Ctx) (terminal carrier n : Nat) : Ctx :=
  { c.noCandidate with bound := true, terminal := terminal, carrier := carrier, lastSeen := n, stale := false }

/-- The CONFLICT record (R248). -/
def conflictRec (e static terminal carrier : Nat) : RecIn :=
  { type := 0x0500, island := dirIsland e, object := e, detail := static, w6 := terminal * 65536 + carrier }

/-- A sighting of a context from a place with stamp n: the context, what it was, the counter it raises and
whether it writes a CONFLICT record (R248). -/
def Ctx.sighting (c : Ctx) (t k n : Nat) : Ctx × Sight × Option Nat × Bool :=
  let same := c.bound && c.terminal == t && c.carrier == k
  if c.isStatic then
    if same then ({ c with lastSeen := n, stale := false }, .hit, none, false) else (c, .other, some 17, true)
  else if !c.bound then (c.bindTo t k n, .learned, some 14, false)
  else if same then ({ c with lastSeen := n, stale := false }, .hit, none, false)
  else if c.candCount = 0 ∨ c.candTerminal ≠ t ∨ c.candCarrier ≠ k ∨ c.candFirst + 1000 ≤ n then
    ({ c with candTerminal := t, candCarrier := k, candCount := 1, candFirst := n }, .other, some 15, true)
  else
    let m := min 3 (c.candCount + 1)
    if m = 3 ∧ c.lastSeen + 2 ≤ n then (c.bindTo t k n, .moved, some 16, false)
    else ({ c with candCount := m }, .other, none, false)

/-! ### Upstream messages (R242, R243) -/

/-- The exception information of a message from the directory (R284). -/
def upExc (reason tenant e : Nat) (m : UpMsg) : ExcInfo :=
  { reason := reason, tenant := tenant, side := 0, low := pack [(m.flow / 65536 % 64, 42)], flow := m.flow, endpoint := e }

/-- The message as a frame. -/
def UpMsg.frame (m : UpMsg) : Frame :=
  { data := m.sdu, fcsLen := 0, input := m.flow / 65536, flow := m.flow, terminal := m.terminal, stamp := m.stamp,
    toa := m.toa, gen := m.gen, order := m.order, source := m.flow / 65536 }

/-- Whether an endpoint is held as unsynced (R428). -/
def Blk.unsynced (b : Blk) (e : Nat) : Bool :=
  match b.pair.unsyncedFrom with
  | none => false
  | some f => decide (f ≤ e) && decide (e < 2 ^ 25) && !b.pair.resynced.contains e

/-- Check 9 (R351). -/
def aliveOk (c : Ctx) (w kind alive : Nat) : Bool :=
  let d := (alive + 65536 - c.aliveLast) % 65536
  !c.aliveSeen || (kind == 2 && c.prot != 0) || (decide (1 ≤ d) && decide (d ≤ w))

/-- Checks 6 to 9 of a message whose lengths and keys are in order: the plaintext and the block configuration that the message
uses, or the counter of the check that failed; none where the cipher engine withheld its result (R331). The configuration is
read once, and only for a context that uses ALIVE_W or RUN_SCOPE (R352). -/
def Blk.openChecked (b : Blk) (e : Nat) (c : Ctx) (m : UpMsg) (hdr : Nat) :
    Blk × Option (Except Nat (List Byte × BlockCfg)) :=
  let len := bits hdr 78 71
  let counter := bits hdr 63 0
  let finish := fun (b : Blk) (plain : List Byte) =>
    if c.prot ≠ 0 ∧ counter ≤ c.rxCounter then (b, some (.error 8))
    else if plain.drop len ≠ checkBytes c.poly (m.sdu.take 16 ++ plain.take len) then (b, some (.error 9))
    else
      let r := if c.aliveEn || c.poly != 0 then b.blockCfg e else (b, {})
      if c.aliveEn ∧ !aliveOk c r.2.aliveW (bits hdr 123 120) (bits hdr 94 79) then (r.1, some (.error 10))
      else (r.1, some (.ok (plain, r.2)))
  if c.prot = 0 then finish b (m.sdu.drop 16)
  else
    match b.endpointKey e c with
    | (b, .mismatch) => (b, some (.error 7))
    | (b, .failed) => (b, some (.error 7))
    | (b, .key k) =>
      let r := b.cipherOp (cipherOfEp e) e false m.sdu.length
      if !r.2 then (r.1, none)
      else
        match openMsg c k m.sdu counter with
        | none => (r.1, some (.error 7))
        | some plain => finish r.1 plain

/-- The job of an accepted message (R438, R439). -/
def mkJob (e : Nat) (c : Ctx) (tenant : Nat) (m : UpMsg) (hdr : Nat) (plain : List Byte) (sight : Sight) (oneSided : Bool) : Job :=
  { endpoint := e, tenant := tenant, svc := c.svc, stamp := m.stamp, toa := m.toa, gen := m.gen,
    msg := m.sdu.take 16 ++ plain, len := bits hdr 78 71, mkind := bits hdr 123 120,
    info := pack [(c.terminal, 49), (c.carrier, 33), (tenant, 26), (c.svc, 19), (sight.code, 17)],
    order := m.order, oneSided := oneSided }

/-- The outage rules on an accepted message (R253). -/
def Blk.outageRules (b : Blk) (e : Nat) (c : Ctx) (kind n : Nat) : Blk × Ctx :=
  let t := b.endpointOwner e
  let ev := fun (k : Nat) => ({
    kind := k, tenant := t, terminal := c.terminal, endpoint := e, stamp := n, cluster := clusterOf e } : OutEvent)
  if kind = 1 then
    if c.gasped then (b.countEp 20 e, c)
    else
      let b := b.countEp 19 e
      (if c.outageEn then b.outage (ev 1) else b, { c with gasped := true, gaspEpoch := n })
  else if c.gasped then
    let b := b.countEp 21 e
    (if c.outageEn then b.outage (ev 2) else b, { c with gasped := false })
  else (b, c)

/-- An accepted message changes its context in one read-modify-write and starts its job (R243). -/
def Blk.acceptMsg (b : Blk) (e : Nat) (c : Ctx) (m : UpMsg) (hdr : Nat) (plain : List Byte) (cfg : BlockCfg) : Blk :=
  let counter := bits hdr 63 0
  let b := b.countEp 0 e
  let c1 := if c.prot = 0 then c else { c with
    rxCounter := counter, keyWarn := c.keyWarn || decide (warnAt ≤ counter), keySpent := c.keySpent || decide (spentAt ≤ counter) }
  let b := if c.prot = 0 then b else b.limitRecords e counter c.keyWarn c.keySpent
  let c2 := if bit cfg.runScope 0 then c1.take (plain.take (bits hdr 78 71)) else c1
  let c3 := if c.aliveEn then { c2 with aliveLast := bits hdr 94 79, aliveSeen := true } else c2
  let sg := c3.sighting m.terminal (m.flow % 65536) m.stamp
  let b := match sg.2.2.1 with
    | some ctr => b.countEp ctr e
    | none => b
  let b := if sg.2.2.2 then b.vent { conflictRec e (b2n c.isStatic) m.terminal (m.flow % 65536) with tenant := b.endpointOwner e } else b
  let o := b.outageRules e sg.1 (bits hdr 123 120) m.stamp
  let b := o.1.putCtx e c o.2
  { b with tum := { b.tum with jobs := b.tum.jobs ++ [mkJob e o.2 (b.endpointOwner e) m hdr plain sg.2.1 false] } }

/-- An upstream message judged by the checks of R242, in order; accepted messages that the pair agrees on change
live state, others of a pair are forwarded alone (R247). The flag says whether it was accepted. -/
def Blk.upMessage (b : Blk) (m : UpMsg) (agree : Bool) : Blk × Bool :=
  if m.sdu.length < 16 then (b.countDir 2 66 (b.carrierOwner m.flow) 1, false)
  else
    let hdr := beNat (m.sdu.take 16)
    let e := bits hdr 119 95
    let owner := b.endpointOwner e
    if bits hdr 127 124 ≠ 1 ∨ 3 < bits hdr 123 120 ∨ bits hdr 70 64 ≠ 0 then (b.countEp 2 e, false)
    else if b.unsynced e then
      let b := { b with pair := { b.pair with heard := Tab.set 0 b.pair.heard e (m.terminal * 65536 + m.flow % 65536 + 1) } }
      (b.except m.frame (upExc 0x06 owner e m) m.sdu, false)
    else
      match b.readCtx e with
      | (b, none) => (b, false)
      | (b, some c) =>
        let total := 16 + bits hdr 78 71 + checkWidth c.poly + (if c.prot = 0 then 0 else 16)
        if !c.valid then (b.countEp 3 e, false)
        else if m.sdu.length ≠ total ∨ 256 < total then (b.countEp 2 e, false)
        else if c.prot ≠ 0 ∧ !c.keyLoaded then ((b.countEp 5 e).except m.frame (upExc 0x06 owner e m) m.sdu, false)
        else if c.keySpent then ((b.countEp 6 e).except m.frame (upExc 0x07 owner e m) m.sdu, false)
        else
          match b.openChecked e c m hdr with
          | (b, none) => (b, false)
          | (b, some (.error ctr)) => (b.countEp ctr e, false)
          | (b, some (.ok (plain, cfg))) =>
            if agree then (b.acceptMsg e c m hdr plain cfg, true)
            else
              let j := mkJob e c owner m hdr plain .other true
              ((({ b with tum := { b.tum with jobs := b.tum.jobs ++ [j] } }).countEp 0 e).countEp 13 e, true)

/-! ### The bank stream (R245 to R247) -/

/-- Trees whose marker a batch waits for: fitted and not retired (R246). -/
def Blk.markerTrees (b : Blk) : List Nat :=
  (List.range (Part.trees b.sys.part)).filter (fun t => !(b.tree t).stopped)

/-- Whether a tree's marker for a phase has arrived. -/
def Blk.marked (b : Blk) (t slot : Nat) : Bool := b.dir.markers.contains (t, slot)

/-- Trees that a batch still waits for: neither is their marker for the phase there nor did its deadline pass without it. -/
def Blk.unmarked (b : Blk) (slot : Nat) : List Nat :=
  b.markerTrees.filter (fun t => !b.marked t slot && !b.dir.late.contains (t, slot))

/-- Whether a tree's part of a phase is late: left out at the deadline, or its batch was applied without its marker (R246). -/
def Blk.partLate (b : Blk) (t slot : Nat) : Bool :=
  b.dir.late.contains (t, slot) || (decide (slot < b.dir.next) && !b.marked t slot)

/-- BURST of an accept entry: how many bursts of the tree in the phase begin before it (R410). -/
def Blk.burstIndex (b : Blk) (tree uf phase start : Nat) : Nat :=
  (b.gey.grants.filter (fun g => g.tree == tree && g.uf == uf && g.start / (frameSlots (b.tree tree).mode / 8) == phase && decide (g.start < start))).length

/-- The accept entry of a message or stream SDU at a position (R410). -/
def Blk.acceptEntry (b : Blk) (kind : Nat) (order : List Nat) (bytes : List Byte) : AcceptEntry :=
  { kind := kind, tree := order.getD 2 0, endOff := order.getD 4 0, crc := crc32c bytes,
    burst := b.burstIndex (order.getD 2 0) (order.getD 0 0) (order.getD 1 0) (order.getD 3 0) }

/-- An accept entry as it is sent (R410). -/
def AcceptEntry.bytes (a : AcceptEntry) : List Byte :=
  toBe (pack [(a.kind, 62), (a.tree, 56), (a.burst % 128, 49), (a.endOff % 2 ^ 17, 32), (a.crc % 2 ^ 32, 0)]) 8

/-- The messages of a phase, in the order of R245. -/
def Blk.batchOf (b : Blk) (slot : Nat) : List UpMsg :=
  sortBy UpMsg.order (b.dir.inbox.filter (fun m => orderSlot m.order == slot))

/-- The entries of the messages of a batch that this chip accepts, judged on the contexts as they stand. -/
def Blk.wouldAccept (b : Blk) (l : List UpMsg) : List AcceptEntry :=
  (l.foldl (fun (acc : Blk × List AcceptEntry) m =>
    let r := acc.1.upMessage m true
    (r.1, if r.2 then acc.2 ++ [b.acceptEntry 0 m.order m.sdu] else acc.2)) (b, [])).2

/-- This chip's accept list of a phase: endpoint messages and stream SDUs (R410). -/
def Blk.acceptList (b : Blk) (slot : Nat) : List AcceptEntry :=
  let streams := (b.sw.seqWait.filter (fun f => f.stream != 0 && f.order.length == 5 && orderSlot f.order == slot)).map (fun f =>
    b.acceptEntry 1 f.order f.data)
  sortBy (fun a => [a.tree, a.burst, a.endOff]) (b.wouldAccept (b.batchOf slot) ++ streams)

/-- An accept list of a phase, if it is held. -/
def acceptsOf (l : List PhaseAccepts) (slot : Nat) : Option (List AcceptEntry) :=
  (l.find? (fun a => a.slot == slot)).map PhaseAccepts.entries

/-- Sends this chip's accept list of a phase, once (R410). -/
def Blk.sendAccepts (b : Blk) (slot : Nat) : Blk :=
  if (acceptsOf b.pair.own slot).isSome then b
  else
    let l := b.acceptList slot
    let b := { b with pair := { b.pair with own := (({ slot := slot, entries := l } : PhaseAccepts) :: b.pair.own).take 64 } }
    b.sendLink 0x09 (l.flatMap AcceptEntry.bytes)

/-- Whether the page that holds an endpoint's context is installed on a newcomer (R423). -/
def Blk.pageIn (b : Blk) (e : Nat) : Bool := b.pair.installed.contains (6, e / 256)

/-- A newcomer asks for a page again (R424). -/
def Blk.askPage (b : Blk) (item no : Nat) : Blk :=
  (({ b with pair := { b.pair with installed := b.pair.installed.filter (· != (item, no)) } }).sendLink 0x0E
    (toBe item 1 ++ toBe no 4)).count 0xA4 11 83

/-- Downstream endpoint messages of the reference chip whose phase has been applied come next (R408). -/
def Blk.takeAgreed (b : Blk) (slot : Nat) : Blk :=
  let due := b.pair.agreedDn.filter (fun x => decide (x.1 ≤ slot))
  let msgs := due.map (fun x => ({
    frame := { data := x.2.2, fcsLen := 0, input := 113, stamp := b.clk.epoch }, data := x.2.2, payload := 0, exc0 := 0,
    excTag := 0, owner := x.2.1, emitted := true } : DnMsg))
  { b with
    pair := { b.pair with agreedDn := b.pair.agreedDn.filter (fun x => decide (slot < x.1)) },
    dir := { b.dir with dnWait := b.dir.dnWait ++ msgs } }

/-- The endpoint that a message names. -/
def UpMsg.endpoint (m : UpMsg) : Nat := bits (beNat (m.sdu.take 16)) 119 95

/-- The directory island of a message. -/
def UpMsg.island (m : UpMsg) : Nat := 66 + stackOf m.endpoint

/-- A message at its place in the bank stream. A newcomer logs what the chip in service accepted, and applies it where the page
of its endpoint is installed (R424). -/
def Blk.judge (b : Blk) (m : UpMsg) (agree : Bool) : Blk :=
  if b.pair.role != .joining then (b.upMessage m agree).1
  else if !agree then b
  else
    let slot := orderSlot m.order
    let b := { b with pair := { b.pair with log := (b.pair.log ++ [(slot, LogItem.msg m)]).filter (fun x => decide (slot < x.1 + 64)) } }
    if !b.pageIn m.endpoint then b
    else
      let r := b.upMessage m true
      if r.2 then r.1 else r.1.askPage 6 (m.endpoint / 256)

/-- Whether a message's cipher island has no working lane (R331). -/
def Blk.laneless (b : Blk) (m : UpMsg) : Bool := b.sys.part == .bvh6400 && b.lanes (cipherOfEp m.endpoint) == []

/-- A message judged, or kept in its order while its cipher island has no working lane (R329, R331), or discarded as too old. -/
def Blk.judgeOrHold (b : Blk) (m : UpMsg) (agree : Bool) : Blk :=
  if stale m.stamp b.clk.epoch then b.staleDiscard m.island
  else if b.laneless m then
    let b := b.noteDown (cipherOfEp m.endpoint)
    { b with dir := { b.dir with held := b.dir.held ++ [(m, agree)] } }
  else b.judge m agree

/-- The messages that waited for a lane come before those of the next batch. -/
def Blk.runHeld (b : Blk) : Blk :=
  b.dir.held.foldl (fun b x => b.judgeOrHold x.1 x.2) { b with dir := { b.dir with held := [] } }

/-- One message of a batch, in its place: `i` is its number in the batch. -/
def Blk.batchItem (b : Blk) (upsets : List Upset) (partner : Option (List AcceptEntry)) (i : Nat) (m : UpMsg) : Blk :=
  if upsets.contains (.channel i) then b.checkFail m.island
  else b.judgeOrHold m (match partner with
    | none => true
    | some l => l.contains (b.acceptEntry 0 m.order m.sdu))

/-- Applies the batch of a phase (R245). -/
def Blk.applyBatch (b : Blk) (slot : Nat) (upsets : List Upset) : Blk :=
  let b := b.plant upsets
  let partner := if b.joined || b.pair.role == .joining then some ((acceptsOf b.pair.other slot).getD []) else none
  let l := b.batchOf slot
  let b := { b with dir := { b.dir with
    inbox := b.dir.inbox.filter (fun m => orderSlot m.order != slot), next := slot + 1,
    late := b.dir.late.filter (fun x => decide (slot < x.2 + 64)),
    markers := b.dir.markers.filter (fun x => decide (slot < x.2 + 64)) } }
  ((l.zip (List.range l.length)).foldl (fun (b : Blk) x => b.batchItem upsets partner x.2 x.1) b.runHeld).takeAgreed slot

/-- Whether every message of a phase that the batch takes is at the banks: each tree's marker came or is late, and no message of
the phase waits in the endpoint queue but those of a late tree (R245, R246). -/
def Blk.batchReady (b : Blk) (slot : Nat) : Bool :=
  b.unmarked slot == [] && !(b.queue endpointQueue).any (fun f => orderSlot f.order == slot && !b.dir.late.contains (f.input, slot))

/-- Whether the bank stream is shared with the partner, so that a batch needs the partner's accept list (R247, R424). -/
def Blk.agrees (b : Blk) : Bool := b.joined || b.pair.role == .joining

/-- Takes the batch of a phase once it is ready, in a joined pair with the partner's list (R245, R247, R403). -/
def Blk.takeBatch (b : Blk) (slot : Nat) (upsets : List Upset) : Blk :=
  if !b.batchReady slot then b
  else
    let b := if b.agrees || b.feeding then b.sendAccepts slot else b
    if b.agrees && (acceptsOf b.pair.other slot).isNone then b else b.applyBatch slot upsets

/-- The parts of the trees whose markers have not come are left out of a phase at its deadline (R246). -/
def Blk.leaveOut (b : Blk) (slot : Nat) : Blk :=
  let missing := b.unmarked slot
  { b with dir := { b.dir with
      inbox := b.dir.inbox.filter (fun m => !(orderSlot m.order == slot && missing.contains (m.order.getD 2 0))),
      late := missing.map (fun t => (t, slot)) ++ b.dir.late } }

/-- The slot up to which the stream may run before the next boundary point, which lies before the batch of phase 7 of the last
frame of the epoch (R245). -/
def Directory.bound (d : Directory) : Nat := 64 * (d.point + 1) - 1

/-- Phases that have ended and brought no message pass without a row of their own, up to a slot: their deadline has passed
(R246). While another chip must agree, every phase has its batch. -/
def Blk.passIdle (b : Blk) (stop : Nat) : Blk :=
  if b.agrees || b.feeding then b
  else
    let waits := (b.dir.inbox.map (fun m => orderSlot m.order) ++ (b.queue endpointQueue).map (fun f => orderSlot f.order)).filter
      (fun k => decide (b.dir.next ≤ k))
    { b with dir := { b.dir with next := max b.dir.next (waits.foldl min (min stop b.dir.bound)) } }

/-- A message that comes after its batch was applied without its tree's part (R246). -/
def Blk.lateMessage (b : Blk) (flow : Nat) (sdu : List Byte) : Blk :=
  if sdu.length < 16 then b.countDir 26 66 (b.carrierOwner flow) 1
  else b.countEp 26 (bits (beNat (sdu.take 16)) 119 95)

/-- LATE_ENDPOINT_MESSAGE (R246): a message of a tree and phase whose batch was applied without that tree. -/
def execLateEndpointMessage (tree uf phase flow : Nat) (sdu : List Byte) (s : State) : Host.Outcome State Fault Refusal :=
  s.svc (fun b => if b.partLate tree (slotOf uf phase) then b.lateMessage flow sdu else b)

/-- A message leaves the endpoint queue for its bank: only those of a late tree find their batch closed (R245, R246). -/
def Blk.toBank (b : Blk) (f : Frame) : Blk :=
  if b.dir.late.contains (f.input, orderSlot f.order) ∨ orderSlot f.order < b.dir.next then b.lateMessage f.flow f.data
  else
    let m : UpMsg := {
      sdu := f.data, flow := f.flow, terminal := f.terminal, stamp := f.stamp, toa := f.toa, gen := f.gen, order := f.order }
    { b with dir := { b.dir with inbox := b.dir.inbox ++ [m] } }

/-! ### Downstream messages (R244) -/

/-- The exception of a downstream message (R284). -/
def dnExc (reason tenant e : Nat) (m : DnMsg) : ExcInfo :=
  { reason := reason, tenant := tenant, side := 1, low := m.exc0, endpoint := e, excTag := m.excTag }

/-- Seals a message with the counter drawn and queues it on its carrier (R241, R244, R351). -/
def Blk.sealAndQueue (b : Blk) (e : Nat) (key : List Byte) (m : DnMsg) (kind : Nat) (payload : List Byte) (n : Nat) : Blk :=
  let c := Tab.get {} b.dir.ctxs e
  let hdr := msgHeader kind e n payload.length (if c.prot = 0 then 0 else n)
  let sealed_ := sealMsg c key hdr payload n
  let ok := if c.prot = 0 then (b, true) else b.cipherOp (cipherOfEp e) e false (payload.length + checkWidth c.poly)
  if !ok.2 then ok.1
  else
    let b := ok.1.countEp 1 e
    let cfg := if c.poly = 0 then (b, {}) else b.blockCfg e
    let b := if bit cfg.2.runScope 1 then cfg.1.writeCtx e (c.take payload) else cfg.1
    let flow := c.terminal / 512 * 65536 + c.carrier
    let k := (b.carrierAt m.frame.stamp flow).defClass
    (b.countIn 113 sealed_.length).enqueue (classQueue (flowTree flow) k)
      { data := sealed_, fcsLen := 0, input := 113, flow := flow, stamp := m.frame.stamp, tclass := k }

/-- One downstream message by the rows of R244; the flag is false where it waits for a lease (R338). -/
def Blk.dnMessage (b : Blk) (m : DnMsg) : Blk × Bool :=
  let l := m.data.drop m.payload
  if l.length < 16 then (b.countDir 27 66 m.owner 1, true)
  else
    let hdr := beNat (l.take 16)
    let e := bits hdr 119 95
    let len := bits hdr 78 71
    let owner := b.endpointOwner e
    if bits hdr 127 124 ≠ 1 ∨ 3 < bits hdr 123 120 ∨ l.length < 16 + len then (b.countEp 27 e, true)
    else
      match b.readCtx e with
      | (b, none) => (b.countEp 11 e, true)
      | (b, some c) =>
        if !c.valid ∨ !c.bound then (b.countEp 11 e, true)
        else if c.prot ≠ 0 ∧ !c.keyLoaded then ((b.countEp 5 e).except m.frame (dnExc 0x06 owner e m) m.data, true)
        else if c.keySpent then ((b.countEp 6 e).except m.frame (dnExc 0x07 owner e m) m.data, true)
        else if 256 < 16 + len + checkWidth c.poly + (if c.prot = 0 then 0 else 16) then (b.countEp 28 e, true)
        else if c.prot ≠ 0 ∧ b.lanes (cipherOfEp e) = [] then (b.noteDown (cipherOfEp e), false)
        else
          let go := fun (b : Blk) (key : List Byte) =>
            match b.drawEp e with
            | (b, none) => (b, false)
            | (b, some n) => (b.sealAndQueue e key m (bits hdr 123 120) ((l.drop 16).take len) n, true)
          if c.prot = 0 then go b []
          else
            match b.endpointKey e c with
            | (b, .key k) => go b k
            | (b, _) => (b, true)

/-- Takes the first waiting message that need not wait for a lease; those that wait keep their places. -/
def Blk.dnGo (b : Blk) : List DnMsg → List DnMsg → Blk
  | [], _ => b
  | m :: r, front =>
    let b' := { b with dir := { b.dir with dnWait := front ++ r } }
    if stale m.frame.stamp b.clk.epoch then
      let e := bits (beNat ((m.data.drop m.payload).take 16)) 119 95
      (if m.waiting then b'.stopWaiting e else b').staleDiscard (66 + stackOf e)
    else
      let x := b'.dnMessage m
      if x.2 then x.1
      else
        let m' := { m with waiting := true }
        Blk.dnGo { x.1 with dir := { x.1.dir with dnWait := front ++ [m'] ++ r } } r (front ++ [m'])

/-- DOWNSTREAM_ENDPOINT_MESSAGE (R244): the oldest downstream message that need not wait is judged. In a joined pair
the reference chip sends it to its partner, and the partner drops the copies it classified itself (R408). -/
def execDownstreamEndpointMessage (upsets : List Upset) (s : State) : Host.Outcome State Fault Refusal :=
  s.svc (fun b =>
    let b := b.plant upsets
    let b := if b.joined && !b.pair.reference then
        { b with dir := { b.dir with dnWait := b.dir.dnWait.filter (fun m => m.emitted) } } else b
    let b := match b.dir.dnWait with
      | m :: _ => if b.joined && b.pair.reference && !m.emitted && !m.waiting then b.sendLink 0x0B (m.data.drop m.payload) else b
      | [] => b
    match b.dir.dnWait, upsets.any (fun u => match u with
        | .channel _ => true
        | _ => false) with
    | m :: r, true =>
      ({ b with dir := { b.dir with dnWait := r } }).checkFail (66 + stackOf (bits (beNat ((m.data.drop m.payload).take 16)) 119 95))
    | l, _ => b.dnGo l [])

/-! ### Aging (R250, R251) -/

/-- AGE_T that governs an epoch (R250). -/
def Directory.ageAt (d : Directory) (n : Nat) : Nat :=
  match d.ages.find? (fun x => decide (x.1 ≤ n)) with
  | some (_, t) => t
  | none => 0

/-- AGE_T as last set. -/
def Directory.ageT (d : Directory) : Nat := (d.ages.headD (0, 0)).2

/-- A new value of AGE_T at epoch n: visits under it begin with its first period from n on, and those of the values before it end
there (R250). What governed only epochs before n is forgotten. -/
def Directory.setAge (d : Directory) (t n : Nat) : Directory :=
  let from_ := if t = 0 then n else ceilDiv n t * t
  let old := d.ages.filter (fun x => decide (x.1 < from_))
  if t = d.ageT then d
  else { d with ages := (from_, t) :: old.filter (fun x => decide (n ≤ x.1 + 1)) ++ (old.find? (fun x => decide (x.1 + 1 < n))).toList }

/-- Whether an endpoint is visited in an epoch. -/
def visited (e t n : Nat) : Bool := decide (0 < t) && n % t == e * t / 2 ^ 25

/-- One sweep visit (R251): the event of a removal carries the epoch whose boundary point applies it. -/
def Blk.sweepVisit (b : Blk) (e : Nat) : Blk :=
  match b.readCtx e with
  | (b, none) => b
  | (b, some c) =>
    if !c.valid ∨ !c.bound ∨ c.isStatic ∨ c.gasped then b
    else if !c.stale then b.writeCtx e { c with stale := true }
    else
      let b := (b.putCtx e c { c with bound := false, stale := false }).countEp 18 e
      if b.dir.agedNotice then
        b.outage { kind := 5, tenant := b.endpointOwner e, terminal := c.terminal, endpoint := e, stamp := b.clk.epoch,
                   cluster := clusterOf e }
      else b

/-- Endpoints whose context is not zero or whose granules hold an error or a mark: a visit of any other changes nothing. -/
def Directory.touched (d : Directory) : List Nat :=
  (d.ctxs.map Prod.fst ++ (d.latent.filter (fun x => !x.1)).map (fun x => x.2.1) ++ d.faults.map Prod.fst).eraseDups

/-- The sweep visits of epoch n, applied at the boundary point of the next (R245, R252, R257). -/
def Blk.sweep (b : Blk) (n : Nat) : Blk :=
  let t := b.dir.ageAt n
  if t = 0 then b else (sortBy (fun e => [e]) (b.dir.touched.filter (fun e => visited e t n))).foldl Blk.sweepVisit b

/-! ### Commands (R261 to R266) -/

/-- Whether the context at a place of the extended input holds a reserved encoding in a selected group (R261). -/
def ctxInBad (ext : List Byte) (i : Nat) : Bool :=
  let w := leWord ext (32 * i)
  decide (2 < bits w 15 13) || decide (4 < bits w 12 10)

/-- EP_WRITE (R261). -/
def Op.epWrite : Op := {
  code := 0x0500, perm := .t, utype := 0x6, len := 8,
  fields := rangeFields ++ [(0, 25, 25), (0, 24, 24), (0, 23, 23), (0, 22, 22)],
  bad := fun c => rangeBad c ++ extNeed c (256 * (epRange c).2)
    ++ (if c.b 0 24 ∧ (List.range (epRange c).2).any (ctxInBad c.ext) then [0xFF] else []),
  names := fun c => rangeUnit c
    ++ (if c.b 0 24 ∧ (List.range (epRange c).2).any (fun i => bits (leWord c.ext (32 * i)) 15 13 != 0) then [(0x9000, 0xFF)] else []) }

/-- A context after EP_WRITE: `new` is the context of the input (R261, R350). -/
def epWritten (c : Cmd) (old new : Ctx) : Ctx :=
  let base : Ctx := if c.b 0 25 then {} else old
  let x := if c.b 0 24 then { base with
      valid := new.valid, svc := new.svc, prot := new.prot, poly := new.poly, aliveEn := new.aliveEn, outageEn := new.outageEn }
    else base
  let x := if x.poly ≠ base.poly ∨ c.b 0 25 then { x with checkValue := checkInit x.poly } else x
  let x := if old.valid ∧ !x.valid then { x.noCandidate with
      bound := false, isStatic := false, stale := false, gasped := false, keyLoaded := false } else x
  let x := if c.b 0 23 then { x with handler := new.handler } else x
  if c.b 0 22 then { x with host := new.host } else x

/-- An endpoint held as unsynced is taken into service by EP_WRITE, and bound where it was heard (R428). -/
def Blk.resync (b : Blk) (e : Nat) : Blk :=
  if !b.unsynced e then b
  else
    let p := Tab.get 0 b.pair.heard e
    let b := { b with pair := { b.pair with resynced := e :: b.pair.resynced, heard := Tab.set 0 b.pair.heard e 0 } }
    if p = 0 then b
    else
      let c := Tab.get {} b.dir.ctxs e
      b.putCtx e c (c.sighting ((p - 1) / 65536) ((p - 1) % 65536) b.clk.epoch).1

/-- One context of EP_WRITE. -/
def Blk.epWriteOne (b : Blk) (c : Cmd) (i : Nat) : Blk :=
  let e := (epRange c).1 + i
  let old := Tab.get {} b.dir.ctxs e
  let new := Ctx.ofWords ((List.range 32).map (fun k => leWord c.ext (32 * i + k)))
  let b := if c.b 0 25 then b.healCtx e else b
  let b := b.putCtx e old (epWritten c old new)
  if c.b 0 25 ∨ c.b 0 24 then b.resync e else b

/-- The effect of EP_WRITE (R257, R261). -/
def applyEpWrite (c : Cmd) (b : Blk) : Blk × Res :=
  if !mayAct c.tenant (b.endpointOwner (epRange c).1) then (b, Res.deniedObject)
  else
    let r := if c.b 0 25 then (b, some []) else b.readAll (epList c)
    match r with
    | (b, none) => (b, Res.err .fault 0x6)
    | (b, some _) => ((List.range (epRange c).2).foldl (fun b i => b.epWriteOne c i) b, {})

/-- EP_WRITE (R261). -/
def execEpWrite (c : Cmd) (s : State) : Host.Outcome State Fault Refusal := s.opcode Op.epWrite c applyEpWrite

/-- EP_READ (R262). -/
def Op.epRead : Op := {
  code := 0x0501, perm := .t, read := true, utype := 0x6, len := 8, fields := rangeFields, bad := rangeBad, names := rangeUnit }

/-- A context as EP_READ returns it: words 6 to 10 as zero, or all of it with FAULTED (R257, R262). -/
def ctxOut (tenant : Nat) : Option Ctx → List Byte
  | none => wordsLe ((List.range 32).map (fun i => if i = 4 then 2 ^ 59 else 0))
  | some c => wordsLe (({ c with wrapped := 0 } : Ctx).words tenant)

/-- The effect of EP_READ. -/
def applyEpRead (c : Cmd) (b : Blk) : Blk × Res :=
  if !mayAct c.tenant (b.endpointOwner (epRange c).1) then (b, Res.deniedObject)
  else
    let r := (epList c).foldl (fun (acc : Blk × List Byte) e =>
      let x := acc.1.readCtx e
      (x.1, acc.2 ++ ctxOut (b.endpointOwner e) x.2)) (b, [])
    (r.1, { ext := r.2 })

/-- EP_READ (R262). -/
def execEpRead (c : Cmd) (s : State) : Host.Outcome State Fault Refusal := s.opcode Op.epRead c applyEpRead

/-- EP_BIND (R263). The endpoint is the object acted on; the carrier is only named (R64). DEDUCED, log 40. -/
def Op.epBind : Op := {
  code := 0x0502, perm := .t, utype := 0x6, len := 8, fields := [(0, 63, 39), (0, 38, 24), (0, 23, 8), (0, 7, 7)],
  names := fun c => [(dirUnit (c.f 0 63 39), fieldAt 0 39), (treeUnit (c.f 0 38 24 / 512), fieldAt 0 24)] }

/-- The effect of EP_BIND. -/
def applyEpBind (c : Cmd) (b : Blk) : Blk × Res :=
  let e := c.f 0 63 39
  let g := c.f 0 38 24
  let k := c.f 0 23 8
  let flow := g / 512 * 65536 + k
  if !mayAct c.tenant (b.endpointOwner e) then (b, Res.deniedObject)
  else
    match b.readCtx e with
    | (b, none) => (b, Res.err .fault 0x6)
    | (b, some x) =>
      if (Tab.get {} b.swCfg.carriers flow).purpose ≠ 2 then (b, Res.badField 0 8)
      else if !x.valid then (b, Res.badField 0 39)
      else (b.putCtx e x { x.bindTo g k b.clk.epoch with isStatic := c.b 0 7 }, {})

/-- EP_BIND (R263). -/
def execEpBind (c : Cmd) (s : State) : Host.Outcome State Fault Refusal := s.opcode Op.epBind c applyEpBind

/-- EP_UNBIND (R264). -/
def Op.epUnbind : Op := {
  code := 0x0503, perm := .t, utype := 0x6, len := 8, fields := rangeFields, bad := rangeBad, names := rangeUnit }

/-- The effect of EP_UNBIND. -/
def applyEpUnbind (c : Cmd) (b : Blk) : Blk × Res :=
  if !mayAct c.tenant (b.endpointOwner (epRange c).1) then (b, Res.deniedObject)
  else
    match b.readAll (epList c) with
    | (b, none) => (b, Res.err .fault 0x6)
    | (b, some _) =>
      ((epList c).foldl (fun b e =>
        let x := Tab.get {} b.dir.ctxs e
        b.putCtx e x { x.noCandidate with bound := false, isStatic := false, stale := false, gasped := false }) b, {})

/-- EP_UNBIND (R264). -/
def execEpUnbind (c : Cmd) (s : State) : Host.Outcome State Fault Refusal := s.opcode Op.epUnbind c applyEpUnbind

/-- AGING_CONFIG (R265). -/
def Op.agingConfig : Op := {
  code := 0x0504, perm := .o, utype := 0x6, unit := some 0x6000, len := 8, fields := [(0, 63, 32)],
  bad := fun c => if 1 ≤ c.f 0 63 32 ∧ c.f 0 63 32 < 1000 then [fieldAt 0 32] else [] }

/-- The effect of AGING_CONFIG (R250): the old value governs until the first period of the new one. -/
def applyAgingConfig (c : Cmd) (b : Blk) : Blk × Res := ({ b with dir := b.dir.setAge (c.f 0 63 32) b.clk.epoch }, {})

/-- AGING_CONFIG (R265). -/
def execAgingConfig (c : Cmd) (s : State) : Host.Outcome State Fault Refusal := s.opcode Op.agingConfig c applyAgingConfig

/-- OUTAGE_CONFIG (R265). -/
def Op.outageConfig : Op := {
  code := 0x0505, perm := .o, utype := 0x6, unit := some 0x6000, len := 8, fields := [(0, 63, 63), (0, 62, 62), (0, 61, 46)],
  bad := fun c => if c.f 0 61 46 = 0 then [fieldAt 0 46] else [] }

/-- The effect of OUTAGE_CONFIG (R255, R265): when ENABLE goes to 0 every open record closes. -/
def applyOutageConfig (c : Cmd) (b : Blk) : Blk × Res :=
  let b := if b.dir.outEnable ∧ !c.b 0 63 then
      let b := b.gatherAll
      b.dir.open_.foldl Blk.closeRec b
    else b
  ({ b with dir := { b.dir with outEnable := c.b 0 63, agedNotice := c.b 0 62, window := c.f 0 61 46 } }, {})

/-- OUTAGE_CONFIG (R265). -/
def execOutageConfig (c : Cmd) (s : State) : Host.Outcome State Fault Refusal := s.opcode Op.outageConfig c applyOutageConfig

/-- FIRST and COUNT of flow indices out of form (R266). -/
def flowRangeBad (c : Cmd) : List Nat :=
  let n := c.f 0 41 29
  if n = 0 ∨ 4096 < n ∨ 65536 < c.f 0 63 42 % 65536 + n then [fieldAt 0 29] else []

/-- The tree of a range of flow indices. -/
def flowUnit (c : Cmd) : List (Nat × Nat) := [(treeUnit (flowTree (c.f 0 63 42)), fieldAt 0 42)]

/-- The flow indices of a range. -/
def flowList (c : Cmd) : List Nat := (List.range (c.f 0 41 29)).map (fun i => c.f 0 63 42 + i)

/-- Whether a tenant may act on every carrier of a range. -/
def Blk.flowsOwned (b : Blk) (c : Cmd) : Bool := (flowList c).all (fun f => mayAct c.tenant (b.carrierOwner f))

/-- FLOW_WRITE (R266). -/
def Op.flowWrite : Op := {
  code := 0x0506, perm := .t, utype := 0x1, len := 8, fields := [(0, 63, 42), (0, 41, 29), (0, 28, 28)],
  bad := fun c => flowRangeBad c ++ extNeed c (64 * c.f 0 41 29), names := flowUnit }

/-- Reads every flow context of a list: none where one has a parity fault (R260). -/
def Blk.readFlows (b : Blk) : List Nat → Blk × Bool
  | [] => (b, true)
  | f :: r =>
    let x := b.readFlow f
    let y := Blk.readFlows x.1 r
    (y.1, x.2.isSome && y.2)

/-- One flow context of FLOW_WRITE: the counter of a ciphered carrier is kept, and with INIT 1 no
upstream SEQ is held (R107, R266, R340). -/
def Blk.flowWriteOne (b : Blk) (c : Cmd) (i : Nat) : Blk :=
  let f := c.f 0 63 42 + i
  let host := leWord c.ext (8 * i + 6) + leWord c.ext (8 * i + 7) * 2 ^ 64
  let b := if c.b 0 28 then (b.healFlow f).updTree (flowTree f) (fun t =>
      { t with reasm := Tab.set none t.reasm (f % 65536) none }) else b
  b.updFlow f (fun x =>
    let base : Flow := if !c.b 0 28 then x
      else if (b.cipherNow f).mode = 0 then {} else { dnCounter := x.dnCounter, dnKeyGen := x.dnKeyGen, dnSlot := x.dnSlot }
    { base with host := host })

/-- The effect of FLOW_WRITE. -/
def applyFlowWrite (c : Cmd) (b : Blk) : Blk × Res :=
  if !b.flowsOwned c then (b, Res.deniedObject)
  else
    let r := if c.b 0 28 then (b, true) else b.readFlows (flowList c)
    if r.2 then ((List.range (c.f 0 41 29)).foldl (fun b i => b.flowWriteOne c i) r.1, {}) else (r.1, Res.err .fault 0x1)

/-- FLOW_WRITE (R266). -/
def execFlowWrite (c : Cmd) (s : State) : Host.Outcome State Fault Refusal := s.opcode Op.flowWrite c applyFlowWrite

/-- FLOW_READ (R266). -/
def Op.flowRead : Op := {
  code := 0x0507, perm := .t, read := true, utype := 0x1, len := 8, fields := [(0, 63, 42), (0, 41, 29)],
  bad := flowRangeBad, names := flowUnit }

/-- The effect of FLOW_READ (R260, R266). -/
def applyFlowRead (c : Cmd) (b : Blk) : Blk × Res :=
  if !b.flowsOwned c then (b, Res.deniedObject)
  else
    let r := (flowList c).foldl (fun (acc : Blk × List Byte) f =>
      let x := acc.1.readFlow f
      let ws := match x.2 with
        | some v => v.words
        | none => [0, 0, 0, 0, 0, 2 ^ 63, 0, 0]
      (x.1, acc.2 ++ wordsLe ws)) (b, [])
    (r.1, { ext := r.2 })

/-- FLOW_READ (R266). -/
def execFlowRead (c : Cmd) (s : State) : Host.Outcome State Fault Refusal := s.opcode Op.flowRead c applyFlowRead

end Sys2Proof.Machine
end

