-- ==== Sys2Proof/Machine/TimeUnit.lean ====
section
/-! DEFINITION. The time unit (11): the time base, the servo, PTP, SyncE and 1PPS. -/
namespace Sys2Proof.Machine

/-! ### The time base (R362 to R366) -/

/-- 1 ns in the units of the time base. -/
def ns : Nat := 65536

/-- One frame of 125 µs in the units of the time base. -/
def frameTime : Nat := 125000 * 65536

/-- The configuration in force. -/
def Blk.timeCfg (b : Blk) : TimeCfg := Vers.cur {} b.tim.cfg

/-- Whether the part fits the time unit (R3). -/
def Blk.hasTime (b : Blk) : Bool := b.sys.part != .bvh6416e

/-- A change of the time unit, where the part has one. -/
def Blk.timeOnly (b : Blk) (f : Blk → Blk) : Blk := if b.hasTime then f b else b

/-- The value of a servo state (R365). -/
def Servo.code : Servo → Nat
  | .freerun => 0
  | .acquiring => 1
  | .locked => 2
  | .holdover => 3

/-- The filtered offset: the mean of the last 16 raw offsets (R365). -/
def Tim.filtered (t : Tim) : Option Int :=
  if t.raws = [] then none else some (t.raws.foldl (· + ·) 0 / (t.raws.length : Int))

/-- Whether at most HO_VALID seconds have passed since the servo last left LOCKED (R366). -/
def Blk.held (b : Blk) : Bool := b.tim.leftLocked.any (fun f => decide (b.clk.fc ≤ f + 8000 * b.timeCfg.hoValid))

/-- Sets `valid` by the state, the source and HO_VALID (R366). -/
def Blk.settle (b : Blk) : Blk :=
  let v := match b.tim.servo with
    | .locked => true
    | .freerun => b.timeCfg.src == 0 && b.tim.absStep
    | _ => b.tim.valid && b.held
  { b with tim := { b.tim with valid := v, everValid := b.tim.everValid || v } }

/-- A change of the servo's state, with its record (R365). -/
def Blk.servoTo (b : Blk) (st : Servo) : Blk :=
  let old := b.tim.servo
  if old = st then b
  else
    let left := if old = .locked then some b.clk.fc else b.tim.leftLocked
    let t := { b.tim with servo := st, leftLocked := left, lockRun := 0 }
    ({ b with tim := t } : Blk).settle.vent
      { type := 0x0900, island := 82, detail := old.code * 16 + st.code }

/-- HOLD_S: seconds since the servo last left LOCKED; 0 if it never did (R389). -/
def Blk.holdSeconds (b : Blk) : Nat :=
  match b.tim.leftLocked with
  | none => 0
  | some f => (b.clk.fc - f) / 8000

/-- The phase correction of one frame: the servo's, at most SLEW_MAX ppm, and none while no source is followed
or a jump persists (R363, R365, R367). -/
def Tim.slew (t : Tim) (slewMax free : Nat) : Int :=
  let limit : Int := slewMax * 8192
  if (t.servo = .acquiring ∨ t.servo = .locked) ∧ t.jump = none then
    max (-limit) (min limit (Config.freeSlew free))
  else 0

/-- The time of day moves on by n frames (R363, R364). -/
def Blk.advanceTime (b : Blk) : Nat → Blk
  | 0 => b
  | n + 1 =>
    if b.hasTime then
      let slew := b.tim.slew b.timeCfg.slewMax b.free
      Blk.advanceTime { b.draw with tim := { b.tim with tod := ((b.tim.tod : Int) + frameTime + slew).toNat } } n
    else b

/-! ### Steps (R368, R369) -/

/-- Sets the time at the next frame tick; a step back changes TIME_GEN, and the Fumarole port marks the change
with a frame without a copy (R368, R369). -/
def Blk.stepTo (b : Blk) (new : Nat) (absolute : Bool) : Blk :=
  let old := b.tim.tod
  let back := decide (new < old)
  let delivers := b.timeCfg.src != 0 && b.tim.delivers
  let t := { b.tim with
    tod := new, gen := (b.tim.gen + b2n back) % 65536, absStep := b.tim.absStep || absolute,
    raws := [], fresh := false, jump := none, jumpRun := none, jumpRec := none, autoStep := false, sampled := none }
  let b := ({ b with tim := t }).count 0x94 2 82
  let b := b.servoTo (if delivers then .acquiring else .freerun)
  let b := b.settle
  if back then b.mirrorMark new else b

/-- The automatic step of R367 at an epoch boundary: forward to the source, as with TO_SOURCE, TIME_GEN unchanged. -/
def Blk.autoStepNow (b : Blk) : Blk :=
  match b.tim.autoStep, b.tim.sampled.or b.tim.filtered with
  | true, some off => b.stepTo ((b.tim.tod : Int) + max 0 off).toNat false
  | _, _ => { b with tim := { b.tim with autoStep := false } }

/-! ### Raw offsets (R365, R367) -/

/-- Whether an offset lies beyond JUMP_LIMIT of a reference. -/
def beyond (limit : Nat) (off ref : Int) : Bool := decide ((limit : Int) < |off - ref|)

/-- The TIME_JUMP record of a jump: at its start and at most once every 60 s (R367). -/
def Blk.jumpRecord (b : Blk) : Blk :=
  let due := match b.tim.jumpRec with
    | none => true
    | some e => e + 60000 ≤ b.clk.epoch
  if due && !b.tim.autoStep then
    let off := b.tim.filtered.getD 0
    ({ b with tim := { b.tim with jumpRec := some b.clk.epoch } }).vent
      { type := 0x0901, island := 82, detail := b2n (off < 0), w6 := unsign (off / (ns : Int)) 64 }
  else b

/-- A jump is found (R367). -/
def Blk.jumpFound (b : Blk) (before off : Int) : Blk :=
  let b := ({ b with tim := { b.tim with jump := some before, jumpRun := none, lockRun := 0 } }).count 0x94 1 82
  if !b.tim.everValid && decide (0 < off) then { b with tim := { b.tim with autoStep := true } }
  else
    let b := if b.tim.everValid && b.tim.servo = .locked then b.servoTo .holdover else b
    b.jumpRecord

/-- The servo leaves FREERUN or HOLDOVER once the source delivers offsets and no jump persists, and enters
LOCKED after 64 offsets within LOCK_THRESH (R365). -/
def Blk.servoFollow (b : Blk) : Blk :=
  if b.tim.jump.isSome then (if b.tim.servo = .freerun then b.servoTo .acquiring else b)
  else
    match b.tim.servo with
    | .freerun => b.servoTo .acquiring
    | .holdover => b.servoTo .acquiring
    | .locked => b
    | .acquiring =>
      let within := match b.tim.filtered with
        | some f => decide (|f| ≤ (b.timeCfg.lockThresh * ns : Nat))
        | none => false
      let run := if within then b.tim.lockRun + 1 else 0
      if 64 ≤ run then b.servoTo .locked else { b with tim := { b.tim with lockRun := run } }

/-- One raw offset from the source in force (R365, R367). -/
def Blk.rawOffset (b : Blk) (off : Int) : Blk :=
  let b := { b with tim := { b.tim with delivers := true } }
  let t := b.tim
  let limit := b.timeCfg.jumpLimit * 10 * ns
  let before := t.filtered.getD 0
  let raws := (off :: t.raws).take 16
  match t.jump with
  | some ref =>
    if beyond limit off ref then (({ b with tim := { t with raws := raws } }).jumpRecord).servoFollow
    else ({ b with tim := { t with raws := raws, jump := none, jumpRec := none, autoStep := false } }).servoFollow
  | none =>
    if t.fresh && beyond limit off 0 then
      (({ b with tim := { t with raws := raws, fresh := false } }).jumpFound 0 off).servoFollow
    else if !t.fresh && t.raws != [] && beyond limit off before then
      let sign := decide (before < off)
      let run := match t.jumpRun with
        | some (n, s, ref) => if s = sign then (n + 1, s, ref) else (1, sign, before)
        | none => (1, sign, before)
      let b := { b with tim := { t with raws := raws, jumpRun := some run } }
      if 4 ≤ run.1 then (b.jumpFound run.2.2 off).servoFollow else b.servoFollow
    else ({ b with tim := { t with raws := raws, fresh := false, jumpRun := none } }).servoFollow

/-- The source is lost: no offset for three of its intervals (R365). -/
def Blk.sourceLost (b : Blk) : Blk :=
  let b := { b with tim := { b.tim with delivers := false } }
  match b.tim.servo with
  | .locked => ((b.count 0x94 0 82).servoTo .holdover)
  | .acquiring => ((b.count 0x94 0 82).servoTo (if b.tim.valid then .holdover else .freerun))
  | _ => b

/-- SOURCE_TIMEOUT (R365): no offset for 3 source intervals. -/
def execSourceTimeout (s : State) : Host.Outcome State Fault Refusal :=
  s.svc (fun b => b.timeOnly (fun b => if b.timeCfg.src = 0 then b else b.sourceLost))

/-- HO_VALID_EXPIRY (R366): in HOLDOVER or ACQUIRING, more than HO_VALID seconds after the servo left LOCKED. -/
def execHoValidExpiry (s : State) : Host.Outcome State Fault Refusal :=
  s.svc (fun b => b.timeOnly (fun b =>
    if (b.tim.servo = .holdover ∨ b.tim.servo = .acquiring) ∧ !b.held then
      { b with tim := { b.tim with valid := false } }
    else b))

/-! ### PTP (R372 to R374)

The layout of PTP messages and the comparison of data sets are those of IEEE 1588-2019 and G.8275.1, which R372
names and the manual does not restate: PRESUMED, log 19. -/

/-- The number in bytes [i, i + n) of a message, most significant byte first. -/
def field (l : List Byte) (i n : Nat) : Nat := beNat ((l.drop i).take n)

/-- A PTP timestamp of ten bytes, in the units of the time base. -/
def ptpStamp (l : List Byte) (i : Nat) : Int := ((field l i 6 * 1000000000 + field l (i + 6) 4) * ns : Nat)

/-- The correction field, in units of 2^-16 ns. -/
def ptpCorrection (l : List Byte) : Int := signed (field l 8 8) 64

/-- The IEEE_C37_238 TLV among the TLVs from a byte on: totalTimeInaccuracy. -/
def powerTlv : Nat → List Byte → Option Nat
  | 0, _ => none
  | n + 1, l =>
    if l.length < 4 then none
    else if field l 0 2 = 3 ∧ field l 4 3 = 0x1C129D ∧ field l 7 3 = 2 then some (field l 16 4)
    else powerTlv n (l.drop (4 + field l 2 2))

/-- The Announce of a message. -/
def ptpAnnounce (l : List Byte) : Announce :=
  let flags := field l 7 1
  { prio1 := field l 47 1, clockClass := field l 48 1, accuracy := field l 49 1, variance := field l 50 2,
    prio2 := field l 52 1, identity := field l 53 8, steps := field l 61 2, utcOffset := signed (field l 44 2) 16,
    utcValid := bit flags 2, leap61 := bit flags 0, leap59 := bit flags 1, inaccuracy := powerTlv l.length (l.drop 64) }

/-- The order in which the profile compares two masters; smaller is better (R372). -/
def Announce.rank (profile localPrio : Nat) (a : Announce) : List Nat :=
  if profile = 0 then [a.clockClass, a.accuracy, a.variance, a.prio2, localPrio, a.identity, a.steps]
  else [a.prio1, a.clockClass, a.accuracy, a.variance, a.prio2, a.identity, a.steps]

/-- Whether one rank is better than another. -/
def rankBelow : List Nat → List Nat → Bool
  | a :: r, c :: q => decide (a < c) || (decide (a = c) && rankBelow r q)
  | _, _ => false

/-- Sub-ports that may receive time and have a master, with its rank. -/
def Blk.masters (b : Blk) : List (Nat × List Nat) :=
  b.tim.ports.filterMap (fun p =>
    let cfg := Tab.get {} b.timeCfg.ports p.1
    match p.2.announce with
    | some a => if cfg.role = 1 ∨ cfg.role = 3 then some (p.1, a.rank b.timeCfg.profile cfg.prio) else none
    | none => none)

/-- The best master clock (R372): the sub-port of the best rank, the lowest on a tie. -/
def bestMaster : List (Nat × List Nat) → Option Nat
  | [] => none
  | (p, k) :: r => some (r.foldl (fun best c => if rankBelow c.2 best.2 then c else best) (p, k)).1

/-- PORT_STATE after a choice of master (R389). -/
def portState (role : Nat) (sub : Nat) (master : Option Nat) (heard : Bool) : Nat :=
  if role = 0 then 0
  else if role = 2 then 3
  else if master = some sub then 2
  else if role = 1 then 1
  else if heard then 4 else if master.isSome then 3 else 1

/-- Chooses the master again; a change of master is a change of source (R367, R372, R389). -/
def Blk.chooseMaster (b : Blk) : Blk :=
  let m := bestMaster b.masters
  let ports := b.tim.ports.map (fun p =>
    (p.1, { p.2 with state := portState (Tab.get {} b.timeCfg.ports p.1).role p.1 m p.2.announce.isSome }))
  let t := { b.tim with ports := ports }
  let t := if m = b.tim.master then t else { t with master := m, raws := [], delivers := false, fresh := true, jumpRun := none }
  { b with tim := t }

/-- The raw offset of a Sync: the source's time less the head-end's (R365). -/
def Blk.syncOffset (b : Blk) (sub : Nat) (origin arrival : Int) : Blk :=
  let p := Tab.get {} b.tim.ports sub
  let asym := (Tab.get {} b.timeCfg.ports sub).asym * 65536 / 10
  let b := { b with tim := { b.tim with ports := Tab.set {} b.tim.ports sub { p with sync := some (origin, arrival) } } }
  if b.timeCfg.src = 1 ∧ b.tim.master = some sub then b.rawOffset (origin + p.delay + asym - arrival) else b

/-- One PTP message taken by the time unit (R373). -/
def Blk.ptpTake (b : Blk) (m : PtpIn) : Blk :=
  let l := m.bytes
  let kind := field l 0 1 % 16
  let cfg := b.timeCfg
  if field l 4 1 ≠ cfg.domain ∨ field l 1 1 % 16 ≠ 2 then b.count 0x96 2 (64 + m.sub)
  else
    let b := b.count 0x96 0 (64 + m.sub)
    let p := Tab.get {} b.tim.ports m.sub
    let seq := field l 30 2
    let setPort := fun (b : Blk) (q : PtpPort) => { b with tim := { b.tim with ports := Tab.set {} b.tim.ports m.sub q } }
    let corr := ptpCorrection l
    if kind = 0xB then (setPort b { p with announce := some (ptpAnnounce l) }).chooseMaster
    else if kind = 0x0 then
      if bit (field l 6 1) 1 then setPort b { p with twoStep := some (seq, m.toa) }
      else b.syncOffset m.sub (ptpStamp l 34 + corr) m.toa
    else if kind = 0x8 then
      match p.twoStep with
      | some (q, arrival) =>
        if q = seq then (setPort b { p with twoStep := none }).syncOffset m.sub (ptpStamp l 34 + corr) arrival else b
      | none => b
    else if (kind = 0x1 ∧ cfg.profile = 0) ∨ (kind = 0x2 ∧ cfg.profile = 1) then
      setPort b { p with asked := some (kind, seq, m.toa, corr) }
    else if kind = 0x9 then
      match p.req, p.sync with
      | some (q, t3), some (t1, t2) =>
        if q = seq then setPort b { p with delay := ((t2 - t1) + (ptpStamp l 34 - corr - t3)) / 2, req := none } else b
      | _, _ => b
    else if kind = 0x3 then
      match p.req with
      | some (q, t1) =>
        if q = seq then
          if bit (field l 6 1) 1 then setPort b { p with resp := some (q, ptpStamp l 34, m.toa) }
          else setPort b { p with delay := (m.toa - t1 - corr) / 2, req := none }
        else b
      | none => b
    else if kind = 0xA then
      match p.req, p.resp with
      | some (q, t1), some (r, t2, t4) =>
        if q = seq ∧ r = seq then
          setPort b { p with delay := ((t4 - t1) - (ptpStamp l 34 - t2) - corr) / 2, req := none, resp := none }
        else b
      | _, _ => b
    else b

/-- Runs what a message does under the version of the time unit's configuration that its stamp names (R26). -/
def Blk.underStamp (b : Blk) (stamp : Nat) (f : Blk → Blk) : Blk :=
  let r := f { b with tim := { b.tim with cfg := [(0, Vers.at {} b.tim.cfg (stampAt stamp b.clk.epoch))] } }
  { r with tim := { r.tim with cfg := b.tim.cfg } }

/-- PTP_MESSAGE_RX (R28, R373): the time unit takes the oldest PTP message that waits. -/
def execPtpMessageRx (s : State) : Host.Outcome State Fault Refusal :=
  s.svc (fun b => b.timeOnly (fun b =>
    match b.tim.ptpIn with
    | [] => b
    | m :: r =>
      let b := { b with tim := { b.tim with ptpIn := r } }
      if stale m.stamp b.clk.epoch then b.staleDiscard 82 else b.underStamp m.stamp (fun b => b.ptpTake m)))

/-- The clockClass that the head-end announces (R372, R380): the master's while the servo follows one; else what the profile gives a
boundary clock in holdover within or beyond HO_VALID, or without a source. PRESUMED, log 19. -/
def Blk.clockClass (b : Blk) : Nat :=
  let g := b.timeCfg.profile == 0
  match b.tim.servo with
  | .holdover => if b.tim.valid then (if g then 135 else 7) else (if g then 165 else 187)
  | .freerun => 248
  | _ => if b.timeCfg.src = 2 then 6 else (b.tim.master.bind (fun m => (Tab.get {} b.tim.ports m).announce)).elim 248 Announce.clockClass

/-- What the selected master announces. -/
def Blk.masterData (b : Blk) : Option Announce := b.tim.master.bind (fun m => (Tab.get {} b.tim.ports m).announce)

/-- The data set of an Announce that the head-end sends (R372): the master's, one step further, with 50 ns added to the inaccuracy that
the power profile's TLV carries; or its own. PRESUMED, log 19. -/
def Blk.announces (b : Blk) : Announce :=
  match b.masterData with
  | some a => { a with clockClass := b.clockClass, steps := a.steps + 1, inaccuracy := a.inaccuracy.map (· + 50) }
  | none => {
      prio1 := 128, clockClass := b.clockClass, accuracy := 0xFE, variance := 0xFFFF, prio2 := 128, identity := Config.clockIdentity,
      steps := 0, utcOffset := 0, utcValid := false, leap61 := false, leap59 := false }

/-- The message types that a port sends (R372, R389): by its delay mechanism, its state and what it was asked. -/
def PtpPort.sends (p : PtpPort) (profile kind : Nat) : Bool :=
  let askedFor := fun (k : Nat) => p.asked.any (fun a => a.1 == k)
  match kind with
  | 0x0 => p.state == 3
  | 0xB => p.state == 3
  | 0x1 => profile == 0 && p.state == 2
  | 0x9 => profile == 0 && p.state == 3 && askedFor 1
  | 0x2 => profile == 1
  | 0x3 => profile == 1 && askedFor 2
  | _ => false

/-- The destination address of a message (R372). The power profile's addresses are those of IEEE 1588: PRESUMED, log 19. -/
def PtpCfg.dest (c : PtpCfg) (profile kind : Nat) : Nat :=
  if (profile = 0 ∧ c.mcast) ∨ (profile = 1 ∧ (kind = 2 ∨ kind = 3)) then 0x0180C200000E else 0x011B19000000

/-- What a message carries that leaves at an instant (R374): Sync its departure, Pdelay_Resp the turnaround as correction, Delay_Resp the
request's arrival. -/
def PtpPort.carries (p : PtpPort) (kind : Nat) (at_ : Int) : Int × Int :=
  match kind, p.asked with
  | 0x0, _ => (at_ / 65536, at_ % 65536)
  | 0x3, some (_, _, arrival, corr) => (0, at_ - arrival + corr)
  | 0x9, some (_, _, arrival, corr) => (arrival / 65536, corr - arrival % 65536)
  | _, _ => (0, 0)

/-- PTP_MESSAGE_TX (R374): a message of a PTP type leaves a sub-port at the MAC instant `depart`, whose corrected value is the time at the
balls (R370). A reply has the number of what it answers. -/
def execPtpMessageTx (sub kind : Nat) (depart : Int) (s : State) : Host.Outcome State Fault Refusal :=
  s.svc (fun b => b.timeOnly (fun b =>
    let cfg := Tab.get {} b.timeCfg.ports sub
    let profile := b.timeCfg.profile
    let p := Tab.get {} b.tim.ports sub
    if cfg.role = 0 ∨ !b.subUp sub ∨ !p.sends profile kind then b
    else
      let at_ := depart + b.txCorrection sub
      let reply := kind == 0x9 || kind == 0x3
      let seq := if reply then p.asked.elim 0 (fun a => a.2.1) else p.seq
      let said := p.carries kind at_
      let q := if reply then { p with asked := none }
        else { p with seq := (p.seq + 1) % 65536, req := if kind = 1 ∨ kind = 2 then some (seq, at_) else p.req }
      (({ b with tim := { b.tim with ports := Tab.set {} b.tim.ports sub q } }).emit
        (.ptpFrame sub kind seq (cfg.dest profile kind) said.1 said.2 (if kind = 0xB then some b.announces else none))).count 0x96 1
          (64 + sub)))

/-! ### Synchronous Ethernet (R375 to R377) -/

/-- Whether a source of the list is selectable (R375). -/
def Blk.syncSelectable (b : Blk) (i : Nat) (e : Nat × Bool) : Bool :=
  let src := Tab.get {} b.tim.sync i
  e.2 && b.subUp e.1 && (!b.timeCfg.qlEn || (src.heard && src.ql != 15)) && src.inRange && !src.failed

/-- The highest-ranked selectable source: by QL when QL_EN is 1, then by list position (R375). -/
def Blk.syncBest (b : Blk) : Option Nat :=
  let cand := ((List.range 4).zip b.timeCfg.sources).filter (fun x => b.syncSelectable x.1 x.2)
  let key := fun (i : Nat) => if b.timeCfg.qlEn then (Tab.get {} b.tim.sync i).ql else 0
  match cand.map Prod.fst with
  | [] => none
  | i :: r => some (r.foldl (fun best j => if key j < key best then j else best) i)

/-- The sub-port of a list position. -/
def TimeCfg.syncSub (c : TimeCfg) (i : Nat) : Nat := (c.sources.getD i (0, false)).1

/-- Chooses the SyncE source again, with its record and counter (R375). -/
def Blk.syncChoose (b : Blk) : Blk :=
  let best := b.syncBest
  if best = b.tim.selected then b
  else
    let sub := match best with
      | some i => b.timeCfg.syncSub i
      | none => 0xFF
    (({ b with tim := { b.tim with selected := best } }).count 0x94 4 82).vent { type := 0x0902, island := 82, object := sub }

/-- Changes a source's condition and chooses again. -/
def Blk.syncSet (b : Blk) (i : Nat) (f : SyncSource → SyncSource) : Blk :=
  ({ b with tim := { b.tim with sync := Tab.upd {} b.tim.sync i f } }).syncChoose

/-- A sub-port that goes down is no source of frequency, until WTR after it is up again (R375). -/
def Blk.syncDown (b : Blk) (sub : Nat) : Blk :=
  (((List.range 4).zip b.timeCfg.sources).filter (fun x => x.2.2 && x.2.1 == sub)).foldl (fun b x =>
    b.syncSet x.1 (fun y => { y with failed := true, heard := false })) b

/-- ESMC_RX (R375): an ESMC PDU on a sub-port, its QL and the source's frequency in ppb of the disciplined clock. -/
def execEsmcRx (sub ql : Nat) (ppb : Int) (s : State) : Host.Outcome State Fault Refusal :=
  s.svc (fun b => b.timeOnly (fun b =>
    ((List.range 4).zip b.timeCfg.sources).foldl (fun b x =>
      if x.2.1 = sub then
        b.syncSet x.1 (fun y => { y with ql := ql % 16, heard := true, inRange := decide (|ppb| ≤ 9200),
                                         failed := y.failed && b.timeCfg.wtr != 0 })
      else b) b))

/-- SYNCE_SOURCE_LOSS (R375): a source of the list fails. -/
def execSynceSourceLoss (entry : Nat) (why : SyncLoss) (s : State) : Host.Outcome State Fault Refusal :=
  s.svc (fun b => b.timeOnly (fun b =>
    if entry < 4 then
      b.syncSet entry (fun y =>
        match why with
        | .linkDown => { y with failed := true }
        | .esmcTimeout => { y with failed := true, heard := false }
        | .frequency => { y with failed := true, inRange := false })
    else b))

/-- SYNCE_WTR_EXPIRY (R375): the WTR minutes of a recovered source end. -/
def execSynceWtrExpiry (entry : Nat) (s : State) : Host.Outcome State Fault Refusal :=
  s.svc (fun b => b.timeOnly (fun b =>
    if entry < 4 then b.syncSet entry (fun y => { y with failed := false }) else b))

/-- The QL of an enhanced EEC (R377); the value is PRESUMED from G.8264, log 19. -/
def eecQl : Nat := 0xB

/-- ESMC_TX (R377): with TX_FOLLOW 1, an ESMC PDU on every uplink sub-port that is up. -/
def execEsmcTx (s : State) : Host.Outcome State Fault Refusal :=
  s.svc (fun b => b.timeOnly (fun b =>
    if b.timeCfg.txFollow then
      let own := b.tim.selected.map b.timeCfg.syncSub
      let ql := match b.tim.selected with
        | some i => (Tab.get {} b.tim.sync i).ql
        | none => eecQl
      ((List.range 48).filter b.subUp).foldl (fun b sub =>
        b.emit (.esmc sub (if own = some sub then 15 else ql))) b
    else b))

/-! ### 1PPS (R378, R379) -/

/-- PPS_OUT_PULSE (R378): the time counter passes an integer second; the pulse rises OUT_COMP before it. -/
def execPpsOutPulse (s : State) : Host.Outcome State Fault Refusal :=
  s.svc (fun b => b.timeOnly (fun b =>
    if b.timeCfg.outEn && (!b.timeCfg.squelch || b.tim.valid) then b.emit (.ppsOut (-b.timeCfg.outComp) b.timeCfg.outWidth) else b))

/-- PPS_IN_EDGE (R379): a rising edge at PPS_IN, timestamped at the balls. -/
def execPpsInEdge (edge : Int) (s : State) : Host.Outcome State Fault Refusal :=
  s.svc (fun b => b.timeOnly (fun b =>
    if !b.timeCfg.inEn then b
    else
      let stamp := edge - (b.timeCfg.inComp : Int) * 65536 / 10
      let second : Int := 1000000000 * 65536
      let gap := b.tim.lastPulse.map (fun p => stamp - p)
      let early := match gap with
        | some g => decide (g * 10 < second * 9)
        | none => false
      let late := match gap with
        | some g => decide (second * 11 < g * 10)
        | none => false
      if early || late then
        let n := b.tim.missing + 1
        let b := ({ b with tim := { b.tim with missing := n, lastPulse := if early then b.tim.lastPulse else some stamp } }).count 0x94 3 82
        let b := if 3 ≤ n ∧ b.timeCfg.src = 2 then b.sourceLost else b
        if early ∨ b.timeCfg.src ≠ 2 then b else b.rawOffset ((stamp + second / 2) / second * second - stamp)
      else
        let b := { b with tim := { b.tim with missing := 0, lastPulse := some stamp } }
        if b.timeCfg.src = 2 then b.rawOffset ((stamp + second / 2) / second * second - stamp) else b))

/-! ### Time to the terminals (R370, R383, R94) -/

/-- What is added to the arrival of a burst's delimiter at a tree's framer, in units of 2^-16 ns (R370). -/
def Mode.rxBall : Mode → Int
  | .xgs => -(6020 * 65536 / 10)
  | _ => -(1260 * 65536 / 10)

/-- TX_BALL of a tree's mode (R370). -/
def Mode.txBall : Mode → Nat
  | .native => 900 * 65536 / 10
  | .fiftyG => 10625 * 65536 / 10
  | .xgs => 4180 * 65536 / 10

/-- TOD_WRITE_STANDARD (R383): the OLT-G time of day for every activated terminal of a standard tree. -/
def execTodWriteStandard (tree : Nat) (s : State) : Host.Outcome State Fault Refusal :=
  s.svc (fun b => b.timeOnly (fun b =>
    let t := b.tree tree
    if t.mode = .native ∨ !b.tim.valid ∨ Part.trees b.sys.part ≤ tree then b
    else
      let time : Int := (b.tim.tod + 160 * frameTime + t.mode.txBall
        + (Tab.get {} b.timeCfg.trees tree).optTx * 65536 / 10 : Nat)
      ((List.range 512).filter (fun i => (b.term (gid tree i)).state = .active)).foldl (fun b i =>
        b.emit (.todWrite (gid tree i) (b.clk.fc + 160) time)) b))

/-! ### Commands (R386 to R390) -/

/-- Writes a version of the time unit's configuration. -/
def Blk.setTimeCfg (b : Blk) (f : TimeCfg → TimeCfg) : Blk :=
  { b with tim := { b.tim with cfg := Vers.write {} b.tim.cfg b.clk.epoch f } }

/-- TIME_CONFIG's device form (R386). -/
def Op.timeConfigDevice : Op := {
  code := 0x0900, perm := .o, utype := 0xA, unit := some 0xA000, len := 8,
  fields := [(0, 63, 63), (0, 62, 61), (0, 60, 60), (0, 59, 52), (0, 51, 42), (0, 41, 30), (0, 29, 14), (0, 13, 7)],
  bad := fun c =>
    (if c.b 0 63 then [fieldAt 0 63] else [])
    ++ (if c.f 0 62 61 = 3 then [fieldAt 0 61] else [])
    ++ (let d := c.f 0 59 52
        if c.b 0 60 then (if d = 254 then [] else [fieldAt 0 52]) else (if 24 ≤ d ∧ d ≤ 43 then [] else [fieldAt 0 52]))
    ++ (if c.f 0 51 42 = 0 then [fieldAt 0 42] else [])
    ++ (if c.f 0 41 30 = 0 then [fieldAt 0 30] else [])
    ++ (if c.f 0 13 7 = 0 ∨ 100 < c.f 0 13 7 then [fieldAt 0 7] else []) }

/-- The effect of TIME_CONFIG's device form (R365, R367, R386). -/
def applyTimeConfigDevice (c : Cmd) (b : Blk) : Blk × Res :=
  let old := b.timeCfg
  let profile := c.f 0 60 60
  if profile ≠ old.profile ∧ old.ports.any (fun p => p.2.role != 0) then (b, Res.badField 0 60)
  else
    let src := c.f 0 62 61
    let b := b.setTimeCfg (fun x => { x with
      src := src, profile := profile, domain := c.f 0 59 52,
      lockThresh := c.f 0 51 42, jumpLimit := c.f 0 41 30, hoValid := c.f 0 29 14, slewMax := c.f 0 13 7 })
    let b := if src = old.src then b
      else { b with tim := { b.tim with raws := [], delivers := false, fresh := true, jump := none, jumpRun := none, jumpRec := none,
                                        autoStep := false, sampled := none } }
    let b := if src = 0 then b.servoTo .freerun else b
    (b.settle, {})

/-- TIME_CONFIG, device form (R386). -/
def execTimeConfigDevice (c : Cmd) (s : State) : Host.Outcome State Fault Refusal :=
  s.opcode Op.timeConfigDevice c applyTimeConfigDevice

/-- TIME_CONFIG's tree form (R386). -/
def Op.timeConfigTree : Op := {
  code := 0x0900, perm := .o, utype := 0xA, unit := some 0xA000, len := 8,
  fields := [(0, 63, 63), (0, 62, 57), (0, 56, 43), (0, 42, 29), (0, 28, 5)],
  bad := fun c => if c.b 0 63 then [] else [fieldAt 0 63],
  names := fun c => [(treeUnit (c.f 0 62 57), fieldAt 0 57)] }

/-- The effect of TIME_CONFIG's tree form (R386). -/
def applyTimeConfigTree (c : Cmd) (b : Blk) : Blk × Res :=
  (b.setTimeCfg (fun x => { x with
      trees := Tab.set {} x.trees (c.f 0 62 57) { optTx := c.f 0 56 43, optRx := c.f 0 42 29, dnFrac := c.f 0 28 5 } }), {})

/-- TIME_CONFIG, tree form (R386). -/
def execTimeConfigTree (c : Cmd) (s : State) : Host.Outcome State Fault Refusal :=
  s.opcode Op.timeConfigTree c applyTimeConfigTree

/-- PTP_PORT_CONFIG (R387). -/
def Op.ptpPortConfig : Op := {
  code := 0x0901, perm := .o, utype := 0x2, len := 8, fields := [(0, 63, 62), (0, 61, 54), (0, 53, 53), (0, 52, 29)],
  names := fun _ => [(0xA000, 0)] }

/-- The effect of PTP_PORT_CONFIG (R387): LOCAL_PRIO is ignored under C37.238. -/
def applyPtpPortConfig (c : Cmd) (b : Blk) : Blk × Res :=
  let sub := c.unit % 4096
  let role := c.f 0 63 62
  let others := (b.timeCfg.ports.filter (fun p => p.1 != sub && p.2.role != 0)).length
  if !b.subFormed sub then (b, Res.err .badParam 0)
  else if b.timeCfg.profile = 0 ∧ c.f 0 61 54 = 0 then (b, Res.badField 0 54)
  else if role ≠ 0 ∧ 16 ≤ others then (b, Res.err .noSpace)
  else
    let b := b.setTimeCfg (fun x => { x with
        ports := Tab.set {} x.ports sub { role := role, prio := c.f 0 61 54, mcast := c.b 0 53, asym := signed (c.f 0 52 29) 24 } })
    let b := if role = 0 then { b with tim := { b.tim with ports := Tab.upd {} b.tim.ports sub (fun _ => {}) } }
      else { b with tim := { b.tim with ports := Tab.upd {} b.tim.ports sub (fun p => { p with state := 1 }) } }
    (b.chooseMaster, {})

/-- PTP_PORT_CONFIG (R387). -/
def execPtpPortConfig (c : Cmd) (s : State) : Host.Outcome State Fault Refusal :=
  s.opcode Op.ptpPortConfig c applyPtpPortConfig

/-- STEP_TIME (R388). Bits that a mode does not use are reserved. -/
def Op.stepTime : Op := {
  code := 0x0902, perm := .o, utype := 0xA, unit := some 0xA000, len := 24,
  fields := [(0, 63, 62), (1, 63, 0), (2, 63, 32), (2, 31, 16)],
  bad := fun c =>
    let m := c.f 0 63 62
    (if m = 3 then [fieldAt 0 62] else [])
    ++ (if m = 2 ∧ c.word 1 ≠ 0 then [fieldAt 1 0] else [])
    ++ (if m ≠ 0 ∧ c.f 2 63 32 ≠ 0 then [fieldAt 2 32] else [])
    ++ (if m = 2 ∧ c.f 2 31 16 ≠ 0 then [fieldAt 2 16] else [])
    ++ (if m = 0 ∧ 1000000000 ≤ c.f 2 63 32 then [fieldAt 2 32] else []) }

/-- The time that STEP_TIME asks for at the tick (R368). -/
def stepTarget (c : Cmd) (old : Nat) (off : Option Int) : Option Int :=
  match c.f 0 63 62 with
  | 0 => some (((c.word 1 * 1000000000 + c.f 2 63 32) * ns + c.f 2 31 16 : Nat) : Int)
  | 1 => some ((old : Int) + signed (c.word 1) 64 * 65536 + c.f 2 31 16)
  | _ => off.map (fun o => (old : Int) + o)

/-- A signed value of 64 bits, saturating. -/
def satSigned (v : Int) (n : Nat) : Nat := unsign (max (-(2 ^ (n - 1))) (min (2 ^ (n - 1) - 1) v)) n

/-- The effect of STEP_TIME (R368, R388). -/
def applyStepTime (c : Cmd) (b : Blk) : Blk × Res :=
  match stepTarget c b.tim.tod b.tim.sampled with
  | none => (b, Res.badField 0 62)
  | some new =>
    if new < 0 then (b, Res.badField 1 0)
    else
      let old := b.tim.tod
      let b := b.stepTo new.toNat (c.f 0 63 62 == 0)
      (b, Res.words [satSigned ((new - old) / 65536) 64, pack [(b.tim.gen, 48)]])

/-- STEP_TIME (R368, R388). -/
def execStepTime (c : Cmd) (s : State) : Host.Outcome State Fault Refusal := s.opcode Op.stepTime c applyStepTime

/-- TIME_READ (R389). -/
def Op.timeRead : Op := { code := 0x0903, perm := .a, read := true, utype := 0xA, unit := some 0xA000 }

/-- The effect of TIME_READ (R389): a port whose sub-port is down is faulty. -/
def applyTimeRead (c : Cmd) (b : Blk) : Blk × Res :=
  let t := b.tim
  let n := t.tod / 65536
  let m := b.masterData
  let inl := wordsLe [
    n / 1000000000 % 2 ^ 64, pack [(n % 1000000000, 32), (t.tod % 65536, 16), (t.gen, 0)],
    pack [(t.servo.code, 61), (b2n t.valid, 60), (b2n ((m.map Announce.utcValid).getD false), 59),
          (unsign ((m.map Announce.utcOffset).getD 0) 16, 43), (b2n t.selected.isSome, 42),
          (((t.selected.map b.timeCfg.syncSub).getD 0) % 64, 36), ((t.master.getD 0) % 64, 30),
          (b2n t.master.isSome, 29), (((m.map Announce.clockClass).getD 0) % 256, 21)],
    pack [(satSigned ((t.filtered.getD 0) / 65536) 32, 32), (min b.holdSeconds (2 ^ 32 - 1), 0)]]
  let ext := if extRoom c < 768 then [] else (List.range 48).flatMap (fun sub =>
    let p := Tab.get {} t.ports sub
    wordsLe [pack [(if p.state ≠ 0 ∧ !b.subUp sub then 5 else p.state, 61)], unsign p.delay 64])
  (b, { inl := inl, ext := ext })

/-- TIME_READ (R389). -/
def execTimeRead (c : Cmd) (s : State) : Host.Outcome State Fault Refusal := s.opcode Op.timeRead c applyTimeRead

/-- PPS_CONFIG (R390). -/
def Op.ppsConfig : Op := {
  code := 0x0904, perm := .o, utype := 0xA, unit := some 0xA000, len := 8,
  fields := [(0, 63, 63), (0, 62, 62), (0, 61, 40), (0, 39, 24), (0, 23, 23), (0, 22, 7)],
  bad := fun c => if c.f 0 61 40 = 0 then [fieldAt 0 40] else [] }

/-- The effect of PPS_CONFIG (R390). -/
def applyPpsConfig (c : Cmd) (b : Blk) : Blk × Res :=
  (b.setTimeCfg (fun x => { x with
      outEn := c.b 0 63, squelch := c.b 0 62, outWidth := c.f 0 61 40,
      outComp := signed (c.f 0 39 24) 16, inEn := c.b 0 23, inComp := c.f 0 22 7 }), {})

/-- PPS_CONFIG (R390). -/
def execPpsConfig (c : Cmd) (s : State) : Host.Outcome State Fault Refusal := s.opcode Op.ppsConfig c applyPpsConfig

/-- SRC0 to SRC3 with EN0 to EN3 (R390). -/
def syncSources (c : Cmd) : List (Nat × Bool) :=
  [(c.f 0 63 58, c.b 0 57), (c.f 0 56 51, c.b 0 50), (c.f 0 49 44, c.b 0 43), (c.f 0 42 37, c.b 0 36)]

/-- SYNCE_CONFIG (R390). -/
def Op.synceConfig : Op := {
  code := 0x0905, perm := .o, utype := 0xA, unit := some 0xA000, len := 8,
  fields := [(0, 63, 58), (0, 57, 57), (0, 56, 51), (0, 50, 50), (0, 49, 44), (0, 43, 43), (0, 42, 37), (0, 36, 36),
             (0, 35, 35), (0, 34, 34), (0, 33, 30)],
  bad := fun c =>
    let on := ((syncSources c).filter Prod.snd).map Prod.fst
    (if on.Nodup then [] else [fieldAt 0 37])
    ++ (if 12 < c.f 0 33 30 then [fieldAt 0 30] else []) }

/-- The effect of SYNCE_CONFIG (R375, R390). -/
def applySynceConfig (c : Cmd) (b : Blk) : Blk × Res :=
  let src := syncSources c
  let lows := [58, 51, 44, 37]
  match ((src.zip lows).filter (fun x => x.1.2 && !b.subFormed x.1.1)).map (fun x => fieldAt 0 x.2) with
  | a :: r => (b, Res.err .badParam ((a :: r).foldl min a))
  | [] =>
    let old := b.timeCfg.sources
    let b := b.setTimeCfg (fun x => { x with sources := src, qlEn := c.b 0 35, txFollow := c.b 0 34, wtr := c.f 0 33 30 })
    let keep := (List.range 4).filter (fun i => old.getD i (0, false) == src.getD i (0, false))
    let sync := b.tim.sync.filter (fun p => keep.contains p.1)
    (({ b with tim := { b.tim with sync := sync } }).syncChoose, {})

/-- SYNCE_CONFIG (R390). -/
def execSynceConfig (c : Cmd) (s : State) : Host.Outcome State Fault Refusal := s.opcode Op.synceConfig c applySynceConfig

end Sys2Proof.Machine
end

