-- ==== Sys2Proof/Machine/SwitchCore.lean ====
section
/-! DEFINITION. The switch core and the Caldera (09): serving the outputs, frames found bad late, the FRER
sequence point, receive rings, uplink ports and the switch core's commands. -/
namespace Sys2Proof.Machine

/-! ### Deficit round robin (R299, R301) -/

/-- One choice of a deficit round robin over n queues. `len k` is the length of the frame at the head of queue k
where it may be served, `quantum k` its quantum, `key k` the number of its deficit. A queue gets its quantum
when its turn comes; one that has nothing to serve loses its deficit. -/
def drrGo (n : Nat) (key quantum : Nat → Nat) (len : Nat → Option Nat) : Nat → Nat → Tab Nat → (Nat × Tab Nat) × Option Nat
  | 0, t, d => ((t, d), none)
  | f + 1, t, d =>
    let next := (t + 1) % n
    let give := fun (d : Tab Nat) => if (len next).isSome then Tab.upd 0 d (key next) (· + quantum next) else d
    match len t with
    | some l =>
      if l ≤ Tab.get 0 d (key t) then ((t, Tab.upd 0 d (key t) (· - l)), some t)
      else drrGo n key quantum len f next (give d)
    | none => drrGo n key quantum len f next (give (Tab.set 0 d (key t) 0))

/-- A choice, if any queue may be served. -/
def drr (n : Nat) (key quantum : Nat → Nat) (len : Nat → Option Nat) (t : Nat) (d : Tab Nat) :
    (Nat × Tab Nat) × Option Nat :=
  if (List.range n).any (fun k => (len k).isSome) then drrGo n key quantum len (260 * n) t d else ((t, d), none)

/-! ### Reading a class port (R28, R299) -/

/-- Whether a class of a port may be served: it holds a frame and no PAUSE or PFC holds it (R314). -/
def Blk.classReady (b : Blk) (port cls : Nat) : Bool :=
  (b.queue (classQueue port cls)) != [] && !(decide (64 ≤ port) && (b.sub (port - 64)).held.getLsbD cls)

/-- The length of the frame at the head of a class queue that may be served. -/
def Blk.headLen (b : Blk) (port cls : Nat) : Option Nat :=
  if b.classReady port cls then ((b.queue (classQueue port cls)).head?).map Frame.length else none

/-- The class that a tree or uplink port serves next: strict classes first, highest first, then the weighted
ones by deficit round robin (R299). -/
def Blk.nextClass (b : Blk) (port : Nat) : Blk × Option Nat :=
  let set := fun k => b.swCfg.queueSet (classQueue port k)
  match ([7, 6, 5, 4, 3, 2, 1, 0]).find? (fun k => !(set k).weighted && b.classReady port k) with
  | some k => (b, some k)
  | none =>
    let r := drr 8 (classQueue port) (fun k => (set k).weight * 256)
      (fun k => if (set k).weighted then b.headLen port k else none) (Tab.get 0 b.sw.turn port) b.sw.deficit
    ({ b with sw := { b.sw with turn := Tab.set 0 b.sw.turn port r.1.1, deficit := r.1.2 } }, r.2)

/-- What dequeuing checks of a frame: its stamp (R28), and whether it was found bad while written (R306). The frame
goes on, or is discarded and counted; on a tree of a chip that follows a recipe also in DN_UNMATCHED (R406). A tree can send a frame from a cut-through sub-port before its end, but not while the pair is enabled (R404). -/
def Blk.dequeueCheck (b : Blk) (port : Nat) (f : Frame) : Blk × Bool :=
  if stale f.stamp b.clk.epoch then
    let b := b.staleDiscard 70
    (if decide (port < 64) && b.joined && !b.pair.reference then b.count 0xA4 7 83 else b, false)
  else if f.bad && !(decide (port < 64) && f.cutThrough && !b.pair.enable) then (b.count 0x76 4 port, false)
  else (b, true)

/-- The next frame of one queue that may go on. -/
def Blk.takeHead (q port : Nat) : Nat → Blk → Blk × Option Frame
  | 0, b => (b, none)
  | n + 1, b =>
    match b.queue q with
    | [] => (b, none)
    | f :: rest =>
      let r := (b.setQueue q rest).dequeueCheck port f
      if r.2 then (r.1, some f) else Blk.takeHead q port n r.1

/-- The next frame of a tree or uplink port that may go on; each discard leads to a new choice. -/
def Blk.takeClass (port : Nat) : Nat → Blk → Blk × Option Frame
  | 0, b => (b, none)
  | n + 1, b =>
    let c := b.nextClass port
    match c.2 with
    | none => (c.1, none)
    | some k =>
      match c.1.queue (classQueue port k) with
      | [] => (c.1, none)
      | f :: rest =>
        let r := (c.1.setQueue (classQueue port k) rest).dequeueCheck port f
        if r.2 then (r.1, some f) else Blk.takeClass port n r.1

/-- Frames held by the queues of a port. -/
def Blk.framesAt (b : Blk) (port : Nat) : Nat := ((List.range 8).map (fun k => (b.queue (classQueue port k)).length)).sum

/-! ### Frames on the wire (R315, R316) -/

/-- The length of the 802.1Q tags that begin at byte 12. -/
def tagsLen : Nat → List Byte → Nat
  | 0, _ => 0
  | n + 1, l => if field16 l 0 = 0x8100 ∨ field16 l 0 = 0x88A8 then 4 + tagsLen n (l.drop 4) else 0

/-- The bytes of a frame as it leaves a sub-port, without FCS: the pushed tag and the R-TAG in place. -/
def wireBytes (p : SubPort) (f : Frame) : List Byte :=
  let tag := if p.push then toBe (if p.stag then 0x88A8 else 0x8100) 2 ++ toBe (f.tclass * 8192 + p.vid) 2 else []
  let l := f.data.take 12 ++ tag ++ f.data.drop 12
  match f.number with
  | none => l
  | some n =>
    let at_ := 12 + tagsLen l.length (l.drop 12)
    l.take at_ ++ toBe 0xF1C1 2 ++ [0, 0] ++ toBe n 2 ++ l.drop at_

/-! ### EGRESS_DEQUEUE -/

/-- A frame that leaves a tree's queues for its island is sent after those read before it, but a frame of a higher strict class
goes ahead of those of other carriers that it outranks, after the last of its own carrier (R300). -/
def Blk.toTreeTx (b : Blk) (t : Nat) (f : Frame) : Blk :=
  let set := fun k => b.swCfg.queueSet (classQueue t k)
  let outranks := fun (g : Frame) => !(set f.tclass).weighted && ((set g.tclass).weighted || decide (g.tclass < f.tclass))
  let l := Tab.get [] b.sw.treeTx t
  let after := (l.reverse.takeWhile (fun g => g.flow != f.flow)).reverse
  let keep := l.length - after.length + (after.takeWhile (fun g => !outranks g)).length
  { b with sw := { b.sw with treeTx := Tab.set [] b.sw.treeTx t (l.take keep ++ [f] ++ l.drop keep) } }

/-- Reads the next frame of a tree port into its island. The flag says whether there was one. -/
def Blk.readTree (b : Blk) (t : Nat) : Blk × Bool :=
  let r := Blk.takeClass t (b.framesAt t + 1) b
  match r.2 with
  | none => (r.1, false)
  | some f => ((((r.1.countOut t f.length).mirrorOut f t f.data).toTreeTx t f), true)

/-- A frame read at an uplink sub-port leaves it. -/
def Blk.sendSub (b : Blk) (s : Nat) (f : Frame) : Blk :=
  let w := wireBytes (b.sub s) f
  ((b.countOut (64 + s) (w.length + 4)).mirrorOut f (64 + s) w).emit (.uplinkFrame s (w ++ fcs w))

/-- The one's complement of a correct FCS, which ends a stomped frame (R108). -/
def stompedFcs (w : List Byte) : List Byte := (fcs w).map (fun x => ~~~x)

/-- A frame that is found bad at a cell, after its head has left a sub-port: what has left ends with a stomped FCS (R108, R306). -/
def Blk.stompSub (b : Blk) (s : Nat) (f : Frame) (cell : Nat) : Blk :=
  let w := (wireBytes (b.sub s) f).take (256 * cell)
  (((b.countOut (64 + s) (w.length + 4)).mirrorOut f (64 + s) w).emit (.uplinkFrame s (w ++ stompedFcs w))).count 0x76 13 (64 + s)

/-- The island that receives what an output port reads: a tree's, a sub-port's, Fumarole's, or the directory stack of a message (R12,
R13). -/
def receiver (port : Nat) (f : Frame) : Nat :=
  if port < 64 then port
  else if port < 112 then 71 + (port - 64) / 8
  else if port = 112 then 77
  else dirIsland (bits (beNat (f.data.take 16)) 119 95)

/-- EGRESS_DEQUEUE (R28, R299): an output port reads its next frame. `corrected` cells were corrected on the way
(R295); with `checkFail` a word of the frame fails its channel's check code (R13). The host port is served by
HOST_DELIVERY. -/
def execEgressDequeue (port corrected : Nat) (checkFail : Bool) (s : State) : Host.Outcome State Fault Refusal :=
  s.svc (fun b =>
    let r := if port < 112 then Blk.takeClass port (b.framesAt port + 1) b
      else if port = 112 then Blk.takeHead fumaroleQueue 112 (b.queue fumaroleQueue).length b
      else if port = 113 then Blk.takeHead endpointQueue 113 (b.queue endpointQueue).length b
      else (b, none)
    match r.2 with
    | none => r.1
    | some f =>
      let b := r.1.countN 0x74 1 70 corrected
      if checkFail then b.checkFail (receiver port f)
      else if port < 64 then ((b.countOut port f.length).mirrorOut f port f.data).toTreeTx port f
      else if port < 112 then b.sendSub (port - 64) f
      else if port = 112 then (b.countOut 112 f.length).emit (.fumaroleFrame (f.data ++ fcs f.data))
      else (b.countOut 113 f.length).toBank f)

/-! ### FRAME_FOUND_BAD_LATE (R306) -/

/-- Whether a cause can meet a frame: the first two only one from a cut-through sub-port, and so the third, while no cell is free
(every other frame is written whole, R297). -/
def Blk.badMeets (b : Blk) (f : Frame) : BadLate → Bool
  | .fcs => f.bad
  | .oversize => f.bad
  | .noCell => f.cutThrough && decide (calderaCells ≤ b.cellsHeld)
  | .uncorrectable _ cell => decide (cell < f.cells)

/-- The cell of a frame at which a sub-port that is sending it finds it bad: the head has left where that is not the first. -/
def afterHead (why : BadLate) (queue : Nat) : Option Nat :=
  match why with
  | .uncorrectable _ cell => if 0 < cell ∧ 512 ≤ queue ∧ queue < 896 then some cell else none
  | _ => none

/-- The count and the fault event of an uncorrectable cell (R306, R476). -/
def Blk.cellError (b : Blk) : BadLate → Blk
  | .uncorrectable row _ => (b.count 0x74 2 70).faultEvent 0x0A row
  | _ => b

/-- FRAME_FOUND_BAD_LATE (R306): the frame at a place of a queue, counted from the oldest; for a tree's class
queue the SDUs its island has read stand before those still queued. Before its head has left it is discarded; an
SDU or a frame of a sub-port whose head has left is ended under R108. -/
def execFrameFoundBadLate (queue pos : Nat) (why : BadLate) (s : State) : Host.Outcome State Fault Refusal :=
  s.svc (fun b =>
    let port := portOf queue
    let mine := fun (f : Frame) => decide (queue < 512) && f.tclass == queue % 8
    let tx := if queue < 512 then Tab.get [] b.sw.treeTx port else []
    let here := (List.range tx.length).filter (fun i => ((tx[i]?).map mine).getD false)
    match here[pos]? with
    | some i =>
      match tx[i]? with
      | none => b
      | some f =>
        if !b.badMeets f why then b
        else
          let b := b.cellError why
          if f.sent = 0 then
            ({ b with sw := { b.sw with treeTx := Tab.set [] b.sw.treeTx port (tx.eraseIdx i) } }).count 0x76 4 port
          else
            { b with sw := { b.sw with treeTx := Tab.set [] b.sw.treeTx port (tx.set i { f with abandon := true }) } }
    | none =>
      let l := b.queue queue
      match l[pos - here.length]? with
      | none => b
      | some f =>
        if !b.badMeets f why then b
        else
          let c := (b.cellError why).setQueue queue (l.eraseIdx (pos - here.length))
          match afterHead why queue with
          | some cell => if pos = 0 then c.stompSub (port - 64) f cell else c.count 0x76 4 port
          | none => c.count 0x76 4 port)

/-! ### The FRER sequence point (R316, R317, R411) -/

/-- The next number of a stream, and the stream advanced. -/
def Blk.nextNumber (b : Blk) (st : Nat) : Blk × Nat :=
  let x := Tab.get {} b.sw.streams st
  ({ b with sw := { b.sw with streams := Tab.set {} b.sw.streams st { x with number := (x.number + 1) % 65536 } } }, x.number)

/-- Numbers a stream frame and queues it, and its duplicate (R316); a frame without a stream waited to keep its place (R302). -/
def Blk.numberFrame (b : Blk) (f : Frame) : Blk :=
  let x := Tab.get {} b.sw.streams f.stream
  let q := classQueue (64 + f.source) f.tclass
  if !x.enable then b.enqueue q { f with stream := 0 }
  else
    let r := b.nextNumber f.stream
    let g := { f with number := some r.2 }
    let b := (r.1.count 0x79 0 f.stream).enqueue q g
    if !x.dup then b
    else if x.subB = f.source then b.count 0x79 2 f.stream
    else
      let d := b.admitFlag (classQueue (64 + x.subB) f.tclass) { g with source := x.subB, cutThrough := false }
      if d.2 then d.1.count 0x79 1 f.stream else d.1

/-- A stream entry of the partner alone takes a number of its stream; the entry does not name the stream, so
which one advances is a free value (R410, R411). -/
def Blk.skipNumber (b : Blk) : Blk :=
  let st := Config.freeValue b.free % 4096
  let b := b.draw
  if (Tab.get {} b.sw.streams st).enable then (b.nextNumber st).1 else b

/-- One place of the union of both chips' stream entries: an own frame, or an entry of the partner alone. -/
inductive SeqItem where
  | own (f : Frame) (a : AcceptEntry)
  | other (a : AcceptEntry)

/-- The entry of an item. -/
def SeqItem.entry : SeqItem → AcceptEntry
  | .own _ a => a
  | .other a => a

/-- The order of R317 within a phase, lower CRC first at one place (R411). -/
def SeqItem.key (i : SeqItem) : List Nat :=
  let a := i.entry
  [a.tree, a.burst, a.endOff, a.crc]

/-- FRER_SEQUENCE_POINT (R317): once the batch of a phase is complete, its stream frames are numbered. Stream frames
of a tree whose marker came late are discarded. In a joined pair both accept lists must be present (R411). Then come frames of the
endpoint port, and after them those of the host input. -/
def execFrerSequencePoint (uf phase : Nat) (s : State) : Host.Outcome State Fault Refusal :=
  s.svc (fun b =>
    let slot := slotOf uf phase
    let due := fun (f : Frame) => decide (f.input < 64) && decide (orderSlot f.order ≤ slot)
    let lateF := fun (f : Frame) => due f && f.stream != 0 && b.partLate f.input (orderSlot f.order)
    if (b.unmarked slot).any (fun t => !b.partLate t slot) then b
    else if b.joined ∧ ((acceptsOf b.pair.own slot).isNone ∨ (acceptsOf b.pair.other slot).isNone) then b
    else
      let w := b.sw.seqWait
      let late := w.filter lateF
      let tree := sortBy Frame.order (w.filter (fun f => due f && !lateF f))
      let rest := w.filter (fun f => f.input == 113) ++ w.filter (fun f => decide (64 ≤ f.input) && f.input != 113)
      let stay := w.filter (fun f => decide (f.input < 64) && !due f)
      let b := ({ b with sw := { b.sw with seqWait := stay } }).countN 0x74 3 70 late.length
      let b :=
        if b.joined then
          let mine := (tree.filter (fun f => f.stream != 0)).map (fun f => SeqItem.own f (b.acceptEntry 1 f.order f.data))
          let theirs := (((acceptsOf b.pair.other slot).getD []).filter (fun a => a.kind == 1
            && !(mine.any (fun i => i.entry == a)))).map SeqItem.other
          (tree.filter (fun f => f.stream == 0)).foldl Blk.numberFrame ((sortBy SeqItem.key (mine ++ theirs)).foldl (fun b i =>
            match i with
            | .own f _ => b.numberFrame f
            | .other _ => b.skipNumber) b)
        else tree.foldl Blk.numberFrame b
      rest.foldl Blk.numberFrame b)

/-! ### Receive rings (R301, R311, R312) -/

/-- Receive ring of a tenant. -/
def Blk.ring (b : Blk) (k : Nat) : RxRing := Tab.get {} b.sw.rings k

/-- Changes a receive ring. -/
def Blk.updRing (b : Blk) (k : Nat) (f : RxRing → RxRing) : Blk :=
  { b with sw := { b.sw with rings := Tab.upd {} b.sw.rings k f } }

/-- The host kind that a tenant's queues serve next: notice, exception, service, sample (R301). -/
def Blk.hostKind (b : Blk) (k : Nat) : Option Nat :=
  ([1, 0, 3, 2]).find? (fun i => b.queue (hostQueue k i) != [])

/-- The length of the frame that a tenant would be given, if its ring does not wait. -/
def Blk.hostHead (b : Blk) (k : Nat) : Option Nat :=
  if (b.ring k).enable && (b.ring k).stalled then none
  else (b.hostKind k).bind (fun i => ((b.queue (hostQueue k i)).head?).map Frame.length)

/-- The island that an outage record's drop is counted at: that of its report store. -/
def Blk.noRing (b : Blk) (k kind : Nat) (f : Frame) : Blk :=
  let b := b.count 0x75 2 k
  if kind = 1 then b.loseRec k f.source
  else if kind = 3 then
    ({ b with tum := { b.tum with lost := Tab.upd 0 b.tum.lost k (· + 1) } }).count 0xB5 0 k
  else b

/-- Writes the count of what a tenant lost into LOST, whose four bytes begin at a place of the header (R254, R445). -/
def withLost (data : List Byte) (place lost : Nat) : List Byte := data.take place ++ toLe lost 4 ++ data.drop (place + 4)

/-- What the host port writes of a frame: an outage record and a service frame carry in LOST how many of their tenant's were lost
since the one before, and that count starts again (R256, R446). -/
def Blk.carryLost (b : Blk) (k kind : Nat) (f : Frame) : Blk × List Byte :=
  if kind = 1 then
    (({ b with dir := { b.dir with outLost := Tab.set 0 b.dir.outLost k 0 } }).countDir 22 f.source k 1,
      withLost f.data 28 (Tab.get 0 b.dir.outLost k % 2 ^ 32))
  else if kind = 3 then
    ({ b with tum := { b.tum with lost := Tab.set 0 b.tum.lost k 0 } }, withLost f.data 26 (Tab.get 0 b.tum.lost k % 2 ^ 32))
  else (b, f.data)

/-- Writes a frame into a descriptor as the tenant's function (R311, R312): the buffer, words 2 and 3, then word 1 with OWN
cleared. -/
def Blk.fillDescriptor (b : Blk) (k kind : Nat) (f : Frame) (w0 w1 : W64) : Blk :=
  let r := b.ring k
  let x := b.carryLost k kind f
  let n := min x.2.length (bits w1.toNat 63 48)
  let cut := decide (n < x.2.length)
  let at_ := r.base + 32 * r.pos
  let b := x.1.emit (.hostWrite k w0.toNat (x.2.take n))
  let b := b.emit (.hostWrite k (at_ + 16)
    (wordsLe [pack [(kind, 62), (n % 65536, 46), (b2n cut, 45)], stampAt f.stamp b.clk.epoch % 2 ^ 64]))
  let b := b.emit (.hostWrite k (at_ + 8) (wordsLe [bits w1.toNat 63 48 * 2 ^ 48]))
  let b := (b.updRing k (fun r => { r with pos := (r.pos + 1) % 2 ^ r.size })).countOut 114 f.length
  let b := b.count 0x75 0 k
  if cut then b.count 0x75 1 k else b

/-- Reads the next descriptor of a tenant's ring, as the tenant's function (R311). -/
def Blk.readDescriptor (b : Blk) (k : Nat) : Blk := b.emit (.hostRead k ((b.ring k).base + 32 * (b.ring k).pos) 32)

/-- Serves one frame of the host port, over the descriptors read. -/
def Blk.hostGo (descs : List (Nat × W64 × W64)) (corrected : Nat) : Nat → Blk → Blk
  | 0, b => b
  | n + 1, b =>
    let r := drr 65 id (fun k => (b.ring k).weight * 256) b.hostHead b.sw.hostTurn b.sw.hostDeficit
    let b' : Blk := { b with sw := { b.sw with hostTurn := r.1.1, hostDeficit := r.1.2 } }
    match r.2 with
    | none => b'
    | some k =>
      match b.hostKind k with
      | none => b'
      | some kind =>
        match b.queue (hostQueue k kind) with
        | [] => b'
        | f :: rest =>
          let x := (b'.setQueue (hostQueue k kind) rest).dequeueCheck 114 f
          if !x.2 then Blk.hostGo descs corrected n x.1
          else if !(b.ring k).enable then x.1.noRing k kind f
          else
            match descs.find? (fun d => d.1 == k) with
            | some (_, w0, w1) =>
              if w1.getLsbD 47 then ((x.1.countN 0x74 1 70 corrected).readDescriptor k).fillDescriptor k kind f w0 w1
              else Blk.hostGo descs corrected n ((b.readDescriptor k).updRing k (fun r => { r with stalled := true }))
            | none => Blk.hostGo descs corrected n (b.updRing k (fun r => { r with stalled := true }))

/-- Frames in all host queues. -/
def Blk.hostFrames (b : Blk) : Nat := ((b.sw.queues.filter (fun q => decide (1024 ≤ q.1))).map (fun q => q.2.length)).sum

/-- HOST_DELIVERY (R312): the host port delivers its next frame. `reads` gives words 0 and 1 of the next descriptor of
the tenants' rings, as read; a ring whose descriptor is not the head-end's waits, and the cells corrected on the way (R295). -/
def execHostDelivery (reads : HostReads) (s : State) : Host.Outcome State Fault Refusal :=
  s.svc (fun b => Blk.hostGo reads.descs reads.corrected (b.hostFrames + 66) b)

/-- RX_RING_POLL (R312): the next descriptor of a ring that waits is read again. -/
def execRxRingPoll (tenant : Nat) (word1 : W64) (s : State) : Host.Outcome State Fault Refusal :=
  s.svc (fun b =>
    if !(b.ring tenant).stalled then b
    else if word1.getLsbD 47 then (b.readDescriptor tenant).updRing tenant (fun r => { r with stalled := false })
    else b.readDescriptor tenant)

/-! ### Uplink ports (R305, R313, R314, R319, R373) -/

/-- PAUSE_RX (R314): a quanta of 0 releases what it names. -/
def execPauseRx (sub : Nat) (frame : PauseFrame) (s : State) : Host.Outcome State Fault Refusal :=
  s.svc (fun b =>
    if !b.subUp sub then b
    else
      let on := fun i => decide (0 < frame.quanta.getD i 0)
      (b.updSub sub (fun p =>
        { p with held :=
            if frame.pfc then
              BitVec.ofFnLE (fun (i : Fin 8) => if frame.classes.getLsbD i then on i else p.held.getLsbD i)
            else if on 0 then BitVec.allOnes 8 else 0 })).count 0x76 8 (64 + sub))

/-- Empties the queues of a sub-port (R319). -/
def Blk.flushSub (b : Blk) (s : Nat) : Blk :=
  let b := b.countN 0x76 5 (64 + s) (b.framesAt (64 + s))
  (List.range 8).foldl (fun b k => b.setQueue (classQueue (64 + s) k) []) b

/-- Takes a sub-port down (R319). -/
def Blk.subDown (b : Blk) (s : Nat) : Blk :=
  ((b.flushSub s).updSub s (fun p => { p with up := false, held := 0, xoff := false })).syncDown s

/-- SUB_PORT_LINK_DOWN (R319). -/
def execSubPortLinkDown (sub : Nat) (s : State) : Host.Outcome State Fault Refusal :=
  s.svc (fun b => if b.subUp sub then b.subDown sub else b)

/-- SUB_PORT_LINK_UP (R313): an enabled sub-port comes up, unless its island is retired (R478). -/
def execSubPortLinkUp (sub : Nat) (s : State) : Host.Outcome State Fault Refusal :=
  s.svc (fun b =>
    if b.subFormed sub && (b.sub sub).enable && !b.tele.islandRetired (71 + sub / 8) then
      b.updSub sub (fun p => { p with up := true })
    else b)

/-- The destination addresses of a PTP profile (R372, R373). -/
def ptpAddresses : List Nat := [0x011B19000000, 0x0180C200000E]

/-- Whether a frame on a sub-port is the time unit's (R373). -/
def Blk.takesPtp (b : Blk) (sub : Nat) (l : List Byte) : Bool :=
  b.hasTime && (Tab.get {} b.timeCfg.ports sub).role != 0
  && field16 l (12 + tagsLen l.length (l.drop 12)) == 0x88F7 && ptpAddresses.contains (beNat (l.take 6))

/-- UPLINK_FRAME_RX (R25, R305, R373): the bytes include the FCS; `bad` is a receive error that the PCS marked,
`room` says whether the port had none (R15) and whether the copy budget of the sub-port is reached (R304), `toa` is the raw timestamp of the SFD (R370, R371). A frame beyond
MAX_FRAME, or with a wrong FCS, from a sub-port without cut-through goes no further; from a cut-through sub-port
it is cut there and found bad late. On a part without a time unit the
time is a free value (R6). -/
def execUplinkFrameRx (sub : Nat) (bytes : List Byte) (bad : Bool) (room : Room) (toa : Int) (s : State) :
    Host.Outcome State Fault Refusal :=
  s.svc (fun b =>
    if !b.subUp sub then b
    else if room.overrun then b.count 0x76 6 (64 + sub)
    else
      let p := b.sub sub
      let b := b.countIn (64 + sub) bytes.length
      let long := decide (p.maxFrame < bytes.length)
      let wrong := bad || long || !fcsGood bytes
      let toa := b.stampedTime (toa + b.rxCorrection sub)
      let l := bytes.take (bytes.length - 4)
      if !wrong && b.takesPtp sub l then
        let m : PtpIn := {
          sub := sub, bytes := l.drop (14 + tagsLen l.length (l.drop 12)), toa := toa, stamp := b.clk.epoch }
        let b := b.plainCopies { data := l, input := 64 + sub, stamp := b.clk.epoch, toa := toa, gen := b.tim.gen, source := sub } room.spent
        { b with tim := { b.tim with ptpIn := b.tim.ptpIn ++ [m] } }
      else if wrong && !p.ct then b
      else
        let data := if long then bytes.take (p.maxFrame + 1 - 4) else l
        let f : Frame := {
          data := data, input := 64 + sub, stamp := b.clk.epoch, toa := toa, gen := b.tim.gen, source := sub,
          cutThrough := p.ct, bad := wrong }
        (b.toParser 1 f).flowControl sub)

/-! ### PORT_CONFIG (R320) -/

/-- FORM of PORT_CONFIG must be the row's. -/
def formBad (c : Cmd) (form : Nat) : List Nat := if c.f 0 63 62 = form then [] else [fieldAt 0 62]

/-- PORT_CONFIG, port form. -/
def Op.portConfigPort : Op := {
  code := 0x0700, perm := .o, utype := 0x2, len := 8, fields := [(0, 63, 62), (0, 61, 60)],
  bad := fun c => formBad c 0 ++ (if c.unit % 4096 % 8 = 0 then [] else [0]) ++ (if c.f 0 61 60 = 3 then [fieldAt 0 60] else []) }

/-- The effect of PORT_CONFIG's port form: a MODE change takes every sub-port of the port down. -/
def applyPortConfigPort (c : Cmd) (b : Blk) : Blk × Res :=
  let p := c.unit % 4096 / 8
  let mode := c.f 0 61 60
  if Tab.get 0 b.sw.modes p = mode then (b, {})
  else
    let b := (List.range 8).foldl (fun b i =>
      (b.subDown (8 * p + i)).updSub (8 * p + i) (fun x => { x with enable := false })) b
    ({ b with sw := { b.sw with modes := Tab.set 0 b.sw.modes p mode } }, {})

/-- PORT_CONFIG, port form (R320). -/
def execPortConfigPort (c : Cmd) (s : State) : Host.Outcome State Fault Refusal :=
  s.opcode Op.portConfigPort c applyPortConfigPort

/-- PORT_CONFIG, sub-port form. -/
def Op.portConfigSubPort : Op := {
  code := 0x0700, perm := .o, utype := 0x2, len := 8,
  fields := [(0, 63, 62), (0, 61, 61), (0, 60, 60), (0, 59, 46), (0, 45, 44), (0, 43, 43), (0, 42, 42), (0, 41, 30),
             (0, 29, 27)],
  bad := fun c => formBad c 1
    ++ (if c.f 0 59 46 < 64 ∨ 16000 < c.f 0 59 46 then [fieldAt 0 46] else [])
    ++ (if c.f 0 45 44 = 3 then [fieldAt 0 44] else []) }

/-- The effect of PORT_CONFIG's sub-port form. ENABLE lets the sub-port come up; without it the sub-port goes
down. -/
def applyPortConfigSubPort (c : Cmd) (b : Blk) : Blk × Res :=
  let s := c.unit % 4096
  if !b.subFormed s then (b, Res.err .badParam 0)
  else
    let b := if c.b 0 61 then b else b.subDown s
    (b.updSub s (fun p => { p with
      enable := c.b 0 61, ct := c.b 0 60, maxFrame := c.f 0 59 46, fc := c.f 0 45 44, push := c.b 0 43,
      stag := c.b 0 42, vid := c.f 0 41 30, defClass := c.f 0 29 27 }), {})

/-- PORT_CONFIG, sub-port form (R320). -/
def execPortConfigSubPort (c : Cmd) (s : State) : Host.Outcome State Fault Refusal :=
  s.opcode Op.portConfigSubPort c applyPortConfigSubPort

/-- PORT_CONFIG, host form. -/
def Op.portConfigHost : Op := {
  code := 0x0700, perm := .o, utype := 0xE, unit := some 0xE000, len := 16,
  fields := [(0, 63, 62), (0, 61, 55), (0, 54, 54), (0, 53, 49), (0, 48, 41), (1, 63, 0)],
  bad := fun c => formBad c 2
    ++ (if 64 < c.f 0 61 55 then [fieldAt 0 55] else [])
    ++ (if c.f 0 53 49 < 6 ∨ 16 < c.f 0 53 49 then [fieldAt 0 49] else [])
    ++ (if c.f 0 48 41 = 0 then [fieldAt 0 41] else [])
    ++ (if c.word 1 % 4096 = 0 then [] else [fieldAt 1 0]) }

/-- The effect of PORT_CONFIG's host form: a ring that is set anew begins at its first descriptor. -/
def applyPortConfigHost (c : Cmd) (b : Blk) : Blk × Res :=
  (b.updRing (c.f 0 61 55) (fun r =>
    let same := r.enable && c.b 0 54 && r.base == c.word 1 && r.size == c.f 0 53 49
    { enable := c.b 0 54, size := c.f 0 53 49, weight := c.f 0 48 41, base := c.word 1,
      pos := if same then r.pos else 0, stalled := same && r.stalled }), {})

/-- PORT_CONFIG, host form (R320). -/
def execPortConfigHost (c : Cmd) (s : State) : Host.Outcome State Fault Refusal :=
  s.opcode Op.portConfigHost c applyPortConfigHost

/-! ### QUEUE_CONFIG, THRESHOLD_CONFIG (R321) -/

/-- Writes a version of the switch core's configuration. -/
def Blk.setSw (b : Blk) (f : SwCfg → SwCfg) : Blk :=
  { b with sw := { b.sw with cfg := Vers.write {} b.sw.cfg b.clk.epoch f } }

/-- QUEUE_CONFIG (R321). -/
def Op.queueConfig : Op := {
  code := 0x0701, perm := .o, utype := 0x8, unit := some 0x8000, len := 8,
  fields := [(0, 63, 56), (0, 55, 53), (0, 52, 52), (0, 51, 44)],
  bad := fun c => (if c.f 0 63 56 < 112 then [] else [fieldAt 0 56]) ++ (if c.f 0 51 44 = 0 then [fieldAt 0 44] else []),
  names := fun c => if c.f 0 63 56 < 64 then [(treeUnit (c.f 0 63 56), fieldAt 0 56)] else [] }

/-- The effect of QUEUE_CONFIG. -/
def applyQueueConfig (c : Cmd) (b : Blk) : Blk × Res :=
  let port := c.f 0 63 56
  match b.portBad port (fieldAt 0 56) with
  | some r => (b, r)
  | none =>
    (b.setSw (fun x => { x with
      queues := Tab.set none x.queues (classQueue port (c.f 0 55 53)) (some ⟨c.b 0 52, c.f 0 51 44⟩) }), {})

/-- QUEUE_CONFIG (R321). -/
def execQueueConfig (c : Cmd) (s : State) : Host.Outcome State Fault Refusal := s.opcode Op.queueConfig c applyQueueConfig

/-- THRESHOLD_CONFIG (R321). -/
def Op.thresholdConfig : Op := {
  code := 0x0702, perm := .o, utype := 0x8, unit := some 0x8000, len := 8, fields := [(0, 63, 60), (0, 59, 56)],
  bad := fun c => (if 13 < c.f 0 63 60 then [fieldAt 0 60] else [])
    ++ (if 4 ≤ c.f 0 59 56 ∧ c.f 0 59 56 < 10 then [fieldAt 0 56] else []) }

/-- The effect of THRESHOLD_CONFIG. -/
def applyThresholdConfig (c : Cmd) (b : Blk) : Blk × Res :=
  (b.setSw (fun x => { x with
    alphas := Tab.set 0 x.alphas (c.f 0 63 60) (signed (c.f 0 59 56) 4 + 7).toNat }), {})

/-- THRESHOLD_CONFIG (R321). -/
def execThresholdConfig (c : Cmd) (s : State) : Host.Outcome State Fault Refusal :=
  s.opcode Op.thresholdConfig c applyThresholdConfig

/-! ### CARRIER_MAP (R142, R322) -/

/-- CARRIER_MAP, carrier form. -/
def Op.carrierMap : Op := {
  code := 0x0703, perm := .o, utype := 0x1, len := 8,
  fields := [(0, 63, 63), (0, 62, 41), (0, 40, 38), (0, 37, 35), (0, 34, 25)],
  bad := fun c => (if c.b 0 63 then [fieldAt 0 63] else []) ++ (if 4 < c.f 0 40 38 then [fieldAt 0 38] else []),
  names := fun c => [(treeUnit (flowTree (c.f 0 62 41)), fieldAt 0 41)] }

/-- Whether a standard-mode tree forbids a mapping (R142). -/
def Blk.standardBars (b : Blk) (flow purpose : Nat) : Bool :=
  (b.tree (flowTree flow)).mode != .native
  && (flow % 65536 == 65535 || (decide (flow % 65536 < 512) && purpose != 3))

/-- The effect of CARRIER_MAP's carrier form. -/
def applyCarrierMap (c : Cmd) (b : Blk) : Blk × Res :=
  let flow := c.f 0 62 41
  if b.standardBars flow (c.f 0 40 38) then (b, Res.badField 0 41)
  else
    (b.setSw (fun x => { x with
      carriers := Tab.set {} x.carriers flow
        { purpose := c.f 0 40 38, defClass := c.f 0 37 35, group := c.f 0 34 25 } }), {})

/-- CARRIER_MAP, carrier form (R322). -/
def execCarrierMap (c : Cmd) (s : State) : Host.Outcome State Fault Refusal := s.opcode Op.carrierMap c applyCarrierMap

/-- Member i of a group in the extended input. -/
def memberOf (ext : List Byte) (i : Nat) : Nat := leNat ((ext.drop (4 * i)).take 4)

/-- CARRIER_MAP, group form. -/
def Op.carrierMapGroup : Op := {
  code := 0x0703, perm := .o, utype := 0x8, unit := some 0x8000, len := 8,
  fields := [(0, 63, 63), (0, 62, 53), (0, 52, 46)],
  bad := fun c =>
    let n := c.f 0 52 46
    (if c.b 0 63 then [] else [fieldAt 0 63]) ++ (if 64 < n then [fieldAt 0 46] else []) ++ extNeed c (4 * n)
    ++ (if (List.range n).any (fun i => decide (2 ^ 22 ≤ memberOf c.ext i)) then [0xFF] else []),
  names := fun c => (List.range (min 64 (c.f 0 52 46))).map (fun i => (treeUnit (flowTree (memberOf c.ext i) % 64), 0xFF)) }

/-- The effect of CARRIER_MAP's group form. -/
def applyCarrierMapGroup (c : Cmd) (b : Blk) : Blk × Res :=
  let l := (List.range (c.f 0 52 46)).map (memberOf c.ext)
  if l.any (fun m => (Tab.get {} b.swCfg.carriers m).purpose != 1) then (b, Res.badExt)
  else (b.setSw (fun x => { x with groups := Tab.set [] x.groups (c.f 0 62 53) l }), {})

/-- CARRIER_MAP, group form (R322). -/
def execCarrierMapGroup (c : Cmd) (s : State) : Host.Outcome State Fault Refusal :=
  s.opcode Op.carrierMapGroup c applyCarrierMapGroup

/-! ### MIRROR_CONFIG, SAMPLE_CONFIG, FRER_CONFIG (R323, R324) -/

/-- MIRROR_CONFIG, port form. -/
def Op.mirrorConfigPort : Op := {
  code := 0x0704, perm := .o, utype := 0x3, unit := some 0x3000, len := 8,
  fields := [(0, 63, 63), (0, 62, 55), (0, 54, 54), (0, 53, 53), (0, 52, 45)],
  bad := fun c => (if c.b 0 63 then [fieldAt 0 63] else []) ++ (if c.f 0 62 55 < 112 then [] else [fieldAt 0 55]),
  names := fun c => if c.f 0 62 55 < 64 then [(treeUnit (c.f 0 62 55), fieldAt 0 55)] else [] }

/-- The effect of MIRROR_CONFIG's port form. -/
def applyMirrorConfigPort (c : Cmd) (b : Blk) : Blk × Res :=
  let port := c.f 0 62 55
  match b.portBad port (fieldAt 0 55) with
  | some r => (b, r)
  | none =>
    (b.setSw (fun x => { x with
      mirrors := Tab.set {} x.mirrors port { ing := c.b 0 54, egr := c.b 0 53, snap := c.f 0 52 45 } }), {})

/-- MIRROR_CONFIG, port form (R323). -/
def execMirrorConfigPort (c : Cmd) (s : State) : Host.Outcome State Fault Refusal :=
  s.opcode Op.mirrorConfigPort c applyMirrorConfigPort

/-- MIRROR_CONFIG, encapsulation form. -/
def Op.mirrorConfigEncap : Op := {
  code := 0x0704, perm := .o, utype := 0x3, unit := some 0x3000, len := 24,
  fields := [(0, 63, 63), (0, 62, 62), (0, 61, 46), (0, 45, 38), (1, 63, 16), (2, 63, 16)],
  bad := fun c => if c.b 0 63 then [] else [fieldAt 0 63] }

/-- The effect of MIRROR_CONFIG's encapsulation form. -/
def applyMirrorConfigEncap (c : Cmd) (b : Blk) : Blk × Res :=
  (b.setSw (fun x => { x with
    encap := { enable := c.b 0 62, etherType := c.f 0 61 46, snap := c.f 0 45 38, da := c.f 1 63 16, sa := c.f 2 63 16 } }), {})

/-- MIRROR_CONFIG, encapsulation form (R323). -/
def execMirrorConfigEncap (c : Cmd) (s : State) : Host.Outcome State Fault Refusal :=
  s.opcode Op.mirrorConfigEncap c applyMirrorConfigEncap

/-- SAMPLE_CONFIG (R324). -/
def Op.sampleConfig : Op := {
  code := 0x0705, perm := .o, utype := 0x8, unit := some 0x8000, len := 8,
  fields := [(0, 63, 56), (0, 55, 55), (0, 54, 31)],
  bad := fun c => if c.f 0 63 56 < 112 then [] else [fieldAt 0 56],
  names := fun c => if c.f 0 63 56 < 64 then [(treeUnit (c.f 0 63 56), fieldAt 0 56)] else [] }

/-- The effect of SAMPLE_CONFIG: the sampler counts anew (R309). -/
def applySampleConfig (c : Cmd) (b : Blk) : Blk × Res :=
  let port := c.f 0 63 56
  match b.portBad port (fieldAt 0 56) with
  | some r => (b, r)
  | none =>
    let b := b.setSw (fun x => { x with samples := Tab.set {} x.samples port { all := c.b 0 55, n := c.f 0 54 31 } })
    ({ b with sw := { b.sw with samplers := Tab.upd {} b.sw.samplers port (fun s => { line := s.line }) } }, {})

/-- SAMPLE_CONFIG (R324). -/
def execSampleConfig (c : Cmd) (s : State) : Host.Outcome State Fault Refusal := s.opcode Op.sampleConfig c applySampleConfig

/-- FRER_CONFIG (R324). -/
def Op.frerConfig : Op := {
  code := 0x0706, perm := .o, utype := 0x8, unit := some 0x8000, len := 8,
  fields := [(0, 63, 52), (0, 51, 51), (0, 50, 50), (0, 49, 44)],
  bad := fun c => (if c.f 0 63 52 = 0 then [fieldAt 0 52] else []) ++ (if 47 < c.f 0 49 44 then [fieldAt 0 44] else []) }

/-- The effect of FRER_CONFIG: enabling a stream starts its numbers at 0 (R317). -/
def applyFrerConfig (c : Cmd) (b : Blk) : Blk × Res :=
  let st := c.f 0 63 52
  if c.b 0 50 && !b.subFormed (c.f 0 49 44) then (b, Res.badField 0 44)
  else
    let x := Tab.get {} b.sw.streams st
    ({ b with sw := { b.sw with streams := Tab.set {} b.sw.streams st {
        enable := c.b 0 51, dup := c.b 0 50, subB := c.f 0 49 44, number := if x.enable then x.number else 0 } } }, {})

/-- FRER_CONFIG (R324). -/
def execFrerConfig (c : Cmd) (s : State) : Host.Outcome State Fault Refusal := s.opcode Op.frerConfig c applyFrerConfig

/-! ### FRAME_INJECT (R325) -/

/-- FRAME_INJECT (R325). -/
def Op.frameInject : Op := {
  code := 0x0707, perm := .t, utype := 0x8, unit := some 0x8000, len := 8,
  fields := [(0, 63, 61), (0, 60, 39), (0, 38, 36), (0, 35, 22), (0, 21, 16)],
  bad := fun c =>
    let k := c.f 0 63 61
    (if k = 0 ∨ k = 3 ∨ k = 5 then [] else [fieldAt 0 61])
    ++ (if k = 5 ∧ 47 < c.f 0 60 39 then [fieldAt 0 39] else [])
    ++ (if c.f 0 35 22 < 60 ∨ 16000 < c.f 0 35 22 then [fieldAt 0 22] else [])
    ++ (if k = 0 ∧ 47 < c.f 0 21 16 then [fieldAt 0 16] else []) ++ extNeed c (c.f 0 35 22),
  names := fun c => if c.f 0 63 61 = 3 then [(treeUnit (flowTree (c.f 0 60 39)), fieldAt 0 39)] else [] }

/-- The effect of FRAME_INJECT: the frame enters at the host input, stamped with the apply-epoch. -/
def applyFrameInject (c : Cmd) (b : Blk) : Blk × Res :=
  let k := c.f 0 63 61
  let dest := c.f 0 60 39
  let src := c.f 0 21 16
  if c.tenant ≠ 0 ∧ (k ≠ 3 ∨ b.carrierOwner dest ≠ c.tenant) then (b, Res.deniedObject)
  else if k = 5 ∧ !b.subFormed dest then (b, Res.badField 0 39)
  else if k = 0 ∧ !b.subFormed src then (b, Res.badField 0 16)
  else
    let f : Frame := {
      data := c.ext.take (c.f 0 35 22), input := 114, tenant := c.tenant, stamp := b.clk.epoch, toa := b.stampedTime b.tim.tod,
      gen := b.tim.gen, source := src }
    let b := b.countIn 114 f.length
    (if k = 0 then b.toParser 1 f
     else if k = 3 then b.toCarrier f dest (some (c.f 0 38 36))
     else b.toSub f dest (some (c.f 0 38 36)) 0, {})

/-- FRAME_INJECT (R325). -/
def execFrameInject (c : Cmd) (s : State) : Host.Outcome State Fault Refusal := s.opcode Op.frameInject c applyFrameInject

end Sys2Proof.Machine
end

