-- ==== Sys2Proof/Machine/Trees.lean ====
section
/-! DEFINITION. Trees (03, 04): defects and their records, switching requests, circuits, Type B protection, index
states, and the tree commands. -/
namespace Sys2Proof.Machine

/-! ### Optics and switching requests (R127, R134, R186, R409) -/

/-- Whether this is chip B of a joined pair, or of one that a newcomer on wavelength B joins (R182, R420). -/
def Blk.chipB (b : Blk) : Bool := (b.joined || b.pair.role == .joining) && b.wave

/-- Drives OPT_TXDIS of a tree (R186): its light may leave while TX_ON is 1, this side transmits and its island works;
in a pair, chip B holds it for a tree whose skew is beyond the limit (R409), and a chip that is not in service holds it
for every tree (R415). -/
def Blk.driveTx (b : Blk) (t : Nat) : Blk :=
  let x := b.tree t
  let on := b.sys.phase == .service && !b.sys.thermTrip && b.lit && x.txOn && !x.stopped && x.transmits
    && !(b.joined && b.wave && x.skewState == .beyond)
  let mask : BitVec 64 := BitVec.ofNat 64 (2 ^ t)
  { b with sys := { b.sys with txOn := if on then b.sys.txOn ||| mask else b.sys.txOn &&& ~~~mask } }

/-- SR_DN of a tree (R127, R146, R409): in a joined pair both chips choose it from what each knows of both. -/
def Blk.srDn (b : Blk) (t : Nat) : Nat :=
  let x := b.tree t
  let mine := if b.wave then 1 else 0
  if x.mode != .native then 0
  else if b.joined && x.stopped then 1 + mine
  else if b.joined && x.otherStopped then 2 - mine
  else if b.joined && (if b.wave then x.skewState else x.otherSkew) == .beyond then 5
  else if b.pair.lockout then 8
  else if b.pair.wtrEnd.isSome then 7
  else if b.joined then 0
  else 5 + mine

/-! ### Defect records (R121 to R123) -/

/-- The DEFECT record (R122). -/
def defectRec (tree object code : Nat) (on : Bool) : RecIn :=
  { type := 0x0100, island := tree, object := object, detail := code * 256 + b2n on }

/-- Whether a defect's records are suppressed (R123). -/
def Blk.suppressed (b : Blk) (t idx code : Nat) : Bool :=
  let x := b.term (gid t idx)
  ((b.tree t).los && decide (1 ≤ code) && decide (code ≤ 4))
  || (x.dg && (code == 1 || code == 2))
  || (x.lob && (code == 2 || code == 3 || code == 4))

/-- Writes the record of a change of a terminal's defect, or withholds it. -/
def Blk.noteDefect (b : Blk) (t idx code : Nat) (on : Bool) : Blk :=
  let drop := fun (x : Tree) => { x with hidden := x.hidden.filter (· != (idx, code)) }
  if b.suppressed t idx code then
    b.updTree t (fun x => if on then { x with hidden := (drop x).hidden ++ [(idx, code)] } else drop x)
  else (b.updTree t drop).vent (defectRec t (t * 2 ^ 32 + idx) code on)

/-- When a suppressing defect clears, one record for each withheld defect that is still set (R123). -/
def Blk.releaseDefects (b : Blk) (t : Nat) : Blk :=
  (b.tree t).hidden.foldl (fun b h =>
    if b.suppressed t h.1 h.2 then b
    else (b.updTree t (fun x => { x with hidden := x.hidden.filter (· != h) })).vent
      (defectRec t (t * 2 ^ 32 + h.1) h.2 true)) b

/-! ### Index states (R171) -/

/-- The state of an index after it leaves its activity: what belongs to one activity is dropped, and DRIFT clears
without a record (R180). -/
def Term.rest (x : Term) (st : IdxState) : Term :=
  { x with
    state := st, serial := if st = .free then 0 else x.serial, muSum := 0, muCount := 0, driftRun := 0, driftOk := 0,
    eqdApply := none, reranging := false, rerangeSlow := false, nextRange := none, rangeMiss := 0,
    rangeGrants := 0, snFrom := none, actSent := 0, actSeqs := [], drift := false }

/-- An index becomes FREE or PROVISIONED. -/
def Blk.restIndex (b : Blk) (t idx : Nat) (st : IdxState) : Blk :=
  let b := b.updTree t (fun x => { x with hidden := x.hidden.filter (· != (idx, 6)) })
  b.updTerm (gid t idx) (fun x => x.rest st)

/-- Puts a control message in the queue of a tree (R176); a newer EQD_SET replaces one that waits. -/
def Blk.queueCtl (b : Blk) (t : Nat) (m : Ctl) : Blk :=
  b.updTree t (fun x =>
    let keep := match m with
      | .eqdSet i _ => x.ctl.filter (fun c => match c with
          | .eqdSet j _ => i != j
          | _ => true)
      | _ => x.ctl
    { x with ctl := keep ++ [m] })

/-- Index states when TX_ON or RX_ON becomes 0 (R171). -/
def Blk.lightsOut (b : Blk) (t : Nat) : Blk :=
  ((List.range 512).foldl (fun b i =>
    match (b.term (gid t i)).state with
    | .held => b.restIndex t i .free
    | .activating => b.restIndex t i .provisioned
    | .active => b.restIndex t i .provisioned
    | _ => b) b).updTree t (fun x => { x with ctl := x.ctl.filter (fun c => match c with
      | .keySync _ => true
      | .gridShift _ _ _ => true
      | _ => false) })

/-! ### Re-ranging (R181) -/

/-- Re-ranging of a terminal begins. -/
def Blk.rerange (b : Blk) (t idx : Nat) : Blk :=
  b.updTerm (gid t idx) (fun x =>
    { x with reranging := true, rerangeFrom := b.clk.epoch, rerangeSlow := false })

/-- Re-ranging begins on what this chip receives; the chip that is not the reference follows the other's batches (R177). -/
def Blk.startRerange (b : Blk) (t idx : Nat) : Blk := if b.pair.reference then b.rerange t idx else b

/-! ### Type B protection (R149 to R154, R185) -/

/-- The record of a move, or of a change of LOS_T (R152): VALUE 0 says that this side transmits, 1 the other. -/
def Blk.protectRec (b : Blk) (t detail : Nat) : Blk :=
  b.vent { type := 0x0200, island := t, object := t, detail := detail, w6 := if (b.tree t).transmits then 0 else 1 }

/-- One side begins to transmit: OPT_TXDIS is released and TX_WAIT runs. -/
def Blk.sideOn (b : Blk) (t : Nat) : Blk :=
  (b.updTree t (fun x =>
    { x with transmits := true, waitFrom := some b.clk.fc, holdFrom := none, rxSkew := 0 })).driveTx t

/-- One side stops transmitting. -/
def Blk.sideOff (b : Blk) (t : Nat) : Blk :=
  (b.updTree t (fun x =>
    { x with transmits := false, waitFrom := none, holdFrom := none, rxSkew := -x.upSkew })).driveTx t

/-- Under SCHEME 0b10 nothing measures the skew between the two sides (R182): at a move it is a free value. -/
def Blk.drawSkew (b : Blk) (t peer : Nat) : Blk :=
  let v := signed (Config.freeValue b.free % 2 ^ 24) 24
  (b.draw.updTree t (fun x => { x with upSkew := v })).updTree peer (fun x => { x with upSkew := v })

/-- Moves the transmitting side of a tree, on the peer as well under SCHEME 0b10 (R152). -/
def Blk.moveSide (b : Blk) (t : Nat) (here : Bool) : Blk :=
  let x := b.tree t
  if x.transmits = here then b
  else
    let b := if x.protect.scheme = 2 then b.drawSkew t x.protect.peer else b
    let b := if here then b.sideOn t else b.sideOff t
    let b := if x.protect.scheme = 2 then (if here then b.sideOff x.protect.peer else b.sideOn x.protect.peer) else b
    b.protectRec t 0

/-- LOS_T of the other side: the peer tree's under SCHEME 0b10, and under SCHEME 0b01 what the partner tells. -/
def Blk.otherLos (b : Blk) (t : Nat) : Bool :=
  let x := b.tree t
  if x.protect.scheme = 2 then (b.tree x.protect.peer).los else x.otherLos

/-- Whether LOS_T is set on the transmitting side only (R152). -/
def Blk.workLost (b : Blk) (t : Nat) : Bool :=
  let x := b.tree t
  if x.transmits then x.los && !b.otherLos t else b.otherLos t && !x.los

/-- The side that FORCE asks for: none under automatic operation (R152). -/
def Blk.forced (b : Blk) (t : Nat) : Option Bool :=
  let x := b.tree t
  match x.protect.force with
  | 1 => some (!(x.los && !b.otherLos t))
  | 2 => some (b.otherLos t && !x.los)
  | 3 => some (x.protect.prefer == 0)
  | _ => none

/-- What the two sides' LOS_T ask for: a side under FORCE, or HOLD_OFF, which begins when LOS_T is set on the transmitting side
only and ends with that (R152). -/
def Blk.judgeSide (b : Blk) (t : Nat) : Blk :=
  if (b.tree t).protect.scheme = 0 then b
  else
    match b.forced t with
    | some here => b.moveSide t here
    | none =>
      let lost := b.workLost t
      b.updTree t (fun x => { x with holdFrom := if lost then some (x.holdFrom.getD b.clk.fc) else none })

/-- What a change of LOS_T on one side of a tree does to protection (R152). -/
def Blk.losProtect (b : Blk) (t : Nat) : Blk :=
  let x := b.tree t
  if x.protect.scheme = 0 then b
  else
    let b := (b.protectRec t 1).judgeSide t
    if x.protect.scheme = 2 then b.judgeSide x.protect.peer else b

/-- PROTECT_HOLD_OFF_EXPIRY (R152): with LOS_T still set on the transmitting side only, transmission moves. -/
def execProtectHoldOffExpiry (tree : Nat) (s : State) : Host.Outcome State Fault Refusal :=
  s.svc (fun b =>
    let x := b.tree tree
    if x.protect.scheme = 0 ∨ x.protect.force ≠ 0 then b
    else
      match x.holdFrom with
      | some f => if b.workLost tree ∧ f + 8 * x.protect.holdOff ≤ b.clk.fc then b.moveSide tree (!x.transmits) else b
      | none => b)

/-- PROTECT_TX_WAIT_EXPIRY (R154): the new side sends from the next frame tick on. -/
def execProtectTxWaitExpiry (tree : Nat) (s : State) : Host.Outcome State Fault Refusal :=
  s.svc (fun b =>
    let x := b.tree tree
    match x.waitFrom with
    | some f =>
      if 10 * f + 8 * x.protect.txWait ≤ 10 * b.clk.fc then
        b.updTree tree (fun x => { x with waitFrom := none, sinceSwitch := 0 })
      else b
    | none => b)

/-- PROTECT_WTR_EXPIRY (R153): with REVERT 1, transmission returns to the preferred side once that side has been
free of LOS_T for the wait-to-restore time. -/
def execProtectWtrExpiry (tree : Nat) (s : State) : Host.Outcome State Fault Refusal :=
  s.svc (fun b =>
    let x := b.tree tree
    let here := x.protect.prefer == 0
    let los := if here then x.los else b.otherLos tree
    let since := if here then x.clearSince
      else if x.protect.scheme = 2 then (b.tree x.protect.peer).clearSince else x.otherClear
    if x.protect.scheme = 0 ∨ !x.protect.revert ∨ x.protect.force ≠ 0 ∨ x.transmits = here then b
    else if los ∨ b.clk.fc < since + 8000 * b.pair.wtr then b
    else b.moveSide tree here)

/-! ### DEFECT_CHANGE (R121, R122) -/

/-- SD over its window of completed epochs: `some true` sets, `some false` clears (R121). DEDUCED, log 113: the clearing ratio too is
that of the window's sums. -/
def sdJudge (d : DefectCfg) (h : List (Nat × Nat)) : Option Bool :=
  let l := (h.drop 1).take d.sdWin
  let c := (l.map Prod.fst).sum
  let n := (l.map Prod.snd).sum
  if l.length < d.sdWin ∨ n = 0 then none
  else if n ≤ c * 10 ^ d.sdExp then some true
  else if c * 10 ^ (d.sdExp + 1) < n then some false
  else none

/-- A terminal's defect: in force, set reached, clear reached. -/
def Term.defect (x : Term) (d : DefectCfg) (code : Nat) : Bool × Bool × Bool :=
  match code with
  | 1 => (x.lob, decide (d.lobSet ≤ x.lobRun), decide (d.lobClr ≤ x.lobOk))
  | 2 => (x.lcd, decide (d.lcdSet ≤ x.lcdRun), decide (d.lcdClr ≤ x.lcdOk))
  | 3 => (x.sf, decide (d.sfSet ≤ x.sfRun), decide (d.sfClr ≤ x.sfOk))
  | 4 => (x.sd, sdJudge d x.sdHist == some true, sdJudge d x.sdHist == some false)
  | 5 => (x.dg, x.dgSeen, decide (8 ≤ x.dgOk))
  | 6 => (x.drift, decide (3 ≤ x.driftRun), decide (8 ≤ x.driftOk))
  | _ => (false, false, false)

/-- Sets or clears a terminal's defect. -/
def Term.setDefect (x : Term) (code : Nat) (on : Bool) : Term :=
  match code with
  | 1 => { x with lob := on }
  | 2 => { x with lcd := on }
  | 3 => { x with sf := on }
  | 4 => { x with sd := on }
  | 5 => { x with dg := on, dgSeen := false, dgOk := 0 }
  | 6 => { x with drift := on }
  | _ => x

/-- The outage event of a change of DG (R253, R451): terminal records belong to tenant 0. -/
def Blk.dgOutage (b : Blk) (t idx : Nat) (on : Bool) : Blk :=
  b.outage { kind := if on then 3 else 4, tenant := 0, terminal := gid t idx, endpoint := 0, stamp := b.clk.epoch,
             cluster := if b.tum.fallback.contains (t % 16) then (t % 16) ^^^ 1 else t % 16 }

/-- Changes a terminal's defect: the record, and what follows from it. -/
def Blk.changeDefect (b : Blk) (t idx code : Nat) (on : Bool) : Blk :=
  let b := b.updTerm (gid t idx) (fun x => x.setDefect code on)
  let b := b.noteDefect t idx code on
  let b := if on then b else b.releaseDefects t
  let x := b.term (gid t idx)
  match code with
  | 1 => if on && x.state == .active && !x.dg then b.startRerange t idx else b
  | 5 => b.dgOutage t idx on
  | _ => b

/-- LOS_T of a tree: in force, set reached, clear reached. -/
def Tree.losJudge (x : Tree) : Bool × Bool × Bool :=
  (x.los, decide (x.defects.losSet ≤ x.losRun), decide (x.defects.losClr ≤ x.losOk))

/-- Changes LOS_T of a tree. -/
def Blk.changeLos (b : Blk) (t : Nat) (on : Bool) : Blk :=
  let b := (b.updTree t (fun x => { x with los := on, clearSince := if on then x.clearSince else b.clk.fc })).vent
    (defectRec t (t * 2 ^ 32) 0 on)
  (if on then b else b.releaseDefects t).losProtect t

/-- The AIS defect of a direction: set reached, clear reached (R132). -/
def Circuit.aisJudge (c : Circuit) (d : CircuitDir) : Option Bool :=
  if !d.ais && decide (c.aisSet ≤ d.subs) then some true
  else if d.ais && decide (c.aisClr ≤ d.goods) then some false
  else none

/-- Changes the AIS defect of a circuit, upstream first. -/
def Blk.changeAis (b : Blk) (t flow : Nat) : Blk :=
  match Tab.get none (b.tree t).circuits (flow % 65536) with
  | none => b
  | some c =>
    match c.aisJudge c.up, c.aisJudge c.dn with
    | some on, _ => (b.updCircuit flow (fun c => { c with up := { c.up with ais := on } })).vent { defectRec t flow 7 on with tenant := b.carrierOwner flow }
    | none, some on => (b.updCircuit flow (fun c => { c with dn := { c.dn with ais := on } })).vent { defectRec t flow 7 on with tenant := b.carrierOwner flow }
    | none, none => b

/-- DEFECT_CHANGE (R121 to R123): the defect of a tree (code 0), a terminal index (1 to 6) or a flow index (7) whose
set or clear count has been reached changes. -/
def execDefectChange (tree object code : Nat) (s : State) : Host.Outcome State Fault Refusal :=
  s.svc (fun b =>
    if tree ≥ Part.trees b.sys.part then b
    else if code = 0 then
      let j := (b.tree tree).losJudge
      if !j.1 && j.2.1 then b.changeLos tree true else if j.1 && j.2.2 then b.changeLos tree false else b
    else if code = 7 then b.changeAis tree object
    else
      let j := (b.term (gid tree object)).defect (b.tree tree).defects code
      if !j.1 && j.2.1 then b.changeDefect tree object code true
      else if j.1 && j.2.2 then b.changeDefect tree object code false
      else b)

/-! ### AIS_PERIOD_END (R129 to R132) -/

/-- The substitute of a saved SDU: its bytes from AIS_OFFSET on are all ones; the FCS is made anew when it leaves. -/
def substitute (off : Nat) (sdu : List Byte) : List Byte := sdu.take off ++ List.replicate (sdu.length - off) 255

/-- Grant phases of a circuit's period: on a standard tree at least a frame (R129, R146). -/
def Circuit.width (c : Circuit) (m : Mode) : Nat := 2 ^ (if m = .native then c.periodLog2 else max 3 c.periodLog2)

/-- The last phase of the period that holds a phase: periods are aligned to the epoch's phase 0 (R129). -/
def periodEnd (width slot : Nat) : Nat := (slot / width + 1) * width - 1

/-- A circuit whose periods start anew at a frame: the frame counter was taken from a partner (R419, R420). -/
def Circuit.realign (c : Circuit) (m : Mode) (fc : Nat) : Circuit :=
  let due := periodEnd (c.width m) (8 * fc)
  { c with up := { c.up with due := due, arrived := [] }, dn := { c.dn with due := due, arrived := [] } }

/-- Whether an SDU has arrived in the period that runs. -/
def CircuitDir.arrivedNow (d : CircuitDir) (width : Nat) : Bool :=
  d.arrived.any (fun s => decide (d.due < s + width) && decide (s ≤ d.due))

/-- A direction after a period in which a substitution was due, or was not; the next period runs. -/
def CircuitDir.period (d : CircuitDir) (width : Nat) : CircuitDir :=
  let d' := { d with due := periodEnd width (d.due + 1), arrived := d.arrived.filter (fun s => decide (d.due < s)) }
  if d.arrivedNow width then { d' with goods := d.goods + 1, subs := 0 } else { d' with subs := d.subs + 1, goods := 0 }

/-- The substitute of an SDU saved, with the class it goes by (R130). -/
def Blk.insertAis (b : Blk) (c : Circuit) (flow : Nat) (up : Bool) (slot : Nat) (saved : List Byte × Option Nat) : Blk :=
  let t := flowTree flow
  let f : Frame := {
    data := substitute c.offset saved.1, input := t, flow := flow, stamp := b.clk.epoch, toa := b.stampedTime b.tim.tod,
    gen := b.tim.gen, source := t, order := [slot / 8, slot % 8, t, 777600, 0] }
  let b := b.count 0x11 15 t
  if up then b.toParser 0 f else (b.admitTree f flow (b.treeClass f flow saved.2)).1

/-- AIS_PERIOD_END (R130): the end of the period of a circuit that runs in one direction, which lies in a frame that has begun.
Without an SDU, and with a copy, a substitute is inserted. -/
def execAisPeriodEnd (flow : Nat) (up : Bool) (s : State) : Host.Outcome State Fault Refusal :=
  s.svc (fun b =>
    let t := flowTree flow
    match Tab.get none (b.tree t).circuits (flow % 65536) with
    | none => b
    | some c =>
      if !bit c.dir (if up then 0 else 1) then b
      else
        let d := if up then c.up else c.dn
        let w := c.width (b.tree t).mode
        if b.clk.fc ≤ d.due / 8 then b
        else
          let b := b.updCircuit flow (fun c => if up then { c with up := c.up.period w } else { c with dn := c.dn.period w })
          match d.saved with
          | some s =>
            if d.arrivedNow w then b else b.insertAis c flow up d.due s
          | none => b)

/-! ### TREE_CONFIG (R100, R134, R159, R204) -/

/-- The smallest MAP_LEAD for a reach in units of 0.1 km (R158, R159): times in ns. -/
def leadMin (reachMax : Nat) : Nat := max 2 (ceilDiv (reachMax * 985 + 12000 + 45000) 125000)

/-- TREE_CONFIG (R134). -/
def Op.treeConfig : Op := {
  code := 0x0100, perm := .o, utype := 0x1, len := 8, fields := [(0, 63, 63), (0, 62, 62), (0, 61, 59), (0, 31, 0)],
  bad := fun c => if c.f 0 61 59 < 2 then [fieldAt 0 59] else [] }

/-- What TREE_CONFIG finds wrong at application: the L_min check of R159 and the third limit of R200. -/
def Blk.treeConfigBad (b : Blk) (c : Cmd) : Option Res :=
  let t := c.unit % 4096
  let x := b.tree t
  let lead := c.f 0 61 59
  if lead < leadMin x.discNow.reachMax then some (Res.badField 0 59)
  else if x.mapLead < lead ∧ !b.geyCfg.entriesOk x.mode t lead then some (Res.err .noSpace)
  else none

/-- Grants of a tree from an upstream frame on that are still open close unsent (R232). -/
def Blk.unsend (b : Blk) (t uf : Nat) : Blk :=
  { b with gey := { b.gey with grants := b.gey.grants.map (fun g =>
      if g.tree = t ∧ uf ≤ g.uf ∧ g.outcome = .pending then { g with outcome := .unsent } else g) } }

/-- The tree after TREE_CONFIG at epoch n. -/
def Tree.configured (x : Tree) (c : Cmd) (n : Nat) (joinedB : Bool) : Tree :=
  let lead := c.f 0 61 59
  let rx := c.b 0 62
  { x with
    txOn := c.b 0 63, rxOn := rx, rxSince := if rx = x.rxOn then x.rxSince else 8 * n, mapLead := lead,
    mapEmpty := if lead < x.mapLead then 8 * n + (x.mapLead - lead) else x.mapEmpty,
    mapPast := if lead < x.mapLead then 8 * n + x.mapLead else x.mapPast, tag := c.f 0 31 0,
    skewState := if rx && !x.rxOn && joinedB then .acquiring else x.skewState }

/-- The effect of TREE_CONFIG. -/
def applyTreeConfig (c : Cmd) (b : Blk) : Blk × Res :=
  match b.treeConfigBad c with
  | some r => (b, r)
  | none =>
    let t := c.unit % 4096
    let old := b.tree t
    let b := b.updTree t (fun x => x.configured c b.clk.epoch b.chipB)
    let new := b.tree t
    let b := if (old.txOn && !new.txOn) || (old.rxOn && !new.rxOn) then b.lightsOut t else b
    let b := if old.rxOn && !new.rxOn then b.unsend t (8 * b.clk.epoch) else b
    (b.driveTx t, {})

/-- TREE_CONFIG (R134). -/
def execTreeConfig (c : Cmd) (s : State) : Host.Outcome State Fault Refusal := s.opcode Op.treeConfig c applyTreeConfig

/-! ### DEFECT_CONFIG, TREE_STATUS (R135, R136) -/

/-- DEFECT_CONFIG (R135). -/
def Op.defectConfig : Op := {
  code := 0x0101, perm := .o, utype := 0x1, len := 8,
  fields := [(0, 63, 60), (0, 59, 56), (0, 55, 52), (0, 51, 48), (0, 47, 44), (0, 43, 40), (0, 39, 36), (0, 35, 30),
             (0, 29, 26), (0, 25, 20)],
  bad := fun c =>
    ([(63, 60), (59, 56), (55, 52), (51, 48), (47, 44), (43, 40), (39, 36), (35, 30), (25, 20)].filter (fun x =>
      c.f 0 x.1 x.2 == 0)).map (fun x => fieldAt 0 x.2)
    ++ (if c.f 0 29 26 < 3 ∨ 9 < c.f 0 29 26 then [fieldAt 0 26] else []) }

/-- The effect of DEFECT_CONFIG: defects that integrate keep their progress. -/
def applyDefectConfig (c : Cmd) (b : Blk) : Blk × Res :=
  (b.updTree (c.unit % 4096) (fun x => { x with
    defects := {
      losSet := c.f 0 63 60, losClr := c.f 0 59 56, lobSet := c.f 0 55 52, lobClr := c.f 0 51 48, lcdSet := c.f 0 47 44,
      lcdClr := c.f 0 43 40, sfSet := c.f 0 39 36, sfClr := c.f 0 35 30, sdExp := c.f 0 29 26, sdWin := c.f 0 25 20 } }), {})

/-- DEFECT_CONFIG (R135). -/
def execDefectConfig (c : Cmd) (s : State) : Host.Outcome State Fault Refusal := s.opcode Op.defectConfig c applyDefectConfig

/-- TREE_STATUS (R136). -/
def Op.treeStatus : Op := { code := 0x0102, perm := .o, read := true, utype := 0x1 }

/-- A terminal's entry of TREE_STATUS. -/
def Term.status (x : Term) (native : Bool) : Nat :=
  pack [(b2n x.lob, 15), (b2n x.lcd, 14), (b2n x.sf, 13), (b2n x.sd, 12), (b2n x.dg, 11), (b2n x.drift, 10),
        (b2n (x.state == .active), 9), (if native then x.srUp % 16 else 0, 4), (b2n (native && x.waveA), 3),
        (b2n (native && x.waveB), 2)]

/-- The effect of TREE_STATUS. The frame current when the state is taken is the last one begun. -/
def applyTreeStatus (c : Cmd) (b : Blk) : Blk × Res :=
  let t := c.unit % 4096
  let x := b.tree t
  let terms := (List.range 512).map (fun i => b.term (gid t i))
  let n := fun (p : Term → Bool) => (terms.filter p).length
  let ais := (x.circuits.map (fun k => match k.2 with
    | some k => b2n k.up.ais + b2n k.dn.ais
    | none => 0)).sum
  (b, {
    inl := wordsLe [
      pack [(b2n x.los, 63), (b2n x.txOn, 62), (b2n x.rxOn, 61), (b.srDn t, 57)],
      pack [(n (·.lob), 48), (n (·.lcd), 32), (n (·.sf), 16), (n (·.sd), 0)],
      pack [(n (·.dg), 48), (n (·.drift), 32), (ais, 16)], b.clk.fc % 2 ^ 64],
    ext := terms.flatMap (fun y => toLe (y.status (x.mode == .native)) 2) })

/-- TREE_STATUS (R136). -/
def execTreeStatus (c : Cmd) (s : State) : Host.Outcome State Fault Refusal := s.opcode Op.treeStatus c applyTreeStatus

/-! ### CIRCUIT_AIS_CONFIG (R137) -/

/-- CIRCUIT_AIS_CONFIG (R137). -/
def Op.circuitAisConfig : Op := {
  code := 0x0103, perm := .o, utype := 0x1, len := 8,
  fields := [(0, 63, 42), (0, 41, 40), (0, 39, 37), (0, 36, 29), (0, 28, 25), (0, 24, 19)],
  bad := fun c =>
    if c.f 0 41 40 = 0 then []
    else (if c.f 0 39 37 = 7 then [fieldAt 0 37] else []) ++ (if c.f 0 28 25 = 0 then [fieldAt 0 25] else [])
      ++ (if c.f 0 24 19 = 0 then [fieldAt 0 19] else []),
  names := fun c => [(treeUnit (flowTree (c.f 0 63 42)), fieldAt 0 42)] }

/-- A direction with its AIS integration restarted from a phase: the saved copy is kept, and so is a defect in force while the
direction stays configured, which then clears by the new AIS_CLR. DESIGN CHOICE, log 145. -/
def CircuitDir.restart (d : CircuitDir) (stays : Bool) (due : Nat) : CircuitDir :=
  { saved := d.saved, due := due, ais := d.ais && stays }

/-- The effect of CIRCUIT_AIS_CONFIG. -/
def applyCircuitAisConfig (c : Cmd) (b : Blk) : Blk × Res :=
  let flow := c.f 0 63 42
  let t := flowTree flow
  let x := b.tree t
  let old := Tab.get none x.circuits (flow % 65536)
  let set := fun (v : Option Circuit) =>
    b.updTree t (fun x => { x with circuits := Tab.set none x.circuits (flow % 65536) v })
  if c.f 0 41 40 = 0 then (set none, {})
  else if x.mode != .native ∧ c.f 0 39 37 < 3 then (b, Res.badField 0 37)
  else if old.isNone ∧ 256 ≤ x.circuits.length then (b, Res.err .noSpace)
  else
    let new : Circuit := {
      dir := c.f 0 41 40, periodLog2 := c.f 0 39 37, offset := c.f 0 36 29, aisSet := c.f 0 28 25, aisClr := c.f 0 24 19 }
    let due := periodEnd (new.width x.mode) (64 * b.clk.epoch)
    (set (some { new with
      up := ((old.map (fun (k : Circuit) => k.up)).getD {} : CircuitDir).restart (bit new.dir 0) due,
      dn := ((old.map (fun (k : Circuit) => k.dn)).getD {} : CircuitDir).restart (bit new.dir 1) due }), {})

/-- CIRCUIT_AIS_CONFIG (R137). -/
def execCircuitAisConfig (c : Cmd) (s : State) : Host.Outcome State Fault Refusal :=
  s.opcode Op.circuitAisConfig c applyCircuitAisConfig

/-! ### TREE_SET_MODE (R138, R139, R147) -/

/-- TREE_SET_MODE (R138). -/
def Op.treeSetMode : Op := {
  code := 0x0200, perm := .o, utype := 0x1, len := 8, fields := [(0, 63, 62)],
  bad := fun c => if c.f 0 63 62 = 3 then [fieldAt 0 62] else [] }

/-- The mode a value names. -/
def modeOf (v : Nat) : Mode := if v = 0 then .native else if v = 1 then .fiftyG else .xgs

/-- A terminal without defects or equalisation delay (R139). -/
def Term.cleared (x : Term) : Term :=
  { x with
    rtd := 0, eqdUse := 0, mu := 0, muSum := 0, muCount := 0, lob := false, lobRun := 0, lobOk := 0, lcd := false,
    lcdRun := 0, lcdOk := 0, sf := false, sfRun := 0, sfOk := 0, uncorr := false, sd := false, sdHist := [], dg := false,
    dgOk := 0, dgSeen := false, drift := false, driftRun := 0, driftOk := 0 }

/-- A circuit without defect. -/
def Circuit.cleared (c : Circuit) : Circuit :=
  { c with up := { c.up with ais := false, subs := 0, goods := 0 }, dn := { c.dn with ais := false, subs := 0, goods := 0 } }

/-- The effect of TREE_SET_MODE. A DG that it clears is an outage event all the same (R253). DESIGN CHOICE, log 146: the settings of
TREE_PROTECT_CONFIG, the side that transmits and the reach of DISCOVERY_CONFIG stay as they are. -/
def applyTreeSetMode (c : Cmd) (b : Blk) : Blk × Res :=
  let t := c.unit % 4096
  let x := b.tree t
  let m := modeOf (c.f 0 63 62)
  let active := (List.range 512).any (fun i => (b.term (gid t i)).state == .active)
  let short := m != .native && (b.geyCfg.standing t).any (fun q => decide (q.2.lbLog2 < 4))
  if x.txOn || x.rxOn || active || short then (b, Res.badField 0 62)
  else
    let b := b.updTree t (fun x => { x with
      mode := m, los := false, losRun := 0, losOk := 0, hidden := [], defects := {},
      circuits := x.circuits.map (fun k => (k.1, k.2.map Circuit.cleared)) })
    ((List.range 512).foldl (fun b i =>
      let dg := (b.term (gid t i)).dg
      let b := b.updTerm (gid t i) Term.cleared
      if dg then b.dgOutage t i false else b) b, {})

/-- TREE_SET_MODE (R138). -/
def execTreeSetMode (c : Cmd) (s : State) : Host.Outcome State Fault Refusal := s.opcode Op.treeSetMode c applyTreeSetMode

/-! ### TREE_PROTECT_CONFIG (R149, R150) -/

/-- TREE_PROTECT_CONFIG (R149). -/
def Op.treeProtectConfig : Op := {
  code := 0x0201, perm := .o, utype := 0x1, len := 8,
  fields := [(0, 63, 62), (0, 61, 56), (0, 55, 55), (0, 54, 54), (0, 53, 47), (0, 46, 45), (0, 44, 40)],
  bad := fun c =>
    (if c.f 0 63 62 = 3 then [fieldAt 0 62] else [])
    ++ (if c.f 0 63 62 ≠ 2 ∧ c.f 0 61 56 ≠ 0 then [fieldAt 0 56] else [])
    ++ (if c.f 0 63 62 = 2 ∧ c.f 0 61 56 = c.unit % 4096 then [fieldAt 0 56] else [])
    ++ (if 100 < c.f 0 53 47 then [fieldAt 0 47] else []) ++ (if 20 < c.f 0 44 40 then [fieldAt 0 40] else []),
  others := fun c =>
    if c.f 0 63 62 = 1 then [0xB000] else if c.f 0 63 62 = 2 then [treeUnit (c.f 0 61 56)] else [] }

/-- The effect of TREE_PROTECT_CONFIG: the preferred side transmits first; a tree already protected in the same way
keeps its side unless FORCE names one. -/
def applyTreeProtectConfig (c : Cmd) (b : Blk) : Blk × Res :=
  let t := c.unit % 4096
  let x := b.tree t
  let scheme := c.f 0 63 62
  let peer := c.f 0 61 56
  if x.mode = .native then (b, Res.err .badParam 0)
  else if scheme = 1 ∧ !b.joined then (b, Res.badField 0 62)
  else if scheme = 2 ∧ (b.tree peer).mode ≠ x.mode then (b, Res.badField 0 56)
  else
    let kept := x.protect.scheme == scheme && x.protect.peer == peer
    let b := b.updTree t (fun x => { x with
      protect := {
        scheme := scheme, peer := peer, prefer := c.f 0 55 55, revert := c.b 0 54, holdOff := c.f 0 53 47,
        force := c.f 0 46 45, txWait := c.f 0 44 40 },
      transmits := if scheme = 0 then true else if kept then x.transmits else c.f 0 55 55 == 0,
      holdFrom := if kept then x.holdFrom else none, waitFrom := if kept then x.waitFrom else none })
    ((b.driveTx t).judgeSide t, {})

/-- TREE_PROTECT_CONFIG (R149). -/
def execTreeProtectConfig (c : Cmd) (s : State) : Host.Outcome State Fault Refusal :=
  s.opcode Op.treeProtectConfig c applyTreeProtectConfig

end Sys2Proof.Machine
end

