-- ==== Sys2Proof/Machine/Ranging.lean ====
section
/-! DEFINITION. Ranging, discovery and equalisation (05): delays, detections, index transitions, drift, re-ranging,
feeder skew and the ranging commands. -/
namespace Sys2Proof.Machine

/-! ### Delays (R157 to R159) -/

/-- Eight frames in upstream bit periods: EqD and RTD sum to it (R157). -/
def eightFrames : Nat := 49766400

/-- Bit periods of a frame (R82). -/
def frameBits : Nat := 6220800

/-- RTD_LO in 1/10,000 bit periods (R158): a bit period is 1 / 49.7664 GHz. -/
def rtdLo (reachMin : Nat) : Nat := reachMin * 970 * 497664

/-- RTD_HI in 1/10,000 bit periods (R158). -/
def rtdHi (reachMax : Nat) : Nat := (reachMax * 985 + 12000) * 497664

/-- Whether an RTD lies in the window of a configuration (R158). -/
def DiscCfg.holds (d : DiscCfg) (rtd : Int) : Bool :=
  decide ((rtdLo d.reachMin : Int) ≤ rtd * 10000) && decide (rtd * 10000 ≤ (rtdHi d.reachMax : Int))

/-- EqD in use by a terminal in an upstream frame (R170, R178). -/
def Term.inUse (x : Term) (uf : Nat) : Nat :=
  match x.eqdApply with
  | none => x.eqdUse
  | some a => if uf < a then x.eqdUse else eightFrames - x.rtd

/-- The value of an index state (R171). -/
def IdxState.code : IdxState → Nat
  | .free => 0
  | .provisioned => 1
  | .held => 2
  | .activating => 3
  | .active => 4

/-- The first index of a tree that holds a serial number in one of some states. -/
def Blk.findSerial (b : Blk) (t serial : Nat) (sts : List IdxState) : Option Nat :=
  (List.range 512).find? (fun i =>
    let x := b.term (gid t i)
    x.serial == serial && sts.contains x.state)

/-! ### Index transitions (R171, R172) -/

/-- DEACTIVATE to an index (R171, R175). -/
def Blk.sendDeactivate (b : Blk) (t idx reason backoff left : Nat) : Blk :=
  b.queueCtl t (.deactivate idx reason backoff left)

/-- Index i becomes ACTIVATING for the terminal held at p, and p becomes FREE (R171, R172). -/
def Blk.startActivate (b : Blk) (t i p serial : Nat) : Blk :=
  let h := b.term (gid t p)
  let b := b.restIndex t p .free
  let b := b.updTerm (gid t i) (fun x =>
    { x.rest .activating with
      serial := serial, rtd := h.rtd, eqdUse := h.eqdUse, provIndex := p, lastBurst := h.lastBurst })
  b.queueCtl t (.activate p serial i)

/-- An SN_REPORT accepted at a HELD index in upstream frame `uf` (R171). -/
def Blk.snReport (b : Blk) (t p serial uf : Nat) : Blk :=
  if (b.term (gid t p)).state != .held then b
  else
    let first := (b.term (gid t p)).snFrom.isNone
    let b := b.updTerm (gid t p) (fun x => { x with
      serial := serial, rangeMiss := 0, snFrom := some (x.snFrom.getD uf),
      nextRange := if x.snFrom.isNone then some (uf + 64) else x.nextRange })
    match b.findSerial t serial [.active] with
    | some k =>
      if b.clk.epoch < (b.term (gid t k)).lastBurst + 8 then
        ((b.restIndex t p .free).sendDeactivate t p 2 16 1).vent
          { type := 0x0301, island := 64, object := t * 65536 + k, detail := p, w6 := serial }
      else (b.restIndex t k .provisioned).startActivate t k p serial
    | none =>
      let auto := (b.tree t).discNow.auto
      match b.findSerial t serial [.provisioned] with
      | some i =>
        if auto then b.startActivate t i p serial
        else if first then b.vent { type := 0x0300, island := 64, object := t * 65536 + p, w6 := serial }
        else b
      | none =>
        if first then b.vent { type := 0x0300, island := 64, object := t * 65536 + p, w6 := serial } else b

/-- An index becomes ACTIVE (R107, R121, R171, R449): DG clears, its carriers hold no SEQ, and with LOB still in force it
is re-ranged. -/
def Blk.becomeActive (b : Blk) (t i : Nat) : Blk :=
  let b := b.count 0x31 5 t
  let b := b.updTerm (gid t i) (fun x => { x with
    state := .active, actSent := 0, actSeqs := [], muSum := 0, muCount := 0, driftRun := 0, driftOk := 0 })
  let b := b.updTree t (fun x => { x with
    reasm := x.reasm.filter (fun r => match r.2 with
      | some v => v.terminal != i
      | none => false) })
  let b := if (b.term (gid t i)).dg then b.changeDefect t i 5 false else b
  let m := Tab.get {} b.tum.mgmt t
  let b := if m.enable && m.mib then { b with tum := { b.tum with uploads := b.tum.uploads ++ [gid t i] } } else b
  if (b.term (gid t i)).lob then b.startRerange t i else b

/-- An ACK of ACTIVATE from the new index (R171, R175). -/
def Blk.ackReport (b : Blk) (t i seq type : Nat) : Blk :=
  let x := b.term (gid t i)
  if x.state == .activating && type == 0x04 && x.actSeqs.contains seq then b.becomeActive t i else b

/-- A ranging burst that was accepted `delta` bits after the prediction (R170): the new RTD, where the window holds it,
and after re-ranging the EQD_SET. -/
def Blk.ranged (b : Blk) (t idx uf : Nat) (delta : Int) : Blk :=
  let g := gid t idx
  let x := b.term g
  let rtd : Int := (eightFrames : Int) - x.inUse uf + delta
  if !(b.tree t).discNow.holds rtd then b
  else if x.state == .held then b.updTerm g (fun x => { x with rtd := rtd.toNat })
  else if x.reranging then
    let b := b.updTerm g (fun x => { x with
      eqdUse := x.inUse uf, eqdApply := none, rtd := rtd.toNat, reranging := false, rerangeSlow := false })
    b.queueCtl t (.eqdSet idx (eightFrames - rtd.toNat))
  else b

/-- A ranging or hold burst of a HELD index that brought no SN_REPORT (R171). -/
def Blk.rangeMissed (b : Blk) (t idx : Nat) : Blk :=
  b.updTerm (gid t idx) (fun x => if x.state == .held then { x with rangeMiss := x.rangeMiss + 1 } else x)

/-! ### Detections (R161, R164 to R167) -/

/-- The sign bits g[0] to g[n − 1] (R164). -/
def signBits : Nat → List Bool → List Bool
  | 0, _ => []
  | n + 1, [a, b, c, d, e, f] => a :: signBits n [b, c, d, e, f, a ^^ b]
  | _, _ => []

/-- Sign s[i]: +1 when g[i mod 63] is 0 (R164). -/
def probeSign (i : Nat) : Int :=
  if (signBits 63 [true, false, false, false, false, false]).getD (i % 63) false then -1 else 1

/-- The first n output bits of the generator of R88 from a state. -/
def prbsBits : Nat → Nat → List Bool
  | 0, _ => []
  | n + 1, s =>
    let x := prbsStep s
    x.1 :: prbsBits n x.2

/-- Chips of a frame (R164). -/
def frameChips : Nat := 155520

/-- The chips of code q in a frame (R164). -/
def probeChips (q : Nat) : List Bool := prbsBits frameChips (0x2A5C0001 + 0x100 * q)

/-- What the correlator makes of one micro-window (R165): the window's number j, the code, its delay x in bits within a frame, and
the correlation with the terminal's frame that the window holds, and with the end of the frame before it, where a frame boundary falls
inside the window. -/
structure Correlation where
  window : Nat
  code : Nat
  delay : Nat
  value : Int
  before : Int := 0
  deriving DecidableEq, Repr

/-- A chip in the zero-mean form of its code, times the chips of a frame (R165). -/
def chipLevel (chips : List Bool) (c : Nat) : Int :=
  (if chips.getD c false then (frameChips : Int) else 0) - ((chips.filter id).length : Int)

/-- corr of R165: the samples of a window, the first at byte-slot `first` of the frame, against a code delayed by x. -/
def correlation (first q : Nat) (chips : List Bool) (w : ProbeWindow) (x : Nat) : Correlation :=
  let at_ := fun (k : Nat) => ((first + k : Nat) : Int) - ((x / 8 : Nat) : Int)
  let terms := (w.samples.take 12000).zipIdx.map (fun v =>
    (decide (at_ v.2 < 0), v.1 * chipLevel chips ((at_ v.2 % 777600).toNat / 5)))
  { window := w.window, code := q, delay := x, value := ((terms.filter (fun v => !v.1)).map Prod.snd).sum,
    before := ((terms.filter (fun v => v.1)).map Prod.snd).sum }

/-- The correlations of a cycle's windows, for every code and every delay that is a multiple of 40 bits (R165). -/
def correlate (d : DiscCfg) (l : List ProbeWindow) : List Correlation :=
  (List.range 16).flatMap (fun q =>
    let chips := probeChips q
    (List.range frameChips).flatMap (fun k =>
      l.map (fun w => correlation (97200 * d.winPhase + 64 + 240) q chips w (40 * k))))

/-- metric[q][r] (R165). -/
def probeMetric (corr : List Correlation) (q r : Nat) : Int :=
  ((corr.filter (fun c => c.code == q && c.delay == r % frameBits && decide (c.window < 64))).map (fun c =>
    let i := c.window + 8 - r / frameBits
    probeSign i * c.value + probeSign (i - 1) * c.before)).sum

/-- The candidates of a code in a window, with their metrics: the multiples of 40 bits where the correlator found
anything (R165). -/
def probeCands (d : DiscCfg) (corr : List Correlation) (q : Nat) : List (Nat × Int) :=
  let xs := ((corr.filter (fun c => c.code == q && c.delay % 40 == 0 && decide (c.delay < frameBits))).map
    (fun c => c.delay)).eraseDups
  (xs.flatMap (fun x => (List.range 8).map (fun m => x + m * frameBits))).filterMap (fun (r : Nat) =>
    if d.holds r then some (r, probeMetric corr q r) else none)

/-- Candidate RTDs of a window: multiples of 40 bits (R165). -/
def DiscCfg.candidates (d : DiscCfg) : Nat := rtdHi d.reachMax / 400000 + 1 - ceilDiv (rtdLo d.reachMin) 400000

/-- The first two conditions of R166. The least r of equal peaks stands. -/
def probePeak (d : DiscCfg) (l : List (Nat × Int)) (c : Nat × Int) : Bool :=
  c.2 != 0
  && l.all (fun o => o.1 == c.1 || decide (o.1 + 80 < c.1) || decide (c.1 + 80 < o.1)
    || (if o.1 < c.1 then decide (o.2.natAbs < c.2.natAbs) else decide (o.2.natAbs ≤ c.2.natAbs)))
  && decide (64 * (l.map (fun o => o.2.natAbs ^ 2)).sum ≤ c.2.natAbs ^ 2 * d.candidates)

/-- The third condition of R166. -/
def probeClear (l : List (Nat × Int)) (c : Nat × Int) : Bool :=
  l.all (fun o => o.1 == c.1 || o.1 % frameBits != c.1 % frameBits || decide (4 * o.2.natAbs ≤ c.2.natAbs))

/-- Detections (code and RTD, ranked) and the number of ambiguous candidates of a cycle (R166, R167). -/
def probeFind (d : DiscCfg) (corr : List Correlation) : List (Nat × Nat) × Nat :=
  (List.range 16).foldl (fun a q =>
    let l := probeCands d corr q
    let peaks := l.filter (probePeak d l)
    let good := (sortBy (fun (c : Nat × Int) => [c.1]) (peaks.filter (probeClear l))).map (fun c => (q, c.1))
    (a.1 ++ good, a.2 + (peaks.filter (fun c => !probeClear l c)).length)) ([], 0)

/-- Gives a detection its provisional index, the lowest FREE one (R167). -/
def Blk.holdProbe (b : Blk) (t cycle : Nat) (p : Nat × Nat) : Blk :=
  match b.findSerial t 0 [.free] with
  | none => b.count 0x31 4 t
  | some i =>
    let b := b.updTerm (gid t i) (fun x => { x.rest .held with
      serial := 0, rtd := p.2, eqdUse := eightFrames - p.2, heldFrom := b.clk.epoch,
      nextRange := some (cycle + 66 + (b.tree t).mapLead) })
    b.queueCtl t (.probeAck cycle p.1 i p.2)

/-- The last cycle that has ended before a frame tick, if any: its first frame D, under the version of D (R161). -/
def Tree.cycleEnded (x : Tree) (fc : Nat) : Option (Nat × DiscCfg) :=
  ((List.range 3).filterMap (fun k =>
    let d := fc - 64 - k
    let v := Vers.at {} x.disc (d / 8)
    if 64 + k ≤ fc ∧ v.every ≠ 0 ∧ d % (128 * v.every) = 0 then some (d, v) else none)).head?

/-- The end of a cycle that began at frame d, for what the correlator made of its windows (R165 to R167): detections are counted, and
those of a code detected once are held, up to MAX_ACK. -/
def Blk.takeProbes (b : Blk) (tree d : Nat) (v : DiscCfg) (corr : List Correlation) : Blk :=
  let r := probeFind v corr
  let twins := fun (p : Nat × Nat) => decide (1 < (r.1.filter (fun o => o.1 == p.1)).length)
  let b := ((b.countN 0x31 1 tree r.1.length).countN 0x31 2 tree r.2).countN 0x31 3 tree (r.1.filter twins).length
  let found := (r.1.filter (fun p => !twins p)).take v.maxAck
  (found.foldl (fun b p => b.holdProbe tree d p) b).sendBatch tree (slotOf b.clk.fc 0) (found.map (fun p => [4, d, p.1, p.2]))

/-- PROBE_DETECTION (R161, R165 to R167): the end of a discovery cycle on a native tree, before frame D + 66 is built.
The chip that is not the reference takes its detections from the other (R177). -/
def execProbeDetection (tree : Nat) (windows : List ProbeWindow) (s : State) : Host.Outcome State Fault Refusal :=
  s.svc (fun b =>
    let x := b.tree tree
    match x.cycleEnded b.clk.fc with
    | none => b
    | some (d, v) =>
      if tree ≥ Part.trees b.sys.part ∨ x.mode ≠ .native ∨ !x.txOn ∨ !x.rxOn ∨ d ≤ x.lastCycle then b
      else
        let b := (b.updTree tree (fun x => { x with lastCycle := d })).count 0x31 0 tree
        if !b.pair.reference then b
        else b.takeProbes tree d v (correlate v windows))

/-! ### Timeouts (R171) -/

/-- RANGING_TIMEOUT (R171): 3 ranging grants, or 3 consecutive hold bursts, brought no SN_REPORT. -/
def execRangingTimeout (tree index : Nat) (s : State) : Host.Outcome State Fault Refusal :=
  s.svc (fun b =>
    let x := b.term (gid tree index)
    if x.state == .held && decide (3 ≤ x.rangeMiss) then b.restIndex tree index .free else b)

/-- HELD_TIMEOUT (R171): HELD for 1,000 epochs. -/
def execHeldTimeout (tree index : Nat) (s : State) : Host.Outcome State Fault Refusal :=
  s.svc (fun b =>
    let x := b.term (gid tree index)
    if x.state == .held && decide (x.heldFrom + 1000 ≤ b.clk.epoch) then
      (b.restIndex tree index .free).sendDeactivate tree index 3 8 1
    else b)

/-- ACTIVATE_TIMEOUT (R171): 3 ACTIVATE messages, and 8 frames after the last of them no ACK. -/
def execActivateTimeout (tree index : Nat) (s : State) : Host.Outcome State Fault Refusal :=
  s.svc (fun b =>
    let x := b.term (gid tree index)
    if x.state == .activating && decide (3 ≤ x.actSent) && decide (x.actFrame + 8 ≤ b.clk.fc) then
      (b.restIndex tree index .provisioned).sendDeactivate tree index 4 0 1
    else b)

/-! ### Drift and re-ranging (R178 to R181) -/

/-- Clamps a step to ±32 bits (R179). -/
def clampStep (v : Int) : Int := max (-32) (min 32 v)

/-- DRIFT's integration over an epoch with a mean of sum / count (R180). -/
def Term.driftEpoch (x : Term) (sum count : Nat) : Term :=
  if 10 * count ≤ sum then { x with driftRun := x.driftRun + 1, driftOk := 0 }
  else if sum < 4 * count then { x with driftRun := 0, driftOk := x.driftOk + 1 }
  else { x with driftRun := 0, driftOk := 0 }

/-- DRIFT_EPOCH (R178 to R180): at the boundary, before the first frame of the epoch, the mean of the epoch before is
judged. -/
def execDriftEpoch (tree index : Nat) (s : State) : Host.Outcome State Fault Refusal :=
  s.svc (fun b =>
    let g := gid tree index
    let x := b.term g
    if x.state != .active || x.muCount == 0 || b.clk.fc != 8 * b.clk.epoch then b
    else
      let mean := roundDiv x.muSum x.muCount
      let b := b.updTerm g (fun x => { x.driftEpoch x.muSum.natAbs x.muCount with
        mu := max (-128) (min 127 mean), muSum := 0, muCount := 0 })
      let outstanding : Bool := match x.eqdApply with
        | some a => decide (b.clk.fc < a)
        | none => false
      if decide (x.muSum.natAbs < 4 * x.muCount) || outstanding then b
      else b.queueCtl tree (.eqdSet index (((x.inUse b.clk.fc : Nat) : Int) - clampStep mean).toNat))

/-- RERANGE_FAIL (R181): 1,000 epochs without an accepted burst. -/
def execRerangeFail (tree index : Nat) (s : State) : Host.Outcome State Fault Refusal :=
  s.svc (fun b =>
    let g := gid tree index
    let x := b.term g
    if x.state == .active && x.reranging && !x.rerangeSlow && decide (x.rerangeFrom + 1000 ≤ b.clk.epoch) then
      (b.updTerm g (fun x => { x with rerangeSlow := true, rerangeFrom := b.clk.epoch })).vent
        { type := 0x0302, island := 64, object := g }
    else b)

/-! ### Feeder skew (R182 to R184) -/

/-- 30 µs in bit periods (R182, R184). -/
def skewLimit : Nat := 1492992

/-- Puts a number before the first that is above it. -/
def insertInt (x : Int) : List Int → List Int
  | [] => [x]
  | a :: r => if x < a then x :: a :: r else a :: insertInt x r

/-- The value in the middle of an even number of differences: the mean of the two, rounded as in R179. -/
def median (l : List Int) : Int :=
  let l := l.foldr insertInt []
  roundDiv (l.getD (l.length / 2 - 1) 0 + l.getD (l.length / 2) 0) 2

/-- Chip B takes a value of RX_SKEW, which is UP_SKEW as measured, and judges it (R182, R184). -/
def Blk.takeSkew (b : Blk) (t : Nat) (v : Int) : Blk :=
  let was := (b.tree t).skewState == .beyond
  let beyond := decide (skewLimit < v.natAbs)
  let b := b.updTree t (fun x => { x with upSkew := v, rxSkew := v, skewState := if beyond then .beyond else .tracking })
  let b := if beyond && !was then b.vent { type := 0x0303, island := 64, object := t, w6 := unsign v 64 } else b
  b.driveTx t

/-- The position difference of a burst that an acquiring chip B finds, within ±30 µs of its prediction, or within ±2 µs of
INIT_SKEW where that is valid (R182). -/
def SkewCfg.finds (c : SkewCfg) (x : SkewSearch) : Option Int :=
  (if c.initValid then (findDelimiter x.bits x.len (x.first - c.initSkew) 99532).map (· + c.initSkew)
   else findDelimiter x.bits x.len x.first skewLimit).map (· - x.ref)

/-- The differences of the first 64 bursts found, if there are so many. -/
def SkewCfg.differences (c : SkewCfg) (l : List SkewSearch) : Option (List Int) :=
  let d := (l.filterMap c.finds).take 64
  if d.length = 64 then some d else none

/-- SKEW_ACQUIRED (R182): chip B searches for the bursts that chip A accepted, and takes the median of the first 64 differences. -/
def execSkewAcquired (tree : Nat) (bursts : List SkewSearch) (s : State) : Host.Outcome State Fault Refusal :=
  s.svc (fun b =>
    let x := b.tree tree
    match x.skew.differences bursts with
    | some d => if b.chipB && x.skewState == .acquiring && x.rxOn then b.takeSkew tree (median d) else b
    | none => b)

/-- SKEW_TRACK (R182): an epoch's differences over the bursts that both chips accepted: their sum and number. -/
def execSkewTrack (tree : Nat) (sum : Int) (count : Nat) (s : State) : Host.Outcome State Fault Refusal :=
  s.svc (fun b =>
    let x := b.tree tree
    if b.chipB && (x.skewState == .tracking || x.skewState == .beyond) && count != 0
        && decide (2 * count ≤ sum.natAbs) then
      b.takeSkew tree (x.rxSkew + roundDiv sum count)
    else b)

/-! ### DISCOVERY_CONFIG (R158, R159, R189) -/

/-- DISCOVERY_CONFIG (R189). -/
def Op.discoveryConfig : Op := {
  code := 0x0300, perm := .o, utype := 0x1, len := 8,
  fields := [(0, 63, 56), (0, 55, 53), (0, 52, 41), (0, 40, 29), (0, 28, 21), (0, 20, 13), (0, 12, 10), (0, 9, 9)],
  bad := fun c =>
    (if c.f 0 40 29 < c.f 0 52 41 then [fieldAt 0 41] else [])
    ++ (if 600 < c.f 0 40 29 ∨ c.f 0 52 41 + 400 < c.f 0 40 29 then [fieldAt 0 29] else [])
    ++ (if c.f 0 12 10 < 1 ∨ 4 < c.f 0 12 10 then [fieldAt 0 10] else []) }

/-- The effect of DISCOVERY_CONFIG: the window governs cycles that begin in the epoch or later. -/
def applyDiscoveryConfig (c : Cmd) (b : Blk) : Blk × Res :=
  let t := c.unit % 4096
  let x := b.tree t
  let hi := c.f 0 40 29
  if x.mode ≠ .native ∧ c.f 0 52 41 + 200 < hi then (b, Res.badField 0 29)
  else if x.mapLead < leadMin hi then (b, Res.badField 0 29)
  else
    (b.updTree t (fun x => { x with
      disc := Vers.write {} x.disc b.clk.epoch (fun _ => {
        every := c.f 0 63 56, winPhase := c.f 0 55 53, reachMin := c.f 0 52 41, reachMax := hi,
        probeTarget := c.f 0 28 21, dnLaunch := c.f 0 20 13, maxAck := c.f 0 12 10, auto := c.b 0 9 }) }), {})

/-- DISCOVERY_CONFIG (R189). -/
def execDiscoveryConfig (c : Cmd) (s : State) : Host.Outcome State Fault Refusal :=
  s.opcode Op.discoveryConfig c applyDiscoveryConfig

/-! ### TERMINAL_ACTIVATE, TERMINAL_DEACTIVATE (R171, R190, R191) -/

/-- TERMINAL_ACTIVATE (R190). -/
def Op.terminalActivate : Op := {
  code := 0x0301, perm := .o, utype := 0x1, len := 16, fields := [(0, 63, 0), (1, 63, 55)],
  bad := fun c => if c.word 0 = 0 then [fieldAt 0 0] else [] }

/-- The effect of TERMINAL_ACTIVATE. -/
def applyTerminalActivate (c : Cmd) (b : Blk) : Blk × Res :=
  let t := c.unit % 4096
  let serial := c.word 0
  let i := c.f 1 63 55
  let x := b.term (gid t i)
  let elsewhere := (List.range 512).any (fun k =>
    let y := b.term (gid t k)
    k != i && y.serial == serial && (y.state == .provisioned || y.state == .activating || y.state == .active))
  if elsewhere then (b, Res.badField 0 0)
  else if x.state != .free && !(x.state == .provisioned && x.serial == serial) then (b, Res.badField 1 55)
  else
    match b.findSerial t serial [.held] with
    | some p => (b.startActivate t i p serial, {})
    | none =>
      if x.state == .free then (b.updTerm (gid t i) (fun x => { x with state := .provisioned, serial := serial }), {})
      else (b, {})

/-- TERMINAL_ACTIVATE (R190). -/
def execTerminalActivate (c : Cmd) (s : State) : Host.Outcome State Fault Refusal :=
  s.opcode Op.terminalActivate c applyTerminalActivate

/-- TERMINAL_DEACTIVATE (R191). -/
def Op.terminalDeactivate : Op := {
  code := 0x0302, perm := .o, utype := 0x1, len := 8, fields := [(0, 63, 55), (0, 54, 54), (0, 53, 46)] }

/-- The effect of TERMINAL_DEACTIVATE: DEACTIVATE goes in 3 consecutive frames. -/
def applyTerminalDeactivate (c : Cmd) (b : Blk) : Blk × Res :=
  let t := c.unit % 4096
  let i := c.f 0 63 55
  if (b.term (gid t i)).state == .free then (b, Res.badField 0 55)
  else ((b.restIndex t i (if c.b 0 54 then .free else .provisioned)).sendDeactivate t i 1 (c.f 0 53 46) 3, {})

/-- TERMINAL_DEACTIVATE (R191). -/
def execTerminalDeactivate (c : Cmd) (s : State) : Host.Outcome State Fault Refusal :=
  s.opcode Op.terminalDeactivate c applyTerminalDeactivate

/-! ### RANGE_READ, SKEW_CONFIG (R192, R193) -/

/-- The value of SKEW_STATE (R192). -/
def SkewState.code : SkewState → Nat
  | .notB => 0
  | .acquiring => 1
  | .tracking => 2
  | .beyond => 3

/-- A SKEW_STATE from its value. -/
def skewOf (n : Nat) : SkewState :=
  match n with
  | 1 => .acquiring
  | 2 => .tracking
  | 3 => .beyond
  | _ => .notB

/-- RANGE_READ (R192). -/
def Op.rangeRead : Op := { code := 0x0303, perm := .o, read := true, utype := 0x1 }

/-- The effect of RANGE_READ. -/
def applyRangeRead (c : Cmd) (b : Blk) : Blk × Res :=
  let t := c.unit % 4096
  let x := b.tree t
  (b, {
    inl := wordsLe [
      pack [(unsign x.upSkew 24, 40), (unsign (x.upSkew + x.skew.dnDisp) 24, 16), (x.skewState.code, 14)],
      x.lastCycle % 2 ^ 64, pack [(x.rssiTerminal, 55)], x.rssiUf % 2 ^ 64],
    ext := (List.range 512).flatMap (fun i =>
      let y := b.term (gid t i)
      wordsLe [if y.state == .free then 0 else y.serial,
        pack [(y.state.code, 61), (y.rtd % 2 ^ 26, 35), (unsign y.mu 8, 27), (b2n y.reranging, 26)]]) })

/-- RANGE_READ (R192). -/
def execRangeRead (c : Cmd) (s : State) : Host.Outcome State Fault Refusal := s.opcode Op.rangeRead c applyRangeRead

/-- SKEW_CONFIG (R193). -/
def Op.skewConfig : Op := {
  code := 0x0304, perm := .o, utype := 0x1, len := 8,
  fields := [(0, 63, 40), (0, 39, 39), (0, 38, 27), (0, 26, 21), (0, 20, 16), (0, 15, 6)],
  bad := fun c =>
    (if skewLimit < (signed (c.f 0 63 40) 24).natAbs then [fieldAt 0 40] else [])
    ++ (if c.f 0 26 21 < 8 ∨ 32 < c.f 0 26 21 then [fieldAt 0 21] else [])
    ++ (if c.f 0 20 16 < 4 ∨ c.f 0 26 21 < c.f 0 20 16 then [fieldAt 0 16] else []) }

/-- The effect of SKEW_CONFIG. -/
def applySkewConfig (c : Cmd) (b : Blk) : Blk × Res :=
  (b.updTree (c.unit % 4096) (fun x => { x with
    skew := {
      initSkew := signed (c.f 0 63 40) 24, initValid := c.b 0 39, dnDisp := signed (c.f 0 38 27) 12,
      rstPos := c.f 0 26 21, rstWidth := c.f 0 20 16, rssiEvery := c.f 0 15 6 } }), {})

/-- SKEW_CONFIG (R193). -/
def execSkewConfig (c : Cmd) (s : State) : Host.Outcome State Fault Refusal := s.opcode Op.skewConfig c applySkewConfig

end Sys2Proof.Machine
end

