-- ==== Sys2Proof/Machine/Geyser.lean ====
section
/-! DEFINITION. Geyser (06): reports and burst outcomes as batches, the accounting of every byte-slot, the share
computation and Geyser's commands. -/
namespace Sys2Proof.Machine

/-! ### Grants (R224, R227) -/

/-- Byte-slots of a grant phase on a tree of a mode. -/
def phaseLen (m : Mode) : Nat := frameSlots m / 8

/-- The grant queue a grant serves (R2). -/
def Grant.gq (g : Grant) : Nat := gqOf g.tree g.term g.qclass

/-- Whether a grant is a micro-window, a quiet window or a ranging burst (R228). -/
def Grant.discovery (g : Grant) : Bool :=
  match g.purpose with
  | .micro => true
  | .quiet => true
  | .firstRange => true
  | .hold => true
  | .rerange => true
  | _ => false

/-- Whether a grant carries data of a grant queue (R230). -/
def Grant.forQueue (g : Grant) : Bool :=
  match g.purpose with
  | .reservation _ => true
  | .standing => true
  | .share => true
  | .activation => true
  | _ => false

/-- Footprint of a grant. -/
def Grant.footprint (g : Grant) : Nat := guardLen + g.length + 2 * g.clearance

/-- The grant of a tree at a START of an upstream frame. -/
def Blk.grantAt (b : Blk) (t uf start : Nat) : Option Grant :=
  b.gey.grants.find? (fun g => g.tree == t && g.uf == uf && g.start == start)

/-- Changes the grant of a tree at a START of an upstream frame. -/
def Blk.updGrant (b : Blk) (t uf start : Nat) (f : Grant → Grant) : Blk :=
  { b with gey := { b.gey with grants := b.gey.grants.map (fun g =>
      if g.tree = t ∧ g.uf = uf ∧ g.start = start then f g else g) } }

/-- Adds to the demand of a queue. -/
def Blk.addDemand (b : Blk) (q n : Nat) : Blk := b.updGq q (fun x => { x with demand := x.demand + n })

/-! ### Reports (R210 to R212) -/

/-- Allowances of a queue's bursts that lie after a place (R210). -/
def Blk.laterAllowance (b : Blk) (q uf start : Nat) : Nat :=
  ((b.gey.grants.filter (fun g => g.gq == q && (decide (uf < g.uf) || (g.uf == uf && decide (start < g.start))))).map
    (fun g => g.allowance)).sum

/-- A queue's report: BACKLOG and AGE (R210, R212). On a standard tree AGE is the time since the queue's last received
burst (R146). -/
def Blk.takeReport (b : Blk) (t uf phase start q : Nat) (r : Nat × Nat) : Blk :=
  let d := 16 * r.1 - b.laterAllowance q uf start
  let now := slotOf uf phase
  let age := if (b.tree t).mode = .native then r.2
    else if r.1 = 0 then 0 else min 255 (now - Tab.get 0 b.gey.lastRx q)
  b.updGq q (fun x => { x.withDemand d with age := age, agePhase := now })

/-- The reports of a block, queue classes ascending. -/
def Blk.takeReports (b : Blk) (t uf phase : Nat) (i : ReportItem) : Blk :=
  let b := if b.feeding || b.pair.role == .joining then
      { b with pair := { b.pair with reported := gid t i.term :: b.pair.reported.filter (· != gid t i.term) } }
    else b
  (i.queues.zipIdx).foldl (fun b r => b.takeReport t uf phase i.start (gqOf t i.term (i.only.getD r.2)) r.1) b

/-! ### Batches (R206, R207, R211) -/

/-- What a grant's outcome does to demand when its batch is consumed: `late` closes it as missed (R207, R211). -/
def Blk.closeGrant (b : Blk) (g : Grant) (late : Bool) : Blk :=
  match g.outcome with
  | .unsent => b
  | .received _ _ _ =>
    if late then (b.updGrant g.tree g.uf g.start (fun g => { g with outcome := .missed })).addDemand g.gq g.allowance
    else if (b.tree g.tree).mode = .native then b
    else
      let phase := slotOf g.uf (g.start / phaseLen (b.tree g.tree).mode)
      { b with gey := { b.gey with lastRx := Tab.set 0 b.gey.lastRx g.gq phase } }
  | o =>
    let o' : GrantEnd := if o = .bad ∧ !late then .bad else .missed
    (b.updGrant g.tree g.uf g.start (fun g => { g with outcome := o' })).addDemand g.gq g.allowance

/-- A terminal's view from a batch (R206, R211). -/
def Blk.takeView (b : Blk) (t : Nat) (v : Nat × TermView) : Blk :=
  let g := gid t v.1
  let b := { b with gey := { b.gey with views := Tab.upd {} b.gey.views g (fun o => { v.2 with placed := o.placed }) } }
  if v.2.state == .free || v.2.state == .provisioned then b.clearQueues g else b

/-- Consumes a tree's part of the batch of an upstream phase: outcomes and reports by START, then the terminals (R207,
R209). -/
def Blk.consumePart (b : Blk) (t uf phase : Nat) : Blk :=
  let part := b.gey.parts.find? (fun p => p.tree == t && p.uf == uf && p.phase == phase && p.marked && !p.own)
  let b := ((part.map (fun p => p.ends)).getD []).foldl (fun b e =>
    b.updGrant t uf e.1 (fun g => { g with outcome := e.2 })) b
  let late := part.isNone
  let reports := (part.map (fun p => p.reports)).getD []
  let mine := sortBy (fun (g : Grant) => [g.start])
    (b.gey.grants.filter (fun g => g.tree == t && g.uf == uf && g.start / phaseLen (b.tree t).mode == phase))
  let b := if late then
      (((b.count 0x41 13 t).vent { type := 0x0400, island := 65, object := t, detail := phase, w6 := uf }).faultEvent 0x03 t)
    else b
  let b := mine.foldl (fun b g =>
    ((reports.filter (fun r => r.start == g.start)).foldl (fun b r => b.takeReports t uf phase r) b).closeGrant g late) b
  let b := (sortBy (fun (r : ReportItem) => [r.start]) (reports.filter (fun r => !mine.any (fun g => g.start == r.start)))).foldl
    (fun b r => b.takeReports t uf phase r) b
  ((part.map (fun p => p.views)).getD []).foldl (fun b v => b.takeView t v) b

/-! ### Accounting (R228 to R230) -/

/-- Byte-slots of a frame's bursts by kind: RETIRED, OVERHEAD, UNFILLED, LOST, DISCOVERY (R228). -/
def Grant.kinds (g : Grant) : List Nat :=
  if g.discovery then [0, 0, 0, 0, g.footprint]
  else
    match g.outcome with
    | .received r u l => [r, g.footprint - (r + u + l), u, l, 0]
    | _ => [0, g.footprint - g.length, 0, g.length, 0]

/-- The sum of two lists of equal length. -/
def addLists (a b : List Nat) : List Nat := List.zipWith (· + ·) a b

/-- Whether a tree's upstream frame is accounted (R228, R232). -/
def Tree.accounted (x : Tree) (uf : Nat) : Bool := if x.rxOn then decide (x.rxSince ≤ uf) else decide (uf < x.rxSince)

/-- The key of a tree's frame in the table of what was not granted. -/
def unusedKey (t uf : Nat) : Nat := t + 64 * uf

/-- What a tree's upstream frame adds to the counters of R230 from US_FRAMES to B_MAP: SLACK is what no other kind
holds. -/
def Blk.frameKinds (b : Blk) (t uf : Nat) (gs : List Grant) : List Nat :=
  let cap := frameSlots (b.tree t).mode
  let u := Tab.get {} b.gey.unused (unusedKey t uf)
  if u.unsent ∨ gs.any (fun g => g.outcome == .unsent) then [1, 0, 0, 0, 0, 0, cap, 0, 0, 0, 0]
  else
    let k := gs.foldl (fun a g => addLists a g.kinds) [0, 0, 0, 0, 0]
    [1] ++ k ++ [cap - (k.sum + u.front + u.budget + u.inflight + u.map), u.front, u.budget, u.inflight, u.map]

/-- The counters of a grant's queue (R230): that it was placed, and where its frame was sent, what became of it. -/
def Blk.countGrant (b : Blk) (g : Grant) (sent : Bool) : Blk :=
  if g.forQueue then
    let k := if sent then g.kinds else []
    ((((b.count 0x43 0 g.gq).countN 0x43 1 g.gq g.footprint).countN 0x43 2 g.gq (k.getD 0 0)).countN 0x43 3 g.gq
      (k.getD 2 0)).countN 0x43 4 g.gq (k.getD 3 0)
  else b

/-- Closes the accounting of a tree's upstream frame (R229). -/
def Blk.closeFrame (b : Blk) (t uf : Nat) : Blk :=
  let gs := b.gey.grants.filter (fun g => g.tree == t && g.uf == uf)
  let b :=
    if (b.tree t).accounted uf then
      let k := b.frameKinds t uf gs
      let b := (k.zipIdx).foldl (fun b x => b.countN 0x41 x.2 t x.1) b
      gs.foldl (fun b g => b.countGrant g (k.getD 6 0 != frameSlots (b.tree t).mode)) b
    else b
  { b with gey := { b.gey with
      grants := b.gey.grants.filter (fun g => !(g.tree == t && g.uf == uf)),
      unused := Tab.set {} b.gey.unused (unusedKey t uf) {} } }

/-- Consumes the batch of an upstream phase, trees ascending, and after phase 7 closes the frame (R207, R229). -/
def Blk.consumeBatch (b : Blk) (uf phase : Nat) : Blk :=
  let b := b.markerTrees.foldl (fun b t => b.consumePart t uf phase) b
  let b := { b with gey := { b.gey with parts := b.gey.parts.filter (fun p => !(p.uf == uf && p.phase == phase)) } }
  if phase = 7 then (List.range (Part.trees b.sys.part)).foldl (fun b t => b.closeFrame t uf) b else b

/-- The first upstream phase whose batch is not due at slot (m, p): all before it are (R202, R207). In units of 1/8 µs
the slot begins at 1,000 m − 984 + 108 p and a phase ends at 125 (8 U + q + 1); a batch is due 15 µs after that. -/
def dueBefore (m p : Nat) : Nat := (1000 * m + 108 * p - 984 - 120) / 125

/-- Consumes the batches that are due, n of them at most. -/
def Blk.consumeDue : Nat → Nat → Blk → Blk
  | 0, _, b => b
  | n + 1, upto, b =>
    let k := b.gey.consume
    if k < upto then
      Blk.consumeDue n upto
        ({ b with gey := { b.gey with consume := k + 1 } }.consumeBatch (k / 8) (k % 8))
    else b

/-- LATE_MARKER_ARRIVAL (R207): a marker and reports that come after their batch was consumed are discarded. -/
def execLateMarkerArrival (tree uf phase : Nat) (s : State) : Host.Outcome State Fault Refusal :=
  s.svc (fun b =>
    if slotOf uf phase < b.gey.consume then
      { b with gey := { b.gey with parts := b.gey.parts.filter (fun p =>
          !(p.tree == tree && p.uf == uf && p.phase == phase)) } }
    else b)

/-! ### The share computation (R215, R216) -/

/-- B of the constraint word that this chip sampled (R215). -/
def Blk.ownBudget (b : Blk) (c : GeyCfg) : Nat :=
  c.upShare * b.gey.upRate * 1000000 / 32768 + 16 * (c.upCellLimit - b.gey.cUp)

/-- B in use for epoch e: the smaller of this chip's and the partner's (R208). -/
def Blk.budget (b : Blk) (c : GeyCfg) (e : Nat) : Nat :=
  match b.gey.partnerB with
  | some (v, n) => if n = e ∧ b.joined then min v (b.ownBudget c) else b.ownBudget c
  | none => b.ownBudget c

/-- A terminal as the inputs of the share set hold it (R205). -/
def Blk.snapView (b : Blk) (g : Nat) : TermView := Tab.get {} b.gey.snapViews g

/-- Whether a queue's fixed bursts are placed: the queue is enabled and not suspended (R215, R220). -/
def Blk.liveAt (b : Blk) (c : GeyCfg) (q : Nat) : Bool := (c.queue q).enable && (b.snapView (q / 4)).fixed

/-- Whether an upstream frame of a tree holds a micro-window or is one of a quiet window (R161, R188). -/
def DiscCfg.window (d : DiscCfg) (m : Mode) (uf : Nat) : Bool :=
  let n := 128 * d.every
  n != 0 && decide (uf % n < (if m = .native then 64 else 2))

/-- The fixed bursts of a tree in an upstream frame of share period e: its window, reservations and standing bursts. A
quiet window leaves no other in its frame (R148, R215). -/
def Blk.periodItems (b : Blk) (c : GeyCfg) (t e uf : Nat) : List Item :=
  let x := b.tree t
  let l := c.frameItems x.mode t (uf % 8) (b.liveAt c)
  if (Vers.at {} x.disc e).window x.mode uf then (if x.mode = .native then microItem :: l else [quietItem x.mode]) else l

/-- The dynamic fixed bursts that a terminal asks for in the eight upstream frames from uf on (R200, R220). -/
def TermView.dynamics (v : TermView) (uf : Nat) : List Item :=
  (match v.range with
   | some (r, hold) =>
     if v.state == .held && decide (r < uf + 8) then [rangeItem (if hold then .hold else .firstRange) 0] else []
   | none => [])
  ++ (if v.state == .activating then List.replicate 8 (activationItem 0) else [])
  ++ (match v.rerange with
      | some slow => if slow && decide (uf / 8 < v.placed / 8 + 1000) then [] else [rangeItem .rerange 0]
      | none => [])

/-- The dynamic fixed bursts of a tree in a share period as its inputs ask for them, at most 8 a frame (R215, R541). -/
def Blk.periodDynamics (b : Blk) (t uf : Nat) : List Item :=
  ((b.gey.snapViews.filter (fun v => v.1 / 512 == t)).flatMap (fun v => v.2.dynamics uf)).take 64

/-- cap[t] (R215). -/
def Blk.capOf (b : Blk) (c : GeyCfg) (t e : Nat) : Nat :=
  let x := b.tree t
  let first := 8 * e + 2 + x.mapLead
  if x.rxOn ∧ t < Part.trees b.sys.part then
    let l := (List.range 8).flatMap (fun i => b.periodItems c t e (first + i)) ++ b.periodDynamics t first
    (6220800 - (l.map Item.footprint).sum) * (c.plan t).planEff / 16384
  else 0

/-- fixed_units (R215): windows carry no payload. -/
def Blk.fixedUnitsAll (b : Blk) (c : GeyCfg) (e : Nat) : Nat :=
  ((List.range (Part.trees b.sys.part)).map (fun t =>
    let x := b.tree t
    if x.rxOn then
      (((List.range 8).flatMap (fun i => b.periodItems c t e (8 * e + 2 + x.mapLead + i))).map
        (fun i => ceilDiv i.allowance 16)).sum
    else 0)).sum

/-- A queue in the share computation. -/
structure ShareQ where
  q : Nat
  w : Nat
  /-- Its d (R215), and its AR. -/
  d : Nat
  ar : Nat
  /-- Its share so far. -/
  s : Nat := 0

/-- d of a queue from its demand in bytes (R215). -/
def QueueCfg.wanted (c : QueueCfg) (cls demand : Nat) : Nat :=
  let n := ceilDiv demand 16
  if cls = 1 then
    let st := c.ar * 64 / 2 ^ c.lbLog2
    let d := n - st
    if c.maxRate = 0 then d else min d (c.maxRate - st)
  else if c.maxRate = 0 then n
  else min n c.maxRate

/-- The queues that ask for a share, by ID (R215). -/
def Blk.shareQueues (b : Blk) (c : GeyCfg) : List ShareQ :=
  b.gey.snapDemand.filterMap (fun x =>
    let cfg := c.queue x.1
    let d := cfg.wanted (x.1 % 4) x.2
    if x.1 % 4 = 0 ∨ d = 0 ∨ !cfg.enable ∨ (b.snapView (x.1 / 4)).dataFrom.isNone then none else some { q := x.1, w := cfg.weight, d := d, ar := cfg.ar })

/-- The state of the share computation: queues, cap by tree and the budget left. -/
structure Fill where
  qs : List ShareQ
  cap : List Nat
  budget : Nat

/-- Adds to a queue's share at the cost of its tree and of the budget. -/
def Fill.give (f : Fill) (q n : Nat) : Fill :=
  { qs := f.qs.map (fun x => if x.q = q then { x with s := x.s + n } else x),
    cap := f.cap.set (queueTree q) (f.cap.getD (queueTree q) 0 - n), budget := f.budget - n }

/-- Whether a queue is still in Q (R216). -/
def Fill.active (f : Fill) (lim : ShareQ → Nat) (x : ShareQ) : Bool :=
  decide (x.s < lim x) && decide (0 < f.cap.getD (queueTree x.q) 0)

/-- lam of one pass (R216). -/
def Fill.lam (f : Fill) (lim : ShareQ → Nat) (act : List ShareQ) : Nat :=
  let byQ := act.map (fun x => (lim x - x.s) * 65536 / x.w)
  let byT := (List.range 64).filterMap (fun t =>
    let w := ((act.filter (fun x => queueTree x.q == t)).map (fun x => x.w)).sum
    if w = 0 then none else some (f.cap.getD t 0 * 65536 / w))
  let all := f.budget * 65536 / (act.map (fun x => x.w)).sum
  (byQ ++ byT).foldl min all

/-- One pass of the loop of R216. -/
def Fill.pass (f : Fill) (lim : ShareQ → Nat) (act : List ShareQ) : Fill :=
  let lam := f.lam lim act
  let g := fun (x : ShareQ) => x.w * lam / 65536
  if act.all (fun x => g x == 0) then
    act.foldl (fun f x => if f.active lim x && decide (0 < f.budget) then f.give x.q 1 else f) f
  else act.foldl (fun f x => f.give x.q (g x)) f

/-- fill of R216; every pass spends some of the budget, so the budget bounds the passes. -/
def Fill.loop (lim : ShareQ → Nat) : Nat → Fill → Fill
  | 0, f => f
  | n + 1, f =>
    let act := f.qs.filter (f.active lim)
    if act.isEmpty || f.budget == 0 then f else Fill.loop lim n (f.pass lim act)

/-- The three stages of R216. -/
def Fill.stages (f : Fill) : Fill :=
  let cls := fun (x : ShareQ) => x.q % 4
  let f := Fill.loop (fun x => if cls x = 2 then min x.d x.ar else 0) (f.budget + 1) f
  let f := Fill.loop (fun x => if cls x = 1 ∨ cls x = 2 then x.d else 0) (f.budget + 1) f
  Fill.loop (fun x => if cls x = 3 then x.d else 0) (f.budget + 1) f

/-- Share set e (R205, R215, R216). -/
def Blk.shareSet (b : Blk) (e : Nat) : ShareSet :=
  let c := Vers.at {} b.gey.cfg e
  let f := Fill.stages {
    qs := b.shareQueues c, cap := (List.range 64).map (fun t => b.capOf c t e),
    budget := b.budget c e - b.fixedUnitsAll c e }
  { epoch := e, shares := f.qs.filterMap (fun x => if x.s = 0 then none else some (x.q, x.s)), fill := f.budget }

/-- Holds the inputs of share set E as they stand after the batch consumed at the start of slot (8E + 1, 0) (R205). -/
def Blk.snapshotShares (b : Blk) (e : Nat) : Blk :=
  { b with gey := { b.gey with
      snapEpoch := e, snapViews := b.gey.views,
      snapDemand := b.gey.queues.filterMap (fun x => if x.2.demand = 0 then none else some (x.1, x.2.demand)) } }

/-- SHARE_COMPUTATION (R205, R216): share set E of the epoch in force, once its inputs are held. -/
def execShareComputation (s : State) : Host.Outcome State Fault Refusal :=
  s.svc (fun b =>
    let e := b.clk.epoch
    if b.gey.snapEpoch = e ∧ b.gey.shareEpoch < e then { b with gey := { b.gey with next := some (b.shareSet e) } } else b)

/-- Samples the constraint word at frame tick 8E, which a joined chip sends to its partner (R206, R208, R215). -/
def Blk.sampleConstraint (b : Blk) : Blk :=
  let b := { b with gey := { b.gey with upRate := b.upRate, cUp := b.cUp } }
  if b.joined then b.sendLink 0x05 (toBe b.clk.epoch 8 ++ toBe b.gey.upRate 4 ++ toBe b.gey.cUp 4) else b

/-! ### GQ_CONFIG (R198 to R201) -/

/-- Changes Geyser's configuration at the epoch in force. -/
def Blk.setGey (b : Blk) (f : GeyCfg → GeyCfg) : Blk :=
  { b with gey := { b.gey with cfg := Vers.write {} b.gey.cfg b.clk.epoch f } }

/-- GQ_CONFIG, queue form (R198, R200). -/
def Op.gqConfig : Op := {
  code := 0x0400, perm := .t, utype := 0x5, unit := some 0x5000, len := 24,
  fields := [(0, 63, 62), (0, 61, 45), (0, 44, 44), (0, 43, 41), (0, 40, 17), (0, 16, 1), (1, 63, 40), (1, 39, 28),
             (1, 27, 20), (2, 63, 48), (2, 47, 24)],
  bad := fun c =>
    let cls := c.f 0 61 45 % 4
    (if c.f 0 63 62 ≠ 0 then [fieldAt 0 62] else [])
    ++ (if c.f 0 43 41 = 7 ∨ (cls ≠ 1 ∧ c.f 0 43 41 ≠ 0) then [fieldAt 0 41] else [])
    ++ (if (cls = 0 ∨ cls = 3) ∧ c.f 0 40 17 ≠ 0 then [fieldAt 0 17] else [])
    ++ (if cls = 1 ∧ c.b 0 44 ∧ c.f 0 40 17 = 0 then [fieldAt 0 17] else [])
    ++ (if cls ≠ 0 ∧ c.f 0 16 1 = 0 then [fieldAt 0 1] else []),
  names := fun c => [(treeUnit (queueTree (c.f 0 61 45)), fieldAt 0 45)] }

/-- The configuration that a queue form holds. -/
def queueCfgOf (c : Cmd) : QueueCfg := {
  enable := c.b 0 44, lbLog2 := c.f 0 43 41, ar := c.f 0 40 17, weight := c.f 0 16 1, maxRate := c.f 1 63 40,
  maxBurst := c.f 1 39 28, minGrant := c.f 1 27 20, weightCap := c.f 2 63 48, rateCap := c.f 2 47 24 }

/-- The effect of GQ_CONFIG, queue form. -/
def applyGqConfig (c : Cmd) (b : Blk) : Blk × Res :=
  let q := c.f 0 61 45
  let t := queueTree q
  let new := queueCfgOf c
  let old := b.geyCfg.queue q
  let cfg : GeyCfg := { b.geyCfg with queues := Tab.set none b.geyCfg.queues q (some new) }
  if !mayAct c.tenant (b.queueOwner q)
      || (c.tenant != 0 && new != { old with weight := new.weight, maxRate := new.maxRate }) then (b, Res.deniedObject)
  else if q % 4 = 1 ∧ new.enable ∧ new.lbLog2 < 4 ∧ (b.tree t).mode ≠ .native then (b, Res.badField 0 41)
  else if c.tenant ≠ 0 ∧ old.weightCap < new.weight then (b, Res.badField 0 1)
  else if c.tenant ≠ 0 ∧ old.rateCap ≠ 0 ∧ (new.maxRate = 0 ∨ old.rateCap < new.maxRate) then (b, Res.badField 1 40)
  else if !b.geyOk cfg t then (b, Res.err .noSpace)
  else (b.setGey (fun _ => cfg), {})

/-- GQ_CONFIG, queue form (R198). -/
def execGqConfig (c : Cmd) (s : State) : Host.Outcome State Fault Refusal := s.opcode Op.gqConfig c applyGqConfig

/-- GQ_CONFIG, tree form (R199). -/
def Op.gqConfigTree : Op := {
  code := 0x0400, perm := .t, utype := 0x5, unit := some 0x5000, len := 8,
  fields := [(0, 63, 62), (0, 61, 56), (0, 55, 46), (0, 45, 34), (0, 33, 22)],
  bad := fun c =>
    (if c.f 0 63 62 ≠ 1 then [fieldAt 0 62] else [])
    ++ (if c.f 0 55 46 < 512 ∨ 1023 < c.f 0 55 46 then [fieldAt 0 46] else [])
    ++ (if 4096 < c.f 0 45 34 + c.f 0 33 22 then [fieldAt 0 34] else []),
  names := fun c => [(treeUnit (c.f 0 61 56), fieldAt 0 56)] }

/-- The sum of ENTRY_RESERVE over the fitted trees (R199). -/
def Blk.reserves (b : Blk) (c : GeyCfg) : Nat :=
  ((List.range (Part.trees b.sys.part)).map (fun t => (c.plan t).entryReserve)).sum

/-- The effect of GQ_CONFIG, tree form. -/
def applyGqConfigTree (c : Cmd) (b : Blk) : Blk × Res :=
  let t := c.f 0 61 56
  let cfg : GeyCfg := { b.geyCfg with
    trees := Tab.set {} b.geyCfg.trees t { planEff := c.f 0 55 46, entryReserve := c.f 0 45 34, poolMax := c.f 0 33 22 } }
  if c.tenant ≠ 0 then (b, Res.deniedObject)
  else if 32768 < b.reserves cfg ∨ !b.geyOk cfg t then (b, Res.err .noSpace)
  else (b.setGey (fun _ => cfg), {})

/-- GQ_CONFIG, tree form (R199). -/
def execGqConfigTree (c : Cmd) (s : State) : Host.Outcome State Fault Refusal :=
  s.opcode Op.gqConfigTree c applyGqConfigTree

/-- GQ_CONFIG, device form (R199). -/
def Op.gqConfigDevice : Op := {
  code := 0x0400, perm := .t, utype := 0x5, unit := some 0x5000, len := 8,
  fields := [(0, 63, 62), (0, 61, 53), (0, 52, 33)],
  bad := fun c =>
    (if c.f 0 63 62 ≠ 2 then [fieldAt 0 62] else [])
    ++ (if c.f 0 61 53 < 1 ∨ 256 < c.f 0 61 53 then [fieldAt 0 53] else [])
    ++ (if 786432 < c.f 0 52 33 then [fieldAt 0 33] else []) }

/-- The effect of GQ_CONFIG, device form. -/
def applyGqConfigDevice (c : Cmd) (b : Blk) : Blk × Res :=
  if c.tenant ≠ 0 then (b, Res.deniedObject)
  else (b.setGey (fun x => { x with upShare := c.f 0 61 53, upCellLimit := c.f 0 52 33 }), {})

/-- GQ_CONFIG, device form (R199). -/
def execGqConfigDevice (c : Cmd) (s : State) : Host.Outcome State Fault Refusal :=
  s.opcode Op.gqConfigDevice c applyGqConfigDevice

/-! ### GQ_READ (R234) -/

/-- GQ_READ (R234). -/
def Op.gqRead : Op := {
  code := 0x0401, perm := .t, read := true, snap := true, utype := 0x5, unit := some 0x5000, len := 16,
  fields := [(0, 63, 0), (1, 63, 47), (1, 46, 29)],
  bad := fun c => if c.f 1 46 29 < 1 ∨ 131072 < c.f 1 63 47 + c.f 1 46 29 then [fieldAt 1 29] else [],
  others := fun c =>
    let lo := queueTree (c.f 1 63 47)
    let hi := min 63 (queueTree (c.f 1 63 47 + c.f 1 46 29 - 1))
    (List.range (hi + 1 - lo)).map (fun i => treeUnit (lo + i)) }

/-- The four words of a queue (R198, R234). -/
def Blk.queueWords (b : Blk) (cfg : GeyCfg) (q : Nat) : List Nat :=
  let c := cfg.queue q
  let x := b.gq q
  [pack [(q, 45), (b2n c.enable, 44), (c.lbLog2, 41), (c.ar, 17), (c.weight, 1)],
   pack [(c.maxRate, 40), (c.maxBurst, 28), (c.minGrant, 20)], pack [(c.weightCap, 48), (c.rateCap, 24)],
   pack [(min x.share 0xFFFFFF, 40), (min x.dem 0xFFFFFF, 16), (x.current (8 * b.clk.fc), 8)]]

/-- The effect of GQ_READ. -/
def applyGqRead (c : Cmd) (b : Blk) : Blk × Res :=
  match snapshot c b.clk.epoch {} b.gey.cfg with
  | .error r => (b, r)
  | .ok cfg =>
    (b, { ext := (List.range (c.f 1 46 29)).flatMap (fun i =>
      let q := c.f 1 63 47 + i
      wordsLe (if mayAct c.tenant (b.queueOwner q) then b.queueWords cfg q else [0, 0, 0, 0])) })

/-- GQ_READ (R234). -/
def execGqRead (c : Cmd) (s : State) : Host.Outcome State Fault Refusal := s.opcode Op.gqRead c applyGqRead

/-! ### CIRCUIT_RESERVE, CIRCUIT_RELEASE (R221 to R223) -/

/-- CIRCUIT_RESERVE (R221, R222). -/
def Op.circuitReserve : Op := {
  code := 0x0402, perm := .o, utype := 0x5, unit := some 0x5000, len := 16,
  fields := [(0, 63, 50), (0, 49, 33), (0, 32, 30), (0, 29, 24), (0, 23, 7), (0, 6, 6), (1, 63, 47), (1, 46, 46)],
  bad := fun c =>
    (if c.f 0 49 33 % 4 ≠ 0 then [fieldAt 0 33] else []) ++ (if c.f 0 32 30 = 7 then [fieldAt 0 30] else [])
    ++ (if 2 ^ c.f 0 32 30 ≤ c.f 0 29 24 then [fieldAt 0 24] else [])
    ++ (if validLen (c.f 0 23 7) then [] else [fieldAt 0 7]),
  names := fun c => [(treeUnit (queueTree (c.f 0 49 33)), fieldAt 0 33)] }

/-- Whether two patterns meet in some phase. -/
def patternsMeet (k o k' o' : Nat) : Bool := o % 2 ^ min k k' == o' % 2 ^ min k k'

/-- Whether a footprint at an offset is free of other reservations and within its place (R222). -/
def offsetFree (top fp : Nat) (rivals : List Resv) (o : Nat) : Bool :=
  decide (12504 ≤ o) && decide (o + fp ≤ top)
  && rivals.all (fun r => decide (o + fp ≤ r.offset) || decide (r.offset + guardLen + r.length ≤ o))

/-- The highest OFFSET at which a footprint fits (R221). -/
def highestOffset (top fp : Nat) (rivals : List Resv) : Option Nat :=
  let cands := (top - fp) :: rivals.filterMap (fun r => if fp ≤ r.offset then some (r.offset - fp) else none)
  match cands.filter (offsetFree top fp rivals) with
  | [] => none
  | x :: r => some (r.foldl max x)

/-- The first upstream frame from `uf` on that holds a phase of a pattern, among eight (R221). -/
def firstFrame (k off uf : Nat) : Nat :=
  uf + ((List.range 8).find? (fun i => (List.range 8).any (fun p => inPattern k off (8 * ((uf + i) % 8) + p)))).getD 0

/-- The effect of CIRCUIT_RESERVE. -/
def applyCircuitReserve (c : Cmd) (b : Blk) : Blk × Res :=
  let id := c.f 0 63 50
  let q := c.f 0 49 33
  let t := queueTree q
  let k := c.f 0 32 30
  let off := c.f 0 29 24
  let len := c.f 0 23 7
  let x := b.tree t
  let cfg := b.geyCfg
  let top := phaseLen x.mode
  let fp := guardLen + len
  let rivals := ((cfg.treeResv t).filter (fun r => patternsMeet k off r.2.periodLog2 r.2.phaseOff)).map Prod.snd
  if (Tab.get none cfg.resv id).isSome then (b, Res.badField 0 50)
  else if x.mode ≠ .native ∧ k < 3 then (b, Res.badField 0 30)
  else
    match (if c.b 1 46 then highestOffset top fp rivals
           else if offsetFree top fp rivals (c.f 1 63 47) then some (c.f 1 63 47) else none) with
    | none => (b, Res.err .noSpace)
    | some o =>
      let new : Resv := { queue := q, periodLog2 := k, phaseOff := off, length := len, rpt := c.b 0 6, offset := o }
      let cfg' : GeyCfg := { cfg with resv := Tab.set none cfg.resv id (some new) }
      if 512 < (cfg'.treeResv t).length ∨ 16384 < cfg'.resv.length
          ∨ !cfg'.limitsOk x.mode t x.mapLead x.discNow.winPhase then (b, Res.err .noSpace)
      else
        (b.setGey (fun _ => cfg'),
          Res.words [pack [(o, 47)], firstFrame k off (8 * b.clk.epoch + 2 + x.mapLead) % 2 ^ 64])

/-- CIRCUIT_RESERVE (R221). -/
def execCircuitReserve (c : Cmd) (s : State) : Host.Outcome State Fault Refusal :=
  s.opcode Op.circuitReserve c applyCircuitReserve

/-- CIRCUIT_RELEASE (R223). -/
def Op.circuitRelease : Op := {
  code := 0x0403, perm := .o, utype := 0x5, unit := some 0x5000, len := 8, fields := [(0, 63, 50)] }

/-- The effect of CIRCUIT_RELEASE: bursts already placed stand. -/
def applyCircuitRelease (c : Cmd) (b : Blk) : Blk × Res :=
  let id := c.f 0 63 50
  if (Tab.get none b.geyCfg.resv id).isNone then (b, Res.badField 0 50)
  else (b.setGey (fun x => { x with resv := Tab.set none x.resv id none }), {})

/-- CIRCUIT_RELEASE (R223). -/
def execCircuitRelease (c : Cmd) (s : State) : Host.Outcome State Fault Refusal :=
  s.opcode Op.circuitRelease c applyCircuitRelease

/-! ### ACCOUNT_READ (R231) -/

/-- ACCOUNT_READ (R231). -/
def Op.accountRead : Op := {
  code := 0x0404, perm := .o, read := true, utype := 0x5, unit := some 0x5000, len := 8,
  fields := [(0, 63, 58), (0, 57, 57)],
  bad := fun c => if c.b 0 57 ∧ c.f 0 63 58 ≠ 0 then [fieldAt 0 58] else [],
  names := fun c => if c.b 0 57 then [] else [(treeUnit (c.f 0 63 58), fieldAt 0 58)] }

/-- The effect of ACCOUNT_READ: from the latch (R33, R468). -/
def applyAccountRead (c : Cmd) (b : Blk) : Blk × Res :=
  let trees := if c.b 0 57 then List.range (Part.trees b.sys.part) else [c.f 0 63 58]
  let cells := (List.range 11).map (fun i => trees.map (fun t => Tab.get ({} : Ctr) b.tele.latch (ctrKey 0x41 i t)))
  let sums := cells.map (fun l => min allOnes ((l.map (fun x => x.val)).sum))
  let sat := (cells.zip sums).zipIdx.map (fun x =>
    (b2n (decide (allOnes ≤ x.1.2) || x.1.1.any (fun y => y.sat)), x.2))
  (b, { ext := wordsLe (sums ++ [b.tele.latchEpoch, pack sat, 0, 0, 0]) })

/-- ACCOUNT_READ (R231). -/
def execAccountRead (c : Cmd) (s : State) : Host.Outcome State Fault Refusal := s.opcode Op.accountRead c applyAccountRead

end Sys2Proof.Machine
end

