-- ==== Sys2Proof/Machine/Placement.lean ====
section
/-! DEFINITION. Geyser's placement (06): the slots of a map frame, fixed bursts, the share step, the fill step and what a
phase leaves ungranted. -/
namespace Sys2Proof.Machine

/-! ### In-flight entries (R224 to R226) -/

/-- Byte-slots of a native frame that one byte-slot of a mode lasts. -/
def slotScale (m : Mode) : Nat := 777600 / frameSlots m

/-- Whether a grant's entry is live at the start of slot (m, p): the burst's last byte-slot has not passed before it
(R224). Times are in 1/5 of a native byte-slot; the slot starts at frame tick m − 123 µs + 13.5 p µs. -/
def Grant.live (g : Grant) (mode : Mode) (m p : Nat) : Bool :=
  decide (5 * 777600 * m + 419904 * p ≤ 5 * (777600 * g.uf + slotScale mode * (g.start + g.length)) + 3825792)

/-- The live grants of a tree at a slot. -/
def Blk.liveGrants (b : Blk) (t m p : Nat) : List Grant :=
  b.gey.grants.filter (fun g => g.tree == t && g.live (b.tree t).mode m p)

/-- Entries of a tree that count as taken at a slot: those of its share and fill bursts, and those that R200 keeps for its
fixed bursts, which are never refused (R225, R226). -/
def Blk.heldEntries (b : Blk) (c : GeyCfg) (t m p : Nat) : Nat :=
  let x := b.tree t
  ((b.liveGrants t m p).filter (fun g => g.purpose == .share)).length + c.kept x.mode t x.mapLead

/-- Whether an entry is free for a tree that has n taken: from its reserve, or from the pool, where every other tree has `used`
taken (R225). -/
def Blk.entryWithin (b : Blk) (c : GeyCfg) (t n : Nat) (used : Nat → Nat) : Bool :=
  let pl := c.plan t
  let pool := fun (_ : Unit) =>
    ((List.range (Part.trees b.sys.part)).map (fun t => used t - (c.plan t).entryReserve)).sum
  decide (n < pl.entryReserve)
  || (decide (n < pl.entryReserve + pl.poolMax) && decide (pool () < 32768 - b.reserves c))

/-- Whether an in-flight entry is free for a share or fill burst of a tree (R225, R226). -/
def Blk.entryFree (b : Blk) (c : GeyCfg) (t m p : Nat) : Bool :=
  b.entryWithin c t (b.heldEntries c t m p) (fun t => b.heldEntries c t m p)

/-- Whether one is free for a re-ranging burst, which the entries kept for fixed bursts serve too (R226, R541). -/
def Blk.rerangeEntry (b : Blk) (c : GeyCfg) (t m p : Nat) : Bool :=
  b.entryWithin c t (b.liveGrants t m p).length (fun t => (b.liveGrants t m p).length)

/-- The lowest tag that no live entry of a tree holds (R224). -/
def Blk.freeTag (b : Blk) (t m p : Nat) : Nat :=
  let held := (b.liveGrants t m p).map (fun g => g.tag)
  ((List.range 4096).find? (fun n => !held.contains n)).getD 0

/-- Where a placement works: the tree, its map frame and slot, its upstream frame, its mode and configuration. -/
structure Place where
  t : Nat
  m : Nat
  p : Nat
  uf : Nat
  mode : Mode
  cfg : GeyCfg
  /-- The first byte-slot of the region placed, and its length. -/
  base : Nat
  len : Nat

/-- Issues a grant: an entry with the lowest free tag, and the demand of its queue less its allowance (R40, R211, R224). -/
def Blk.issue (b : Blk) (w : Place) (i : Item) (start : Nat) : Blk :=
  let g : Grant := {
    tree := w.t, term := i.term, qclass := i.qclass, start := start, length := i.length, kind := i.kind,
    tag := b.freeTag w.t w.m w.p, uf := w.uf, mapFrame := w.m, allowance := i.allowance, clearance := i.clearance,
    purpose := i.purpose }
  let b := { b with gey := { b.gey with grants := b.gey.grants ++ [g] } }
  if g.forQueue then b.updGq g.gq (fun x => x.withDemand (x.demand - i.allowance)) else b

/-! ### Fixed bursts (R200, R209, R541) -/

/-- A share or fill burst in the making: its place among the candidates and its gap, its size and the units charged. -/
structure Plan where
  pos : Nat
  q : Nat
  tag : Nat
  length : Nat
  allowance : Nat
  units : Nat
  gap : Nat := 0

/-- What lies in a phase so far: the block, the spans taken and the map entries, and how many of them are dynamic. -/
structure Lay where
  blk : Blk
  occ : Spans := []
  n : Nat := 0
  dyn : Nat := 0
  /-- The standing allocations of a standard tree, with the span that each holds until the region is laid out. -/
  stands : List (Plan × (Nat × Nat)) := []

/-- Units that a fixed burst adds to its queue's use of MAX_RATE (R198). -/
def Item.units (i : Item) (c : GeyCfg) (t : Nat) : Nat :=
  match i.purpose with
  | .standing => (c.queue (gqOf t i.term i.qclass)).ar
  | _ => 0

/-- Lays a fixed burst at a place. -/
def Lay.put (l : Lay) (w : Place) (i : Item) (o : Nat) : Lay :=
  let b := l.blk.issue w i (w.base + o + guardLen + i.clearance)
  let u := i.units w.cfg w.t
  let b := if u = 0 then b else b.updGq (gqOf w.t i.term i.qclass) (fun x => { x with used := x.used + u })
  { l with blk := b, occ := addSpan (o, o + i.footprint) l.occ, n := l.n + 1 }

/-- Lays a micro-window, a reservation or a standing burst. -/
def Lay.fixed (w : Place) (l : Lay) (i : Item) : Lay :=
  match (match i.offset with
         | some o => some o
         | none => lowestFit i.footprint w.len 0 l.occ) with
  | some o => l.put w i o
  | none => l

/-- Dynamic fixed bursts of a tree in an upstream frame so far (R541). -/
def Blk.dynamicCount (b : Blk) (t uf : Nat) : Nat :=
  (b.gey.grants.filter (fun g => g.tree == t && g.uf == uf && (match g.purpose with
    | .firstRange => true
    | .hold => true
    | .activation => true
    | .rerange => true
    | _ => false))).length

/-- Whether a dynamic fixed burst of a kind already lies in an upstream frame for a terminal. -/
def Blk.hasDynamic (b : Blk) (t uf idx : Nat) (k : GrantFor) : Bool :=
  b.gey.grants.any (fun g => g.tree == t && g.uf == uf && g.term == idx && g.purpose == k)

/-- The ranging burst that a HELD terminal's request asks for in phase p of an upstream frame, from its own phase on (R541). -/
def TermView.rangeDue (v : TermView) (idx uf p : Nat) : Option GrantFor :=
  match v.range with
  | some (r, hold) =>
    if v.state == .held && decide (r ≤ uf) && decide (v.placed < r) && decide (idx % 8 ≤ p) then
      some (if hold then .hold else .firstRange)
    else none
  | none => none

/-- Whether a re-ranging burst is due in an upstream frame: one per epoch, or one every 1,000 epochs after RERANGE_FAIL
(R181). -/
def TermView.rerangeDue (v : TermView) (uf : Nat) : Bool :=
  v.rerange.any (fun slow => decide (v.placed / 8 + (if slow then 1000 else 1) ≤ uf / 8))

/-- The dynamic fixed bursts that ask for phase p of an upstream frame, in the order of R209: those whose phase is terminal
index mod 8, and those that found no room in it (R541). The requests are those of the batches consumed (R206). -/
def Blk.requests (b : Blk) (t uf p : Nat) : List Item :=
  let l := (List.range 512).map (fun i => (i, b.view (gid t i)))
  (l.filterMap (fun v => (v.2.rangeDue v.1 uf p).map (fun k => rangeItem k v.1)))
  ++ (l.filter (fun v => v.2.state == .activating && decide (v.1 % 8 ≤ p) && !b.hasDynamic t uf v.1 .activation)).map
    (fun v => activationItem v.1)
  ++ (l.filter (fun v => v.1 % 8 == p && v.2.rerangeDue uf)).map (fun v => rangeItem .rerange v.1)

/-- What the ranging controller and Geyser note of a ranging burst that was placed (R171, R173, R181). -/
def Blk.noteRange (b : Blk) (w : Place) (i : Item) : Blk :=
  let g := gid w.t i.term
  let b := b.updTerm g (fun x =>
    match i.purpose with
    | .firstRange => { x with
        rangeGrants := x.rangeGrants + 1, nextRange := if x.rangeGrants + 1 < 3 then some (w.uf + 8) else none }
    | .hold => { x with nextRange := some (w.uf + 64) }
    | _ => x)
  if i.purpose = .activation then b
  else { b with gey := { b.gey with views := Tab.upd {} b.gey.views g (fun v => { v with placed := w.uf }) } }

/-- Counts a refusal for lack of an in-flight entry (R226). -/
def Blk.refuseEntry (b : Blk) (t : Nat) : Blk := (b.count 0x41 11 t).noteSec 0x0401 t

/-- Lays a dynamic fixed burst between two places of the phase or frame, or leaves it under R226 and R541: a later phase
of the frame, or the next frame, finds its request again. -/
def Lay.dynamic (w : Place) (lo hi : Nat) (l : Lay) (i : Item) : Lay :=
  if 8 ≤ l.blk.dynamicCount w.t w.uf ∨ 2 ≤ l.dyn ∨ (w.mode = .native ∧ 40 ≤ l.n) then l
  else if i.purpose = .rerange ∧ !l.blk.rerangeEntry w.cfg w.t w.m w.p then { l with blk := l.blk.refuseEntry w.t }
  else
    match lowestFit i.footprint hi lo l.occ with
    | some o =>
      let l := l.put w i o
      { l with blk := l.blk.noteRange w i, dyn := l.dyn + 1 }
    | none => l

/-- Whether a micro-window falls in a phase, or a quiet window over a frame (R161, R188, R203). -/
def Blk.windowDue (b : Blk) (w : Place) : Bool :=
  let d := Vers.at {} (b.tree w.t).disc (periodOf w.m)
  d.window w.mode w.uf && (w.mode != .native || d.winPhase == w.p)

/-- Whether a queue's fixed bursts are placed now (R198, R220). -/
def Blk.liveNow (b : Blk) (c : GeyCfg) (q : Nat) : Bool := (c.queue q).enable && (b.view (q / 4)).fixed

/-- The fixed bursts of a phase of a native tree: window, reservations, standing bursts, then the dynamic ones (R209). -/
def Blk.layFixed (b : Blk) (w : Place) : Lay :=
  let j := 8 * (w.uf % 8) + w.p
  let items := (if b.windowDue w then [microItem] else []) ++ w.cfg.patterned .native w.t j (b.liveNow w.cfg)
  let l := items.foldl (Lay.fixed w) { blk := b }
  (b.requests w.t w.uf w.p).foldl (Lay.dynamic w 0 w.len) l

/-! ### The data region (R209) -/

/-- The free gaps between spans. -/
def gaps (top : Nat) : Nat → Spans → List (Nat × Nat)
  | pos, [] => if pos < top then [(pos, top - pos)] else []
  | pos, (a, z) :: r => if pos < a then (pos, a - pos) :: gaps top (max pos z) r else gaps top (max pos z) r

/-- The largest gap, the later one on a tie. -/
def largestGap (l : List (Nat × Nat)) : Nat × Nat := l.foldl (fun a g => if a.2 ≤ g.2 then g else a) (0, 0)

/-! ### Share and fill (R217, R218) -/

/-- Why the placement of a tree stopped (R228). -/
inductive Starve where
  | budget | inflight | map
  deriving DecidableEq, Repr

/-- The state of the share and fill steps. -/
structure Step where
  blk : Blk
  plans : List Plan := []
  /-- Byte-slots left in each gap of the region: one gap on a native tree (R209, R233). -/
  left : List Nat
  /-- Map entries of the phase. -/
  n : Nat
  stop : Option Starve := none

/-- Byte-slots left in a gap. -/
def Step.room (s : Step) (gap : Nat) : Nat := s.left.getD gap 0

/-- The gap for a new burst of a size: the first that holds it, else the one with most left. -/
def Step.gapFor (s : Step) (size : Nat) : Nat :=
  match s.left.findIdx? (fun n => decide (guardLen + size ≤ n)) with
  | some i => i
  | none => (s.left.findIdx? (fun n => n == s.left.foldl max 0)).getD 0

/-- room (R217), no more than `dem`: what MAX_BURST leaves beside `units`, and what MAX_RATE leaves. -/
def roomOf (c : QueueCfg) (x : QueueLive) (dem units : Nat) : Nat :=
  let a := if c.maxRate = 0 then dem else min dem (c.maxRate - x.used)
  if c.maxBurst = 0 then a else min a (c.maxBurst - units)

/-- candidates(t) in the order of R209: tier, current age, credit, grant queue ID. The slot begins 2 + 13.5 p µs after
frame tick m − 1. -/
def Blk.candidates (b : Blk) (w : Place) : List (Nat × QueueCfg) :=
  let now := 8 * (w.m - 1) + (16 + 108 * w.p) / 125
  let l := b.gey.queues.filter (fun x =>
    queueTree x.1 == w.t && x.1 % 4 != 0 && decide (0 < x.2.demand) && (w.cfg.queue x.1).enable
    && (b.view (x.1 / 4)).data w.uf)
  (sortBy (fun (x : Nat × QueueLive) =>
    [b2n (x.1 % 4 == 3), 255 - x.2.current now, 2 ^ 64 - x.2.credit, x.1]) l).map (fun x => (x.1, w.cfg.queue x.1))

/-- The largest number of units up to n whose burst fits a length on a standard tree. -/
def unitsWithin (m : Mode) (base cap : Nat) : Nat → Nat
  | 0 => 0
  | n + 1 => if sizeOn m (base + 16 * (n + 1)) ≤ cap then n + 1 else unitsWithin m base cap n

/-- LENGTH, allowance and charge of a share burst of u units within a space, cut to fit (R217, R233). -/
def shareSize (m : Mode) (u space : Nat) : Nat × Nat × Nat :=
  let full := sizeOn m (16 * u)
  if m = .native then
    if full ≤ space then (full, allowanceOf full, u)
    else
      let l := largestValid space
      (l, allowanceOf l, allowanceOf l / 16)
  else if full ≤ space then (full, 16 * u, u)
  else
    let v := unitsWithin m 0 space u
    (if v = 0 then 0 else sizeOn m (16 * v), 16 * v, v)

/-- The largest valid LENGTH not above n whose added allowance charges at most `lim` units, tried downwards (R217). -/
def growDown (cur lim : Nat) : Nat → Nat → Nat
  | 0, _ => 0
  | k + 1, n =>
    if validLen n ∧ ceilDiv (allowanceOf n - cur) 16 ≤ lim then n else growDown cur lim k (n - 5)

/-- LENGTH and allowance of a burst grown within a space by at most `lim` units (R217, R233). -/
def growSize (m : Mode) (cur lim space : Nat) : Nat × Nat :=
  if m = .native then
    let n := growDown cur lim 60 (min (space - space % 5) (sizeFor (cur + 16 * lim) + 60))
    (n, allowanceOf n)
  else
    let v := unitsWithin m cur space lim
    (if v = 0 then 0 else sizeOn m (cur + 16 * v), cur + 16 * v)

/-- What refuses a new burst of a tree, counted (R219, R226, R228). -/
def Step.refusal (s : Step) (w : Place) : Option (Starve × Blk) :=
  if (if w.mode = .native then 80 else 512) ≤ s.n then some (.map, s.blk.count 0x41 12 w.t)
  else if s.blk.entryFree w.cfg w.t w.m w.p then none
  else some (.inflight, s.blk.refuseEntry w.t)

/-- Takes a share or fill burst for a queue: its entry, and what it costs the queue. START follows when the region is laid
out. -/
def Step.take (s : Step) (w : Place) (gap pos q len allow charge : Nat) : Step :=
  let tag := s.blk.freeTag w.t w.m w.p
  let b := s.blk.issue w
    { purpose := .share, term := q / 4 % 512, qclass := q % 4, length := len, kind := 1, allowance := allow } 0
  let b := b.updGq q (fun x => { x with used := x.used + charge })
  { s with blk := b, left := s.left.modify gap (· - (guardLen + len)), n := s.n + 1,
           plans := s.plans ++ [{
             pos := pos, q := q, tag := tag, length := len, allowance := allow, units := charge, gap := gap }] }

/-- Grows a burst to a size. -/
def Step.grow (s : Step) (w : Place) (p : Plan) (len allow charge : Nat) : Step :=
  let b := s.blk.updGq p.q (fun x =>
    { x.withDemand (x.demand - (allow - p.allowance)) with used := x.used + charge })
  let b := { b with gey := { b.gey with grants := b.gey.grants.map (fun g =>
    if g.tree = w.t ∧ g.uf = w.uf ∧ g.tag = p.tag ∧ g.mapFrame = w.m then
      { g with length := len, allowance := allow } else g) } }
  { s with blk := b, left := s.left.modify p.gap (· + p.length - len),
           plans := s.plans.map (fun x => if x.q = p.q then
             { x with length := len, allowance := allow, units := x.units + charge } else x) }

/-- The share step for a candidate (R217). On a standard tree it joins the queue's standing allocation (R233). -/
def Step.share (w : Place) (s : Step) (k : (Nat × QueueCfg) × Nat) : Step :=
  if s.stop.isSome then s
  else
    let q := k.1.1
    let c := k.1.2
    let x := s.blk.gq q
    let u := min (x.credit / 64) (roomOf c x x.dem 0)
    let low := min c.minGrant x.dem
    if u = 0 ∨ u < low then s
    else
    match s.plans.find? (fun p => p.q == q) with
    | some p =>
      let u := min u (roomOf c x x.dem p.units)
      let z := growSize w.mode p.allowance u (s.room p.gap + p.length)
      let v := (z.2 - p.allowance) / 16
      if z.1 = 0 ∨ v < low then s
      else
        let s := s.grow w p z.1 z.2 v
        { s with blk := s.blk.updGq q (fun x => { x with credit := x.credit - 64 * v }) }
    | none =>
      let gap := s.gapFor (sizeOn w.mode (16 * u))
      let z := shareSize w.mode u (s.room gap - guardLen)
      if z.1 = 0 ∨ (w.mode = .native ∧ z.1 < 245) ∨ z.2.1 < 16 * low then s
      else
        match s.refusal w with
        | some r => { s with stop := some r.1, blk := r.2 }
        | none =>
          let s := s.take w gap (1000 + k.2) q z.1 z.2.1 z.2.2
          { s with blk := s.blk.updGq q (fun x => { x with credit := x.credit - 64 * z.2.2 }) }

/-- Charges the fill budget; a charge that leaves it at 0 ends the step (R217). -/
def Step.charge (s : Step) (n : Nat) : Step :=
  let left := s.blk.gey.fill - n
  { s with blk := { s.blk with gey := { s.blk.gey with fill := left } }, stop := if left = 0 then some .budget else s.stop }

/-- The fill step for a candidate (R217). -/
def Step.fill (w : Place) (s : Step) (k : (Nat × QueueCfg) × Nat) : Step :=
  if s.stop.isSome then s
  else if s.blk.gey.fill = 0 then { s with stop := some .budget }
  else
    let q := k.1.1
    let x := s.blk.gq q
    match s.plans.find? (fun p => p.q == q) with
    | some p =>
      let lim := min s.blk.gey.fill (roomOf k.1.2 x x.dem p.units)
      let z := growSize w.mode p.allowance lim (s.room p.gap + p.length)
      if lim = 0 ∨ z.1 ≤ p.length then s
      else
        let ch := ceilDiv (z.2 - p.allowance) 16
        (s.grow w p z.1 z.2 ch).charge ch
    | none =>
      let lim := min s.blk.gey.fill (roomOf k.1.2 x x.dem 0)
      let gap := s.gapFor (sizeOn w.mode (16 * lim))
      let z := growSize w.mode 0 lim (s.room gap - guardLen)
      if lim = 0 ∨ z.1 = 0 ∨ s.room gap < guardLen + z.1 then s
      else
        match s.refusal w with
        | some r => { s with stop := some r.1, blk := r.2 }
        | none =>
          let ch := ceilDiv z.2 16
          (s.take w gap (1000 + k.2) q z.1 z.2 ch).charge ch

/-- Lays the bursts of a gap out in candidate order from its first byte-slot (R217). -/
def Step.layGap (s : Step) (w : Place) (b : Blk) (gap first : Nat) : Blk :=
  ((sortBy (fun (p : Plan) => [p.pos]) (s.plans.filter (fun p => p.gap == gap))).foldl (fun (a : Blk × Nat) p =>
    let start := w.base + a.2 + guardLen
    ({ a.1 with gey := { a.1.gey with grants := a.1.gey.grants.map (fun g =>
        if g.tree = w.t ∧ g.uf = w.uf ∧ g.tag = p.tag ∧ g.mapFrame = w.m then
          { g with start := start } else g) } }, a.2 + guardLen + p.length)) (b, first)).1

/-- Lays the bursts out in the region (R217). -/
def Step.layOut (s : Step) (w : Place) (region : List (Nat × Nat)) : Blk :=
  (region.zipIdx).foldl (fun b g => s.layGap w b g.2 g.1.1) s.blk

/-- Whether a queue of the tree still asks (R228). -/
def Step.asked (s : Step) (cands : List (Nat × QueueCfg)) : Bool :=
  cands.any (fun c =>
    let x := s.blk.gq c.1
    let units := ((s.plans.find? (fun p => p.q == c.1)).map (fun p => p.units)).getD 0
    decide (0 < x.demand) && decide (0 < roomOf c.2 x x.dem units))

/-- What a phase leaves ungranted: `other` outside the region and what is left in it (R228). SLACK needs no entry. -/
def Unused.add (u : Unused) (asked : Bool) (stop : Option Starve) (other : Nat) (left : List Nat) : Unused :=
  if !asked then { u with front := u.front + other + left.sum }
  else
    let n := (left.filter (fun x => decide (309 ≤ x))).sum
    match stop with
    | some .inflight => { u with inflight := u.inflight + n }
    | some .map => { u with map := u.map + n }
    | _ => { u with budget := u.budget + n }

/-- A standing allocation joins the region where its span lies: its share and fill widen it there (R233). -/
def Step.join (s : Step) (region : List (Nat × Nat)) (x : Plan × (Nat × Nat)) : Step :=
  let gap := (region.findIdx? (fun g => decide (g.1 ≤ x.2.1) && decide (x.2.1 < g.1 + g.2))).getD 0
  { s with plans := s.plans ++ [{ x.1 with gap := gap }], left := s.left.modify gap (· - (guardLen + x.1.length)) }

/-- The share step, the fill step and what they leave, after the fixed bursts (R217). The region is the largest gap of a phase,
and on a standard tree all that the fixed bursts leave of the frame (R209, R233). -/
def Lay.finish (l : Lay) (w : Place) : Blk :=
  let free := gaps w.len 0 (l.occ.filter (fun s => !l.stands.any (fun x => x.2 == s)))
  let region := if w.mode = .native then [largestGap free] else free
  let cands := l.blk.candidates w
  let s : Step := l.stands.foldl (fun s x => s.join region x) { blk := l.blk, left := region.map Prod.snd, n := l.n }
  let s := (cands.zipIdx).foldl (Step.share w) s
  let s := (cands.zipIdx).foldl (Step.fill w) s
  let other := (free.map Prod.snd).sum - (region.map Prod.snd).sum
  let b := s.layOut w region
  { b with gey := { b.gey with unused := Tab.upd {} b.gey.unused (unusedKey w.t w.uf) (fun u =>
      u.add (s.asked cands) s.stop other s.left) } }

/-! ### Standard trees (R148, R233) -/

/-- Takes the standing allocation of a queue of a standard tree, at a span that its share and fill may widen (R233). -/
def Lay.stand (w : Place) (l : Lay) (i : Item) : Lay :=
  match lowestFit i.footprint w.len 0 l.occ with
  | none => l
  | some o =>
    let q := gqOf w.t i.term i.qclass
    let u := i.units w.cfg w.t
    let p : Plan := {
      pos := l.stands.length, q := q, tag := l.blk.freeTag w.t w.m w.p, length := i.length, allowance := i.allowance, units := u }
    let b := (l.blk.issue w i (o + guardLen)).updGq q (fun x => { x with used := x.used + u })
    { l with
      blk := b, occ := addSpan (o, o + i.footprint) l.occ, n := l.n + 1, stands := l.stands ++ [(p, (o, o + i.footprint))] }

/-- The fixed bursts of an upstream frame of a standard tree: a quiet window alone, or the reservations, the standing
allocations and in each phase the dynamic ones (R148, R209, R233). -/
def Blk.layFrame (b : Blk) (w : Place) : Lay :=
  if b.windowDue w then Lay.fixed w { blk := b } (quietItem w.mode)
  else
    let l := (w.cfg.patternedFrame w.mode w.t (w.uf % 8) (b.liveNow w.cfg)).foldl (fun (l : Lay) x =>
      if x.2.purpose = .standing then l.stand w x.2 else Lay.fixed w l x.2) { blk := b }
    let n := phaseLen w.mode
    (List.range 8).foldl (fun (l : Lay) p =>
      (l.blk.requests w.t w.uf p).foldl (Lay.dynamic w (n * p) (n * (p + 1))) { l with dyn := 0 }) l

/-! ### The slot (R202 to R204, R218) -/

/-- TREE_CONFIG commands accepted for an epoch, in the order of R32, the deferred ones first (R62, R204). -/
def Blk.stagedTrees (b : Blk) (e t : Nat) : List Cmd :=
  let of := fun (l : List (Nat × List Instr)) =>
    sortBy (fun (c : Cmd) => [c.tenant, c.ring]) ((l.flatMap Prod.snd).filterMap (fun i => match i with
      | .treeConfig c => if c.unit % 4096 = t then some c else none
      | _ => none))
  of b.host.deferred ++ of (b.host.sets.filter (fun s => s.1 == e))

/-- A tree as map frame m finds it: before the boundary of m's epoch, with the TREE_CONFIG of the closed change set
(R204). -/
def Blk.treeFor (b : Blk) (t m : Nat) : Tree :=
  if m / 8 ≤ b.clk.epoch then b.tree t
  else
    (b.stagedTrees (m / 8) t).foldl (fun x c =>
      if ((b.updTree t (fun _ => x)).treeConfigBad c).isSome then x
      else x.configured c (m / 8) b.chipB) (b.tree t)

/-- Places a tree in slot (m, p) (R217, R233): nothing while TX_ON or RX_ON is 0, or for a map that is sent empty, and nothing on the
protected side of a local protection, which shares the schedule of the side that transmits (R151). -/
def Blk.placeTree (b : Blk) (m p t : Nat) : Blk :=
  let x := b.treeFor t m
  let uf := m + x.mapLead
  if x.stopped ∨ !x.rxOn ∨ (x.protect.scheme = 2 ∧ !x.transmits) then b
  else if !x.txOn ∨ m < x.mapEmpty then
    if uf < x.mapPast then b
    else { b with gey := { b.gey with unused := Tab.upd {} b.gey.unused (unusedKey t uf) (fun u => { u with unsent := true }) } }
  else
    let cfg := b.geyAt m
    if x.mode = .native then
      let w : Place := {
        t := t, m := m, p := p, uf := uf, mode := x.mode, cfg := cfg, base := p * phaseSlots, len := phaseSlots }
      (b.layFixed w).finish w
    else if p = 7 then
      let w : Place := {
        t := t, m := m, p := p, uf := uf, mode := x.mode, cfg := cfg, base := 0, len := frameSlots x.mode }
      (b.layFrame w).finish w
    else b

/-- The credit of a queue at the start of a slot (R218). -/
def QueueLive.accrue (x : QueueLive) : QueueLive :=
  { x with credit := if x.demand = 0 then 0 else min (16 * x.share) (x.credit + x.share) }

/-- Changes every live queue, keeping the table's form. -/
def Blk.mapQueues (b : Blk) (f : Nat → QueueLive → QueueLive) : Blk :=
  b.gey.queues.foldl (fun b x => b.updGq x.1 (f x.1)) b

/-- Share set e comes into use (R203, R216 to R218): computed now where it was not before. -/
def Blk.adoptShares (b : Blk) (e : Nat) : Blk :=
  let n := match b.gey.next with
    | some n => if n.epoch = e then n else b.shareSet e
    | none => b.shareSet e
  let b := b.mapQueues (fun _ x => { x with share := 0, used := 0 })
  let b := n.shares.foldl (fun b s => b.updGq s.1 (fun x => { x with share := s.2 })) b
  let b := b.mapQueues (fun _ x => { x with credit := min x.credit (16 * x.share) })
  { b with gey := { b.gey with fill := n.fill, shareEpoch := e, next := none } }

/-- Trees in the order of slot (m, p) (R209). -/
def Blk.slotTrees (b : Blk) (m p : Nat) : List Nat :=
  ((List.range 64).map (fun i => (8 * m + p + i) % 64)).filter (fun t => decide (t < Part.trees b.sys.part))

/-- Whether this chip places the grants of map frame m: one in service, or a newcomer from frame 8J + 2 on (R420, R425). -/
def Blk.places (b : Blk) (m : Nat) : Bool :=
  b.lit || (b.pair.role == .joining && b.pair.joinAt.any (fun j => decide (8 * j + 2 ≤ m)))

/-- Slot (m, p): consumes what is due, holds or adopts a share set, adds the credit and places every tree (R202, R203,
R205, R218); the time unit's filtered offset is held at slot (8N − 1, 0) (R368). A chip that is not in service places nothing (R420). -/
def Blk.slotRun (b : Blk) (m p : Nat) : Blk :=
  let upto := dueBefore m p
  let b := Blk.consumeDue (upto - b.gey.consume) upto b
  let b := if p = 0 ∧ m % 8 = 1 then b.snapshotShares (m / 8) else b
  let b := if p = 0 ∧ m % 8 = 2 then b.adoptShares (m / 8) else b
  let b := if p = 0 ∧ m % 8 = 7 then { b with tim := { b.tim with sampled := b.tim.filtered } } else b
  let b := b.mapQueues (fun _ x => x.accrue)
  let b := if b.places m then (b.slotTrees m p).foldl (fun b t => b.placeTree m p t) b else b
  { b with gey := { b.gey with slot := if p = 7 then (m + 1, 0) else (m, p + 1) } }

/-- PLACEMENT_SLOT (R202, R217): the next slot of the map of the frame to come, if one remains. -/
def execPlacementSlot (s : State) : Host.Outcome State Fault Refusal :=
  s.svc (fun b =>
    if b.clk.fc < b.gey.slot.1 then b
    else if b.gey.slot.1 = b.clk.fc then b.slotRun b.clk.fc b.gey.slot.2
    else b.slotRun b.clk.fc 0)

end Sys2Proof.Machine
end

