-- ==== Sys2Proof/Machine/Burst.lean ====
section
/-! DEFINITION. Upstream (03): bursts from their delimiter to the SDUs they complete, missed bursts, and the markers that
close a grant phase. -/
namespace Sys2Proof.Machine

/-- Counts on a tree and on the terminal (R133). -/
def Blk.countLine (b : Blk) (t g : Nat) (treeCtr termCtr n : Nat) : Blk := (b.countN 0x11 treeCtr t n).countN 0x12 termCtr g n

/-! ### Missed bursts (R119, R121, R171) -/

/-- The half-width of a grant's delimiter window in bits (R119, R169). -/
def Grant.window (g : Grant) : Nat :=
  match g.purpose with
  | .firstRange => 64
  | .hold => 64
  | .rerange => 1024
  | _ => 16

/-- Whether a burst is expected for a grant: its map has been sent, it is still open, and it is a data or ranging grant
(R121). -/
def Blk.expects (b : Blk) (g : Grant) : Bool :=
  decide (g.mapFrame < b.clk.fc) && g.outcome == .pending && g.purpose != .micro && g.purpose != .quiet

/-- Whether a tree takes upstream light: fitted, RX_ON, in service, and not on chip B while it acquires (R134, R182). -/
def Blk.receives (b : Blk) (t : Nat) : Bool :=
  let x := b.tree t
  decide (t < Part.trees b.sys.part) && x.rxOn && !x.stopped && !(b.chipB && x.skewState == .acquiring)

/-- The terminal of a grant missed a burst (R121, R181). -/
def Term.missed (x : Term) : Term := { x with lobRun := x.lobRun + 1, lobOk := 0 }

/-- A burst of a grant did not come, or was lost where it was received: its grant closes as missed (R15, R121, R133, R171). -/
def Blk.burstLost (b : Blk) (g : Grant) : Blk :=
  let id := gid g.tree g.term
  let b := b.updGrant g.tree g.uf g.start (fun g => { g with outcome := .missed })
  let b := b.countLine g.tree id 3 0 1
  let b := b.updTree g.tree (fun x => { x with expected := true })
  let b := b.updTerm id Term.missed
  let b := if g.discovery then
      (let b := b.count 0x31 6 g.tree
       if b.pair.reference then b.rangeMissed g.tree g.term else b)
    else b
  let x := b.term id
  if x.lob && x.state == .active && !x.dg && !x.reranging && decide ((b.tree g.tree).defects.lobSet ≤ x.lobRun) then
    b.startRerange g.tree g.term
  else b

/-- A burst of a grant is missed: no delimiter qualified (R119). -/
def Blk.burstMissed (b : Blk) (g : Grant) : Blk := (b.countLine g.tree (gid g.tree g.term) 5 2 1).burstLost g

/-- The grant that the protected tree of a local protection shares with the side that transmits (R151): both run one schedule. -/
def Blk.sharedGrant (b : Blk) (t uf start : Nat) : Option Grant :=
  let x := b.tree t
  if x.protect.scheme = 2 ∧ !x.transmits then b.grantAt x.protect.peer uf start else none

/-- What the protected side makes of a burst of the shared schedule: its own line, and nothing of the grant (R151). -/
def Blk.sharedBurst (b : Blk) (t : Nat) (found : Bool) : Blk :=
  let b := (b.count 0x11 3 t).count 0x11 (if found then 4 else 5) t
  b.updTree t (fun x => { x with expected := true, heard := x.heard || found })

/-- Whether the protected side expects a burst of the shared schedule. -/
def Blk.expectsShared (b : Blk) (g : Grant) : Bool :=
  decide (g.mapFrame < b.clk.fc) && g.outcome != .unsent && g.purpose != .quiet

/-- DELIMITER_WINDOW_CLOSE (R119): no delimiter qualified in the window of a burst. -/
def execDelimiterWindowClose (tree uf start : Nat) (s : State) : Host.Outcome State Fault Refusal :=
  s.svc (fun b =>
    match b.grantAt tree uf start with
    | some g => if b.receives tree && b.expects g then b.burstMissed g else b
    | none =>
      match b.sharedGrant tree uf start with
      | some g => if b.receives tree && b.expectsShared g then b.sharedBurst tree false else b
      | none => b)

/-! ### SDUs (R116, R318) -/

/-- Where an SDU lies: its burst, and what its stamp, place and times come from. -/
structure BurstAt where
  tree : Nat
  term : Nat
  qclass : Nat
  uf : Nat
  phase : Nat
  start : Nat
  toa : Int
  gen : Nat
  /-- The copy budget of the tree's input is reached (R304). -/
  spent : Bool

/-- The frame that an SDU becomes (R25, R317, R371). -/
def BurstAt.frame (x : BurstAt) (carrier endOff : Nat) (data : List Byte) (fcsLen : Nat) (toa : Int) (gen : Nat) : Frame := {
  data := data, fcsLen := fcsLen, input := x.tree, flow := x.tree * 65536 + carrier, terminal := gid x.tree x.term,
  stamp := x.uf / 8, toa := toa, gen := gen, order := [x.uf, x.phase, x.tree, x.start, endOff], source := x.tree }

/-- An SDU that is whole goes by the purpose of its carrier (R116, R318): data to the parser, an endpoint message to the endpoint
queue, a management message to the terminal management service. On the protected side of a local protection nothing is forwarded
(R151). -/
def Blk.deliverSdu (b : Blk) (x : BurstAt) (carrier endOff : Nat) (sdu : List Byte) (toa : Int) (gen : Nat) : Blk :=
  let flow := x.tree * 65536 + carrier
  let tr := b.tree x.tree
  if tr.protect.scheme = 2 ∧ !tr.transmits then b
  else
    match (b.carrierAt (x.uf / 8) flow).purpose with
    | 1 =>
      if fcsGood sdu then
        let data := sdu.take (sdu.length - 4)
        let b := (b.updCircuit flow (fun c => c.arriveUp (slotOf x.uf x.phase) data)).countIn x.tree sdu.length
        b.toParser 0 (x.frame carrier endOff data 4 toa gen)
      else b.count 0x11 18 x.tree
    | 2 =>
      let f := x.frame carrier endOff sdu 0 toa gen
      let r := ((b.countIn x.tree sdu.length).plainCopies f x.spent).admitFlag endpointQueue f
      if r.2 then r.1
      else if sdu.length < 16 then r.1.countDir 12 66 0 1
      else r.1.countEp 12 (bits (beNat (sdu.take 16)) 119 95)
    | 3 => { b with tum := { b.tum with mgmtIn := b.tum.mgmtIn ++ [(gid x.tree x.term, sdu, x.uf / 8)] } }
    | _ => b.count 0x71 0 x.tree

/-! ### Fragments (R101 to R107, R116) -/

/-- The fields of a fragment header (R101). -/
structure FragHead where
  carrier : Nat
  len : Nat
  first : Bool
  fin : Nat
  key : Nat
  seq : Nat
  deriving DecidableEq, Repr

/-- A fragment header from its 8 bytes. -/
def FragHead.ofBytes (l : List Byte) : FragHead :=
  let w := beNat (l.take 8)
  { carrier := bits w 63 48, len := bits w 47 34, first := bit w 33, fin := bits w 32 31, key := bits w 30 29,
    seq := bits w 28 8 }

/-- The 8 bytes of a fragment header, HEC included (R101, R102). -/
def FragHead.bytes (h : FragHead) : List Byte :=
  let l := toBe (pack [(h.carrier % 65536, 40), (h.len % 16384, 26), (b2n h.first, 25), (h.fin % 4, 23), (h.key % 4, 21),
    (h.seq % 2 ^ 21, 0)]) 7
  l ++ [BitVec.ofNat 8 (crc8 l)]

/-- A fragment that is accepted: its payload joins the SDU that is `opened`, where that is one of the same terminal and queue class,
or begins one (R116). A fragment that follows a gap, or continues nothing, is not kept, but its SEQ is the last accepted (R105,
R106). -/
def Blk.joinFragment (b : Blk) (x : BurstAt) (h : FragHead) (payload : List Byte) (endOff : Nat) (opened : Bool) : Blk :=
  let flow := x.tree * 65536 + h.carrier
  let none_ : Reasm := { terminal := x.term, qclass := x.qclass }
  let old := (Tab.get none (b.tree x.tree).reasm h.carrier).getD none_
  let same := old.terminal == x.term && old.qclass == x.qclass
  let now : Reasm :=
    if h.first then { none_ with data := payload, toa := x.toa, gen := x.gen }
    else { old with data := old.data ++ payload }
  let lives := h.first || (opened && same)
  let more := lives && h.fin == 0
  let kept : Reasm := if more then now else none_
  let b := b.updTree x.tree (fun t => { t with reasm := Tab.set none t.reasm h.carrier (some kept) })
  let b := b.updFlow flow (fun f => { f with upSeq := h.seq, upOpen := more, lastUp := x.uf / 8 })
  if !lives then b
  else if h.fin = 1 then b.deliverSdu x h.carrier endOff now.data now.toa now.gen
  else if h.fin = 2 then b.count 0x11 14 x.tree
  else b

/-- An SDU of a carrier on its way is dropped, with a byte lost (R87, R102): the SEQ last accepted stays held. -/
def Blk.dropSdu (b : Blk) (t carrier : Nat) : Blk :=
  (b.updTree t (fun x => { x with
    reasm := Tab.upd none x.reasm carrier (fun r => r.map (fun r => { r with data := [] })) })).updFlow (t * 65536 + carrier)
    (fun f => { f with upOpen := false })

/-- A fragment that was received whole (R105, R107, R116, R146, R260). -/
def Blk.takeFragment (b : Blk) (x : BurstAt) (h : FragHead) (payload : List Byte) (endOff : Nat) : Blk :=
  let flow := x.tree * 65536 + h.carrier
  match b.readFlow flow with
  | (b, none) => b
  | (b, some f) =>
    let held := (Tab.get none (b.tree x.tree).reasm h.carrier).isSome
    if (b.tree x.tree).mode ≠ .native then
      if held ∨ h.first then b.joinFragment x h payload endOff (held && f.upOpen) else b
    else if !held then (if h.first then b.joinFragment x h payload endOff false else b)
    else if h.seq = (f.upSeq + 1) % 2 ^ 21 then b.joinFragment x h payload endOff f.upOpen
    else (b.count 0x11 13 x.tree).joinFragment x h payload endOff false

/-- What the fragments of a burst came to: payload, idle and lost bytes (R228). -/
structure Taken where
  blk : Blk
  retired : Nat := 0
  unfilled : Nat := 0
  lost : Nat := 0

/-- Takes the fragments of a burst. `l` are the decoded data bytes from offset `pos` on, `total` the data bytes of the
burst: where `l` ends before them, delineation was lost (R87, R102, R103). -/
def Blk.takeFragments (x : BurstAt) (total : Nat) : Nat → List Byte → Nat → Taken → Taken
  | 0, _, _, a => a
  | n + 1, l, pos, a =>
    let gone := total - (pos + l.length)
    if l.length < 8 then
      if gone = 0 then { a with unfilled := a.unfilled + l.length } else { a with lost := gone }
    else if crc8 (l.take 7) ≠ (l.getD 7 0).toNat then
      { a with blk := a.blk.countLine x.tree (gid x.tree x.term) 12 9 1, lost := total - pos }
    else
      let h := FragHead.ofBytes l
      let body := l.drop 8
      if h.fin = 3 then
        if h.len ≤ body.length then
          Blk.takeFragments x total n (body.drop h.len) (pos + 8 + h.len) { a with unfilled := a.unfilled + 8 + h.len }
        else { a with unfilled := a.unfilled + l.length, lost := gone }
      else if h.len ≤ body.length then
        let a := { a with blk := a.blk.takeFragment x h (body.take h.len) (pos + 8 + h.len), retired := a.retired + h.len }
        Blk.takeFragments x total n (body.drop h.len) (pos + 8 + h.len) a
      else { a with blk := a.blk.dropSdu x.tree h.carrier, retired := a.retired + body.length, lost := gone }

/-! ### The burst header, reports and control messages (R112 to R114, R121, R126, R171, R175) -/

/-- Whether a burst header passes R113 against its grant: its CRC, then what it names. -/
def headerCheck (g : Grant) (native : Bool) (l : List Byte) : Bool × Bool :=
  let w := beNat (l.take 16)
  (crc16 (l.take 14) == bits w 15 0,
   bits w 127 119 == g.term && bits w 118 117 == g.qclass
   && (!native || (bits w 116 105 == g.tag && bits w 71 64 == g.mapFrame % 256)))

/-- The persistence filter of SR_UP (R126, R128). -/
def Blk.takeSr (b : Blk) (t id code : Nat) : Blk :=
  let x := b.term id
  if 9 ≤ code then b.updTerm id (fun x => { x with srCount := 0 })
  else
    let n := if x.srCand = code ∧ x.srCount ≠ 0 then min 3 (x.srCount + 1) else 1
    let b := b.updTerm id (fun x => { x with srCand := code, srCount := n })
    if n = 3 ∧ x.srUp ≠ code then (b.updTerm id (fun x => { x with srUp := code })).count 0x11 16 t else b

/-- The terminal after a burst that passed R113 (R121, R136). -/
def Term.passed (x : Term) (dg waveA waveB : Bool) : Term :=
  { x with
    lcdOk := x.lcdOk + 1, lcdRun := 0, dgSeen := x.dgSeen || dg, dgOk := if dg then 0 else x.dgOk + 1, waveA := waveA,
    waveB := waveB }

/-- The terminal after a burst that was discarded under R113, which also ends a run of bursts with DG 0 (R121). -/
def Term.failed (x : Term) : Term := { x with lcdRun := x.lcdRun + 1, lcdOk := 0, dgOk := 0 }

/-- The terminal after a burst whose delimiter was accepted (R121). -/
def Term.heard (x : Term) : Term := { x with lobOk := x.lobOk + 1, lobRun := 0 }

/-- What the ranging controller takes of an accepted burst, `delta` bits after the prediction (R171, R178). -/
def Term.measured (x : Term) (uf epoch : Nat) (delta : Int) : Term :=
  let excluded := match x.eqdApply with
    | some a => decide (uf < a)
    | none => false
  let x := { x with lastBurst := epoch }
  if x.state == .active && !excluded then { x with muSum := x.muSum + delta, muCount := x.muCount + 1 } else x

/-- The four reports of a report block (R114). -/
def reportsOf (l : List Byte) : List (Nat × Nat) :=
  (List.range 4).map (fun i =>
    let w := beNat ((l.drop (4 * i)).take 4)
    (bits w 31 8, bits w 7 0))

/-- The report that the DBRu of an allocation stands for (R141): BufOcc, in units of 4 bytes, and the CRC-8 of the recommendation. -/
def dbruOf (l : List Byte) : Option (Nat × Nat) :=
  if crc8 (l.take 3) = (l.getD 3 0).toNat then some (min (ceilDiv (4 * beNat (l.take 3)) 16) 0xFFFFFF, 0) else none

/-- Adds a report block to its tree's part of the batch. -/
def Blk.addReport (b : Blk) (t uf phase : Nat) (r : ReportItem) : Blk :=
  let l := b.gey.parts
  let mine := fun (p : BatchPart) => p.tree == t && p.uf == uf && p.phase == phase && p.own == !b.ownBatch uf
  let parts := if l.any mine then l.map (fun p => if mine p then { p with reports := p.reports ++ [r] } else p)
    else l ++ [{ tree := t, uf := uf, phase := phase, reports := [r], own := !b.ownBatch uf }]
  { b with gey := { b.gey with parts := parts } }

/-- Whether the 48 bytes of a control message pass their check: MSG_CRC, and on a standard tree the PLOAM integrity check over the 40
bytes before it (R96, R143). -/
def messageGood (m : List Byte) (native : Bool) (id : Nat) : Bool :=
  if native then crc16 (m.take 46) == beNat (m.drop 46) else Config.ploamMic id (m.take 40) == m.drop 40

/-- The control message of a burst (R175): SN_REPORT and ACK. One whose check fails is not used. Whether it brought
an SN_REPORT. -/
def Blk.takeMessage (b : Blk) (g : Grant) (l : List Byte) : Blk × Bool :=
  let m := l.take 48
  if !messageGood m ((b.tree g.tree).mode == .native) (gid g.tree g.term) || !b.pair.reference then (b, false)
  else
    let note := fun (v : Nat) => b.updGrant g.tree g.uf g.start (fun g => { g with message := some ((m.getD 2 0).toNat, v) })
    match (m.getD 2 0).toNat with
    | 0x81 => ((note (beNat ((m.drop 4).take 8))).snReport g.tree g.term (beNat ((m.drop 4).take 8)) g.uf, true)
    | 0x82 =>
      ((note (beNat ((m.drop 4).take 2))).ackReport g.tree g.term (m.getD 4 0).toNat (m.getD 5 0).toNat, false)
    | _ => (b, false)

/-! ### UPSTREAM_BURST (R113, R119, R120) -/

/-- The data bytes of a burst: decoded up to the first uncorrectable codeword, with every codeword counted (R87, R133). -/
structure Decoded where
  usable : List Byte
  total : Nat
  words : Nat
  corrected : Nat
  symbols : Nat
  uncorr : Nat
  received : Nat

/-- Decodes the codewords of a burst. -/
def decodeBurst (seed : Nat) (l : List Byte) : Decoded :=
  let ws := (cutWords l.length (scramble seed l)).map decodeWord
  let good := ws.takeWhile (fun w => w.result.isSome)
  let fixed := ws.filterMap (fun w => w.result.map Prod.snd)
  { usable := good.flatMap (fun w => (w.result.map Prod.fst).getD []), total := (ws.map (fun w => w.bytes)).sum,
    words := ws.length, corrected := (fixed.filter (· != 0)).length, symbols := fixed.sum,
    uncorr := (ws.filter (fun w => w.result.isNone)).length, received := (ws.map (fun w => w.symbols)).sum }

/-- The codewords of a burst as the tree, the terminal and its SF and SD see them (R121, R133). -/
def Blk.countWords (b : Blk) (t id : Nat) (d : Decoded) : Blk :=
  let b := (((b.countLine t id 8 5 d.words).countLine t id 9 6 d.corrected).countLine t id 10 7 d.symbols).countLine
    t id 11 8 d.uncorr
  b.updTerm id (fun x => { x with
    uncorr := x.uncorr || decide (0 < d.uncorr),
    sdHist := match x.sdHist with
      | [] => [(d.symbols, d.received)]
      | (c, n) :: r => (c + d.symbols, n + d.received) :: r })

/-- The reports of a passing burst go to Geyser (R114, R141, R210): a native block of four, or the DBRu of the queue that a standard
allocation serves. A word that fails its check code takes the reports with it, at Geyser's island (R13). -/
def Blk.sendReport (b : Blk) (g : Grant) (phase : Nat) (l : List Byte) (native checkFail : Bool) : Blk :=
  let send := fun (qs : List (Nat × Nat)) (cls : Option Nat) =>
    if checkFail then b.checkFail 65
    else b.addReport g.tree g.uf phase { term := g.term, start := g.start, queues := qs, only := cls }
  if native then send (reportsOf l) none
  else
    match dbruOf l with
    | some r => send [r] (some g.qclass)
    | none => b

/-- A burst whose header passed: its report, its message and its fragments. -/
def Blk.burstPassed (b : Blk) (g : Grant) (x : BurstAt) (d : Decoded) (delta : Int) (native checkFail : Bool) : Blk :=
  let id := gid g.tree g.term
  let w := beNat (d.usable.take 16)
  let b := b.updTerm id (fun t => t.passed (bit w 86) (native && bit w 85) (native && bit w 84))
  let b := if native then b.takeSr g.tree id (bits w 104 101) else b
  let rest := d.usable.drop 16
  let size := if native then 16 else 4
  let b := if bit w 88 ∧ size ≤ rest.length then b.sendReport g x.phase rest native checkFail else b
  let rest := if bit w 88 then rest.drop size else rest
  let b := if g.discovery ∧ b.pair.reference then b.ranged g.tree g.term g.uf delta else b
  let m := if bit w 87 ∧ 48 ≤ rest.length then b.takeMessage g rest else (b, false)
  let b := if g.discovery && !m.2 && m.1.pair.reference then m.1.rangeMissed g.tree g.term else m.1
  let b := if !native && b.pair.reference && (b.term id).state == .activating then b.becomeActive g.tree g.term else b
  let rest := if bit w 87 then rest.drop 48 else rest
  let a := Blk.takeFragments x d.total (rest.length + 1) rest (d.usable.length - rest.length) { blk := b }
  a.blk.updGrant g.tree g.uf g.start (fun g => { g with outcome := .received a.retired a.unfilled a.lost })

/-- The bytes of a burst up to its end at LENGTH (R109, R111): light that is missing there reads as 0. -/
def burstBytes (length : Nat) (l : List Byte) : List Byte := (l ++ List.replicate (length - 200 - l.length) 0).take (length - 200)

/-- A burst whose delimiter was accepted (R113). On a standard tree the recommendation's FEC and scrambling are taken as
undone, what the FEC found is counted like a native burst's, and the burst is in the native layout, but for its DBRu. -/
def Blk.burstTaken (b : Blk) (g : Grant) (r : RxBurst) (delta : Int) : Blk :=
  let native := (b.tree g.tree).mode == .native
  let id := gid g.tree g.term
  let x : BurstAt := {
    tree := g.tree, term := g.term, qclass := g.qclass, uf := g.uf, phase := g.start / phaseLen (b.tree g.tree).mode,
    start := g.start, toa := b.stampedTime (r.toa + (b.tree g.tree).mode.rxBall), gen := b.tim.gen, spent := r.spent }
  let b := (b.countLine g.tree id 3 0 1).countLine g.tree id 4 1 1
  let b := b.updTree g.tree (fun t => { t with expected := true, heard := true })
  let b := (b.updTerm id Term.heard).updGrant g.tree g.uf g.start (fun g => { g with delta := some delta })
  let b := if b.pair.reference then b.updTerm id (fun t => t.measured g.uf b.clk.epoch delta) else b
  let bad := fun (b : Blk) =>
    let b := (b.updTerm id Term.failed).updGrant g.tree g.uf g.start (fun g => { g with outcome := .bad })
    if g.discovery && b.pair.reference then b.rangeMissed g.tree g.term else b
  let d : Decoded := if native then decodeBurst (burstSeed g.tag g.term g.uf) (burstBytes g.length r.bytes)
    else {
      usable := r.bytes, total := r.bytes.length + r.fec.lost, words := r.fec.words, corrected := r.fec.corrected,
      symbols := r.fec.symbols, uncorr := r.fec.uncorr, received := r.fec.received }
  let b := b.countWords g.tree id d
  if d.usable.length < 16 then bad b
  else
    let c := headerCheck g native d.usable
    if !c.1 then bad (b.countLine g.tree id 6 3 1)
    else if !c.2 then bad (b.countLine g.tree id 7 4 1)
    else b.burstPassed g x d delta native r.checkFail

/-- A serial-number response in the quiet window of a standard tree (R171, R188): the lowest FREE index is held at the
round trip measured, and the response stands for SN_REPORT. -/
def Blk.quietResponse (b : Blk) (g : Grant) (r : RxBurst) : Blk :=
  let l := r.bytes
  let w := beNat (l.take 16)
  let msg := if bit w 88 then l.drop 20 else l.drop 16
  if crc16 (l.take 14) ≠ bits w 15 0 ∨ !bit w 87 ∨ !b.pair.reference ∨ !(b.tree g.tree).discNow.holds r.firstBit then b
  else
    match b.findSerial g.tree 0 [.free] with
    | none => b.count 0x31 4 g.tree
    | some i =>
      let b := b.updTerm (gid g.tree i) (fun x => { x.rest .held with
        serial := 0, rtd := r.firstBit.toNat, eqdUse := eightFrames - r.firstBit.toNat, heldFrom := b.clk.epoch })
      (b.takeMessage { g with term := i } msg).1.sendBatch g.tree (slotOf g.uf (g.start / phaseLen (b.tree g.tree).mode))
        [[5, r.firstBit.toNat, beNat ((msg.drop 4).take 8)]]

/-- UPSTREAM_BURST (R113, R119, R120): light in the window of a burst that is expected. Where no delimiter qualifies, the
burst is missed; where the receive point has no room it is lost (R15). The protected side of a local protection takes the bursts of the
schedule that it shares for its own line alone (R151). -/
def execUpstreamBurst (burst : RxBurst) (s : State) : Host.Outcome State Fault Refusal :=
  s.svc (fun b =>
    let found := fun (w : Nat) =>
      if (b.tree burst.tree).mode = .native then findDelimiter burst.searchBits burst.bitsLen burst.firstBit w
      else if burst.firstBit.natAbs ≤ w then some burst.firstBit
      else none
    match b.grantAt burst.tree burst.uf burst.start with
    | none =>
      match b.sharedGrant burst.tree burst.uf burst.start with
      | some g =>
        if b.receives burst.tree && b.expectsShared g then b.sharedBurst burst.tree (found g.window).isSome else b
      | none => b
    | some g =>
      if b.receives burst.tree && g.purpose == .quiet && decide (g.mapFrame < b.clk.fc) then b.quietResponse g burst
      else if !(b.receives burst.tree && b.expects g) then b
      else if burst.overrun then (b.count 0x11 17 burst.tree).burstLost g
      else
        match found g.window with
        | some delta => b.burstTaken g burst delta
        | none => b.burstMissed g)

/-! ### PHASE_END_MARKER (R16, R121, R186, R187, R206) -/

/-- A terminal as its tree island and the ranging controller put it into a batch: its state, LOB and DG, and what it asks for
(R206). While LOB is set, data grants wait for the EqD of a re-ranging (R181). -/
def Term.view (x : Term) (state : IdxState) (lob dg : Bool) : TermView := {
  state := state, lob := lob, dg := dg,
  dataFrom := if state ≠ .active then none else if !lob then some 0 else if x.reranging || dg then none else x.eqdApply,
  range := if state = .held then x.nextRange.map (fun r => (r, x.snFrom.isSome)) else none,
  rerange := if state = .active ∧ x.reranging ∧ !dg then some x.rerangeSlow else none }

/-- The terminals of a tree whose view has changed since it was last put into a batch that Geyser takes; `view` gives the view of an
index (R206). -/
def Blk.changedViews (b : Blk) (t : Nat) (view : Nat → TermView) : List (Nat × TermView) :=
  ((List.range 512).map (fun i => (i, view i))).filter (fun v => Tab.get {} b.gey.sent (gid t v.1) != v.2)

/-- The view of an index by this chip's own line. -/
def Blk.ownView (b : Blk) (t i : Nat) : TermView :=
  let x := b.term (gid t i)
  x.view x.state x.lob x.dg

/-- Notes the views that a batch carries. -/
def Blk.noteViews (b : Blk) (t : Nat) (l : List (Nat × TermView)) : Blk :=
  { b with gey := { b.gey with sent := l.foldl (fun a v => Tab.set {} a (gid t v.1) v.2) b.gey.sent } }

/-- Whether a grant's burst triggers the RSSI sample (R187). -/
def Blk.rssiBurst (b : Blk) (g : Grant) : Bool :=
  match g.purpose with
  | .micro => false
  | .quiet => false
  | _ =>
    let every := (b.tree g.tree).skew.rssiEvery
    let n := g.uf / 8
    if g.discovery then true
    else decide (490 ≤ g.length) && every != 0 && (n + 512 * every - g.term) % every == 0
      && (b.term (gid g.tree g.term)).rssiEpoch != some n

/-- The optics around a burst or a window (R186, R187): ball 1 is OPT_RXRST, ball 2 OPT_RSSI. -/
def Blk.optics (b : Blk) (g : Grant) : Blk :=
  let b := b.emit (.pulse 1 g.tree)
  if b.rssiBurst g then
    let b := b.updTree g.tree (fun x => { x with rssiTerminal := g.term, rssiUf := g.uf })
    let b := if g.discovery then b
      else b.updTerm (gid g.tree g.term) (fun x => { x with rssiEpoch := some (g.uf / 8) })
    b.emit (.pulse 2 g.tree)
  else b

/-- LOS_T's integration at the end of an upstream frame (R121): a frame in which no burst was expected ends both runs. -/
def Tree.losFrame (x : Tree) : Tree :=
  let x := if x.expected then
      (if x.heard then { x with losOk := x.losOk + 1, losRun := 0 } else { x with losRun := x.losRun + 1, losOk := 0 })
    else { x with losOk := 0, losRun := 0 }
  { x with expected := false, heard := false }

/-- The changed terminals of a tree, and the part of the batch that its marker closes (R206). -/
def Blk.closePart (b : Blk) (t uf phase : Nat) : Blk :=
  let changed := b.changedViews t (b.ownView t)
  let mine := fun (p : BatchPart) => p.tree == t && p.uf == uf && p.phase == phase && p.own == !b.ownBatch uf
  let l := b.gey.parts
  let parts := if l.any mine then l.map (fun p => if mine p then { p with marked := true, views := changed } else p)
    else l ++ [{ tree := t, uf := uf, phase := phase, marked := true, views := changed, own := !b.ownBatch uf }]
  let b := { b with gey := { b.gey with parts := parts } }
  if b.ownBatch uf then b.noteViews t changed else b

/-- How a burst ended, as a batch tells it. -/
def GrantEnd.nums (e : GrantEnd) : List Nat :=
  match e with
  | .received a u l => [0, a, u, l]
  | .bad => [1, 0, 0, 0]
  | .missed => [2, 0, 0, 0]
  | _ => [3, 0, 0, 0]

/-- What the batch of a phase of a tree says: reports, outcomes with what was measured, and changed views (R177, R206). -/
def Blk.batchItems (b : Blk) (t uf phase : Nat) : List (List Nat) :=
  let len := phaseLen (b.tree t).mode
  let part := b.gey.parts.find? (fun p => p.tree == t && p.uf == uf && p.phase == phase && p.own == !b.ownBatch uf)
  let reports := ((part.map (fun p => p.reports)).getD []).map (fun r =>
    1 :: r.term :: r.start :: r.queues.flatMap (fun q => [q.1, q.2]))
  let ends := (b.gey.grants.filter (fun g => g.tree == t && g.uf == uf && g.start / len == phase)).map (fun g =>
    [2, g.start] ++ g.outcome.nums ++ [b2n g.delta.isSome, unsign (g.delta.getD 0) 64]
      ++ (g.message.map (fun m => [m.1, m.2])).getD [0, 0])
  let views := ((part.map (fun p => p.views)).getD []).map (fun v => [3, v.1, v.2.state.code, b2n v.2.lob, b2n v.2.dg])
  reports ++ ends ++ views

/-- PHASE_END_MARKER (R16): a tree island ends an upstream phase. Its marker closes its part of Geyser's batch and of the
directory's; a marker whose batch has been consumed is discarded (R207, R246). -/
def execPhaseEndMarker (tree uf phase : Nat) (s : State) : Host.Outcome State Fault Refusal :=
  s.svc (fun b =>
    if tree ≥ Part.trees b.sys.part ∨ (b.tree tree).stopped ∨ 8 ≤ phase ∨ b.clk.fc ≤ uf then b
    else
      let slot := slotOf uf phase
      let done := b.gey.parts.any (fun p =>
          p.tree == tree && p.uf == uf && p.phase == phase && p.marked && p.own == !b.ownBatch uf)
        || b.marked tree slot
      if done then b
      else
        let len := phaseLen (b.tree tree).mode
        let b := if (b.tree tree).rxOn then
            (b.gey.grants.filter (fun g => g.tree == tree && g.uf == uf && g.start / len == phase
              && decide (g.mapFrame < b.clk.fc) && g.outcome != .unsent)).foldl (fun b g => b.optics g) b
          else b
        let b := if phase = 7 then b.updTree tree Tree.losFrame else b
        let b := if b.gey.consume ≤ slot then b.closePart tree uf phase else b
        let b := b.sendBatch tree slot (b.batchItems tree uf phase)
        if b.dir.next ≤ slot then { b with dir := { b.dir with markers := b.dir.markers ++ [(tree, slot)] } } else b)

end Sys2Proof.Machine
end

