-- ==== Sys2Proof/Machine/PageData.lean ====
section
/-! DEFINITION. What the pages of items 0x01 to 0x04 hold (R423): the manual names the content and gives it no layout, so what a
page installs is uninterpreted. Each constant takes the page's number within its item and its data; one that gives a table takes
also the table as it stood before the page, since an item may have several pages. Log 100. -/
namespace Sys2Proof.Config

open Sys2Proof.Machine

/-- Pages of items 0x01 to 0x04 after the first, by item. -/
opaque morePages : Nat → Nat

/-- Item 0x01: tenant ownership. -/
opaque pageOwners : Nat → List Byte → Vers Owners → Vers Owners

/-- Item 0x01: the tenant load keys, wrapped. -/
opaque pageLoadKeys : Nat → List Byte → Tab (List Byte) → Tab (List Byte)

/-- Item 0x01: the check configuration of every block. -/
opaque pageBlocks : Nat → List Byte → Tab BlockCfg → Tab BlockCfg

/-- Item 0x02: grant queue configuration and circuit reservations. -/
opaque pageGeyser : Nat → List Byte → Vers GeyCfg → Vers GeyCfg

/-- Item 0x02: the configuration of the switch core, with mirrors, samplers and the mapping of carriers. -/
opaque pageSwitch : Nat → List Byte → Vers SwCfg → Vers SwCfg

/-- Item 0x02: parse graph, rules and hash indirection. -/
opaque pageClassify : Nat → List Byte → Vers ClsCfg → Vers ClsCfg

/-- Item 0x02: the configuration of the time unit. -/
opaque pageTime : Nat → List Byte → Vers TimeCfg → Vers TimeCfg

/-- Item 0x02: the cipher selection of the carriers. -/
opaque pageCiphers : Nat → List Byte → Vers (Tab CipherCfg) → Vers (Tab CipherCfg)

/-- Item 0x02: the handler tables. -/
opaque pageHandlers : Nat → List Byte → Vers (Tab (List Nat)) → Vers (Tab (List Nat))

/-- Item 0x02: DISCOVERY_CONFIG of a tree. -/
opaque pageDiscovery : Nat → List Byte → Nat → Vers DiscCfg → Vers DiscCfg

/-- Item 0x02: the version staged, as the commands that make it, each with its apply-epoch. -/
opaque pageStaged : Nat → List Byte → List (Nat × Instr)

/-- Item 0x03: terminal indices, by global terminal ID. -/
opaque pageTerms : Nat → List Byte → List (Nat × Term)

/-- Item 0x04: carriers of the key store, by flow index. -/
opaque pageCarriers : Nat → List Byte → List (Nat × CarrierKeys)

end Sys2Proof.Config
end

