-- ==== Sys2Proof/Machine/Downstream.lean ====
section
/-! DEFINITION. Downstream (03, 05, 10, 11): control messages, grant maps, fragments and the frame that every tree sends at
a frame tick. -/
namespace Sys2Proof.Machine

/-! ### Control messages (R96, R175, R176) -/

/-- The 48 bytes of a control message (R96). `content` is CONTENT as a number. -/
def ctlBytes (bcast : Bool) (term type seq content : Nat) : List Byte :=
  let l := toBe (pack [(b2n bcast, 367), (term % 512, 352), (type % 256, 344), (seq % 256, 336), (content % 2 ^ 336, 0)]) 46
  l ++ toBe (crc16 l) 2

/-- The control messages of a frame in the making, in the order sent. -/
structure Mail where
  blk : Blk
  out : List (List Byte) := []

/-- Adds a broadcast (R96). -/
def Mail.bcast (m : Mail) (t type content : Nat) : Mail :=
  let seq := (m.blk.tree t).bcastSeq
  { blk := m.blk.updTree t (fun x => { x with bcastSeq := seq + 1 }),
    out := m.out ++ [ctlBytes true 0 type seq.toNat content] }

/-- Adds a message to a terminal index (R96). -/
def Mail.send (m : Mail) (t idx type content : Nat) : Mail :=
  let seq := (m.blk.term (gid t idx)).msgSeq
  { blk := m.blk.updTerm (gid t idx) (fun x => { x with msgSeq := seq + 1 }),
    out := m.out ++ [ctlBytes false idx type seq.toNat content] }

/-- DN_SKEW and DN_SKEW_VALID: sent once chip B tracks, which chip A learns from it (R183). -/
def Blk.dnSkew (b : Blk) (t : Nat) : Nat × Bool :=
  let x := b.tree t
  let st := if b.wave then x.skewState else x.otherSkew
  if b.joined && (st == .tracking || st == .beyond) then (unsign (x.upSkew + x.skew.dnDisp) 24, true) else (0, false)

/-- DISC_CYCLE, in the eight frames before a cycle, or with NO_CYCLE where none runs (R162). -/
def Mail.discCycle (m : Mail) (t fc : Nat) : Mail :=
  let d := (m.blk.tree t).discNow
  let n := 128 * d.every
  let next := (fc / n + 1) * n
  let skew := m.blk.dnSkew t
  let tail := skew.1 * 2 ^ 212 + b2n skew.2 * 2 ^ 211
  if d.every = 0 then
    (if fc % 1024 = 0 then m.bcast t 1 (tail + 2 ^ 210) else m)
  else if next - fc ≤ 8 then
    m.bcast t 1 (pack [
      (next % 2 ^ 64, 272), (97200 * d.winPhase + 64, 252), (d.probeTarget % 256, 244), (d.dnLaunch % 256, 236)] + tail)
  else m

/-- The place of a ranging message among those of a frame (R176). -/
def Ctl.rank (x : Ctl × Nat) : Option (List Nat) :=
  match x.1 with
  | .deactivate i _ _ _ => some [1, i, x.2]
  | .activate i _ _ => some [2, i, x.2]
  | .probeAck _ _ _ _ => some [3, x.2]
  | .eqdSet i _ => some [4, i, x.2]
  | _ => none

/-- Whether a GRID_SHIFT is pending on a tree (R422). -/
def Tree.shifting (x : Tree) : Bool := x.ctl.any (fun c => match c with
  | .gridShift _ _ _ => true
  | _ => false)

/-- The first grant after a PROBE_ACK that the map of a frame holds (R168). -/
def Blk.firstGrant (b : Blk) (t idx fc : Nat) : Option Grant :=
  b.gey.grants.find? (fun g => g.tree == t && g.mapFrame == fc && g.term == idx && g.purpose == .firstRange
    && g.outcome == .pending)

/-- Sends a ranging message, if it can go in frame fc; otherwise it waits, or is dropped with its cause. What is put back
into the queue comes second. -/
def Mail.ranging (m : Mail) (t fc : Nat) (room : Bool) (c : Ctl) : Mail × List Ctl :=
  let b := m.blk
  let lead := (b.tree t).mapLead
  match c with
  | .deactivate i reason backoff left =>
    if !room then (m, [c])
    else (m.send t i 5 (pack [(reason % 256, 328), (backoff % 256, 320)]),
          if 1 < left then [.deactivate i reason backoff (left - 1)] else [])
  | .activate p serial target =>
    let x := b.term (gid t target)
    if x.state != .activating then (m, [])
    else if !room then (m, [c])
    else
      let seq := (b.term (gid t p)).msgSeq.toNat
      let m := m.send t p 4 (pack [(serial % 2 ^ 64, 272), (target % 512, 263), ((eightFrames - x.rtd) % 2 ^ 26, 237),
        ((fc + lead) % 65536, 221)])
      ({ m with blk := m.blk.updTerm (gid t target) (fun x => { x with
          actSent := x.actSent + 1, actSeqs := seq :: x.actSeqs, actFrame := fc,
          eqdApply := some (x.eqdApply.getD (fc + lead)) }) }, [])
  | .probeAck cycle code i rtd =>
    if (b.term (gid t i)).state != .held then (m, [])
    else
      match b.firstGrant t i fc, room with
      | some g, true =>
        (m.bcast t 2 (pack [(cycle % 2 ^ 64, 272), (code % 16, 268), (i % 512, 259), (rtd % 2 ^ 26, 233), (g.uf % 65536, 217)]), [])
      | some _, false =>
        ({ m with blk := b.updTerm (gid t i) (fun x => { x with
            nextRange := some (fc + 1 + lead), rangeGrants := x.rangeGrants - 1 }) }, [c])
      | none, _ => (m, [c])
  | .eqdSet i eqd =>
    if (b.term (gid t i)).state != .active then (m, [])
    else if !room || (b.tree t).shifting then (m, [c])
    else
      let m := m.send t i 3 (pack [(eqd % 2 ^ 26, 310), ((fc + lead) % 65536, 294)])
      ({ m with blk := (m.blk.updTerm (gid t i) (fun x => { x with
          eqdUse := x.inUse fc, rtd := eightFrames - eqd, eqdApply := some (fc + lead) })).count 0x31 7 t }, [])
  | _ => (m, [c])

/-- The messages of R176, at most six: DISC_CYCLE, then the others by type and index. -/
def Mail.allRanging (m : Mail) (t fc : Nat) : Mail :=
  let q := (m.blk.tree t).ctl.zipIdx
  let mine := q.filter (fun x => (Ctl.rank x).isSome)
  let rest := (q.filter (fun x => (Ctl.rank x).isNone)).map Prod.fst
  let m := if (m.blk.tree t).mode == .native then m.discCycle t fc else m
  let r := (sortBy (fun x => (Ctl.rank x).getD []) mine).foldl (fun (a : Mail × List Ctl) x =>
    let y := a.1.ranging t fc (decide (a.1.out.length < 6)) x.1
    (y.1, a.2 ++ y.2)) (m, [])
  { r.1 with blk := r.1.blk.updTree t (fun x => { x with ctl := rest ++ r.2 }) }

/-- ACTIVATE goes again 8 frames after the last one, three times in all (R171). -/
def Blk.repeatActivate (b : Blk) (t fc : Nat) : Blk :=
  b.terms.foldl (fun b x =>
    let due := x.1 / 512 == t && x.2.state == .activating && decide (1 ≤ x.2.actSent) && decide (x.2.actSent < 3)
      && decide (x.2.actFrame + 8 ≤ fc)
    let waits := (b.tree t).ctl.any (fun c => match c with
      | .activate _ _ k => k == x.1 % 512
      | _ => false)
    if due && !waits then b.queueCtl t (.activate x.2.provIndex x.2.serial (x.1 % 512)) else b) b

/-- GRID_SHIFT, in three consecutive frames with one APPLY_UF (R422). -/
def Mail.gridShift (m : Mail) (t fc : Nat) : Mail :=
  let x := m.blk.tree t
  x.ctl.foldl (fun m c =>
    match c with
    | .gridShift v uf left =>
      if left = 0 then m
      else
        let uf := if left = 3 then fc + x.mapLead else uf
        let m := m.bcast t 0x20 (pack [(unsign v 16, 320), (uf % 65536, 304)])
        { m with blk := (m.blk.count 0xA1 0 t).updTree t (fun y => { y with
            ctl := y.ctl.map (fun d => if d == c then .gridShift v uf (left - 1) else d) }) }
    | _ => m) m

/-- A GRID_SHIFT whose APPLY_UF has come: the terminals' EqD has moved with the grid (R422). -/
def Blk.shiftDone (b : Blk) (t fc : Nat) : Blk :=
  (b.tree t).ctl.foldl (fun b c =>
    match c with
    | .gridShift v uf 0 =>
      if uf ≤ fc then
        let b := b.updTree t (fun x => { x with ctl := x.ctl.filter (· != c), rxSkew := x.rxSkew + v })
        (List.range 512).foldl (fun b i => b.updTerm (gid t i) (fun x =>
          if x.state == .free || x.state == .provisioned then x
          else { x with eqdUse := ((x.eqdUse : Int) + v).toNat, rtd := ((x.rtd : Int) - v).toNat })) b
      else b
    | _ => b) b

/-! ### KEY_SYNC (R345) -/

/-- Slot, KEY_GEN, and counter less SEQ of the next fragment of a carrier for a stamp; slot 0 in MODE 0. -/
def Blk.syncNow (b : Blk) (stamp flow : Nat) : Nat × Nat × Nat :=
  let c := b.cipherAt stamp flow
  let x := Tab.get {} b.dir.flows flow
  let off := (x.dnCounter + 2 ^ 64 - x.dnSeq) % 2 ^ 64
  if c.mode = 0 then (0, 0, off)
  else (c.slot, ((Tab.get none (b.carrier flow).slots c.slot).map StoredKey.gen).getD 0, off)

/-- Whether a carrier's next fragment must be announced: its offset, slot or generation is new (R345). -/
def Blk.needsSync (b : Blk) (stamp flow : Nat) : Bool :=
  let a := (b.carrier flow).announced
  if (b.cipherAt stamp flow).mode = 0 then a.isSome else a != some (b.syncNow stamp flow)

/-- The content of KEY_SYNC. -/
def Blk.keySync (b : Blk) (stamp flow : Nat) : Nat :=
  let c := b.cipherAt stamp flow
  let s := b.syncNow stamp flow
  let x := Tab.get {} b.dir.flows flow
  pack [(flow % 65536, 320), (s.1 % 4, 318), (c.mode % 4, 316), (s.2.1 % 2 ^ 31, 285), (x.dnSeq % 2 ^ 21, 264),
        (x.dnCounter % 2 ^ 64, 200)]

/-- Flows with an announcement on its way, carriers ascending. -/
def Tree.syncing (x : Tree) : List Nat :=
  (sortBy (fun (n : Nat) => [n]) (x.ctl.filterMap (fun c => match c with
    | .keySync f => some f
    | _ => none))).eraseDups

/-- Takes away one waiting copy of a KEY_SYNC. -/
def dropSync (flow : Nat) : List Ctl → List Ctl
  | [] => []
  | .keySync f :: r => if f = flow then r else .keySync f :: dropSync flow r
  | c :: r => c :: dropSync flow r

/-- Sends KEY_SYNC of a flow. -/
def Mail.keySync (m : Mail) (t flow stamp : Nat) : Mail :=
  let m := m.bcast t 0x10 (m.blk.keySync stamp flow)
  { m with blk := m.blk.count 0x81 2 t }

/-- The announcements of a frame: those on their way, and `new` ones with the stamp of their fragment, by carrier, as many as the
positions left allow and at most two (R345). -/
def Mail.announce (m : Mail) (t : Nat) (new : List (Nat × Nat)) : Mail :=
  let x := m.blk.tree t
  let running := (x.syncing.filter (fun f => !(new.map Prod.fst).contains f)).map (fun f => (f, m.blk.clk.epoch))
  let m := { m with blk := m.blk.updTree t (fun x => { x with
      ctl := (new.foldl (fun (l : List Ctl) (n : Nat × Nat) =>
        l.filter (· != Ctl.keySync n.1) ++ List.replicate 3 (Ctl.keySync n.1))
        x.ctl) }) }
  let m := { m with blk := new.foldl (fun b (n : Nat × Nat) => b.updCarrier n.1 (fun k => { k with
      announced := if (b.cipherAt n.2 n.1).mode = 0 then none else some (b.syncNow n.2 n.1) })) m.blk }
  ((sortBy (fun (n : Nat × Nat) => [n.1]) (running ++ new)).take (min (8 - m.out.length) 2)).foldl (fun m n =>
    let m := m.keySync t n.1 n.2
    { m with blk := m.blk.updTree t (fun x => { x with ctl := dropSync n.1 x.ctl }) }) m

/-- The refresh of KEY_SYNC: the next ciphered carrier after the last one sent (R345). -/
def Mail.refresh (m : Mail) (t : Nat) : Mail :=
  let b := m.blk
  let l := sortBy (fun (n : Nat) => [n]) (cipheredOn (Vers.cur [] b.cip.cfg) t)
  match (l.find? (fun f => decide ((b.tree t).keySyncPos < f % 65536 + 1))).or l.head? with
  | none => m
  | some f =>
    if 8 ≤ m.out.length then m
    else
      let m := m.keySync t f b.clk.epoch
      { m with blk := m.blk.updTree t (fun x => { x with keySyncPos := f % 65536 + 1 }) }

/-! ### TIME_INFO and the header (R91, R94, R380, R384) -/

/-- The content of TIME_INFO. -/
def Blk.timeInfo (b : Blk) (t : Nat) : Nat :=
  let c := Tab.get {} b.timeCfg.trees t
  let m := b.masterData
  pack [(900 + c.optTx + c.optRx, 320), (c.optTx, 304), (c.dnFrac, 280),
    (unsign ((m.map Announce.utcOffset).getD 0) 16, 264), (b2n ((m.map Announce.utcValid).getD false), 263),
    (b2n ((m.map Announce.leap61).getD false), 262), (b2n ((m.map Announce.leap59).getD false), 261),
    (b.clockClass % 256, 253)]

/-- The reference chip's time for frame fc, where this chip follows it (R384). -/
def Blk.givenTime (b : Blk) (fc : Nat) : Option PairTime :=
  if b.joined ∧ !b.pair.reference then b.pair.time.filter (fun p => p.frame == fc) else none

/-- TIME_INFO, once an epoch, in the first position that is free (R380). -/
def Mail.timeInfo (m : Mail) (t fc : Nat) : Mail :=
  if !(m.blk.tree t).timeInfo ∨ 8 ≤ m.out.length then m
  else
    let own := m.blk.timeInfo t
    let content := match m.blk.givenTime fc with
      | some p => ((p.info.find? (fun i => i.1 == t)).map (fun i => beNat i.2)).getD own
      | none => own
    let m := m.bcast t 0x18 content
    { m with blk := (m.blk.count 0x91 0 t).updTree t (fun x => { x with timeInfo := false }) }

/-- TOD at the balls of a tree, TIME_GEN and TOD_VALID for frame fc (R94, R384). -/
def Blk.frameTod (b : Blk) (fc : Nat) : Nat × Nat × Bool :=
  match b.givenTime fc with
  | some p => (p.tod, p.gen, p.valid)
  | none => if b.hasTime then (b.tim.tod + Mode.txBall .native, b.tim.gen, b.tim.valid) else (0, 0, false)

/-- The 40 bytes of a frame header (R91). -/
def Blk.frameHeader (b : Blk) (t fc gm cm : Nat) : List Byte :=
  let x := b.tree t
  let d := b.frameTod fc
  let n := d.1 / 65536
  let sr := b.srDn t
  let l := toBe (pack [
    (fc % 2 ^ 64, 240), (n / 1000000000 % 2 ^ 48, 192), (d.2.1 % 65536, 176), (n % 1000000000, 146), (d.1 % 65536, 130),
    (b2n d.2.2, 129), (sr % 16, 124), (t % 64, 106), (x.mapLead % 8, 103), (gm % 1024, 93), (cm % 16, 89),
    (b2n (b.joined && sr != 5 && sr != 6), 88), (b2n b.wave, 87), (x.tag % 2 ^ 32, 48)]) 38
  l ++ toBe (crc16 l) 2

/-! ### The grant map (R97 to R100) -/

/-- A grant-map entry (R97). -/
def Grant.entry (g : Grant) : Nat :=
  pack [(g.term % 512, 55), (g.qclass % 4, 53), (g.start % 2 ^ 20, 33), (g.length % 2 ^ 17, 16), (g.kind % 4, 14),
        (g.tag % 4096, 0)]

/-- Whether the map of frame fc goes out with no entries: after a MAP_LEAD that shrank or a deferral (R62, R100), or after
a switch of Type B protection (R154). -/
def Tree.emptyMap (x : Tree) (fc : Nat) : Bool := decide (fc < x.mapEmpty) || decide (x.sinceSwitch < 7)

/-- The grants of a tree's map, by START. -/
def Blk.mapOf (b : Blk) (t fc : Nat) : List Grant :=
  sortBy (fun (g : Grant) => [g.start]) (b.gey.grants.filter (fun g => g.tree == t && g.mapFrame == fc && g.outcome == .pending))

/-- The grants of a map that is not sent close unsent, and its upstream frame with them, but for one that an earlier map has granted
(R100, R228, R232). -/
def Blk.mapUnsent (b : Blk) (t fc : Nat) : Blk :=
  let x := b.tree t
  { b with gey := { b.gey with
      grants := b.gey.grants.map (fun g => if g.tree = t ∧ g.mapFrame = fc ∧ g.outcome = .pending then
        { g with outcome := .unsent } else g),
      unused := if fc + x.mapLead < x.mapPast then b.gey.unused
        else Tab.upd {} b.gey.unused (unusedKey t (fc + x.mapLead)) (fun u => { u with unsent := true }) } }

/-- A grant map with its CRC (R97, R99). -/
def mapBytes (l : List Grant) : List Byte :=
  let e := l.flatMap (fun g => toBe g.entry 8)
  e ++ toBe (crc32c e) 4

/-! ### Fragments (R101 to R108, R300, R342 to R344, R404) -/

/-- Idle fragments over n bytes, and zeros where no header fits (R103). -/
def idleFill : Nat → Nat → List Byte
  | 0, n => List.replicate n 0
  | k + 1, n =>
    if n < 8 then List.replicate n 0
    else
      let len := min 16383 (n - 8)
      let h : FragHead := { carrier := 0, len := len, first := false, fin := 3, key := 0, seq := 0 }
      h.bytes ++ List.replicate len 0 ++ idleFill k (n - 8 - len)

/-- The recipe entries of idle fragments over n bytes, as they are sent. -/
def idleEntries : Nat → Nat → List RecipeEntry
  | 0, _ => []
  | k + 1, n =>
    if n < 8 then []
    else
      let len := min 16383 (n - 8)
      { carrier := 0, len := len, first := false, fin := 3, sduLen := 0, sduCrc := 0 } :: idleEntries k (n - 8 - len)

/-- Fragments of one downstream frame in a fragment list, idle ones included (R404). -/
def listMax : Nat := 2560

/-- The fragments of a frame in the making. -/
structure Build where
  blk : Blk
  /-- Bytes left, by the fragments as they are listed. -/
  room : Nat
  /-- Bytes that a replacement under R331 left over: they are filled at the end of the frame. -/
  spare : Nat := 0
  /-- Fragments so far, newest first. -/
  out : List (List Byte) := []
  /-- Their recipe entries, newest first. -/
  list : List RecipeEntry := []
  /-- Flows whose next fragment must be announced first, with its stamp. -/
  fresh : List (Nat × Nat) := []
  /-- Flows that wait in this frame. -/
  held : List Nat := []
  /-- Whether this chip does not send the frame, and only keeps its list in step with the other chip's (R405, R406). -/
  silent : Bool := false

/-- The SDUs that a tree island has read. -/
def Blk.reading (b : Blk) (t : Nat) : List Frame := Tab.get [] b.sw.treeTx t

/-- Replaces the SDU at a place by some. -/
def Blk.setReading (b : Blk) (t i : Nat) (l : List Frame) : Blk :=
  let r := b.reading t
  { b with sw := { b.sw with treeTx := Tab.set [] b.sw.treeTx t (r.take i ++ l ++ r.drop (i + 1)) } }

/-- The bytes of an SDU with its FCS; toward a standard tree one found bad is stomped (R108). -/
def Frame.sdu (f : Frame) (stomp : Bool) : List Byte :=
  if f.fcsLen = 0 then f.data
  else f.data ++ (if stomp && f.bad then (fcs f.data).map (fun x => ~~~x) else fcs f.data)

/-- Whether a strict class of a tree holds a frame that outranks an SDU (R300). -/
def Blk.outranked (b : Blk) (t : Nat) (f : Frame) : Bool :=
  let set := fun k => b.swCfg.queueSet (classQueue t k)
  ([0, 1, 2, 3, 4, 5, 6, 7]).any (fun k => b.classReady t k && !(set k).weighted && ((set f.tclass).weighted || decide (f.tclass < k)))

/-- SEQ and the counter of a carrier move on by one fragment: the counter drawn, if one is to be had (R104, R344). The
announced reference moves with them. -/
def Blk.advanceSeq (b : Blk) (flow stamp : Nat) (ciphered : Bool) : Blk × Option Nat :=
  let before := some (b.syncNow stamp flow)
  let r := b.drawCarrier flow ciphered
  match r.2 with
  | none => (r.1, none)
  | some n =>
    let b := r.1.updFlow flow (fun f => { f with dnSeq := (f.dnSeq + 1) % 2 ^ 21, lastDn := stamp })
    (b.updCarrier flow (fun k => { k with
      announced := if k.announced = before then some (b.syncNow stamp flow) else k.announced }), some n)

/-- An SDU of a ciphered carrier before its first fragment: it is discarded where its key is spent or missing (R341, R342). -/
def Blk.barSdu (b : Blk) (t flow slot : Nat) : Blk × Bool :=
  if spentAt ≤ (Tab.get {} b.dir.flows flow).dnCounter then (b.count 0x81 1 t, true)
  else
    match b.carrierKey flow slot with
    | (b, some _) => (b, false)
    | (b, none) => ((b.count 0x81 0 t).ventOnce flow
      { type := 0x0804, tenant := b.carrierOwner flow, island := 78 + cipherOfTree t, object := flow, detail := slot }, true)

/-- The bytes of a fragment of a ciphered carrier under a key (R342, R343). -/
def Blk.sealFragment (b : Blk) (flow : Nat) (c : CipherCfg) (key hdr data : List Byte) (counter : Nat) : List Byte :=
  let n := nonce 0 (((Tab.get none (b.carrier flow).slots c.slot).map StoredKey.gen).getD 0) counter
  if c.mode = 2 then hdr ++ gcmSeal key n hdr data else hdr ++ ctrSeal key n data

/-- The recipe entry of a fragment (R405). -/
def entryOf (f : Frame) (h : FragHead) : RecipeEntry :=
  { carrier := h.carrier, len := h.len, first := h.first, fin := h.fin, sduLen := if h.first then f.data.length else 0,
    sduCrc := if h.first then crc32c f.data else 0 }

/-- Puts a fragment into the frame: its bytes, and its entry as it is listed, `len` bytes with its header. -/
def Build.put (s : Build) (t : Nat) (bytes : List Byte) (len : Nat) (e : RecipeEntry) : Build :=
  { s with blk := if s.silent then s.blk else s.blk.count 0x11 1 t, room := s.room - len, spare := s.spare + (len - bytes.length), out := bytes :: s.out,
           list := e :: s.list }

/-- Fills what is left with idle fragments (R103, R404). -/
def Build.close (s : Build) : Build :=
  let n := s.room + s.spare
  { s with room := 0, spare := 0, out := idleFill (n / 8 + 1) n :: s.out,
           list := ((idleEntries (s.room / 8 + 1) s.room).take (listMax - s.list.length)).reverse ++ s.list }

/-- What a fragment of a native tree's SDU is replaced by: an abandon fragment of LEN 0 that ends it. In a pair the partner
normally sends the good copy, and the rest of the SDU stays listed (R95, R331). -/
def Build.replaced (s : Build) (t i : Nat) (f : Frame) (h : FragHead) (n : Nat) : Build :=
  let rest := if s.blk.joined ∧ h.fin = 0 then [{ f with sent := f.sent + n, void := true }] else []
  let gone : FragHead := { h with len := 0, fin := 2, key := 0 }
  let s := { s with blk := (s.blk.setReading t i rest).count 0x11 2 t }
  s.put t gone.bytes (8 + (if s.blk.joined then h.len else 0)) (entryOf f h)

/-- A fragment of a native tree's SDU, `n` payload bytes of it, ending as `fin` says: numbered, sealed and sent, or
replaced where the cipher engine gives no result or its key has gone (R331, R342). `none` where it waits for a lease or a lane. `i` is
the place of the SDU. -/
def Build.native (s : Build) (t i : Nat) (f : Frame) (c : CipherCfg) (n fin : Nat) : Option Build :=
  let b := s.blk
  let ciphered := c.mode != 0
  let isl := cipherOfTree t
  if ciphered && b.lanes isl == [] then none
  else
    let seq := (Tab.get {} b.dir.flows f.flow).dnSeq
    match b.advanceSeq f.flow f.stamp ciphered with
    | (_, none) => none
    | (b, some ctr) =>
      let clear := !ciphered || n == 0
      let tag := if !clear && c.mode == 2 then 16 else 0
      let h : FragHead := {
        carrier := f.flow % 65536, len := n + tag, first := f.sent == 0, fin := fin, key := if clear then 0 else c.slot, seq := seq }
      let data := ((f.sdu false).drop f.sent).take n
      let next := if fin = 0 then [{ f with sent := f.sent + n }] else []
      let sent := fun (b : Blk) (bytes : List Byte) =>
        let b := b.setReading t i next
        let b := if fin = 2 then b.count 0x11 2 t else b
        some (({ s with blk := b } : Build).put t bytes (8 + h.len) (entryOf f h))
      if f.void then
        let b := b.setReading t i next
        some (({ s with blk := b } : Build).put t (idleFill (h.len / 8 + 2) (8 + h.len)) (8 + h.len) (entryOf f h))
      else if clear then sent b (h.bytes ++ data)
      else
        match b.carrierKey f.flow c.slot with
        | (b, none) => some (({ s with blk := b.count 0x81 0 t } : Build).replaced t i f h n)
        | (b, some key) =>
          match b.cipherOp isl f.flow false n with
          | (b, true) => sent b (b.sealFragment f.flow c key h.bytes data ctr)
          | (b, false) => some (({ s with blk := b } : Build).replaced t i f h n)

/-- The bytes of an XGEM payload as they leave at a place of the frame: encrypted where the carrier's MODE is 1 (R143, R347). -/
def xgemBytes (flow fc place : Nat) (mode : Nat) (l : List Byte) : List Byte :=
  if mode = 0 then l else (l.zipIdx).map (fun x => x.1 ^^^ Config.xgemKeyByte flow fc (place + x.2))

/-- A fragment of a standard tree's SDU, with neither SEQ nor this head-end's cipher: the n bytes that are left of it in this frame, or
where it is abandoned the FCS of what has left, stomped (R108, R146, R347). -/
def Build.standard (s : Build) (t i : Nat) (f : Frame) (n fin : Nat) : Build :=
  let body := if f.abandon then (fcs (f.data.take f.sent)).map (fun x => ~~~x) else ((f.sdu true).drop f.sent).take n
  let h : FragHead := { carrier := f.flow % 65536, len := body.length, first := f.sent == 0, fin := fin, key := 0, seq := 0 }
  let bytes := h.bytes ++ xgemBytes f.flow s.blk.clk.fc s.room (s.blk.cipherAt f.stamp f.flow).mode body
  let b := if fin = 0 then s.blk.setReading t i [{ f with sent := f.sent + n }] else s.blk.setReading t i []
  let b := b.updFlow f.flow (fun x => { x with lastDn := f.stamp })
  let b := if fin ≠ 0 && (f.bad || f.abandon) then b.count 0x11 2 t else b
  ({ s with blk := b } : Build).put t bytes bytes.length (entryOf f h)

/-- One fragment of the SDU at a place, or why there is none: the SDU is discarded, its carrier waits, or the frame is
full. -/
def Build.sduStep (s : Build) (t i : Nat) (f : Frame) (native trial : Bool) : Build :=
  let b := s.blk
  let drop := fun (b : Blk) => { s with blk := b.setReading t i [] }
  let wait := fun (b : Blk) => { s with blk := b, held := f.flow :: s.held }
  if f.sent = 0 ∧ stale f.stamp b.clk.epoch then drop ((b.stopWaiting (flowKey f.flow)).staleDiscard t)
  else
    match b.readFlow f.flow with
    | (b, none) => drop b
    | (b, some _) =>
      let c := if native then b.cipherAt f.stamp f.flow else {}
      let total := (f.sdu false).length
      let head := if c.mode = 2 then 24 else 8
      let left := total - f.sent
      let n := if f.abandon then 0 else min left (min (s.room - head) (16383 - (head - 8)))
      match if f.sent = 0 ∧ c.mode ≠ 0 then b.barSdu t f.flow c.slot else (b, false) with
      | (b, true) => drop b
      | (b, false) =>
        let known := s.fresh.any (fun x => x.1 == f.flow)
        if native && b.needsSync f.stamp f.flow && !known && !trial then wait b
        else if (n = 0 ∧ !f.abandon ∧ 0 < left) ∨ (f.abandon ∧ !native ∧ s.room < 12) then ({ s with blk := b } : Build).close
        else
          let s := { s with
            blk := b, fresh := if native && !known && b.needsSync f.stamp f.flow then (f.flow, f.stamp) :: s.fresh else s.fresh }
          let fin := if f.abandon then (if native then 2 else 1) else if n < left then 0
            else if native && f.bad then 2 else 1
          if native then
            match s.native t i f c n fin with
            | some s => s
            | none => wait (if b.lanes (cipherOfTree t) = [] ∧ c.mode ≠ 0 then b.noteDown (cipherOfTree t)
                else (b.advanceSeq f.flow f.stamp true).1)
          else s.standard t i f n fin

/-- Fills a frame: SDUs of one carrier whole and one after another, higher strict classes first (R103, R300). -/
def Build.run (t : Nat) (native trial : Bool) : Nat → Build → Build
  | 0, s => s.close
  | k + 1, s =>
    if s.room = 0 then s
    else if s.room < 8 ∨ (s.blk.pair.enable ∧ listMax ≤ s.list.length + 1) then s.close
    else
      let l := s.blk.reading t
      match (List.range l.length).find? (fun i => ((l[i]?).map (fun f => !s.held.contains f.flow)).getD false) with
      | some i =>
        match l[i]? with
        | none => s.close
        | some f =>
          if s.blk.outranked t f then
            let r := s.blk.readTree t
            Build.run t native trial k (if r.2 then { s with blk := r.1 } else ({ s with blk := r.1 } : Build).sduStep t i f native trial)
          else Build.run t native trial k (s.sduStep t i f native trial)
      | none =>
        let r := s.blk.readTree t
        if r.2 then Build.run t native trial k { s with blk := r.1 } else ({ s with blk := r.1 } : Build).close

/-- Steps that filling a frame can take. -/
def Blk.buildFuel (b : Blk) (t room : Nat) : Nat := room / 8 + 3 * (b.framesAt t + (b.reading t).length) + 8

/-! ### Following a recipe (R406) -/

/-- Where the SDU of a recipe entry lies: in the island, or in a class queue; the oldest that matches, if it may go on (R28). -/
def Blk.matchSdu (b : Blk) (t : Nat) (e : RecipeEntry) : Blk × Option Nat :=
  let fits := fun (f : Frame) => f.flow == t * 65536 + e.carrier && f.sent == 0 && f.data.length == e.sduLen
    && crc32c f.data == e.sduCrc
  let l := b.reading t
  let found := ([7, 6, 5, 4, 3, 2, 1, 0]).findSome? (fun k =>
    let q := b.queue (classQueue t k)
    (q.findIdx? fits).bind (fun i => (q[i]?).map (fun f => (k, i, f))))
  match l.findIdx? fits, found with
  | some i, _ =>
    match l[i]? with
    | none => (b, none)
    | some f => if stale f.stamp b.clk.epoch then ((b.setReading t i []).staleDiscard t, none) else (b, some i)
  | none, none => (b, none)
  | none, some (k, i, f) =>
    let b := b.setQueue (classQueue t k) ((b.queue (classQueue t k)).eraseIdx i)
    match if stale f.stamp b.clk.epoch then (b.staleDiscard 70, false) else b.dequeueCheck t f with
    | (b, false) => (b, none)
    | (b, true) =>
      let b := b.countOut t f.length
      ({ b with sw := { b.sw with treeTx := Tab.set [] b.sw.treeTx t (l ++ [f]) } }, some l.length)

/-- SEQ and the counter of a native tree's carrier advance by a fragment that is not sent (R104, R406). -/
def Build.skipSeq (s : Build) (flow : Nat) (native : Bool) : Build :=
  if native then { s with blk := (s.blk.advanceSeq flow s.blk.clk.epoch ((s.blk.cipherAt s.blk.clk.epoch flow).mode != 0)).1 } else s

/-- Idle fill in the place of an entry's fragment, with SEQ and the counter advanced; an SDU that is missing counts once (R406). -/
def Build.missed (s : Build) (t flow : Nat) (e : RecipeEntry) (native : Bool) : Build :=
  let s := s.skipSeq flow native
  let b := if e.first then s.blk.count 0xA4 6 83 else s.blk
  ({ s with blk := b } : Build).put t (idleFill (e.len / 8 + 2) (8 + e.len)) (8 + e.len) e

/-- One entry of a recipe: the fragment it names, or idle fill of its length with SEQ and the counter advanced. One that no longer has
room keeps the numbers in step (R104). -/
def Build.follow (t : Nat) (native : Bool) (s : Build) (e : RecipeEntry) : Build :=
  let flow := t * 65536 + e.carrier
  if e.fin = 3 then
    if s.room < 8 + e.len then s
    else { s with room := s.room - (8 + e.len), out := idleFill (e.len / 8 + 2) (8 + e.len) :: s.out, list := e :: s.list }
  else if s.room < 8 + e.len then s.skipSeq flow native
  else
    let at_ := if e.first then s.blk.matchSdu t e
      else (s.blk, (s.blk.reading t).findIdx? (fun f => f.flow == flow && f.sent != 0))
    match at_.2.bind (fun i => ((at_.1.reading t)[i]?).map (fun f => (i, f))) with
    | none => ({ s with blk := at_.1 } : Build).missed t flow e native
    | some (i, f) =>
      match at_.1.readFlow flow with
      | (b, none) => ({ s with blk := b.setReading t i [] } : Build).missed t flow e native
      | (b, some _) =>
        let c := b.cipherAt f.stamp flow
        let tag := if c.mode = 2 ∧ e.len ≠ 0 then 16 else 0
        let s := { s with blk := b }
        if native then (s.native t i f c (e.len - tag) e.fin).getD (s.missed t flow e native) else s.standard t i f e.len e.fin

/-- SDUs of a tree that no entry has named are discarded once they are too old, and counted (R28, R406). -/
def Blk.dropUnmatched (b : Blk) (t : Nat) : Blk :=
  let old := fun (f : Frame) => f.sent == 0 && stale f.stamp b.clk.epoch
  let gone := fun (island : Nat) (l : List Frame) (b : Blk) =>
    (l.filter old).foldl (fun b _ => (b.staleDiscard island).count 0xA4 7 83) b
  let l := b.reading t
  let b' : Blk := { b with sw := { b.sw with treeTx := Tab.set [] b.sw.treeTx t (l.filter (!old ·)) } }
  (List.range 8).foldl (fun b k =>
    let q := b.queue (classQueue t k)
    gone 70 q (b.setQueue (classQueue t k) (q.filter (!old ·)))) (gone t l b')

/-- Whether the fragments of a tree's frames come from the reference chip's list (R406). -/
def Blk.byRecipe (b : Blk) : Bool := b.joined && !b.pair.reference

/-- The reference chip's fragment list of a tree's frame; none where it has not come. -/
def Blk.recipeOf (b : Blk) (t fc : Nat) : List RecipeEntry :=
  ((b.pair.recipes.find? (fun r => r.tree == t && r.frame == fc)).map (fun r => r.entries)).getD []

/-- The fragments of a tree's frame, by the reference chip's list or by this chip's own choice (R103, R404, R406). -/
def Build.fragments (s : Build) (t fc : Nat) (native idle : Bool) : Build :=
  if s.blk.byRecipe then
    let r := if idle then s.close else ((s.blk.recipeOf t fc).foldl (Build.follow t native) s).close
    { r with blk := r.blk.dropUnmatched t }
  else if idle then s.close
  else Build.run t native false (s.blk.buildFuel t s.room) s

/-- The reference chip sends the fragment list of a frame (R405). -/
def Blk.sendRecipe (b : Blk) (t fc : Nat) (l : List RecipeEntry) : Blk :=
  if b.joined && b.pair.reference then
    b.sendLink 0x06 (toBe t 1 ++ toBe fc 8 ++ l.flatMap (fun e => toBe (pack [
      (e.carrier % 65536, 80), (e.len % 16384, 66), (b2n e.first, 65), (e.fin % 4, 63), (e.sduLen % 16384, 49),
      (e.sduCrc % 2 ^ 32, 17)]) 12))
  else b

/-! ### DOWNSTREAM_FRAME (R90) -/

/-- Control messages that wait for no fragment: ranging messages and GRID_SHIFT. -/
def Blk.firstMail (b : Blk) (t fc : Nat) : Mail := (({ blk := b } : Mail).allRanging t fc).gridShift t fc

/-- A native tree's frame: messages, map and fragments (R90). The announcements of KEY_SYNC that the fragments need are
found by a first, trial filling. -/
def Blk.nativeFrame (b : Blk) (t fc : Nat) (idle : Bool) : Blk :=
  let b := (b.shiftDone t fc).repeatActivate t fc
  let m := b.firstMail t fc
  let map := if (b.tree t).emptyMap fc then [] else m.blk.mapOf t fc
  let follows := b.byRecipe
  let room := fun (cm : Nat) => 759600 - 48 - 48 * cm - 8 * map.length - 4
  let running := (m.blk.tree t).syncing.length
  let trial := if follows ∨ idle then { blk := m.blk, room := 0 }
    else Build.run t true true (m.blk.buildFuel t (room m.out.length)) { blk := m.blk, room := room m.out.length }
  let wanted :=
    if follows then
      sortBy (fun (n : Nat × Nat) => [n.1]) (((b.recipeOf t fc).filter (fun e => e.fin != 3)).map (fun e =>
        (t * 65536 + e.carrier, b.clk.epoch))).eraseDups
    else sortBy (fun (n : Nat × Nat) => [n.1]) trial.fresh
  let new := (wanted.filter (fun n => m.blk.needsSync n.2 n.1)).take (min (8 - m.out.length) 2 - running)
  let m := ((m.announce t new).timeInfo t fc).refresh t
  let s := ({ blk := m.blk, room := room m.out.length, silent := (b.tree t).stopped } : Build).fragments t fc true idle
  let b := if (s.blk.tree t).emptyMap fc then s.blk.mapUnsent t fc else s.blk
  let b := b.sendRecipe t fc s.list.reverse
  if b.sys.txOn.getLsbD t then
    let data := toBe 0x9D3B62A1F05C4E87 8 ++ b.frameHeader t fc map.length m.out.length ++ m.out.flatten ++ mapBytes map
      ++ s.out.reverse.flatten
    (b.emit (.treeFrame t fc (lineFrame fc data))).count 0x11 0 t
  else b

/-- A control message as a standard tree sends it: its integrity check ends it (R143). -/
def ploamBytes (t : Nat) (l : List Byte) : List Byte :=
  l.take 40 ++ Config.ploamMic (gid t (beNat (l.take 2) % 512)) (l.take 40)

/-- A grant as an allocation of a standard tree's bandwidth map: Alloc-ID t for class 0 of terminal t and 1024 + 4t + c for class c, and
burst profile 1 for data, 0 for discovery and ranging (R141, R143). -/
def Grant.alloc (g : Grant) : Alloc := {
  alloc := if g.qclass = 0 then g.term else 1024 + 4 * g.term + g.qclass, start := g.start, length := g.length, dbru := g.kind == 1, profile := if g.kind < 2 then 1 else 0 }

/-- A standard tree's frame: PLOAM messages, bandwidth map and SDU fragments; after a switch, the relative Ranging_Time
messages of R154. -/
def Blk.standardFrame (b : Blk) (t fc : Nat) (idle : Bool) : Blk :=
  let b := b.repeatActivate t fc
  let m := ({ blk := b } : Mail).allRanging t fc
  let x := b.tree t
  let b := m.out.foldl (fun b l => b.emit (.treeControl t fc (ploamBytes t l))) m.blk
  let b := if 3 ≤ x.sinceSwitch ∧ x.sinceSwitch < 7 then
      ((List.range 512).filter (fun i => (b.term (gid t i)).state == .active)).foldl (fun b i =>
        b.emit (.rangingTime t i (-2 * x.upSkew))) b
    else b
  let map := if x.emptyMap fc then [] else b.mapOf t fc
  let s := ({ blk := b, room := Config.stdCapacity (x.mode == .xgs) } : Build).fragments t fc false idle
  let b := (if x.emptyMap fc then s.blk.mapUnsent t fc else s.blk).sendRecipe t fc s.list.reverse
  let b := b.updTree t (fun x => { x with sinceSwitch := min 8 (x.sinceSwitch + 1) })
  (b.emit (.stdFrame t (fc % 2 ^ 51) (map.map Grant.alloc) s.out.reverse.flatten)).count 0x11 0 t

/-- A frame that this chip of a joined pair does not send: the fragment list of every fitted tree is made and followed all the same
(R405, R406). A native tree's messages go into the list's frame as well; a frame that waits for TX_WAIT holds idle fragments alone. -/
def Blk.silentFrame (b : Blk) (t fc : Nat) (idle : Bool) : Blk :=
  let x := b.tree t
  if !b.joined then b
  else if x.mode = .native then b.nativeFrame t fc idle
  else
    let s := ({ blk := b, room := Config.stdCapacity (x.mode == .xgs), silent := true } : Build).fragments t fc false
      (idle || x.waitFrom.isSome)
    s.blk.sendRecipe t fc s.list.reverse

/-- The frame of one tree: none leaves while TX_ON is 0, while its island is retired, while the other side transmits or while TX_WAIT
runs. -/
def Blk.treeFrame (b : Blk) (fc : Nat) (idle : Bool) (t : Nat) : Blk :=
  let x := b.tree t
  let b := if b.feeding then
      b.sendLink 0x0C (toBe t 1 ++ toBe (fc + x.mapLead) 8 ++ (b.mapOf t fc).flatMap (fun g => toBe g.entry 8))
    else b
  if !b.lit ∨ !x.txOn then b
  else if x.stopped then b.silentFrame t fc idle
  else if !x.transmits ∨ x.waitFrom.isSome then
    (if x.protect.scheme = 1 ∧ !x.transmits then b else b.mapUnsent t fc).silentFrame t fc idle
  else if x.mode = .native then b.nativeFrame t fc idle
  else b.standardFrame t fc idle

/-- The reference chip's TIME frame for frame fc (R384). -/
def Blk.sendTime (b : Blk) (fc : Nat) : Blk :=
  if b.joined && b.pair.reference then
    let d := b.frameTod fc
    b.sendLink 0x07 (toBe fc 8 ++ toBe d.1 16 ++ toBe d.2.1 2 ++ toBe (b2n d.2.2) 1
      ++ (List.range (Part.trees b.sys.part)).flatMap (fun t => toBe (b.timeInfo t) 42))
  else b

/-- What the frame tick of frame fc brings: every fitted tree that transmits sends its frame, and the time of day moves on. -/
def Blk.frameTick (b : Blk) (upsets : List Upset) : Blk :=
  let fc := b.clk.fc
  let b := (b.plant upsets).sendTime fc
  let trees := List.range (Part.trees b.sys.part)
  let b := if fc % 8 = 0 ∧ b.hasTime then trees.foldl (fun b t =>
      if (b.tree t).mode == .native then b.updTree t (fun x => { x with timeInfo := true }) else b) b
    else b
  let b := trees.foldl (fun b t => b.treeFrame fc b.pair.idleFrame t) b
  let b := { b with
    pair := { b.pair with idleFrame := false, recipes := b.pair.recipes.filter (fun r => decide (fc < r.frame)), time := none } }
  b.advanceTime 1

/-- DOWNSTREAM_FRAME (R90): the next frame tick, with which the frame counter moves on. The frame after an epoch's last one
waits for EPOCH_COMMIT. -/
def execDownstreamFrame (facts : TickFacts) (s : State) : Host.Outcome State Fault Refusal :=
  s.run (fun b =>
    if b.sys.phase = .service ∧ b.clk.fc / 8 = b.clk.epoch then
      (b.within ((b.frameTick facts.upsets).countN 0x74 1 70 facts.corrected)).at b.clk.epoch (b.clk.fc + 1)
    else b)

end Sys2Proof.Machine
end

