-- ==== Sys2Proof/Machine/Tumbler.lean ====
section
/-! DEFINITION. The Tumbler engines (13): handler jobs and their steps, service frames and reports, terminal management,
engine faults and the commands. -/
namespace Sys2Proof.Machine

/-! ### Handlers (R441, R447) -/

/-- The handler of a class never written: VALID 0 and COAL_WINDOW 1 (R447). -/
def resetHandler : List Nat := 2 ^ 39 :: List.replicate 64 0

/-- The handler of a class in a version of the table. -/
def handlerOf (t : Tab (List Nat)) (cls : Nat) : List Nat := Tab.get resetHandler t cls

/-- VALID, LEN, FAIL_ACTION, COAL_WINDOW and WORST of a handler header. -/
structure HandlerHead where
  valid : Bool
  len : Nat
  failAction : Bool
  window : Nat
  worst : Nat

/-- The header of a handler. -/
def handlerHead (h : List Nat) : HandlerHead :=
  let w := h.getD 0 0
  { valid := bit w 63, len := bits w 62 56, failAction := bit w 55, window := bits w 54 39, worst := bits w 38 26 }

/-- A handler step (R441). -/
structure HStep where
  op : Nat
  a : Nat
  b : Nat
  off : Nat
  w : Nat
  target : Nat
  imm : Nat

/-- A step from its word. -/
def HStep.ofWord (w : Nat) : HStep :=
  { op := bits w 63 58, a := bits w 57 54, b := bits w 53 50, off := bits w 49 41, w := bits w 40 38,
    target := bits w 37 32, imm := bits w 31 0 }

/-- Step i of a handler. -/
def stepOf (h : List Nat) (i : Nat) : HStep := HStep.ofWord (h.getD (i + 1) 0)

/-- The cycles of a step that works on n bytes (R442). -/
def stepCost (op n : Nat) : Nat :=
  match op with
  | 0x02 => 2
  | 0x03 => 2
  | 0x0F => 2 + ceilDiv n 32
  | 0x10 => 4 + ceilDiv n 8
  | 0x11 => 48 + ceilDiv n 16
  | 0x12 => 2
  | 0x14 => 4
  | 0x15 => 4
  | 0x16 => 4
  | 0x17 => 4
  | _ => 1

/-- Bits of a step word that its kind uses, OP beside them (R442); none for a reserved kind. -/
def stepMask (op : Nat) : Option Nat :=
  let a := 0xF * 2 ^ 54
  let b := 0xF * 2 ^ 50
  let off := 0x1FF * 2 ^ 41
  let w := 0x7 * 2 ^ 38
  let t := 0x3F * 2 ^ 32
  match op with
  | 0x00 => some 0
  | 0x01 => some 0
  | 0x02 => some (a + off + w)
  | 0x03 => some (a + off + w)
  | 0x04 => some (a + 0xFFFFFFFF)
  | 0x05 => some (a + b)
  | 0x06 => some (a + 0xFFFFFFFF)
  | 0x07 => some (a + b)
  | 0x08 => some (a + b)
  | 0x09 => some (a + b)
  | 0x0A => some (a + 0x3F)
  | 0x0B => some (a + 0x3F)
  | 0x0C => some (a + b + t)
  | 0x0D => some (a + b + t)
  | 0x0E => some t
  | 0x0F => some (off + 0x3FFFF)
  | 0x10 => some (a + b + off + 0x7)
  | 0x11 => some (a + b + off + 0x7FC03)
  | 0x12 => some (a + b)
  | 0x13 => some 0xF
  | 0x14 => some (b + off + 0x1FFFFF00)
  | 0x15 => some (a + off)
  | 0x16 => some (b + off + 0xF)
  | 0x17 => some (b + off)
  | _ => none

/-! ### Running a handler (R439 to R444) -/

/-- The run of a job in the making. -/
structure Run where
  blk : Blk
  /-- V0 to V15. -/
  regs : List Nat
  /-- The 512 bytes of the workspace. -/
  ws : List Byte
  outs : List JobOut := []
  counts : List Nat := []
  cycles : Nat := 0

/-- How a step leaves its run. -/
inductive Next where
  | go (pc : Nat)
  | ended
  | dropped
  | failed (code : Nat)
  /-- It waits for a lease (R338). -/
  | waits

/-- Register i. -/
def Run.v (r : Run) (i : Nat) : Nat := r.regs.getD i 0

/-- Sets a register. -/
def Run.setV (r : Run) (i x : Nat) : Run := { r with regs := r.regs.set i (x % 2 ^ 64) }

/-- Bytes of the workspace. -/
def Run.bytes (r : Run) (off n : Nat) : List Byte := (r.ws.drop off).take n

/-- Writes bytes into the workspace; INFO, bytes 312 to 319, stays (R439). -/
def Run.put (r : Run) (off : Nat) (l : List Byte) : Run :=
  let ws := r.ws.take off ++ l ++ r.ws.drop (off + l.length)
  { r with ws := ws.take 312 ++ (r.ws.drop 312).take 8 ++ ws.drop 320 }

/-- The workspace and the registers at the start of a job (R439). -/
def Job.start (j : Job) (b : Blk) : Run :=
  let st := (Tab.get {} b.dir.ctxs j.endpoint).handler
  { blk := b, regs := j.len :: j.mkind :: List.replicate 14 0,
    ws := j.msg.take 256 ++ List.replicate (256 - j.msg.length) 0 ++ toLe st 56 ++ toBe j.info 8 ++ List.replicate 192 0 }

/-- Adds an output, at most four (R443, R444). -/
def Run.out (r : Run) (pc : Nat) (o : JobOut) : Run × Next := ({ r with outs := r.outs ++ [o] }, .go (pc + 1))

/-- A CIPHER step (R336, R442, R444). -/
def Run.cipher (r : Run) (j : Job) (s : HStep) (pc : Nat) : Run × Next :=
  let n := r.v s.b
  let mode := s.imm % 4
  let e := j.endpoint
  let c := Tab.get {} r.blk.dir.ctxs e
  if mode < 2 ∧ n % 16 ≠ 0 then (r, .failed 0x01)
  else if !c.keyLoaded ∨ c.keySpent then (r, .failed 0x02)
  else if 512 < s.off + n ∨ (mode % 2 = 1 ∧ 512 < bits s.imm 18 10 + 16) then (r, .failed 0x04)
  else if r.blk.lanes (cipherOfEp e) = [] then ({ r with blk := r.blk.noteDown (cipherOfEp e) }, .waits)
  else
    match r.blk.endpointKey e c with
    | (b, .key k) =>
      let x := b.cipherOp (cipherOfEp e) e false n
      let r := { r with blk := x.1 }
      if !x.2 then (r, .failed 0x02)
      else if mode % 2 = 1 then
        (r.put s.off (chainMode mode k (r.bytes (bits s.imm 18 10) 16) (r.bytes s.off n)), .go (pc + 1))
      else
        match r.blk.drawEp e with
        | (b, none) => ({ r with blk := b }, .waits)
        | (b, some ctr) =>
          let iv := aesBlock k (nonce 0 c.keyGen ctr ++ [0, 0, 0, 0])
          let r := ({ r with blk := b } : Run).put s.off (chainMode mode k iv (r.bytes s.off n))
          (r.setV s.a ctr, .go (pc + 1))
    | (b, _) => ({ r with blk := b }, .failed 0x02)

/-- An output step: FORWARD, COALESCE, EMIT_DOWN or HOST (R442 to R444). -/
def Run.output (r : Run) (j : Job) (s : HStep) (pc : Nat) : Run × Next :=
  let n := if s.op = 0x15 then 16 else r.v s.b
  if 4 ≤ r.outs.length then (r, .failed 0x03)
  else if 512 < s.off + n then (r, .failed 0x04)
  else
    let l := r.bytes s.off n
    match s.op with
    | 0x14 =>
      let sub := bits s.imm 28 23
      let stream := bits s.imm 19 8
      if n < 60 then (r, .failed 0x04)
      else if !r.blk.subFormed sub ∨ (stream ≠ 0 ∧ !(Tab.get {} r.blk.sw.streams stream).enable) then (r, .failed 0x05)
      else r.out pc (.forward l sub (bits s.imm 22 20) stream)
    | 0x15 => r.out pc (.coalesce l (r.v s.a % 2 ^ 15))
    | 0x16 =>
      let c := Tab.get {} r.blk.dir.ctxs j.endpoint
      if n = 0 ∨ 256 < 16 + n + checkWidth c.poly + (if c.prot = 0 then 0 else 16) then (r, .failed 0x04)
      else r.out pc (.emitDown (s.imm % 16) l)
    | _ => if n = 0 then (r, .failed 0x04) else r.out pc (.host l)

/-- One step of a handler (R442). -/
def Run.step (r : Run) (j : Job) (s : HStep) (pc : Nat) : Run × Next :=
  let n := if s.op = 0x0F then bits s.imm 17 9 + 1 else r.v s.b
  let r := { r with cycles := r.cycles + stepCost s.op (min n 512) }
  let x := r.v s.a
  let y := r.v s.b
  match s.op with
  | 0x00 => (r, .ended)
  | 0x01 => (r, .dropped)
  | 0x02 => (r.setV s.a (beNat (r.bytes s.off (s.w + 1))), .go (pc + 1))
  | 0x03 => (r.put s.off (toBe x (s.w + 1)), .go (pc + 1))
  | 0x04 => (r.setV s.a s.imm, .go (pc + 1))
  | 0x05 => (r.setV s.a (x + y), .go (pc + 1))
  | 0x06 => (r.setV s.a (x + unsign (signed s.imm 32) 64), .go (pc + 1))
  | 0x07 => (r.setV s.a (x &&& y), .go (pc + 1))
  | 0x08 => (r.setV s.a (x ||| y), .go (pc + 1))
  | 0x09 => (r.setV s.a (x ^^^ y), .go (pc + 1))
  | 0x0A => (r.setV s.a (x / 2 ^ (s.imm % 64)), .go (pc + 1))
  | 0x0B => (r.setV s.a (x * 2 ^ (s.imm % 64)), .go (pc + 1))
  | 0x0C => (r, .go (if x = y then s.target else pc + 1))
  | 0x0D => (r, .go (if x < y then s.target else pc + 1))
  | 0x0E => (r, .go s.target)
  | 0x0F => (r.put s.off (r.bytes (s.imm % 512) n), .go (pc + 1))
  | 0x10 =>
    if 512 < s.off + n then (r, .failed 0x04)
    else (r.setV s.a (beNat (checkBytes (s.imm % 8) (r.bytes s.off n))), .go (pc + 1))
  | 0x11 => r.cipher j s pc
  | 0x12 =>
    ((r.setV s.a (tsWord j.toa)).setV s.b (j.gen % 65536 * 65536 + unsign j.toa 16), .go (pc + 1))
  | 0x13 => ({ r with counts := r.counts ++ [s.imm % 16] }, .go (pc + 1))
  | _ => r.output j s pc

/-- Runs a handler from step `pc`; every branch goes forward, so 64 steps are enough (R440). -/
def Run.run (j : Job) (h : List Nat) : Nat → Run → Nat → Run × Next
  | 0, r, _ => (r, .ended)
  | f + 1, r, pc =>
    match r.step j (stepOf h pc) pc with
    | (r, .go pc') => Run.run j h f r pc'
    | x => x

/-- Cycles of dispatch and write-back (R448). -/
def dispatchCycles : Nat := 32

/-- Runs a job on an engine: how it ended, or nothing where it waits for a lease (R338, R437, R440, R444). -/
def Blk.runJob (b : Blk) (j : Job) (engine : Nat) : Blk × Option JobEnd :=
  let h := handlerOf (Vers.at [] b.tum.handlers j.stamp) j.svc
  let hd := handlerHead h
  let failed := fun (code cycles : Nat) => ({
    fail := code, failAction := hd.valid && hd.failAction, outs := [], counts := [], handler := 0, cycles := cycles, engine := engine,
    stamp := b.clk.epoch } : JobEnd)
  if !b.sys.fwReady then (b, some (failed 0x09 0))
  else if !hd.valid then (b, some (failed 0x08 dispatchCycles))
  else
    match Run.run j h 64 (j.start b) 0 with
    | (r, .failed code) => (r.blk, some (failed code (r.cycles + dispatchCycles)))
    | (r, .waits) => (r.blk, none)
    | (r, .go _) => (r.blk, none)
    | (r, .dropped) =>
      (r.blk, some { fail := 0, failAction := false, outs := [], counts := r.counts, handler := leNat (r.bytes 256 56),
                     cycles := r.cycles + dispatchCycles, engine := engine, stamp := b.clk.epoch })
    | (r, .ended) =>
      (r.blk, some { fail := 0, failAction := false, outs := r.outs, counts := r.counts, handler := leNat (r.bytes 256 56),
                     cycles := r.cycles + dispatchCycles, engine := engine, stamp := b.clk.epoch })

/-! ### Clusters (R436, R455) -/

/-- The cluster that does a cluster's work (R455). -/
def Blk.serves (b : Blk) (cluster : Nat) : Nat := if b.tum.fallback.contains cluster then cluster ^^^ 1 else cluster

/-- The cluster that runs the jobs of an endpoint. -/
def Blk.jobCluster (b : Blk) (e : Nat) : Nat := b.serves (clusterOf e)

/-- The first element of a list that a test accepts, given what stands before it. -/
def findAfter {α : Type} (p : List α → α → Bool) : List α → List α → Option α
  | _, [] => none
  | front, x :: r => if p front x then some x else findAfter p (front ++ [x]) r

/-- The elements of a list that a test accepts, given what stands before each. -/
def filterAfter {α : Type} (p : List α → α → Bool) : List α → List α → List α
  | _, [] => []
  | front, x :: r => if p front x then x :: filterAfter p (front ++ [x]) r else filterAfter p (front ++ [x]) r

/-- The jobs that a cluster may start: none of an endpoint that has an earlier job (R443). -/
def Blk.readyJobs (b : Blk) (cluster : Nat) : List Job :=
  filterAfter (fun front (j : Job) =>
    j.result.isNone && b.jobCluster j.endpoint == cluster && !front.any (fun i => i.endpoint == j.endpoint)) [] b.tum.jobs

/-- The next job that a cluster starts. -/
def Blk.nextJob (b : Blk) (cluster : Nat) : Option Job := (b.readyJobs cluster).head?

/-- Replaces the first job that is equal to `j`. -/
def putJob (j : Job) (new : Option Job) : List Job → List Job
  | [] => []
  | x :: r => if x = j then new.toList ++ r else x :: putJob j new r

/-- Adds to the cycles of an engine in this epoch (R452). -/
def Blk.engineCycles (b : Blk) (engine : Nat) (f : Cycles → Cycles) : Blk :=
  { b with tum := { b.tum with cycles := Tab.upd {} b.tum.cycles engine f } }

/-- The island of a cluster (R12). -/
def clusterIsland (cluster : Nat) : Nat := 84 + cluster

/-- An engine takes the first of some jobs and runs it, or discards it where its stamp is too old (R28). A job that must wait, for a
lease or a lane, leaves the engine to the next one (R331, R338). `waits` adds the cycles that the engine waited (R452). -/
def Blk.startJob (engine : Nat) (waits : Cycles → Cycles) : List Job → Blk → Blk
  | [], b => b
  | j :: r, b =>
    if stale j.stamp b.clk.epoch ∧ j.reruns = 0 then
      (({ b with tum := { b.tum with jobs := putJob j none b.tum.jobs } }).stopWaiting j.endpoint).staleDiscard
        (clusterIsland (engine / 17))
    else
      match b.runJob j engine with
      | (b, some e) =>
        ({ b with tum := { b.tum with jobs := putJob j (some { j with result := some e }) b.tum.jobs } }).engineCycles engine waits
      | (b, none) => Blk.startJob engine waits r (if r.isEmpty then b.engineCycles engine waits else b)

/-- HANDLER_JOB (R440): an engine in service takes its cluster's next job;
while an image is written no job is taken (R507). `cipherWait`, `memoryWait` and `outputWait` are the cycles it waited (R452). -/
def execHandlerJob (engine cipherWait memoryWait outputWait : Nat) (s : State) : Host.Outcome State Fault Refusal :=
  s.svc (fun b =>
    if b.tele.role 0x09 engine != .serving ∨ 272 ≤ engine ∨ b.sys.fwWriting.isSome then b
    else
      Blk.startJob engine (fun c => { c with
        cipher := c.cipher + cipherWait, memory := c.memory + memoryWait, output := c.output + outputWait }) (b.readyJobs (engine / 17)) b)

/-! ### Service frames and reports (R445, R446) -/

/-- What a service header says. -/
structure ServiceHead where
  kind : Nat
  tenant : Nat
  svc : Nat := 0
  key : Nat := 0
  count : Nat := 0
  seq : Nat
  stamp : Nat
  endpoint : Nat := 0
  fail : Nat := 0
  tci : Nat := 0

/-- The 32 bytes of a service header (R445). -/
def ServiceHead.bytes (h : ServiceHead) (lost : Nat) : List Byte :=
  wordsLe [pack [(h.kind % 256, 56), (h.tenant % 128, 49), (h.svc % 128, 42), (h.key % 2 ^ 15, 27), (h.count % 2048, 16),
                 (h.seq % 65536, 0)],
           h.stamp % 2 ^ 64, pack [(h.endpoint % 2 ^ 25, 39), (h.fail % 256, 31)],
           pack [(h.tci % 65536, 48), (lost % 2 ^ 32, 16)]]

/-- Takes the next SEQ of a tenant. -/
def Blk.serviceSeq (b : Blk) (tenant : Nat) : Blk × Nat :=
  let n := Tab.get 0 b.tum.seq tenant
  ({ b with tum := { b.tum with seq := Tab.set 0 b.tum.seq tenant ((n + 1) % 65536) } }, n)

/-- Queues a service frame that was created in an epoch for its tenant's service queue, or drops it (R25, R446). LOST is written
when the host port delivers it. -/
def Blk.serviceOut (b : Blk) (stamp : Nat) (h : ServiceHead) (payload : List Byte) : Blk :=
  let x := b.admitFlag (hostQueue h.tenant 3)
    { data := h.bytes 0 ++ payload, fcsLen := 0, input := 113, tenant := h.tenant, stamp := stamp }
  if x.2 then x.1
  else ({ x.1 with tum := { x.1.tum with lost := Tab.upd 0 x.1.tum.lost h.tenant (· + 1) } }).count 0xB5 0 h.tenant

/-- A service frame that takes its SEQ and goes to its tenant's queue at once. -/
def Blk.service (b : Blk) (stamp : Nat) (h : ServiceHead) (payload : List Byte) : Blk :=
  let x := b.serviceSeq h.tenant
  x.1.serviceOut stamp { h with seq := x.2 } payload

/-- Closes a report: it takes its SEQ and waits for delivery. -/
def Blk.closeReport (b : Blk) (r : Report) : Blk :=
  let x := b.serviceSeq r.tenant
  { x.1 with tum := { x.1.tum with
      reports := x.1.tum.reports.filter (· != r), closed := x.1.tum.closed ++ [{ r with seq := x.2, stamp := b.clk.epoch }] } }

/-- Whether a report is the one of a job and key. -/
def Report.isFor (r : Report) (j : Job) (key : Nat) : Bool := r.tenant == j.tenant && r.svc == j.svc && r.key == key

/-- Opens a report with its first entry (R446). -/
def Blk.openReport (b : Blk) (j : Job) (key : Nat) (entry : List Byte) : Blk :=
  let w := (handlerHead (handlerOf (Vers.at [] b.tum.handlers j.stamp) j.svc)).window
  let r : Report := {
    tenant := j.tenant, svc := j.svc, key := key, cluster := b.jobCluster j.endpoint, first := j.stamp,
    closeAt := j.stamp + w, entries := [entry], blocks := [j.endpoint / 4096] }
  { b with tum := { b.tum with reports := b.tum.reports ++ [r] } }

/-- Whether a job's message stands after the boundary point of an epoch in the bank stream (R245). -/
def Job.after (j : Job) (epoch : Nat) : Bool := decide (64 * epoch ≤ orderSlot j.order + 1)

/-- Appends an entry to its report (R446): a report whose window ends before the entry's message closes first (R457), one that is full
closes. -/
def Blk.coalesce (b : Blk) (j : Job) (key : Nat) (entry : List Byte) : Blk :=
  match b.tum.reports.find? (fun r => r.isFor j key) with
  | none => b.openReport j key entry
  | some r =>
    if j.after r.closeAt then (b.closeReport r).openReport j key entry
    else
      let r' := { r with
        entries := r.entries ++ [entry], blocks := (j.endpoint / 4096 :: r.blocks.filter (· != j.endpoint / 4096)) }
      let b := { b with tum := { b.tum with reports := b.tum.reports.map (fun x => if x = r then r' else x) } }
      if 250 ≤ r'.entries.length then b.closeReport r' else b

/-- Whether the boundary point of a report's window has passed, and no job of a message before it is left (R446). -/
def Blk.reportDue (b : Blk) (r : Report) : Bool :=
  decide (r.closeAt ≤ b.dir.point) && !b.tum.jobs.any (fun j => j.tenant == r.tenant && j.svc == r.svc && !j.after r.closeAt)

/-- REPORT_CLOSE (R446): the open report of a tenant, class and key closes at its boundary point. -/
def execReportClose (tenant cls key : Nat) (s : State) : Host.Outcome State Fault Refusal :=
  s.svc (fun b =>
    match b.tum.reports.find? (fun r => r.tenant == tenant && r.svc == cls && r.key == key) with
    | some r => if b.reportDue r then b.closeReport r else b
    | none => b)

/-- REPORT_DELIVER (R446): the oldest closed report goes to its tenant's service queue. -/
def execReportDeliver (s : State) : Host.Outcome State Fault Refusal :=
  s.svc (fun b =>
    match b.tum.closed with
    | [] => b
    | r :: rest =>
      ({ b with tum := { b.tum with closed := rest } }).serviceOut r.stamp
        { kind := 3, tenant := r.tenant, svc := r.svc, key := r.key, count := r.entries.length, seq := r.seq, stamp := r.first }
        r.entries.flatten)

/-! ### Write-back (R443, R444) -/

/-- The instance of a counter of scope tenant and service class (R462). -/
def svcInst (j : Job) : Nat := j.tenant * 128 + j.svc

/-- Releases an output of a job that ran in an epoch, which stamps what it creates (R25). A message that this chip of a pair alone accepted is forwarded, and changes nothing that the pair
shares (R247); a newcomer in JOINING forwards nothing (R415). -/
def Blk.release (b : Blk) (j : Job) (stamp : Nat) (o : JobOut) : Blk :=
  if !b.lit then b
  else match o with
  | .forward l sub cls stream =>
    let f : Frame := {
      data := l, input := 113, stamp := stamp, toa := b.stampedTime b.tim.tod, gen := b.tim.gen, order := j.order }
    (((b.countIn 113 (l.length + 4)).toSub f sub (some cls) stream)).count 0xBD 2 (svcInst j)
  | .coalesce entry key => if j.oneSided then b else (b.coalesce j key entry).count 0xBD 3 (svcInst j)
  | .emitDown kind payload =>
    if j.oneSided then b
    else
      let l := msgHeader kind j.endpoint 0 payload.length 0 ++ payload
      let m : DnMsg := {
        frame := { data := l, fcsLen := 0, input := 113, stamp := stamp }, data := l, payload := 0, exc0 := 0,
        excTag := 0, owner := b.endpointOwner j.endpoint, emitted := true }
      ({ b with dir := { b.dir with dnWait := b.dir.dnWait ++ [m] } }).count 0xBD 4 (svcInst j)
  | .host l =>
    b.service stamp { kind := 1, tenant := j.tenant, svc := j.svc, seq := 0, stamp := j.stamp, endpoint := j.endpoint } l

/-- The reports that a job opens: keys of its entries with no open report. -/
def Blk.newReports (b : Blk) (j : Job) (r : JobEnd) : Nat :=
  ((r.outs.filterMap (fun o => match o with
    | .coalesce _ key => if b.tum.reports.any (fun x => x.isFor j key) then none else some key
    | _ => none)).eraseDups).length

/-- The end of a job, with REPORT_FULL where a report it opens finds the store full (R444). -/
def Blk.judgeStore (b : Blk) (j : Job) (r : JobEnd) : JobEnd :=
  let n := b.newReports j r
  if 0 < n ∧ reportStore < b.storeUsed (b.jobCluster j.endpoint) + n ∧ !j.oneSided then
    { r with fail := 0x06, outs := [], counts := [],
             failAction := (handlerHead (handlerOf (Vers.at [] b.tum.handlers j.stamp) j.svc)).failAction }
  else r

/-- A job's write-back, its counters and its outputs, or its failure (R443, R444). -/
def Blk.writeBack (b : Blk) (j : Job) (r : JobEnd) : Blk :=
  let r := b.judgeStore j r
  let b := b.count 0xBD 0 (svcInst j)
  if r.fail ≠ 0 then
    let b := (b.count 0xBD 1 (svcInst j)).engineCycles r.engine (fun c => { c with failed := c.failed + r.cycles })
    if r.failAction then
      b.service r.stamp { kind := 2, tenant := j.tenant, svc := j.svc, seq := 0, stamp := j.stamp, endpoint := j.endpoint, fail := r.fail } j.msg
    else b
  else
    let b := (b.countN 0xBD 5 (svcInst j) r.cycles).engineCycles r.engine (fun c => { c with retired := c.retired + r.cycles })
    let b := if j.oneSided then b
      else
        match b.readCtx j.endpoint with
        | (b, some c) => b.writeCtx j.endpoint { c with handler := r.handler }
        | (b, none) => b
    let b := r.counts.foldl (fun b i => b.count 0xBD (6 + i) (svcInst j)) b
    r.outs.foldl (fun b o => b.release j r.stamp o) b

/-- JOB_WRITE_BACK (R443): the first job of a cluster that has ended, with none of its bank before it, is written back. -/
def execJobWriteBack (cluster : Nat) (s : State) : Host.Outcome State Fault Refusal :=
  s.svc (fun b =>
    let next := findAfter (fun front (j : Job) =>
      j.result.isSome && b.jobCluster j.endpoint == cluster && !front.any (fun i => bankOf i.endpoint == bankOf j.endpoint))
      [] b.tum.jobs
    match next with
    | none => b
    | some j =>
      match j.result with
      | none => b
      | some r => ({ b with tum := { b.tum with jobs := putJob j none b.tum.jobs } }).writeBack j r)

/-- ENGINE_FAULT (R454): the run is abandoned after `cycles` and the job starts again; after its third rerun it fails. -/
def execEngineFault (engine cycles : Nat) (why : EngineFault) (s : State) : Host.Outcome State Fault Refusal :=
  s.svc (fun b =>
    let cluster := engine / 17
    if b.tele.role 0x09 engine != .serving ∨ 272 ≤ engine then b
    else
      match b.nextJob cluster with
      | none => if why = .overrun then b else b.faultEvent 0x09 engine
      | some j =>
        let worst := (handlerHead (handlerOf (Vers.at [] b.tum.handlers j.stamp) j.svc)).worst
        if why = .overrun ∧ cycles ≤ worst + 64 then b
        else
          let hd := handlerHead (handlerOf (Vers.at [] b.tum.handlers j.stamp) j.svc)
          let ended : JobEnd := {
            fail := 0x07, failAction := hd.valid && hd.failAction, outs := [], counts := [], handler := 0,
            cycles := dispatchCycles, engine := engine, stamp := b.clk.epoch }
          let j' := if j.reruns < 3 then { j with reruns := j.reruns + 1 } else { j with result := some ended }
          let b := { b with tum := { b.tum with jobs := putJob j (some j') b.tum.jobs } }
          let b := b.engineCycles engine (fun c => { c with rerun := c.rerun + cycles })
          (b.count 0xBC 0 cluster).faultEvent 0x09 engine)

/-- OUTAGE_JOB (R451): the oldest outage event is gathered into its record; without firmware the job fails (R437). -/
def execOutageJob (s : State) : Host.Outcome State Fault Refusal :=
  s.svc (fun b =>
    match b.dir.events with
    | [] => b
    | ev :: rest =>
      if b.sys.fwWriting.isSome then b else
      let b := { b with dir := { b.dir with events := rest } }
      if b.sys.fwReady then b.gather { ev with cluster := b.serves ev.cluster } else b)

/-! ### Terminal management (R449, R450, R145) -/

/-- MGMT_CONFIG of a tree. -/
def Blk.mgmt (b : Blk) (t : Nat) : MgmtCfg := Tab.get {} b.tum.mgmt t

/-- Whether a standard-mode message belongs to the extended set: the device identifier of G.988. PRESUMED, log 35. -/
def mgmtExtended (msg : List Byte) : Bool := msg.getD 3 0 == 0x0B

/-- The outstanding transactions that count against a message, and their limit (R145, R449). -/
def Blk.mgmtFull (b : Blk) (g : Nat) (msg : List Byte) : Bool :=
  let l := Tab.get [] b.tum.trans g
  if (b.tree (g / 512)).mode = .native then decide ((b.mgmt (g / 512)).maxOut ≤ l.length)
  else
    let n := (l.filter (fun t => mgmtExtended t.msg == mgmtExtended msg)).length
    decide ((if mgmtExtended msg then 4 else 1) ≤ n)

/-- The retries of a tree, and the epochs between sends (R145, R449). -/
def Blk.mgmtRetries (b : Blk) (t : Nat) : Nat × Nat :=
  if (b.tree t).mode = .native then ((b.mgmt t).retries, 1000 * (b.mgmt t).retryS) else (3, 1000)

/-- A send begins: a message that expects a reply opens its transaction (R450). -/
def Blk.startSend (b : Blk) (g tci : Nat) (msg : List Byte) : Blk :=
  let n := b.clk.epoch
  let t : Trans := { tci := tci, msg := msg, sent := n, left := (b.mgmtRetries (g / 512)).1 }
  let trans := if tci = 0 then b.tum.trans else Tab.upd [] b.tum.trans g (fun l => l ++ [t])
  { b with tum := { b.tum with trans := trans, sends := b.tum.sends ++ [(g, msg, n)] } }

/-- The check that ends a management message in the SDU of its transport (R145, R449): on a native tree its CRC-32, on a
standard-mode tree its integrity check. -/
def Blk.mgmtCheck (b : Blk) (g : Nat) (msg : List Byte) : List Byte :=
  if (b.tree (g / 512)).mode = .native then checkBytes 1 msg else (Config.omciMic g msg).take 4

/-- Hands a management message to its tree, as a downstream SDU stamped with the epoch of its boundary point (R450). -/
def Blk.mgmtTransmit (b : Blk) (g : Nat) (msg : List Byte) (epoch : Nat) : Blk :=
  b.toTree { data := msg ++ b.mgmtCheck g msg, fcsLen := 0, input := 113, terminal := g, stamp := epoch } (g / 512 * 65536 + g % 512) none

/-- The cluster whose counters a tree's management takes (R436). -/
def Blk.mgmtCluster (b : Blk) (t : Nat) : Nat := b.serves (t % 16)

/-- MANAGEMENT_JOB (R449): a due MIB upload begins, or the oldest message that waits is sent. -/
def execManagementJob (tree : Nat) (s : State) : Host.Outcome State Fault Refusal :=
  s.svc (fun b =>
    if b.sys.fwWriting.isSome then b else
    let uploads := b.tum.uploads
    let b := if !(b.mgmt tree).enable then b
      else
        match uploads.find? (fun g => g / 512 == tree) with
        | none => b
        | some g =>
          let msg := Config.freeMessage b.free
          if b.mgmtFull g msg then b else
          let b := { b.draw with tum := { b.tum with uploads := uploads.erase g } }
          b.startSend g (beNat (msg.take 2)) msg
    if !(b.mgmt tree).enable then b
    else
      match b.tum.sends.find? (fun x => x.1 / 512 == tree) with
      | none => b
      | some x =>
        let b := { b with tum := { b.tum with sends := b.tum.sends.erase x } }
        if b.sys.fwReady then (b.mgmtTransmit x.1 x.2.1 x.2.2).count 0xBC 1 (b.mgmtCluster tree) else b)

/-- MGMT_MESSAGE_RX (R450): the service takes the oldest SDU of a terminal that waits (R318). A message whose check is right, its CRC-32
or its integrity check (R145, R449), is matched by TCI and goes to tenant 0's service queue. With `checkFail`, a word of the SDU fails its
channel's check code on the way to the cluster (R13). -/
def execMgmtMessageRx (terminal : Nat) (checkFail : Bool) (s : State) : Host.Outcome State Fault Refusal :=
  s.svc (fun b =>
    match b.tum.mgmtIn.find? (fun x => x.1 == terminal) with
    | none => b
    | some (g, sdu, stamp) =>
      let t := terminal / 512
      let b := { b with tum := { b.tum with mgmtIn := b.tum.mgmtIn.erase (g, sdu, stamp) } }
      let msg := sdu.take (sdu.length - 4)
      if checkFail then b.checkFail (clusterIsland (b.mgmtCluster t))
      else if stale stamp b.clk.epoch then b.staleDiscard (clusterIsland (b.mgmtCluster t))
      else if !(b.mgmt t).enable ∨ !b.sys.fwReady ∨ sdu.drop (sdu.length - 4) ≠ b.mgmtCheck terminal msg then b
      else
      let tci := beNat (msg.take 2)
      let l := Tab.get [] b.tum.trans terminal
      let rest := match l.find? (fun x => x.tci == tci) with
        | some x => l.erase x
        | none => l
      let b := { b with tum := { b.tum with trans := Tab.set [] b.tum.trans terminal rest } }
      b.service b.clk.epoch { kind := 4, tenant := 0, key := terminal, seq := 0, stamp := stamp, tci := tci } msg)

/-- MGMT_RETRY (R450): at its boundary point a message of a terminal, for which no reply has come in a batch before it, is sent again, or,
after the last retry, its transaction ends. -/
def execMgmtRetry (tree terminal : Nat) (s : State) : Host.Outcome State Fault Refusal :=
  s.svc (fun b =>
    let g := gid tree terminal
    let n := b.clk.epoch
    let l := Tab.get [] b.tum.trans g
    let wait := (b.mgmtRetries tree).2
    let replied := fun (x : Trans) => b.tum.mgmtIn.any (fun m => m.1 == g && beNat (m.2.1.take 2) == x.tci)
    if !(b.mgmt tree).enable ∨ !b.sys.fwReady then b
    else
      match l.find? (fun x => decide (x.sent + wait ≤ n) && !replied x) with
      | none => b
      | some x =>
        if x.left = 0 then
          let b := { b with tum := { b.tum with trans := Tab.set [] b.tum.trans g (l.erase x) } }
          (b.service n { kind := 5, tenant := 0, key := g, seq := 0, stamp := n, tci := x.tci } []).count 0xBC 3 (b.mgmtCluster tree)
        else
          let l' := l.map (fun y => if y = x then { x with sent := n, left := x.left - 1 } else y)
          let b := { b with tum := { b.tum with trans := Tab.set [] b.tum.trans g l' } }
          (b.mgmtTransmit g x.msg n).count 0xBC 2 (b.mgmtCluster tree))

/-! ### HANDLER_WRITE and HANDLER_READ (R458) -/

/-- The words of handler i of the extended input. -/
def handlerIn (ext : List Byte) (i : Nat) : List Nat := (List.range 65).map (fun k => leWord ext (65 * i + k))

/-- The most cycles on any path from step i of a handler, the steps after it taken from `rest` (R447). -/
def worstFrom (h : List Nat) (len : Nat) : Nat → List Nat
  | 0 => []
  | k + 1 =>
    let rest := worstFrom h len k
    let i := len - 1 - k
    let s := stepOf h i
    let at_ := fun (j : Nat) => rest.getD (j - i - 1) 0
    let tail := if s.op ≤ 1 then 0
      else if s.op = 0x0E then at_ s.target
      else if s.op = 0x0C ∨ s.op = 0x0D then max (at_ (i + 1)) (at_ s.target)
      else at_ (i + 1)
    (stepCost s.op (512 - s.off) + tail) :: rest

/-- WORST of a handler (R447). -/
def handlerWorst (h : List Nat) : Nat := (worstFrom h (handlerHead h).len (handlerHead h).len).headD 0

/-- Whether bytes lo to hi meet INFO (R458). -/
def meetsInfo (lo hi : Nat) : Bool := decide (lo ≤ 319) && decide (312 ≤ hi)

/-- Whether step i of a handler of `len` steps breaks R458. -/
def stepBad (h : List Nat) (len i : Nat) : Bool :=
  let w := h.getD (i + 1) 0
  let s := HStep.ofWord w
  match stepMask s.op with
  | none => true
  | some m =>
    w % 2 ^ 58 &&& (2 ^ 58 - 1 - m) != 0
    || (s.op == 0x10 && (s.imm == 0 || decide (4 < s.imm)))
    || ((s.op == 0x0C || s.op == 0x0D || s.op == 0x0E) && (decide (s.target ≤ i) || decide (len ≤ s.target)))
    || (s.op == 0x03 && meetsInfo s.off (s.off + s.w))
    || ((s.op == 0x02 || s.op == 0x03) && decide (511 < s.off + s.w))
    || (s.op == 0x0F && (let n := bits s.imm 17 9 + 1
        meetsInfo s.off (s.off + n - 1) || decide (512 < s.off + n) || decide (512 < s.imm % 512 + n)))

/-- Whether a handler breaks R458; one with VALID 0 does not. -/
def handlerBad (h : List Nat) : Bool :=
  let hd := handlerHead h
  hd.valid && (hd.len == 0 || decide (64 < hd.len) || hd.window == 0 || bits (h.getD 0 0) 25 0 != 0
    || (h.drop (hd.len + 1)).any (fun w => w != 0)
    || (List.range hd.len).any (stepBad h hd.len)
    || decide (1 < (stepOf h (hd.len - 1)).op)
    || decide (4096 < handlerWorst h))

/-- A handler as it is kept: WORST filled in, and what is reserved beside it 0 (R447). -/
def handlerKept (h : List Nat) : List Nat :=
  let w := h.getD 0 0
  let worst := if bit w 63 then handlerWorst h else 0
  (w / 2 ^ 39 * 2 ^ 39 + worst * 2 ^ 26) :: h.drop 1

/-- FIRST and COUNT out of form (R458): payload word i. -/
def handlerRange (c : Cmd) (i : Nat) : List Nat :=
  let n := c.f i 56 49
  if n = 0 ∨ 128 < n ∨ 128 < c.f i 63 57 + n then [fieldAt i 49] else []

/-- HANDLER_WRITE (R458). -/
def Op.handlerWrite : Op := {
  code := 0x0B00, perm := .o, utype := 0xC, unit := some 0xC000, len := 8, fields := [(0, 63, 57), (0, 56, 49)],
  bad := fun c => handlerRange c 0 ++ extNeed c (520 * c.f 0 56 49)
    ++ (if (List.range (c.f 0 56 49)).any (fun i => handlerBad (handlerIn c.ext i)) then [0xFF] else []) }

/-- The effect of HANDLER_WRITE. -/
def applyHandlerWrite (c : Cmd) (b : Blk) : Blk × Res :=
  let h := Vers.write [] b.tum.handlers b.clk.epoch (fun t =>
    (List.range (c.f 0 56 49)).foldl (fun t i =>
      Tab.set resetHandler t (c.f 0 63 57 + i) (handlerKept (handlerIn c.ext i))) t)
  ({ b with tum := { b.tum with handlers := h } }, {})

/-- HANDLER_WRITE (R458). -/
def execHandlerWrite (c : Cmd) (s : State) : Host.Outcome State Fault Refusal := s.opcode Op.handlerWrite c applyHandlerWrite

/-- HANDLER_READ (R458). -/
def Op.handlerRead : Op := {
  code := 0x0B01, perm := .o, read := true, snap := true, utype := 0xC, unit := some 0xC000, len := 16,
  fields := [(0, 63, 0), (1, 63, 57), (1, 56, 49)], bad := fun c => handlerRange c 1 }

/-- The effect of HANDLER_READ. -/
def applyHandlerRead (c : Cmd) (b : Blk) : Blk × Res :=
  match snapshot c b.clk.epoch [] b.tum.handlers with
  | .error r => (b, r)
  | .ok t => (b, { ext := (List.range (c.f 1 56 49)).flatMap (fun i => wordsLe (handlerOf t (c.f 1 63 57 + i))) })

/-- HANDLER_READ (R458). -/
def execHandlerRead (c : Cmd) (s : State) : Host.Outcome State Fault Refusal := s.opcode Op.handlerRead c applyHandlerRead

/-! ### MGMT_CONFIG (R459) -/

/-- MGMT_CONFIG, tree form (R459). -/
def Op.mgmtConfigTree : Op := {
  code := 0x0B02, perm := .o, utype := 0x1, len := 8,
  fields := [(0, 63, 63), (0, 62, 62), (0, 61, 61), (0, 60, 58), (0, 57, 55), (0, 54, 51)],
  bad := fun c => if c.b 0 63 then [fieldAt 0 63] else [] }

/-- The effect of MGMT_CONFIG's tree form: MAX_OUT, RETRIES and RETRY_S are ignored on a standard-mode tree. -/
def applyMgmtConfigTree (c : Cmd) (b : Blk) : Blk × Res :=
  let t := c.unit % 4096
  let old := b.mgmt t
  let native := (b.tree t).mode == .native
  if native ∧ (c.f 0 60 58 = 0 ∨ 4 < c.f 0 60 58) then (b, Res.badField 0 58)
  else if native ∧ c.f 0 54 51 = 0 then (b, Res.badField 0 51)
  else
    let m : MgmtCfg := if native then {
        enable := c.b 0 62, mib := c.b 0 61, maxOut := c.f 0 60 58, retries := c.f 0 57 55, retryS := c.f 0 54 51 }
      else { old with enable := c.b 0 62, mib := c.b 0 61 }
    ({ b with tum := { b.tum with mgmt := Tab.set {} b.tum.mgmt t m } }, {})

/-- MGMT_CONFIG, tree form (R459). -/
def execMgmtConfigTree (c : Cmd) (s : State) : Host.Outcome State Fault Refusal :=
  s.opcode Op.mgmtConfigTree c applyMgmtConfigTree

/-- MGMT_CONFIG, send form (R459): the extended input is the message. -/
def Op.mgmtConfigSend : Op := {
  code := 0x0B02, perm := .o, utype := 0x1, len := 8, fields := [(0, 63, 63), (0, 62, 54), (0, 53, 38)],
  bad := fun c => (if c.b 0 63 then [] else [fieldAt 0 63])
    ++ (if c.extAddr = 0 then [16] else if c.extLen = 0 ∨ 2048 < c.extLen then [26] else []) }

/-- The effect of MGMT_CONFIG's send form (R450, R459). -/
def applyMgmtConfigSend (c : Cmd) (b : Blk) : Blk × Res :=
  let t := c.unit % 4096
  let g := gid t (c.f 0 62 54)
  let tci := c.f 0 53 38
  let msg := c.ext.take c.extLen
  if (b.term g).state ≠ .active
    ∨ ((b.tree t).mode = .native ∧ (Tab.get {} b.swCfg.carriers (t * 65536 + c.f 0 62 54)).purpose ≠ 3) then
    (b, Res.badField 0 54)
  else if tci ≠ 0 ∧ b.mgmtFull g msg then (b, Res.err .noSpace)
  else (b.startSend g tci msg, {})

/-- MGMT_CONFIG, send form (R459). -/
def execMgmtConfigSend (c : Cmd) (s : State) : Host.Outcome State Fault Refusal :=
  s.opcode Op.mgmtConfigSend c applyMgmtConfigSend

/-! ### ENGINE_STATUS and ENGINE_COUNTER_READ (R460, R461) -/

/-- A counter's value in the per-second latch (R468). -/
def Blk.latched (b : Blk) (family counter inst : Nat) : Nat := (Tab.get {} b.tele.latch (ctrKey family counter inst)).val

/-- ENGINE_STATUS (R460). -/
def Op.engineStatus : Op := { code := 0x0B03, perm := .o, read := true, utype := 0xC }

/-- The record of an engine, in physical order within its cluster. -/
def Blk.engineRecord (b : Blk) (cluster i : Nat) : List Byte :=
  let e := 17 * cluster + i
  let role := b.tele.role 0x09 e
  let state := match role with
    | .spare => 1
    | .testing => 3
    | .retired => 2
    | .copying => 2
    | _ => 0
  let slot := if state = 0 then ((Tab.get {} b.tele.sources (sourceKey 0x09 e)).slot.getD i) % 17 else 0
  let c := fun (k : Nat) => b.latched 0xBB k e
  wordsLe [pack [(state, 62), (slot % 16, 58), (b2n (b.tum.fallback.contains (cluster ^^^ 1)), 57)],
           c 0, c 1, min allOnes (c 2 + c 3), c 4, c 5, c 6, c 7]

/-- The effect of ENGINE_STATUS. -/
def applyEngineStatus (c : Cmd) (b : Blk) : Blk × Res :=
  (b, { ext := (List.range 17).flatMap (fun i => b.engineRecord (c.unit % 4096) i) })

/-- ENGINE_STATUS (R460). -/
def execEngineStatus (c : Cmd) (s : State) : Host.Outcome State Fault Refusal := s.opcode Op.engineStatus c applyEngineStatus

/-- ENGINE_COUNTER_READ (R461). -/
def Op.engineCounterRead : Op := {
  code := 0x0B04, perm := .t, read := true, utype := 0xC, unit := some 0xC000, len := 8,
  fields := [(0, 63, 57), (0, 56, 50), (0, 49, 42)],
  bad := fun c =>
    let n := c.f 0 49 42
    (if 64 < c.f 0 63 57 then [fieldAt 0 57] else [])
    ++ (if n = 0 ∨ 128 < n ∨ 128 < c.f 0 56 50 + n then [fieldAt 0 42] else []) }

/-- The effect of ENGINE_COUNTER_READ. -/
def applyEngineCounterRead (c : Cmd) (b : Blk) : Blk × Res :=
  let k := c.f 0 63 57
  if !mayAct c.tenant k then (b, Res.deniedObject)
  else
    (b, { ext := (List.range (c.f 0 49 42)).flatMap (fun i =>
      wordsLe ((List.range 22).map (fun x => b.latched 0xBD x (k * 128 + c.f 0 56 50 + i)))) })

/-- ENGINE_COUNTER_READ (R461). -/
def execEngineCounterRead (c : Cmd) (s : State) : Host.Outcome State Fault Refusal :=
  s.opcode Op.engineCounterRead c applyEngineCounterRead

end Sys2Proof.Machine
end

