-- ==== Sys2Proof/Machine/Pair.lean ====
section
/-! DEFINITION. The pair unit (12): the Marionette link, roles and their changes, joining, digests, what arrives from the
partner, and the commands. -/
namespace Sys2Proof.Machine

/-! ### Roles (R415 to R418) -/

/-- The value of a pair state (R415). -/
def PairRole.code : PairRole → Nat
  | .solo => 0
  | .alone => 1
  | .joining => 2
  | .active => 3
  | .standby => 4
  | .isolated => 5

/-- Whether the part has a Marionette link (R3). -/
def Blk.hasPair (b : Blk) : Bool := b.sys.part != .bvh6416e

/-- A row of the pair unit, on a part that has one. -/
def State.pairRow (s : State) (f : Blk → Blk) : Host.Outcome State Fault Refusal :=
  s.svc (fun b => if b.hasPair then f b else b)

/-- Changes the pair unit. -/
def Blk.setPair (b : Blk) (f : Pair → Pair) : Blk := { b with pair := f b.pair }

/-- The trees fitted. -/
def Blk.treeList (b : Blk) : List Nat := List.range (Part.trees b.sys.part)

/-- Drives OPT_TXDIS of every tree. -/
def Blk.driveAll (b : Blk) : Blk := b.treeList.foldl (fun b t => b.driveTx t) b

/-- Changes the pair state: one PAIR_STATE record, and light and forwarding as the state has them (R415, R418). -/
def Blk.toRole (b : Blk) (r : PairRole) : Blk :=
  if b.pair.role = r then b
  else
    let old := b.pair.role
    let b := b.setPair (fun p => { p with role := r })
    let b := (b.count 0xA4 9 83).vent { type := 0x0A04, island := 83, detail := old.code * 16 + r.code }
    let b := b.driveAll
    if b.lit then b
    else (List.range 48).foldl (fun b s => if (b.sub s).up then b.subDown s else b) b

/-- The other role of a joined pair. -/
def PairRole.swapped : PairRole → PairRole
  | .active => .standby
  | .standby => .active
  | r => r

/-- Whether the preferred chip is the standby: the case that wait-to-restore is for (R426). -/
def Blk.prefWaits (b : Blk) : Bool :=
  (b.pair.role == .standby && b.pref) || (b.pair.role == .active && !b.pref)

/-- Wait-to-restore starts, where it is due (R426). -/
def Blk.startWtr (b : Blk) : Blk :=
  b.setPair (fun p => { p with wtrEnd :=
    if b.prefWaits && p.revert && !p.lockout then some (b.clk.epoch + 1000 * p.wtr) else none })

/-- The roles swap (R418, R426). -/
def Blk.swapRoles (b : Blk) : Blk := (b.toRole b.pair.role.swapped).startWtr

/-- The next lease of a key after a takeover: a write that the lost chip had outstanding is not waited for (R340, R353). -/
def Blk.leaseAnew (b : Blk) (key e : Nat) : Blk :=
  (b.updLease key (fun l => { l with pending := none, adopt := none })).startLease key e

/-- Every cipher counter in service resumes at its E, with its limits, and the next lease is taken (R340, R341, R417). -/
def Blk.resumeCounters (b : Blk) : Blk :=
  let eps := (b.dir.ctxs.filter (fun x => x.2.keyLoaded)).map Prod.fst
  let cars := (b.cip.carriers.map Prod.fst).filter (fun f => (b.cipherNow f).mode != 0)
  let b := eps.foldl (fun b e =>
    let c := Tab.get {} b.dir.ctxs e
    (b.moveEp e c.txLease).leaseAnew e c.txLease) b
  cars.foldl (fun b f =>
    let e := (b.carrier f).leaseEnd
    (b.moveCarrier f e).leaseAnew (flowKey f) e) b

/-- What a chip drops when it is no longer joined. -/
def Pair.parted (p : Pair) : Pair :=
  { p with
    agreed := false, own := [], other := [], recipes := [], time := none, mine := [], theirs := [], agreedDn := [],
    wtrEnd := none, next := none, joinAt := none, batchFrom := 0, sending := none, staged := [], step := 0, fwDiffer := 0 }

/-- Parts of its own that a chip now consumes, where the reference chip's had not come (R417). -/
def ownParts (l : List BatchPart) : List BatchPart :=
  let taken := fun (p : BatchPart) => l.any (fun q => !q.own && q.tree == p.tree && q.uf == p.uf && q.phase == p.phase)
  (l.filter (fun p => !(p.own && taken p))).map (fun p => { p with own := false })

/-- A chip takes over (R417). -/
def Blk.takeOver (b : Blk) : Blk :=
  let b := (b.toRole .alone).setPair (fun p => { p.parted with reference := true })
  let b := ({ b with gey := { b.gey with parts := ownParts b.gey.parts } }).count 0xA4 8 83
  let b := b.treeList.foldl (fun b t => b.updTree t (fun x => { x with
    skewState := .notB, otherStopped := false, otherLos := false, otherSkew := .notB })) b
  let b := b.resumeCounters
  let b := b.treeList.foldl (fun b t =>
    let x := b.tree t
    if x.mode != .native && x.protect.scheme == 1 && !x.transmits then b.moveSide t true else b) b
  b.driveAll

/-- A chip leaves service and is ISOLATED (R415, R427); on the standard trees that it protects with its partner, the partner
transmits (R152). -/
def Blk.isolate (b : Blk) : Blk :=
  let b := (b.toRole .isolated).setPair (fun p => { p.parted with reference := false, installed := [], badPages := [], log := [] })
  b.treeList.foldl (fun b t =>
    let x := b.tree t
    if x.mode != .native && x.protect.scheme == 1 && x.transmits then b.moveSide t false else b) b

/-- How many pages an item of cold state has (R423): the manual leaves the size of items 0x01 to 0x04 open. -/
def itemPages (item : Nat) : Nat := if item = 5 then 4096 else if item = 6 then 131072 else 1 + Config.morePages item

/-- The pages of a resync (R430). -/
def allPages : Nat := itemPages 1 + itemPages 2 + itemPages 3 + itemPages 4 + itemPages 5 + itemPages 6

/-- What cold state holds goes back to its reset values, from which the pages to come fill it (R423, R428). Local settings stay. -/
def Blk.emptyCold (b : Blk) : Blk :=
  let b := { b with
    host := { b.host with owners := [(0, ⟨[], [], [], []⟩)] }
    cip := { b.cip with loadKeys := [], cfg := [(0, [])], carriers := [] }
    dir := { b.dir with blocks := [], ctxs := [], flows := [], boundCount := [], faults := [], flowFaults := [] }
    gey := { b.gey with cfg := [(0, {})] }
    sw := { b.sw with cfg := b.sw.cfg.map (fun (v : Nat × SwCfg) => (v.1, { v.2 with carriers := [], groups := [] })) }
    cls := { b.cls with cfg := [(0, {})] }
    tum := { b.tum with handlers := [(0, [])] }
    terms := [] }
  b.treeList.foldl (fun b t => b.updTree t (fun x => { x with disc := [(0, {})] })) b

/-- A chip begins to join (R418, R420): its cold state is that of pages to come. -/
def Blk.join (b : Blk) : Blk :=
  let b := (b.toRole .joining).setPair (fun p => { p.parted with
    reference := false, step := 1, installed := [], pagesDone := 0, pagesTotal := allPages, badPages := [], log := [],
    reported := [], shadowFrom := b.clk.epoch, unsyncedFrom := none, resynced := [], heard := [] })
  let b := b.emptyCold
  if b.wave then
    b.treeList.foldl (fun b t => b.updTree t (fun x => if x.rxOn then { x with skewState := .acquiring } else x)) b
  else b

/-- The first endpoint whose page is not installed. -/
def Pair.firstMissing (p : Pair) : Nat :=
  256 * ((List.range (p.installed.length + 1)).find? (fun n => !p.installed.contains (6, n))).getD 0

/-- A newcomer takes over from JOINING (R428). -/
def Blk.newcomerTakesOver (b : Blk) : Blk :=
  let f := b.pair.firstMissing
  let items := (List.range 5).filter (fun i =>
    decide ((b.pair.installed.filter (fun x => x.1 == i + 1)).length < itemPages (i + 1)))
  let b := items.foldl (fun b i => b.vent { type := 0x0A07, island := 83, object := i + 1 }) b
  let b := if f < 2 ^ 25 then
      ((List.range 8192).filter (fun k => decide (f / 4096 ≤ k))).foldl (fun b k =>
        b.vent { type := 0x0A07, tenant := Tab.get 0 b.owners.block k, island := 83, object := 2 ^ 32 + k }) b
    else b
  let b := b.setPair (fun p => { p with unsyncedFrom := if f < 2 ^ 25 then some f else none, resynced := [], heard := [] })
  b.takeOver

/-! ### Loss of the partner or the link (R416, R427) -/

/-- The partner is lost. -/
def Blk.partnerLost (b : Blk) : Blk :=
  match b.pair.role with
  | .active => b.takeOver
  | .standby => b.takeOver
  | .joining => b.newcomerTakesOver
  | .alone => b.setPair Pair.parted
  | _ => b

/-- The PAIR_LINK record (R416). -/
def pairLink : RecIn := { type := 0x0A02, island := 83 }

/-- The link failed while the partner is alive. -/
def Blk.linkFailed (b : Blk) : Blk :=
  match b.pair.role with
  | .active => (b.vent pairLink).takeOver
  | .standby => (b.vent pairLink).isolate
  | .joining => (b.vent pairLink).isolate
  | .alone => if b.pair.agreed then (b.vent pairLink).setPair Pair.parted else b
  | _ => b

/-- No valid frame, or an agreed item missing: what it means depends on the watchdog (R416). -/
def Blk.linkLost (b : Blk) : Blk := if b.pair.wdIn then b.linkFailed else b.partnerLost

/-- LINK_SILENCE (R416): no valid frame for 8 µs. -/
def execLinkSilence (s : State) : Host.Outcome State Fault Refusal :=
  s.pairRow (fun b => (b.setPair (fun p => { p with linkUp := false })).linkLost)

/-- WATCHDOG_SILENCE (R394, R416): PAIR_WD_IN shows no edge for 10 µs. -/
def execWatchdogSilence (s : State) : Host.Outcome State Fault Refusal :=
  s.pairRow (fun b =>
    let noted := b.pair.wdNoted
    let b := b.setPair (fun p => { p with wdIn := false })
    if !b.pair.enable then b
    else if !b.pair.linkUp then b.partnerLost
    else if noted then b
    else (b.setPair (fun p => { p with wdNoted := true })).vent { type := 0x0A03, island := 83 })

/-- WATCHDOG_TOGGLE (R394): the health island toggles PAIR_WD_OUT, while every epoch token is acknowledged in time. -/
def execWatchdogToggle (s : State) : Host.Outcome State Fault Refusal :=
  s.pairRow (fun b => if b.pair.wdGood then b.setPair (fun p => { p with wdOut := !p.wdOut }) else b)

/-! ### HELLO and the link (R393, R396, R397) -/

/-- Lanes in service (R396). -/
def Blk.laneCount (b : Blk) : Nat := ((List.range 4).filter (fun l => !b.tele.retired 0x07 l)).length

/-- What this chip's HELLO says, as numbers. -/
def Blk.ownHello (b : Blk) : List Nat :=
  [b.pair.role.code, Part.code b.sys.part, b.sys.rev, b.sys.fwVersion, b2n b.wave, b2n b.pref,
   b2n b.pair.enable, b.clk.epoch, b.clk.fc]

/-- A partner's HELLO, as numbers. -/
def Hello.nums (h : Sys2Proof.Hello) : List Nat :=
  [h.state, h.part, h.rev, h.fwVersion, b2n h.wave, b2n h.pref, b2n h.enable, h.epoch, h.fc]

/-- What the State of this chip's HELLO tells of its trees, as numbers. DESIGN CHOICE, log 151. -/
def Blk.treeFacts (b : Blk) : List Nat :=
  b.treeList.flatMap (fun t =>
    let x := b.tree t
    [t, b2n x.stopped, b2n x.los, x.skewState.code, unsign x.upSkew 64])

/-- HELLO_TX (R397): every 1 µs. -/
def execHelloTx (s : State) : Host.Outcome State Fault Refusal :=
  s.pairRow (fun b => b.sendLink 0x01 (Config.helloBytes (b.ownHello ++ b.treeFacts)))

/-- What a joined partner tells of a tree: its side's LOS_T for protection (R152), and what the choice of SR_DN and the skew need
(R183, R184, R409). UP_SKEW is chip B's measure. -/
def Blk.takeFact (b : Blk) (f : TreeFact) : Blk :=
  let x := b.tree f.tree
  let b := b.updTree f.tree (fun x => { x with
    otherStopped := f.stopped, otherLos := f.los, otherClear := if x.otherLos && !f.los then b.clk.fc else x.otherClear,
    otherSkew := skewOf f.skew, upSkew := if b.wave then x.upSkew else f.upSkew })
  let b := if x.otherLos != f.los && x.protect.scheme == 1 then (b.protectRec f.tree 1).judgeSide f.tree else b
  b.driveTx f.tree

/-- Whether an ISOLATED chip may join of its own (R414, R418, R429). -/
def Blk.mayJoin (b : Blk) : Bool :=
  b.pair.role == .isolated && b.pair.linkUp && !b.pair.strapBad && !b.tele.retired 0x08 0

/-- HELLO_RX (R393, R418): the partner's state, identity and straps. Equal straps end all joining until reset. With the first HELLO on a
link that was down, the frames of each class are numbered anew: DESIGN CHOICE, log 31. -/
def execHelloRx (frame : HelloFrame) (s : State) : Host.Outcome State Fault Refusal :=
  s.pairRow (fun b =>
    let hello := frame.hello
    if b.laneCount < 3 then b else
    let was := b.pair.linkUp
    let b := if was then b else b.setPair (fun p => { p with txSeq := [], rxSeq := [], retries := [] })
    let b := (b.setPair (fun p => { p with
      hello := some hello, partner := hello.state % 16, linkUp := true, wdIn := if was then p.wdIn else true,
      wdNoted := was && p.wdNoted, actIn := hello.state == 1 || hello.state == 3 })).count 0xA4 1 83
    let clash := hello.wave == b.wave || hello.pref == b.pref
    let b := if clash && !b.pair.strapBad then
        (b.setPair (fun p => { p with strapBad := true })).vent { type := 0x0A00, island := 83 }
      else b
    let b := if b.joined then (frame.trees.filter (fun f => decide (f.tree < Part.trees b.sys.part))).foldl Blk.takeFact b else b
    if b.mayJoin && b.pair.auto then b.join else b)

/-- LINK_FRAME_RX (R396, R397): a frame's CRC and LSEQ. A frame in order is delivered; one that is wrong, or ahead of its
turn, is asked for again, and counts as a missing item once it has been asked for four times. -/
def execLinkFrameRx (frame : LinkFrame) (s : State) : Host.Outcome State Fault Refusal :=
  s.pairRow (fun b =>
    if b.laneCount < 3 then b else
    let b := match frame.lane with
      | some l => if l < 4 then b.faultEvent 0x07 l else b
      | none => b
    let c := frame.cls % 4
    let want := Tab.get 0 b.pair.rxSeq c
    if !frame.crcOk ∨ (frame.seq ≠ want ∧ (frame.seq + 2 ^ 32 - want) % 2 ^ 32 < 2 ^ 31) then
      let n := Tab.get 0 b.pair.retries c + 1
      let b := (b.setPair (fun p => { p with retries := Tab.set 0 p.retries c n })).count 0xA4 2 83
      if 4 ≤ n then (b.setPair (fun p => { p with retries := Tab.set 0 p.retries c 0 })).linkLost else b
    else if frame.seq ≠ want then b
    else
      let b := (b.setPair (fun p => { p with
        rxSeq := Tab.set 0 p.rxSeq c ((want + 1) % 2 ^ 32), retries := Tab.set 0 p.retries c 0, linkUp := true })).count 0xA4 1 83
      if 1 ≤ frame.kind ∧ frame.kind ≤ 0x0E then b else b.count 0xA4 3 83)

/-! ### The join handshake (R419) -/

/-- The check of R419 that fails first: 1 identity, 2 straps, 3 ENABLE, 4 the CMAC. -/
def Blk.handshakeFault (b : Blk) (h : Sys2Proof.Hello) (mac : List Byte) : Option Nat :=
  if h.part ≠ Part.code b.sys.part ∨ h.rev ≠ b.sys.rev ∨ h.fwVersion ≠ b.sys.fwVersion then some 1
  else if h.wave = b.wave ∨ h.pref = b.pref then some 2
  else if !(h.enable && b.pair.enable) then some 3
  else if mac ≠ cmac (toLe b.pair.secret.toNat 32) (Config.helloBytes (Hello.nums h)) then some 4
  else none

/-- The PAIR_REFUSE record (R419). -/
def Blk.refuse (b : Blk) (check : Nat) : Blk := b.vent { type := 0x0A05, island := 83, detail := check }

/-- The chip that stays in service wraps its KEK under the transfer key and becomes the source of the join (R419). -/
def Blk.feed (b : Blk) (transfer : List Byte) : Blk :=
  (b.setPair (fun p => { p with
    agreed := true, sending := some (1, 0), shadowFrom := b.clk.epoch, reported := [], joinAt := none })).sendLink 0x02
    (keyWrap transfer b.cip.kek.bytes)

/-- The newcomer adopts the KEK; with it, it takes the epoch number and the frame counter (R419, R420), which the second
component says. -/
def Blk.adopt (b : Blk) (transfer kek : List Byte) (h : Sys2Proof.Hello) : Blk × Bool :=
  match keyUnwrap transfer kek with
  | none => (b.refuse 5, false)
  | some k =>
    let b := b.join
    let b := b.setPair (fun p => { p with agreed := true, step := 2, shadowFrom := h.epoch })
    let b := b.treeList.foldl (fun b t => b.updTree t (fun x => { x with
      circuits := x.circuits.map (fun k => (k.1, k.2.map (fun c => c.realign x.mode h.fc))) })) b
    ({ b with
      cip := { b.cip with kek := .adopted (BitVec.ofNat 256 (beNat k)) },
      tele := { b.tele with coldEpoch := h.epoch - (b.clk.epoch - b.tele.coldEpoch) },
      gey := { b.gey with slot := (h.fc, 0), consume := 8 * h.fc, parts := [], grants := [] },
      dir := { b.dir with next := 8 * h.fc, point := h.fc / 8, due := [], inbox := [], held := [], markers := [], late := [] } }, true)

/-- The handshake of R419, and whether this chip takes the partner's numbers. -/
def Blk.handshake (b : Blk) (hello : Sys2Proof.Hello) (mac kek : List Byte) : Blk × Bool :=
  let r := b.pair.role
  if !b.pair.linkUp ∨ b.pair.agreed ∨ b.pair.strapBad ∨ b.tele.retired 0x08 0 ∨ !(r == .alone || r == .joining || r == .isolated) then
    (b, false)
  else
    match b.handshakeFault hello mac with
    | some k => (b.refuse k, false)
    | none =>
      let transfer := toBe (Config.freeTransferKey b.free).toNat 32
      let b := b.draw
      if r = .alone then
        if hello.state = 2 ∨ hello.state = 5 then (b.feed transfer, false)
        else if hello.state = 1 then (if b.pref then (b.feed transfer, false) else b.adopt transfer kek hello)
        else (b, false)
      else if hello.state = 1 then b.adopt transfer kek hello
      else (b, false)

/-- JOIN_HANDSHAKE (R418, R419): the partner's HELLO content with its CMAC, and its KEK under the transfer key. -/
def execJoinHandshake (hello : Sys2Proof.Hello) (mac kek : List Byte) (s : State) : Host.Outcome State Fault Refusal :=
  s.run (fun b =>
    if b.sys.phase = .service ∧ b.hasPair then
      let r := b.handshake hello mac kek
      if r.2 then (b.within r.1).at hello.epoch hello.fc else b.within r.1
    else b)

/-- HANDSHAKE_RETRY (R419): a handshake that failed is tried again. -/
def execHandshakeRetry (s : State) : Host.Outcome State Fault Refusal :=
  s.pairRow (fun b =>
    let r := b.pair.role
    if b.pair.enable && b.pair.linkUp && !b.pair.agreed && !b.pair.strapBad && (r == .alone || r == .joining || r == .isolated) then
      b.sendLink 0x02 (Config.helloBytes b.ownHello)
    else b)

/-! ### What arrives from the partner (R177, R208, R384, R406, R408, R410, R412) -/

/-- Whether this chip follows the reference chip: the other chip of a joined pair, or a newcomer (R406, R420). -/
def Blk.follows (b : Blk) : Bool := (b.joined && !b.pair.reference) || b.pair.role == .joining

/-- Whether this chip takes the other's batches of an upstream frame. -/
def Blk.followsBatch (b : Blk) (uf : Nat) : Bool := (b.joined && !b.ownBatch uf) || b.pair.role == .joining

/-- An outcome as it comes in a batch. -/
def BurstEnd.outcome (e : BurstEnd) : GrantEnd :=
  match e.kind with
  | 0 => .received e.retired e.unfilled e.lost
  | 1 => .bad
  | 2 => .missed
  | _ => .pending

/-- What the ranging controller takes of a burst of the reference chip (R170, R171, R177, R178). -/
def Blk.followBurst (b : Blk) (t uf : Nat) (e : BurstEnd) : Blk :=
  match b.grantAt t uf e.start with
  | none => b
  | some g =>
    let lost := fun (b : Blk) => if g.discovery then b.rangeMissed t g.term else b
    if 2 < e.kind then b
    else if e.kind = 2 then lost b
    else
      let b := b.updTerm (gid t g.term) (fun x => x.measured uf b.clk.epoch e.delta)
      if e.kind = 1 then lost b
      else
        let b := if g.discovery then b.ranged t g.term uf e.delta else b
        match e.message with
        | some (0x81, serial) => b.snReport t g.term serial uf
        | some (0x82, m) => lost (b.ackReport t g.term (m / 256) (m % 256))
        | _ =>
          let b := lost b
          if (b.tree t).mode != .native && (b.term (gid t g.term)).state == .activating then b.becomeActive t g.term else b

/-- An index state from its value (R171). -/
def idxOf (n : Nat) : IdxState :=
  match n with
  | 1 => .provisioned
  | 2 => .held
  | 3 => .activating
  | 4 => .active
  | _ => .free

/-- Re-ranging begins on the reference chip's LOB (R181). -/
def Blk.followLob (b : Blk) (t : Nat) (v : ViewItem) : Blk :=
  let x := b.term (gid t v.index)
  if v.lob && !v.dg && x.state == .active && !x.reranging then b.rerange t v.index else b

/-- A terminal in the reference chip's batch: its state, LOB and DG are those that the batch names, or as they were; what it asks for
is what this chip's ranging controller has from the batches it followed (R206, R208). -/
def Blk.followedView (b : Blk) (t : Nat) (l : List ViewItem) (i : Nat) : TermView :=
  let x := b.term (gid t i)
  match l.find? (fun v => v.index == i) with
  | some v => x.view (idxOf v.state) v.lob v.dg
  | none =>
    let was := Tab.get {} b.gey.sent (gid t i)
    x.view was.state was.lob was.dg

/-- A tree's part of the reference chip's batch of a phase: Geyser's batch, once the ranging controller has followed it. -/
def Blk.closeFollowed (b : Blk) (uf phase : Nat) (p : BatchTree) : Blk :=
  if slotOf uf phase < b.gey.consume then b
  else
    let views := b.changedViews p.tree (b.followedView p.tree p.views)
    let part : BatchPart := {
      tree := p.tree, uf := uf, phase := phase, marked := true, views := views,
      reports := p.reports.map (fun r => { term := r.1, start := r.2.1, queues := r.2.2 }),
      ends := (p.ends.filter (fun e => decide (e.kind ≤ 2))).map (fun e => (e.start, BurstEnd.outcome e)) }
    { b with gey := { b.gey with parts := b.gey.parts ++ [part] } }.noteViews p.tree views

/-- What this chip takes of a tree's part of the reference chip's batch of a phase. -/
def Blk.followTree (b : Blk) (uf phase : Nat) (p : BatchTree) : Blk :=
  let b := p.ends.foldl (fun b e => b.followBurst p.tree uf e) b
  let b := p.probes.foldl (fun b x => b.holdProbe p.tree x.1 x.2) b
  let b := p.quiets.foldl (fun b x =>
    match b.findSerial p.tree 0 [.free] with
    | none => b.count 0x31 4 p.tree
    | some i =>
      (b.updTerm (gid p.tree i) (fun y => { y.rest .held with
        serial := 0, rtd := x.1, eqdUse := eightFrames - x.1, heldFrom := b.clk.epoch })).snReport p.tree i x.2 uf) b
  (p.views.foldl (fun b v => b.followLob p.tree v) b).closeFollowed uf phase p

/-- BATCH_RX (R177, R208, R420): the reference chip's batch of a phase. Where a newcomer becomes the reference chip, the batches of
frames before it entered service are still the other chip's (R425). -/
def execBatchRx (batch : PairBatch) (s : State) : Host.Outcome State Fault Refusal :=
  s.pairRow (fun b =>
    if b.followsBatch batch.uf then
      batch.trees.foldl (fun b p => b.followTree batch.uf batch.phase p) b
    else b)

/-- CONSTRAINT_RX (R208): B of the partner's constraint word. -/
def execConstraintRx (epoch budget : Nat) (s : State) : Host.Outcome State Fault Refusal :=
  s.pairRow (fun b => { b with gey := { b.gey with partnerB := some (budget, epoch) } })

/-- RECIPE_RX (R406): the fragment list of a downstream frame to come. -/
def execRecipeRx (recipe : Recipe) (s : State) : Host.Outcome State Fault Refusal :=
  s.pairRow (fun b =>
    if b.follows && decide (b.clk.fc ≤ recipe.frame) then b.setPair (fun p => { p with recipes := p.recipes ++ [recipe] }) else b)

/-- TIME_FRAME_RX (R384): the reference chip's time for a frame; at the first frame of an epoch the two are compared. -/
def execTimeFrameRx (time : PairTime) (s : State) : Host.Outcome State Fault Refusal :=
  s.pairRow (fun b =>
    if !(b.joined && !b.pair.reference) then b
    else
      let b := b.setPair (fun p => { p with time := some time })
      let diff : Int := (b.tim.tod : Int) + Mode.txBall .native - time.tod
      if time.frame % 8 = 0 ∧ time.frame = b.clk.fc ∧ 100 * 65536 < diff.natAbs then
        b.ventOnce 0 { type := 0x0903, island := 82, w6 := unsign (roundDiv diff 65536) 64 }
      else b)

/-- LEASE_FRAME_RX (R412): the active chip's read-back of a lease is complete; both chips adopt it at the next boundary
point. -/
def execLeaseFrameRx (key leaseEnd : Nat) (s : State) : Host.Outcome State Fault Refusal :=
  s.pairRow (fun b =>
    if b.pair.role = .standby then b.updLease key (fun l => { l with pending := none, adopt := some leaseEnd }) else b)

/-- ACCEPT_LIST_RX (R410): the partner's accept list of a phase. -/
def execAcceptListRx (accepts : AcceptList) (s : State) : Host.Outcome State Fault Refusal :=
  s.pairRow (fun b =>
    b.setPair (fun p => { p with other :=
      (({ slot := slotOf accepts.uf accepts.phase, entries := accepts.entries } : PhaseAccepts) :: p.other).take 64 }))

/-- DN_ENDPOINT_RX (R408): downstream endpoint messages of the reference chip, each with the owner of its rule, to be
applied after the batch of the phase in which it received them. -/
def execDnEndpointRx (uf phase : Nat) (messages : List (Nat × List Byte)) (s : State) : Host.Outcome State Fault Refusal :=
  s.pairRow (fun b =>
    if !(b.joined && !b.pair.reference) then b
    else
      let slot := slotOf uf phase
      let b := b.setPair (fun p => { p with agreedDn := p.agreedDn ++ messages.map (fun m => (slot, m.1, m.2)) })
      if slot < b.dir.next then b.takeAgreed slot else b)

/-- The grant of a map entry that a newcomer follows (R97, R420, R425): what it is for is read from KIND and the state of
its index. -/
def Blk.shadowGrant (b : Blk) (t uf w : Nat) : Grant :=
  let term := bits w 63 55
  let len := bits w 32 16
  let kind := bits w 15 14
  let st := (b.term (gid t term)).state
  let purpose : GrantFor :=
    if kind = 2 then .micro
    else if kind = 3 then
      (if 290 < len then .quiet
       else if len = 245 then .rerange
       else if (b.term (gid t term)).snFrom.isSome then .hold else .firstRange)
    else if st = .activating then .activation
    else .share
  { tree := t, term := term, qclass := bits w 54 53, start := bits w 52 33, length := len, kind := kind, tag := bits w 11 0,
    uf := uf, mapFrame := uf - (b.tree t).mapLead,
    allowance := if kind < 2 then allowanceOf len else 0,
    clearance := if purpose = .rerange then 128 else if purpose = .hold ∨ purpose = .firstRange then 8 else 0,
    purpose := purpose }

/-- MAP_FRAME_RX (R420, R425): a newcomer follows the map of the chip in service. -/
def execMapFrameRx (tree uf : Nat) (entries : List Nat) (s : State) : Host.Outcome State Fault Refusal :=
  s.pairRow (fun b =>
    if b.pair.role ≠ .joining then b
    else
      entries.foldl (fun b w =>
        let g := b.shadowGrant tree uf w
        if (b.grantAt tree uf g.start).isSome then b
        else
          let b := { b with gey := { b.gey with grants := b.gey.grants ++ [g] } }
          if g.forQueue then b.updGq g.gq (fun x => { x with demand := x.demand - g.allowance }) else b) b)

/-- Whether an agreed item is missing (R403): 0 the batch of a phase, 1 the constraint word of an epoch, 2 the accept list
of a phase, 3 RECIPE and TIME of a frame, 4 the digest of an epoch, 5 the acknowledgement of the command at a ring
position. -/
def Blk.itemMissing (b : Blk) (item arg : Nat) : Bool :=
  match item with
  | 0 => b.followsBatch (arg / 8) && decide (b.gey.consume ≤ arg) && b.markerTrees.any (fun t =>
      !b.gey.parts.any (fun p => p.tree == t && slotOf p.uf p.phase == arg && p.marked && !p.own))
  | 1 => b.joined && (match b.gey.partnerB with
      | some (_, e) => e != arg
      | none => true)
  | 2 => b.joined && decide (b.dir.next ≤ arg) && (acceptsOf b.pair.other arg).isNone
  | 3 => b.joined && !b.pair.reference && (b.treeList.any (fun t =>
      (b.tree t).txOn && !b.pair.recipes.any (fun r => r.tree == t && r.frame == arg))
      || (b.pair.time.filter (fun x => x.frame == arg)).isNone)
  | 4 => b.joined && b.pair.mine.any (fun x => x.1 == arg) && !b.pair.theirs.any (fun x => x.1 == arg)
  | 5 => b.pair.staged.any (fun x => x.pos == arg)
  | _ => false

/-- AGREED_ITEM_DEADLINE (R403): an item that is missing at its deadline is handled under R416. -/
def execAgreedItemDeadline (item : Nat) (arg : Nat) (s : State) : Host.Outcome State Fault Refusal :=
  s.pairRow (fun b => if b.itemMissing item arg then b.linkLost else b)

/-! ### Digests (R413, R414) -/

/-- A divergence of epoch n in the domains of a mask; `leaves` says whether this chip goes to ISOLATED (R414). -/
def Blk.diverged (b : Blk) (n mask : Nat) (leaves : Bool) : Blk :=
  let b := ((b.vent { type := 0x0A01, island := 83, object := n, detail := mask }).faultEvent 0x08 0)
  b.setPair (fun p => { p with next := some (n + 2, if leaves then .isolated else .alone) })

/-- Compares the digests of an epoch once both are present (R414). `faulted` of the partner comes with its digest. -/
def Blk.compareDigest (b : Blk) (n : Nat) : Blk :=
  match b.pair.mine.find? (fun x => x.1 == n), b.pair.theirs.find? (fun x => x.1 == n) with
  | some (_, own, bad), some (_, their, faulted) =>
    let b := (b.setPair (fun p => { p with
      mine := p.mine.filter (fun x => x.1 != n), theirs := p.theirs.filter (fun x => x.1 != n) })).count 0xA4 4 83
    let mask := pack ((List.range 8).map (fun d => (b2n (own.getD d 0 != their.getD d 0), d)))
    if mask = 0 then b.setPair (fun p => { p with lastDigest := n })
    else (b.count 0xA4 5 83).diverged n mask (if bad != faulted then bad else b.pair.role == .standby)
  | _, _ => b

/-- DIGEST_RX (R414): the partner's digest of an epoch, and whether the partner wrote a fault record or returned FAULT
in it. -/
def execDigestRx (epoch : Nat) (digest : List W64) (faulted : Bool) (s : State) : Host.Outcome State Fault Refusal :=
  s.pairRow (fun b =>
    if !b.joined then b
    else (b.setPair (fun p => { p with theirs := p.theirs ++ [(epoch, digest.map BitVec.toNat, faulted)] })).compareDigest epoch)

/-- Closes this chip's digest of an epoch (R414). The records' layout is not given, so the registers are free. -/
def Blk.closeDigest (b : Blk) (n : Nat) : Blk :=
  if !b.joined then b
  else
    let regs := (List.range 8).map (fun d => (Config.freeDigest b.free d).toNat)
    let bad := b.pair.faulted
    let b := b.draw.setPair (fun p => { p with mine := p.mine ++ [(n, regs, bad)], faulted := false })
    b.sendLink 0x03 (toBe n 8 ++ regs.flatMap (fun r => toBe r 8))

/-- FW_VERSION_MISMATCH (R508): the partner's firmware has differed at two boundaries in a row. -/
def execFwVersionMismatch (s : State) : Host.Outcome State Fault Refusal :=
  s.pairRow (fun b =>
    if b.joined && decide (2 ≤ b.pair.fwDiffer) then b.diverged b.clk.epoch 0 (b.pair.role == .standby) else b)

/-! ### Joining (R421, R422, R425, R426) -/

/-- GRID_ALIGN (R421): the offsets of a tree's bursts as a newcomer on wavelength A finds them. The newcomer keeps their
median; the chip in service sends a GRID_SHIFT where it exceeds 2 bits. -/
def execGridAlign (tree : Nat) (offsets : List Int) (s : State) : Host.Outcome State Fault Refusal :=
  s.pairRow (fun b =>
    let x := b.tree tree
    if offsets.length ≠ 64 ∨ x.mode ≠ .native ∨ !x.rxOn then b
    else
      let o := median offsets
      let b := if b.feeding || b.pair.role == .joining then
          b.setPair (fun p => { p with offsets := Tab.set 0 p.offsets tree o }) else b
      if b.feeding && b.wave && decide (2 < o.natAbs) && !x.shifting then
        b.queueCtl tree (.gridShift (max (-256) (min 256 (-o))) 0 3)
      else b)

/-- JOIN_POINT (R425): the start of slot (8J + 1, 0), after the batch consumed there. Demand, age and credit are set and
share set J is computed; the newcomer enters service at J + 1. -/
def execJoinPoint (j : Nat) (s : State) : Host.Outcome State Fault Refusal :=
  s.pairRow (fun b =>
    let source := b.feeding && b.pair.joinAt == some j
    let newcomer := b.pair.role == .joining && b.pair.agreed
    if !(source || newcomer) ∨ b.gey.snapEpoch ≠ j ∨ j < b.pair.shadowFrom + 2 then b
    else
      let b := b.gey.queues.foldl (fun b q => b.updGq q.1 (fun x =>
        if b.pair.reported.contains (q.1 / 4) then { x with credit := 0 }
        else { x with credit := 0, demand := 0, age := 0 })) b
      let b := b.snapshotShares j
      let b := { b with gey := { b.gey with next := some (b.shareSet j) } }
      b.setPair (fun p => { p with
        joinAt := some j, step := if newcomer then 5 else 0, next := some (j + 1, if source then .active else .standby) }))

/-- Entering service as one of a joined pair (R182, R420, R425, R426). -/
def Blk.enterPair (b : Blk) (r : PairRole) : Blk :=
  let chipB := b.wave
  let fresh := b.pair.role == .alone && chipB
  let b := (b.toRole r).setPair (fun p => { p with
    reference := !chipB, step := 0, joinAt := none, sending := none, mine := [], theirs := [],
    batchFrom := if p.reference == !chipB then 0 else 8 * b.clk.epoch, faulted := false, fwDiffer := 0 })
  let b := if fresh then
      b.treeList.foldl (fun b t => b.updTree t (fun x => if x.rxOn then { x with skewState := .acquiring } else x)) b
    else b
  b.driveAll.startWtr

/-- WTR_EXPIRY (R426): wait-to-restore ends, and the roles swap at the next boundary. -/
def execWtrExpiry (s : State) : Host.Outcome State Fault Refusal :=
  s.pairRow (fun b =>
    match b.pair.wtrEnd with
    | none => b
    | some e =>
      if b.joined && decide (e ≤ b.clk.epoch) && !b.pair.lockout then
        b.setPair (fun p => { p with wtrEnd := none, next := some (b.clk.epoch + 1, p.role.swapped) })
      else b)

/-- A change of state named for an epoch takes place at its boundary (R418). -/
def Blk.pairBoundary (b : Blk) (n : Nat) : Blk :=
  match b.pair.next with
  | none => b
  | some (e, r) =>
    if n < e then b
    else
      let b := b.setPair (fun p => { p with next := none })
      match r with
      | .isolated => b.isolate
      | .alone => b.takeOver
      | .solo => b.toRole .solo
      | .joining => b.join
      | r => if b.joined then (b.toRole r).startWtr else b.enterPair r

/-! ### Commands (R429 to R433) -/

/-- PAIR_CONFIG (R429). -/
def Op.pairConfig : Op := {
  code := 0x0A00, perm := .o, utype := 0xB, unit := some 0xB000, len := 40,
  fields := [(0, 63, 63), (0, 62, 62), (1, 63, 0), (2, 63, 0), (3, 63, 0), (4, 63, 0)],
  bad := fun c => if c.b 0 63 ∧ c.inl / 2 ^ 64 % 2 ^ 256 = 0 then [fieldAt 1 0] else [] }

/-- The effect of PAIR_CONFIG (R404, R418, R429). -/
def applyPairConfig (c : Cmd) (b : Blk) : Blk × Res :=
  let on := c.b 0 63
  if !on ∧ b.pair.role ≠ .solo ∧ b.pair.role ≠ .alone then (b, Res.badField 0 63)
  else
    let changed := b.pair.enable != on
    let b := b.setPair (fun p => { p with
      enable := on, auto := c.b 0 62, secret := BitVec.ofNat 256 (c.inl / 2 ^ 64), idleFrame := p.idleFrame || changed })
    if on ∧ b.pair.role = .solo then (b.toRole .alone, {})
    else if !on ∧ b.pair.role = .alone then ((b.toRole .solo).setPair Pair.parted, {})
    else (b, {})

/-- PAIR_CONFIG (R429). -/
def execPairConfig (c : Cmd) (s : State) : Host.Outcome State Fault Refusal := s.opcode Op.pairConfig c applyPairConfig

/-- PAIR_STATUS (R430). -/
def Op.pairStatus : Op := { code := 0x0A01, perm := .o, read := true, utype := 0xB, unit := some 0xB000 }

/-- Unsynced endpoints of a block. -/
def Blk.unsyncedIn (b : Blk) (k : Nat) : Nat :=
  match b.pair.unsyncedFrom with
  | none => 0
  | some f => (4096 * (k + 1) - max f (4096 * k)) - (b.pair.resynced.filter (fun e => e / 4096 == k && decide (f ≤ e))).length

/-- The effect of PAIR_STATUS. -/
def applyPairStatus (c : Cmd) (b : Blk) : Blk × Res :=
  let p := b.pair
  let left := match p.wtrEnd with
    | some e => ceilDiv (e - b.clk.epoch) 1000
    | none => 0
  let lanes := if p.linkUp then b.laneCount else 0
  let total := match p.unsyncedFrom with
    | none => 0
    | some f => (2 ^ 25 - f) - (p.resynced.filter (fun e => decide (f ≤ e) && decide (e < 2 ^ 25))).length
  let map := if extRoom c < 1024 then []
    else (List.range 1024).map (fun i =>
      BitVec.ofNat 8 (pack ((List.range 8).map (fun k => (b2n (b.unsyncedIn (8 * i + k) != 0), k)))))
  (b, {
    inl := wordsLe [
      pack [(p.role.code, 60), (p.partner % 16, 56), (b2n b.pref, 55), (b2n b.wave, 54),
            (b2n p.reference, 53), (b2n p.lockout, 52), (b2n p.actIn, 51), (lanes, 48), (p.step % 16, 44), (left % 2 ^ 32, 12)],
      pack [(p.pagesDone % 2 ^ 32, 32), (p.pagesTotal % 2 ^ 32, 0)], p.lastDigest % 2 ^ 64, total * 2 ^ 32],
    ext := map })

/-- PAIR_STATUS (R430). -/
def execPairStatus (c : Cmd) (s : State) : Host.Outcome State Fault Refusal := s.opcode Op.pairStatus c applyPairStatus

/-- ROLE_REQUEST with an ACTION (R431). -/
def Op.roleRequest (action : Nat) : Op := {
  code := 0x0A02, perm := .o, utype := 0xB, unit := some 0xB000, len := 8, fields := [(0, 63, 61)],
  bad := fun c => if c.f 0 63 61 = action then [] else [fieldAt 0 61] }

/-- An action of ROLE_REQUEST, in ACTIVE or STANDBY alone (R431). -/
def Blk.roleAct (b : Blk) (ok : Bool) (f : Blk → Blk) : Blk × Res :=
  if b.joined && ok then (f b, {}) else (b, Res.badField 0 61)

/-- SWAP (R426, R431). -/
def applyRoleSwap (_c : Cmd) (b : Blk) : Blk × Res := b.roleAct (!b.pair.lockout) Blk.swapRoles

/-- ROLE_REQUEST SWAP (R431). -/
def execRoleSwap (c : Cmd) (s : State) : Host.Outcome State Fault Refusal := s.opcode (Op.roleRequest 0) c applyRoleSwap

/-- LOCK: the preferred chip becomes active if it is not (R431). -/
def applyRoleLock (_c : Cmd) (b : Blk) : Blk × Res :=
  b.roleAct true (fun b =>
    let b := b.setPair (fun p => { p with lockout := true, wtrEnd := none })
    if b.prefWaits then b.toRole b.pair.role.swapped else b)

/-- ROLE_REQUEST LOCK (R431). -/
def execRoleLock (c : Cmd) (s : State) : Host.Outcome State Fault Refusal := s.opcode (Op.roleRequest 1) c applyRoleLock

/-- UNLOCK (R431). -/
def applyRoleUnlock (_c : Cmd) (b : Blk) : Blk × Res :=
  b.roleAct true (fun b => b.setPair (fun p => { p with lockout := false }))

/-- ROLE_REQUEST UNLOCK (R431). -/
def execRoleUnlock (c : Cmd) (s : State) : Host.Outcome State Fault Refusal := s.opcode (Op.roleRequest 2) c applyRoleUnlock

/-- LEAVE: the chip that fetched the command goes to ISOLATED, and its partner to ALONE (R418, R431). -/
def applyRoleLeave (c : Cmd) (b : Blk) : Blk × Res :=
  b.roleAct true (fun b => if c.partner then b.takeOver else b.isolate)

/-- ROLE_REQUEST LEAVE (R431). -/
def execRoleLeave (c : Cmd) (s : State) : Host.Outcome State Fault Refusal := s.opcode (Op.roleRequest 3) c applyRoleLeave

/-- RESTORE_NOW: wait-to-restore ends (R426, R431). -/
def applyRoleRestoreNow (_c : Cmd) (b : Blk) : Blk × Res :=
  b.roleAct true (fun b =>
    if b.pair.wtrEnd.isSome then (b.setPair (fun p => { p with wtrEnd := none })).swapRoles else b)

/-- ROLE_REQUEST RESTORE_NOW (R431). -/
def execRoleRestoreNow (c : Cmd) (s : State) : Host.Outcome State Fault Refusal :=
  s.opcode (Op.roleRequest 4) c applyRoleRestoreNow

/-- RESYNC_START (R432). -/
def Op.resyncStart : Op := { code := 0x0A03, perm := .o, utype := 0xB, unit := some 0xB000 }

/-- The effect of RESYNC_START. -/
def applyResyncStart (_c : Cmd) (b : Blk) : Blk × Res :=
  if b.pair.role = .isolated ∧ b.pair.linkUp then (b.join, {}) else (b, Res.err .badParam 0)

/-- RESYNC_START (R432). -/
def execResyncStart (c : Cmd) (s : State) : Host.Outcome State Fault Refusal := s.opcode Op.resyncStart c applyResyncStart

/-- WTR_CONFIG (R433). -/
def Op.wtrConfig : Op := {
  code := 0x0A04, perm := .o, utype := 0xB, unit := some 0xB000, len := 8, fields := [(0, 63, 63), (0, 62, 51)],
  bad := fun c => if c.f 0 62 51 < 10 ∨ 3600 < c.f 0 62 51 then [fieldAt 0 51] else [] }

/-- The effect of WTR_CONFIG. -/
def applyWtrConfig (c : Cmd) (b : Blk) : Blk × Res :=
  (b.setPair (fun p => { p with revert := c.b 0 63, wtr := c.f 0 62 51 }), {})

/-- WTR_CONFIG (R433). -/
def execWtrConfig (c : Cmd) (s : State) : Host.Outcome State Fault Refusal := s.opcode Op.wtrConfig c applyWtrConfig

end Sys2Proof.Machine
end

