-- ==== Sys2Proof/Machine/Telemetry.lean ====
section
/-! DEFINITION. Telemetry, the Vent and fault handling (14): retirement and spares, latches, bins and wear, and the
commands. -/
namespace Sys2Proof

/-- A table with every entry changed, those equal to the default left out. -/
def Tab.mapVals {α β : Type} [DecidableEq β] (d : β) (f : Nat → α → β) (t : Tab α) : Tab β :=
  t.filterMap (fun x => let y := f x.1 x.2; if y = d then none else some (x.1, y))

end Sys2Proof

namespace Sys2Proof.Machine

/-! ### Fault sources and their groups (R465, R476) -/

/-- How many sources a kind has. -/
def sourceCount (kind : Nat) : Nat :=
  match kind with
  | 0x01 => 102
  | 0x02 => 102
  | 0x03 => 64
  | 0x04 => 12
  | 0x05 => 4
  | 0x06 => 68
  | 0x07 => 4
  | 0x08 => 1
  | 0x09 => 272
  | 0x0A => 12416
  | _ => 0

/-- The unit that an island is, as far as a part may lack it (R12, R52). -/
def islandUnit (i : Nat) : Nat :=
  if i < 64 then treeUnit i
  else if i = 77 then 0x3000
  else if 78 ≤ i ∧ i ≤ 81 then 0x9000
  else if i = 82 then 0xA000
  else if i = 83 then 0xB000
  else 0

/-- The unit of a source, as far as a part may lack it (R484). -/
def sourceUnit (kind index : Nat) : Nat :=
  match kind with
  | 0x01 => islandUnit index
  | 0x02 => islandUnit index
  | 0x03 => treeUnit index
  | 0x04 => 0x9000
  | 0x05 => 0x9000
  | 0x07 => 0xB000
  | 0x08 => 0xB000
  | _ => 0

/-- The units that share their spares with a source's unit; none where the kind has no spares (R476). -/
def spareGroup (kind index : Nat) : List Nat :=
  match kind with
  | 0x04 => (List.range 3).map (3 * (index / 3) + ·)
  | 0x06 => (List.range 34).map (34 * (index / 34) + ·)
  | 0x09 => (List.range 17).map (17 * (index / 17) + ·)
  | 0x0A => List.range 12416
  | _ => []

/-- The spare that a group would give next: the lowest. -/
def Tele.spareOf (t : Tele) (kind index : Nat) : Option Nat :=
  (spareGroup kind index).find? (fun i => t.role kind i == .spare)

/-- Whether the retirement of an island puts the head-end in Dormant (R478). -/
def dormantIsland (i : Nat) : Bool :=
  (64 ≤ i && i ≤ 70) || i == 82 || i == 83 || i == 100 || i == 101

/-- DORMANT_CAUSE (R504). -/
def causeWord (cause test index kind : Nat) : Nat :=
  pack [(cause, 56), (test % 256, 48), (index % 65536, 32), (kind % 256, 24)]

/-! ### Retirement (R478, R455, R331) -/

/-- Whether a cluster has an engine in service. -/
def Blk.clusterRuns (b : Blk) (c : Nat) : Bool :=
  !b.tele.islandRetired (84 + c) && (spareGroup 0x09 (17 * c)).any (fun e => b.tele.role 0x09 e == .serving)

/-- A cluster left with no engine hands its work to its twin (R455). -/
def Blk.checkFallback (b : Blk) (c : Nat) : Blk :=
  if b.clusterRuns c ∨ b.tum.fallback.contains c then b
  else
    ({ b with tum := { b.tum with fallback := b.tum.fallback ++ [c] } }).vent
      { type := 0x0B00, island := 84 + c, object := c, detail := c ^^^ 1 }

/-- A tree whose island is retired stops (R478): no light, no grant, and index states as for TX_ON 0. -/
def Blk.stopTree (b : Blk) (t : Nat) : Blk :=
  ((((b.updTree t (fun x => { x with stopped := true })).lightsOut t).unsend t (8 * b.clk.epoch)).driveTx t)

/-- What the retirement of an island brings (R478). A Dormant outcome waits for the end of the boundary. -/
def Blk.islandOut (b : Blk) (kind i : Nat) : Blk :=
  if i < 64 then b.stopTree i
  else if dormantIsland i then
    { b with sys := { b.sys with dormantNext := some (b.sys.dormantNext.getD (causeWord 2 0 i kind)) } }
  else if i ≤ 76 then
    (List.range 8).foldl (fun b k =>
      if (b.sub (8 * (i - 71) + k)).up then b.subDown (8 * (i - 71) + k) else b) b
  else if i = 77 then b
  else if i ≤ 81 then b.noteDown (i - 78)
  else b.checkFallback (i - 84)

/-- The records of a retirement (R478): `taker` is the spare that took the slot. -/
def Blk.retireRecords (b : Blk) (kind index : Nat) (taker : Option Nat) : Blk :=
  let key := sourceKey kind index
  let b := (b.count 0xCE 1 key).vent { type := 0x0C03, object := key, detail := taker.getD 0xFFFF }
  if (spareGroup kind index).isEmpty ∨ (b.tele.spareOf kind index).isSome then b
  else b.vent { type := 0x0C04, object := key }

/-- Changes a fault source. -/
def Blk.updSource (b : Blk) (kind index : Nat) (f : Source → Source) : Blk :=
  { b with tele := { b.tele with sources := Tab.upd {} b.tele.sources (sourceKey kind index) f } }

/-- A spare takes a slot. -/
def Blk.takeSlot (b : Blk) (kind slot : Nat) (taker : Option Nat) : Blk :=
  match taker with
  | none => b
  | some k => b.updSource kind k (fun s => { s with role := .serving, slot := some slot })

/-- What follows from the retirement of a unit that is no island. -/
def Blk.unitOut (b : Blk) (kind index : Nat) : Blk :=
  match kind with
  | 0x04 => if (b.lanes (index / 3)).isEmpty then b.noteDown (index / 3) else b
  | 0x07 =>
    if b.laneCount < 3 ∧ b.pair.linkUp then (b.setPair (fun p => { p with linkUp := false })).linkLost else b
  | 0x09 => b.checkFallback (index / 17)
  | _ => b

/-- Retires a source (R478). `atOnce` is a self-test's retirement, which copies no pseudo-channel (R498). -/
def Blk.retireUnit (b : Blk) (kind index : Nat) (atOnce : Bool) : Blk :=
  if kind ≤ 3 then
    if b.tele.islandRetired index then b.updSource kind index (fun s => { s with doomed := false })
    else ((b.setRole kind index .retired).retireRecords kind index none).islandOut kind index
  else if b.tele.retired kind index then b.updSource kind index (fun s => { s with doomed := false })
  else
    let slot := (Tab.get {} b.tele.sources (sourceKey kind index)).slot.getD index
    let taker := if b.tele.role kind index = .spare then none else b.tele.spareOf kind index
    if kind = 6 ∧ !atOnce ∧ taker.isSome then (b.setRole kind index .copying).takeSlot kind slot taker
    else
      let b := b.updSource kind index (fun s => { s with role := .retired, doomed := false, slot := none })
      ((b.takeSlot kind slot taker).retireRecords kind index taker).unitOut kind index

/-- Whether a retired unit returned at a boundary brings its work back. -/
def Blk.unitBack (b : Blk) (kind index : Nat) : Blk :=
  let b := b.setRole kind index .serving
  if kind ≤ 3 ∧ index < 64 then
    if b.tele.islandRetired index then b
    else (b.updTree index (fun x => { x with stopped := false })).driveTx index
  else b

/-- A cluster in fallback that has an engine again takes its work back; a spare takes a slot for it (R456). -/
def Blk.regain (b : Blk) (c : Nat) : Blk :=
  if !b.tum.fallback.contains c ∨ b.tele.islandRetired (84 + c) then b
  else
    let b := if b.clusterRuns c then b else b.takeSlot 0x09 (17 * c) (b.tele.spareOf 0x09 (17 * c))
    if b.clusterRuns c then { b with tum := { b.tum with fallback := b.tum.fallback.filter (· != c) } } else b

/-- The unit changes of an epoch boundary: units that passed a retest return (R479), judged units retire (R478), clusters
take their work back (R456), and a cipher island with a lane again is down no more (R331). -/
def Blk.unitBoundary (b : Blk) : Blk :=
  let at_ := fun (k : Nat) => (k / 65536, k % 65536)
  let back := (b.tele.sources.filter (fun s => s.2.role == .returning)).map (fun s => at_ s.1)
  let doomed := (b.tele.sources.filter (fun s => s.2.doomed)).map (fun s => at_ s.1)
  let b := back.foldl (fun b s => b.unitBack s.1 s.2) b
  let b := doomed.foldl (fun b s => b.retireUnit s.1 s.2 false) b
  let b := (List.range 16).foldl (fun b c => b.regain c) b
  { b with cip := { b.cip with down := b.cip.down.filter (fun i => (b.lanes i).isEmpty) } }

/-- HBM_COPY_COMPLETE (R478, R480): a retiring pseudo-channel's copy is complete, its spare takes the slot and the RETIRE
record is written. -/
def execHbmCopyComplete (pchannel : Nat) (s : State) : Host.Outcome State Fault Refusal :=
  s.alive (fun b =>
    if b.tele.role 0x06 pchannel ≠ .copying then b
    else
      let slot := (Tab.get {} b.tele.sources (sourceKey 0x06 pchannel)).slot.getD pchannel
      let taker := (spareGroup 0x06 pchannel).find? (fun i =>
        i != pchannel && (Tab.get {} b.tele.sources (sourceKey 0x06 i)).slot == some slot)
      let b := b.updSource 0x06 pchannel (fun x => { x with role := .retired, slot := none })
      b.retireRecords 0x06 pchannel taker)

/-! ### Retests (R479, R510) -/

/-- The tests that a retest of a source may run (R510). -/
def retestTests (kind index : Nat) : List Nat :=
  if kind ≤ 3 then
    [0x03, 0x05, 0x06] ++ (if index < 64 then [0x0D] else if 71 ≤ index ∧ index ≤ 76 then [0x0E] else if index = 77 then [0x10] else [])
  else if kind ≤ 5 then [0x0B]
  else if kind = 6 then [0x09]
  else if kind ≤ 8 then [0x0F]
  else if kind = 9 then [0x0C]
  else [0x07]

/-- What fails in a retest: an uplink port island cannot lock its clock without its reference (R523). -/
def Blk.retestFault (b : Blk) (kind index : Nat) (failed : Option Nat) : Option Nat :=
  match failed with
  | some t => some t
  | none => if kind ≤ 2 ∧ 71 ≤ index ∧ index ≤ 76 ∧ !b.sys.refUplink then some 0x03 else none

/-- RETEST_COMPLETE (R479): the test that failed, if any. A unit whose group has spares rejoins as a spare, the pair is free
to join, and any other unit returns at the next boundary. -/
def execRetestComplete (kind index : Nat) (failed : Option Nat) (s : State) : Host.Outcome State Fault Refusal :=
  s.alive (fun b =>
    let key := sourceKey kind index
    if b.tele.role kind index ≠ .testing ∨ (failed.any (fun t => !(retestTests kind index).contains t)) then b
    else
      match b.retestFault kind index failed with
      | some t => (b.setRole kind index .retired).vent { type := 0x0C06, object := key, detail := t }
      | none =>
        let spares := !(spareGroup kind index).isEmpty
        (b.setRole kind index (if spares then .spare else if kind = 8 then .serving else .returning)).vent
          { type := 0x0C05, object := key, detail := b2n (!spares) })

/-! ### Latches and the records of a latch second (R468, R540) -/

/-- Copies every counter to the latch of epoch n. -/
def Tele.latchAll (t : Tele) (n : Nat) : Tele :=
  { t with
    latch := Tab.mapVals {} (fun _ (c : Ctr) => ({ val := c.val, sat := c.sat } : Ctr)) t.ctrs,
    ctrs := Tab.mapVals {} (fun _ (c : Ctr) => { c with clr := false }) t.ctrs, latchEpoch := n }

/-- Writes the records of the latch second that ends, and begins the next. -/
def Blk.secondEnd (b : Blk) : Blk :=
  let due := b.tele.secCount
  let b := { b with tele := { b.tele with secCount := [], secDone := [] } }
  due.foldl (fun b x =>
    let type := x.1 / 2 ^ 32
    let object := x.1 % 2 ^ 32
    b.vent { type := type, island := if type = 0x0004 then object else 65, object := object, w6 := x.2.count,
             first := some x.2.first, last := some x.2.last }) b

/-! ### Bins (R470) -/

/-- Whether bins are kept for a counter: scopes 0x0, 0x1, 0x4, 0x5 and 0x6. -/
def binned (key : Nat) : Bool := [0x0, 0x1, 0x4, 0x5, 0x6].contains (key / 2 ^ 40 % 16)

/-- The bin of `period` epochs that ends at epoch n, counted from the totals at its beginning. -/
def Tele.bin (t : Tele) (base : Tab Nat) (period n : Nat) : Bin :=
  { endEpoch := n, partialBin := decide (n < t.coldEpoch + period),
    vals := Tab.mapVals 0 (fun k (c : Ctr) => if binned k then min allOnes (c.total - Tab.get 0 base k) else 0) t.ctrs }

/-- The totals of the counters that have bins. -/
def Tele.totals (t : Tele) : Tab Nat := Tab.mapVals 0 (fun k (c : Ctr) => if binned k then c.total else 0) t.ctrs

/-- Epochs of a quarter-hour bin. -/
def quarterEpochs : Nat := 900000

/-- Epochs of a day bin. -/
def dayEpochs : Nat := 86400000

/-- Closes the bins that end at epoch n. -/
def Tele.closeBins (t : Tele) (n : Nat) : Tele :=
  let t := if n % quarterEpochs = 0 then
      { t with quarters := (t.bin t.quarterBase quarterEpochs n :: t.quarters).take 96, quarterBase := t.totals }
    else t
  if n % dayEpochs = 0 then
    { t with days := (t.bin t.dayBase dayEpochs n :: t.days).take 7, dayBase := t.totals }
  else t

/-! ### Wear (R481, R482) -/

/-- The margin that a slowing leaves, in units of 0.1 %, with BUDGET 5.0 %: a slowing that is no whole number of units
lies between two values, and `up` chooses. -/
def wearMargin (shift : Nat) (up : Bool) : Nat :=
  if shift % 5 = 0 then 1000 - shift / 5 else if up then 1000 - shift / 5 else 999 - shift / 5

/-- Updates of a monitor in 30 days: one at each quarter-hour bin close (R481, R482). -/
def wearUpdates : Nat := 2880

/-- REMAIN in units of 0.1 year (R482): `time` is the equivalent time in units of 1/65,536 hour and `added` what each of the
latest quarter hours added to it. A value between two units may be rounded `up`. It saturates when SHIFT or r is 0. -/
def wearRemain (shift time : Nat) (added : List Nat) (up : Bool) : Nat :=
  let den := shift ^ 4 * added.sum * 8766 * 4
  let num := 10 * time * added.length * (5000 ^ 4 - shift ^ 4)
  if den = 0 then 65535 else min 65535 (if up then ceilDiv num den else num / den)

/-- A monitor's update at epoch n. What its oscillators and its temperature give is free (log 15). -/
def Wear.update (w : Wear) (n free : Nat) : Wear :=
  let v := fun (i : Nat) => Config.freeWear (8 * free + i)
  let shift := v 0 % 2 ^ 20
  let time := w.time + v 1
  let added := (v 1 :: w.added).take wearUpdates
  { w with
    shift := shift, time := time, added := added, eqHours := min allOnes (time / 65536),
    margin := wearMargin shift (v 2 % 2 == 0), remain := wearRemain shift time added (v 3 % 2 == 0),
    tjAvg := BitVec.ofNat 12 (v 4), updated := n }

/-- Whether a monitor writes WEAR_WARN: below WARN_MARGIN, and at each further drop of 5 %. -/
def Wear.warns (w : Wear) (warn : Nat) : Bool :=
  match w.warned with
  | none => decide (w.margin < warn)
  | some m => decide (w.margin + 50 ≤ m)

/-- Updates a monitor and warns. -/
def Blk.wearMonitor (b : Blk) (n m : Nat) : Blk :=
  let w := (Tab.get {} b.tele.wear m).update n b.free
  let warn := w.warns b.tele.warnMargin
  let w := if warn then { w with warned := some w.margin } else w
  let b := { b.draw with tele := { b.tele with wear := Tab.set {} b.tele.wear m w } }
  if warn then b.vent { type := 0x0C07, object := m, w6 := w.margin } else b

/-- Updates the monitors of the fitted islands and of the HBM stacks. -/
def Blk.wearUpdate (b : Blk) (n : Nat) : Blk :=
  ((List.range 102).filter (islandFitted b.sys.part) ++ [102, 103]).foldl (fun b m => b.wearMonitor n m) b

/-- The latch of epoch n with all that belongs to it: bins, wear and the records of the second (R468, R470, R481, R540). -/
def Blk.latchBoundary (b : Blk) (n : Nat) : Blk :=
  if n % 1000 ≠ 0 then b
  else
    let b := { b with tele := (b.tele.latchAll n).closeBins n }
    let b := b.secondEnd
    if n % quarterEpochs = 0 then b.wearUpdate n else b

/-! ### Addressing counters (R463, R464, R484) -/

/-- How many counters a family has: chapter in the high digit, scope in the low one. -/
def familyCounters (family : Nat) : Nat :=
  match family with
  | 0x11 => 19
  | 0x12 => 10
  | 0x31 => 8
  | 0x41 => 14
  | 0x43 => 5
  | 0x54 => 29
  | 0x55 => 29
  | 0x64 => 13
  | 0x65 => 8
  | 0x68 => 1
  | 0x71 => 1
  | 0x74 => 4
  | 0x75 => 3
  | 0x76 => 14
  | 0x77 => 1
  | 0x79 => 3
  | 0x81 => 3
  | 0x84 => 5
  | 0x85 => 3
  | 0x8A => 3
  | 0x91 => 1
  | 0x94 => 5
  | 0x96 => 3
  | 0xA1 => 1
  | 0xA4 => 12
  | 0xB5 => 1
  | 0xBB => 8
  | 0xBC => 4
  | 0xBD => 22
  | 0xC0 => 3
  | 0xC4 => 4
  | 0xC5 => 4
  | 0xCE => 2
  | _ => 0

/-- The instances of a scope, as closed intervals (R463). -/
def scopeInstances (scope : Nat) : List (Nat × Nat) :=
  match scope with
  | 0x0 => [(0, 0)]
  | 0x1 => [(0, 63)]
  | 0x2 => [(0, 32767)]
  | 0x3 => [(0, 131071)]
  | 0x4 => [(0, 101)]
  | 0x5 => [(0, 64)]
  | 0x6 => [(0, 114)]
  | 0x7 => [(0, 897), (1024, 1283)]
  | 0x8 => [(0, 65535)]
  | 0x9 => [(1, 4095)]
  | 0xA => [(0, 15)]
  | 0xB => [(0, 271)]
  | 0xC => [(0, 15)]
  | 0xD => [(0, 8319)]
  | 0xE => (List.range 10).map (fun k => (sourceKey (k + 1) 0, sourceKey (k + 1) 0 + sourceCount (k + 1) - 1))
  | _ => []

/-- The key under which a counter is kept: one with two addresses has one (R326, R464). -/
def counterKey (family counter inst : Nat) : Nat :=
  if family = 0x74 ∧ counter = 0 then ctrKey 0xC4 1 inst
  else if family = 0x76 ∧ counter = 13 ∧ inst < 64 then ctrKey 0x11 2 inst
  else ctrKey family counter inst

/-- The counter input of R484. -/
structure CtrIn where
  family : Nat
  firstCtr : Nat
  nCtr : Nat
  firstInst : Nat
  nInst : Nat

/-- The counter input of a command. -/
def ctrIn (c : Cmd) : CtrIn := ⟨c.f 0 63 56, c.f 0 55 48, c.f 0 47 40, c.f 0 39 8, c.f 1 63 32⟩

/-- Its scope. -/
def CtrIn.scope (i : CtrIn) : Nat := i.family % 16

/-- Offsets of the fields of the counter input that are out of range (R484). -/
def CtrIn.bad (i : CtrIn) : List Nat :=
  let n := familyCounters i.family
  let span := (scopeInstances i.scope).find? (fun s => decide (s.1 ≤ i.firstInst) && decide (i.firstInst ≤ s.2))
  if n = 0 then [fieldAt 0 56]
  else (if n ≤ i.firstCtr then [fieldAt 0 48] else [])
    ++ (if i.nCtr = 0 ∨ (i.firstCtr < n ∧ n < i.firstCtr + i.nCtr) then [fieldAt 0 40] else [])
    ++ (match span with
        | none => [fieldAt 0 8]
        | some s => (if s.2 < i.firstInst + i.nInst - 1 then [fieldAt 0 8] else [])
            ++ (if i.nInst = 0 ∨ 33554432 < i.nInst then [fieldAt 1 32] else []))

/-- The units that a range of instances names, as far as a part may lack them (R484). Fitted trees come first. -/
def CtrIn.units (i : CtrIn) : List Nat :=
  let last := i.firstInst + i.nInst - 1
  let all := (List.range (min i.nInst 12416)).map (i.firstInst + ·)
  match i.scope with
  | 0x1 => [treeUnit last]
  | 0x2 => [treeUnit (last / 512)]
  | 0x3 => [treeUnit (queueTree last)]
  | 0x4 => all.map islandUnit
  | 0x6 => all.map (fun p => if p < 64 then treeUnit p else if p = 112 then 0x3000 else 0)
  | 0x7 => all.map (fun q => if q < 512 then treeUnit (q / 8) else if q = 896 then 0x3000 else 0)
  | 0xA => [0x9000]
  | 0xE => all.map (fun k => sourceUnit (k / 65536) (k % 65536))
  | _ => []

/-- Whether a tenant may read the range at all (R484). -/
def CtrIn.allowed (i : CtrIn) (tenant : Nat) : Bool :=
  tenant == 0 || (match i.scope with
    | 0x3 => true
    | 0x5 => i.firstInst == tenant && i.nInst == 1
    | 0x8 => true
    | 0xD => decide (tenant * 128 ≤ i.firstInst) && decide (i.firstInst + i.nInst ≤ tenant * 128 + 128)
    | _ => false)

/-- Whether an instance is one the tenant may not read (R484). -/
def Blk.noRead (b : Blk) (i : CtrIn) (tenant inst : Nat) : Bool :=
  if i.scope = 0x3 then !mayAct tenant (b.queueOwner inst)
  else if i.scope = 0x8 then !mayAct tenant (b.ruleOwner inst)
  else false

/-- Whether a range of switch-core ports names a sub-port that is not formed (R294, R463). -/
def Blk.portsUnformed (b : Blk) (i : CtrIn) : Bool :=
  i.scope == 0x6 && (List.range (min i.nInst 115)).any (fun k =>
    let p := i.firstInst + k
    decide (64 ≤ p) && decide (p < 112) && !b.subFormed (p - 64))

/-- What a counter command is rejected for when it is applied (R294, R484). -/
def Blk.ctrRefused (b : Blk) (i : CtrIn) (tenant : Nat) : Option Res :=
  if !i.allowed tenant then some Res.deniedObject
  else if b.portsUnformed i then some (Res.badField 0 8)
  else none

/-- Counter k of the range: its instance and number. -/
def CtrIn.nth (i : CtrIn) (k : Nat) : Nat × Nat := (i.firstInst + k / i.nCtr, i.firstCtr + k % i.nCtr)

/-- Entries of a result: as many as R484 and EXT_LEN allow. -/
def CtrIn.entries (i : CtrIn) (c : Cmd) : Nat := min (min (i.nInst * i.nCtr) 262144) (extRoom c / 16)

/-- A counter entry (R484). -/
def ctrEntry (value : Nat) (sat clr noread : Bool) : List Byte :=
  wordsLe [value, pack [(b2n sat, 63), (b2n clr, 62), (b2n noread, 61)]]

/-- The inline result of COUNTER_READ and COUNTER_CLEAR. -/
def ctrResult (epoch entries : Nat) : List Byte := wordsLe [epoch % 2 ^ 64, entries * 2 ^ 32]

/-! ### COUNTER_READ, COUNTER_CLEAR and BIN_READ (R484, R485) -/

/-- The counter input's fields. -/
def ctrFields : List (Nat × Nat × Nat) := [(0, 63, 56), (0, 55, 48), (0, 47, 40), (0, 39, 8), (1, 63, 32)]

/-- COUNTER_READ (R484). -/
def Op.counterRead : Op := {
  code := 0x0C00, perm := .t, read := true, utype := 0xD, unit := some 0xD000, len := 16, fields := ctrFields,
  bad := fun c => (ctrIn c).bad, others := fun c => (ctrIn c).units }

/-- An entry of COUNTER_READ: the latch, and whether the counter was cleared since (R468, R469). -/
def Blk.readEntry (b : Blk) (i : CtrIn) (tenant k : Nat) : List Byte :=
  let x := i.nth k
  if b.noRead i tenant x.1 then ctrEntry 0 false false true
  else
    let key := counterKey i.family x.2 x.1
    let l := Tab.get {} b.tele.latch key
    ctrEntry l.val l.sat (Tab.get {} b.tele.ctrs key).clr false

/-- The effect of COUNTER_READ. -/
def applyCounterRead (c : Cmd) (b : Blk) : Blk × Res :=
  let i := ctrIn c
  match b.ctrRefused i c.tenant with
  | some r => (b, r)
  | none =>
    let n := i.entries c
    (b, { inl := ctrResult b.tele.latchEpoch n, ext := (List.range n).flatMap (fun k => b.readEntry i c.tenant k),
          trunc := decide (n < i.nInst * i.nCtr) })

/-- COUNTER_READ (R484). -/
def execCounterRead (c : Cmd) (s : State) : Host.Outcome State Fault Refusal := s.opcode Op.counterRead c applyCounterRead

/-- COUNTER_CLEAR (R469). -/
def Op.counterClear : Op := {
  code := 0x0C01, perm := .t, utype := 0xD, unit := some 0xD000, len := 16, fields := ctrFields,
  bad := fun c => (ctrIn c).bad, others := fun c => (ctrIn c).units }

/-- An entry of COUNTER_CLEAR: the count up to COMMIT. -/
def Blk.clearEntry (b : Blk) (i : CtrIn) (tenant k : Nat) : List Byte :=
  let x := i.nth k
  if b.noRead i tenant x.1 then ctrEntry 0 false false true
  else
    let v := Tab.get {} b.tele.ctrs (counterKey i.family x.2 x.1)
    ctrEntry v.val v.sat true false

/-- Clears one counter, unless the tenant may not read it (R469, R484). -/
def Blk.clearCounter (b : Blk) (i : CtrIn) (tenant k : Nat) : Blk :=
  let x := i.nth k
  if b.noRead i tenant x.1 then b
  else { b with tele := { b.tele with ctrs := Tab.upd {} b.tele.ctrs (counterKey i.family x.2 x.1) (fun v =>
      { v with val := 0, sat := false, clr := true }) } }

/-- The effect of COUNTER_CLEAR: it clears the counters whose entries it returns. -/
def applyCounterClear (c : Cmd) (b : Blk) : Blk × Res :=
  let i := ctrIn c
  match b.ctrRefused i c.tenant with
  | some r => (b, r)
  | none =>
    let n := i.entries c
    ((List.range n).foldl (fun (b : Blk) k => b.clearCounter i c.tenant k) b,
     { inl := ctrResult b.clk.epoch n, ext := (List.range n).flatMap (fun k => b.clearEntry i c.tenant k),
       trunc := decide (n < i.nInst * i.nCtr) })

/-- COUNTER_CLEAR (R469). -/
def execCounterClear (c : Cmd) (s : State) : Host.Outcome State Fault Refusal := s.opcode Op.counterClear c applyCounterClear

/-- BIN_READ (R485). -/
def Op.binRead : Op := {
  code := 0x0C02, perm := .t, read := true, utype := 0xD, unit := some 0xD000, len := 16,
  fields := ctrFields ++ [(1, 31, 31), (1, 30, 24), (1, 23, 16)],
  bad := fun c =>
    let kept := if c.b 1 31 then 7 else 96
    let first := c.f 1 30 24
    let n := c.f 1 23 16
    (ctrIn c).bad
    ++ (if [0x0, 0x1, 0x4, 0x5, 0x6].contains (ctrIn c).scope then [] else [fieldAt 0 56])
    ++ (if kept ≤ first then [fieldAt 1 24] else [])
    ++ (if n = 0 ∨ 96 < n ∨ (first < kept ∧ kept < first + n) then [fieldAt 1 16] else []),
  others := fun c => (ctrIn c).units }

/-- Word k of the result of BIN_READ: each bin has a header of two words and one word for each counter. -/
def Tele.binWord (t : Tele) (i : CtrIn) (day : Bool) (first k : Nat) : Nat :=
  let per := 2 + i.nInst * i.nCtr
  let bin := (if day then t.days else t.quarters)[first + k / per]?
  match bin with
  | none => 0
  | some x =>
    let pos := k % per
    if pos = 0 then x.endEpoch
    else if pos = 1 then pack [(b2n x.partialBin, 63), (1, 62)]
    else
      let at_ := i.nth (pos - 2)
      Tab.get 0 x.vals (counterKey i.family at_.2 at_.1)

/-- The effect of BIN_READ. -/
def applyBinRead (c : Cmd) (b : Blk) : Blk × Res :=
  let i := ctrIn c
  match b.ctrRefused i c.tenant with
  | some r => (b, r)
  | none =>
    let total := c.f 1 23 16 * (2 + i.nInst * i.nCtr)
    let n := min total (ceilDiv (extRoom c) 8)
    (b, { ext := wordsLe ((List.range n).map (fun k => b.tele.binWord i (c.b 1 31) (c.f 1 30 24) k)),
          trunc := decide (n < total) })

/-- BIN_READ (R485). -/
def execBinRead (c : Cmd) (s : State) : Host.Outcome State Fault Refusal := s.opcode Op.binRead c applyBinRead

/-! ### VENT_READ and VENT_EXTEND (R486, R487) -/

/-- VENT_READ (R486). -/
def Op.ventRead : Op := {
  code := 0x0C03, perm := .t, dormant := true, read := true, utype := 0xD, unit := some 0xD000, len := 16,
  fields := [(0, 63, 0), (1, 63, 48), (1, 47, 47), (1, 46, 46), (1, 45, 45)],
  bad := fun c => if c.f 1 63 48 = 0 then [fieldAt 1 48] else [] }

/-- OLDEST_SEQ: NEXT_SEQ when no record is held. -/
def Tele.oldest (t : Tele) : Nat :=
  match t.vent with
  | [] => t.seq
  | r :: _ => r.seq

/-- LOST_TOTAL: the sum of VENT_LOST over the islands. -/
def Tele.lostTotal (t : Tele) : Nat :=
  min allOnes ((List.range 102).map (fun i => (Tab.get {} t.ctrs (ctrKey 0xC4 3 i)).val)).sum

/-- Frees every record below a number; with slots free, pending LOST records are written first (R472, R483). -/
def Blk.consume (b : Blk) (seq : Nat) : Blk :=
  Blk.flushLost 128 { b with tele := { b.tele with vent := b.tele.vent.filter (fun r => decide (seq ≤ r.seq)) } }

/-- The records a command sees: all, or those of its tenant; over the sideband the on-die copies alone (R67, R475). -/
def Tele.visible (t : Tele) (c : Cmd) : List Rec :=
  let held := if c.ring = 8 then t.vent.drop (t.vent.length - 4096) else t.vent
  held.filter (fun r => c.tenant == 0 || r.tenant == c.tenant)

/-- The effect of VENT_READ. -/
def applyVentRead (c : Cmd) (b : Blk) : Blk × Res :=
  if c.tenant ≠ 0 ∧ c.b 1 47 then (b, Res.deniedObject)
  else
    let b := if c.b 1 47 then b.consume (c.word 0) else b
    let want := (b.tele.visible c).filter (fun r => decide (c.word 0 ≤ r.seq))
    let recs := want.take (c.f 1 63 48)
    let got := recs.take (extRoom c / 64)
    let half := match want with
      | [] => List.replicate 32 0
      | r :: _ => wordsLe (if c.b 1 45 then r.words.drop 4 else r.words.take 4)
    (b, {
      inl := if c.b 1 46 then half
        else wordsLe [b.tele.oldest % 2 ^ 64, b.tele.seq % 2 ^ 64, got.length * 2 ^ 32, b.tele.lostTotal],
      ext := got.flatMap (fun r => wordsLe r.words), trunc := decide (got.length < recs.length) })

/-- VENT_READ (R486). -/
def execVentRead (c : Cmd) (s : State) : Host.Outcome State Fault Refusal := s.opcode Op.ventRead c applyVentRead

/-- VENT_EXTEND (R487). -/
def Op.ventExtend : Op := {
  code := 0x0C04, perm := .o, utype := 0xD, unit := some 0xD000, len := 16,
  fields := [(0, 63, 0), (1, 63, 63), (1, 62, 58)],
  bad := fun c =>
    (if c.word 0 % 4096 ≠ 0 then [fieldAt 0 0] else [])
    ++ (if c.b 1 63 ∧ (c.f 1 62 58 < 12 ∨ 20 < c.f 1 62 58) then [fieldAt 1 58] else []) }

/-- The effect of VENT_EXTEND: the newest records are kept, and written to the new ring before any new record (R483). -/
def applyVentExtend (c : Cmd) (b : Blk) : Blk × Res :=
  let s := c.f 1 62 58
  let room := if c.b 1 63 then 2 ^ s else 4096
  let kept := b.tele.vent.drop (b.tele.vent.length - room)
  let t := { b.tele with vent := kept, ventExt := if c.b 1 63 then some (c.word 0, s) else none }
  let writes := kept.flatMap (fun r => t.slotWrite r)
  (Blk.flushLost 128 { b.emits writes.reverse with tele := t }, {})

/-- VENT_EXTEND (R487). -/
def execVentExtend (c : Cmd) (s : State) : Host.Outcome State Fault Refusal := s.opcode Op.ventExtend c applyVentExtend

/-! ### FAULT_CONFIG, UNIT_RETEST and WEAR_READ (R488 to R490) -/

/-- FAULT_CONFIG, source form (R488). -/
def Op.faultConfigSource : Op := {
  code := 0x0C05, perm := .o, utype := 0xD, unit := some 0xD000, len := 8,
  fields := [(0, 63, 56), (0, 55, 32), (0, 31, 27)],
  bad := fun c =>
    (if c.f 0 63 56 = 0 ∨ 0x0A < c.f 0 63 56 then [fieldAt 0 56] else [])
    ++ (if c.f 0 55 32 = 0 then [fieldAt 0 32] else [])
    ++ (if c.f 0 31 27 = 0 ∨ 16 < c.f 0 31 27 then [fieldAt 0 27] else []) }

/-- The effect of FAULT_CONFIG, source form: histories are kept (R483). -/
def applyFaultConfigSource (c : Cmd) (b : Blk) : Blk × Res :=
  ({ b with tele := { b.tele with
      windows := Tab.set (0, 0) b.tele.windows (c.f 0 63 56) (c.f 0 55 32, c.f 0 31 27) } }, {})

/-- FAULT_CONFIG for a source kind (R488). -/
def execFaultConfigSource (c : Cmd) (s : State) : Host.Outcome State Fault Refusal :=
  s.opcode Op.faultConfigSource c applyFaultConfigSource

/-- FAULT_CONFIG, wear form (R488). -/
def Op.faultConfigWear : Op := {
  code := 0x0C05, perm := .o, utype := 0xD, unit := some 0xD000, len := 8,
  fields := [(0, 63, 56), (0, 55, 46)],
  bad := fun c =>
    (if c.f 0 63 56 ≠ 0 then [fieldAt 0 56] else []) ++ (if 1000 < c.f 0 55 46 then [fieldAt 0 46] else []) }

/-- The effect of FAULT_CONFIG, wear form. -/
def applyFaultConfigWear (c : Cmd) (b : Blk) : Blk × Res :=
  ({ b with tele := { b.tele with warnMargin := c.f 0 55 46 } }, {})

/-- FAULT_CONFIG for wear (R488). -/
def execFaultConfigWear (c : Cmd) (s : State) : Host.Outcome State Fault Refusal :=
  s.opcode Op.faultConfigWear c applyFaultConfigWear

/-- UNIT_RETEST (R489). -/
def Op.unitRetest : Op := {
  code := 0x0C06, perm := .o, utype := 0xD, unit := some 0xD000, len := 8, fields := [(0, 63, 56), (0, 55, 40)],
  bad := fun c =>
    let k := c.f 0 63 56
    let i := c.f 0 55 40
    (if k = 0 ∨ 0x0A < k then [fieldAt 0 56] else if sourceCount k ≤ i then [fieldAt 0 40] else [])
    ++ (if k ≤ 2 ∧ dormantIsland i then [fieldAt 0 40] else []),
  others := fun c => [sourceUnit (c.f 0 63 56) (c.f 0 55 40)] }

/-- The effect of UNIT_RETEST: the self-test begins and the event history is cleared (R479). -/
def applyUnitRetest (c : Cmd) (b : Blk) : Blk × Res :=
  let k := c.f 0 63 56
  let i := c.f 0 55 40
  if b.tele.role k i = .retired ∨ b.tele.role k i = .testing then
    (b.updSource k i (fun s => { s with role := .testing, events := [] }), {})
  else (b, Res.badField 0 40)

/-- UNIT_RETEST (R489). -/
def execUnitRetest (c : Cmd) (s : State) : Host.Outcome State Fault Refusal := s.opcode Op.unitRetest c applyUnitRetest

/-- WEAR_READ (R490). -/
def Op.wearRead : Op := {
  code := 0x0C07, perm := .o, read := true, utype := 0xD, unit := some 0xD000, len := 8,
  fields := [(0, 63, 57), (0, 56, 50)],
  bad := fun c =>
    (if 103 < c.f 0 63 57 then [fieldAt 0 57] else [])
    ++ (if c.f 0 56 50 = 0 ∨ 104 < c.f 0 56 50 ∨ (c.f 0 63 57 ≤ 103 ∧ 104 < c.f 0 63 57 + c.f 0 56 50) then [fieldAt 0 50]
        else []) }

/-- A monitor's 32 bytes. -/
def Wear.bytes (w : Wear) : List Byte :=
  wordsLe [w.eqHours, pack [(w.shift, 44), (w.margin, 34), (w.remain, 18), (w.tjAvg.toNat, 6)], w.updated % 2 ^ 64, 0]

/-- The effect of WEAR_READ. -/
def applyWearRead (c : Cmd) (b : Blk) : Blk × Res :=
  (b, { ext := (List.range (c.f 0 56 50)).flatMap (fun k => (Tab.get {} b.tele.wear (c.f 0 63 57 + k)).bytes) })

/-- WEAR_READ (R490). -/
def execWearRead (c : Cmd) (s : State) : Host.Outcome State Fault Refusal := s.opcode Op.wearRead c applyWearRead

end Sys2Proof.Machine
end

