-- ==== Sys2Proof/Machine/Device.lean ====
section
/-! DEFINITION. The device as a whole: the opcodes of chapters 02 and 15, which find what is fitted, move ownership, report
status, load firmware and start a self-test. -/
namespace Sys2Proof

/-- Sets n entries from lo on to one value. -/
def Tab.setRange {α : Type} [DecidableEq α] (d : α) (t : Tab α) (lo n : Nat) (v : α) : Tab α :=
  t.filter (fun x => decide (x.1 < lo)) ++ (if v = d then [] else (List.range n).map (fun i => (lo + i, v)))
  ++ t.filter (fun x => decide (lo + n ≤ x.1))

end Sys2Proof

namespace Sys2Proof.Machine

/-! ### Finding what is fitted (R73, R76) -/

/-- CMD_IF_VERSION (R50). -/
def cmdIfVersion : Nat := 3

/-- CAPS_QUERY (R73). -/
def Op.capsQuery : Op := { code := 0x0001, perm := .a, dormant := true, read := true, utype := 0x0, unit := some 0 }

/-- Engines of a role whose cluster island works. -/
def Blk.engines (b : Blk) (r : Role) : Nat :=
  ((List.range 272).filter (fun e => b.tele.role 0x09 e == r && !b.tele.islandRetired (84 + e / 17))).length

/-- The effect of CAPS_QUERY. -/
def applyCapsQuery (_c : Cmd) (b : Blk) : Blk × Res :=
  let p := b.sys.part
  (b, Res.words [
    2 ^ Part.trees p - 1, pack [(Part.code p, 48), (unitsFitted p, 0)],
    pack [(b.engines .serving, 48), (b.engines .spare, 32)],
    pack [(b.sys.fwVersion % 2 ^ 32, 32), (cmdIfVersion, 16), (b2n b.sys.straps.compat, 0)]])

/-- CAPS_QUERY (R73). -/
def execCapsQuery (c : Cmd) (s : State) : Host.Outcome State Fault Refusal := s.opcode Op.capsQuery c applyCapsQuery

/-- EPOCH_READ (R76). -/
def Op.epochRead : Op := { code := 0x0002, perm := .a, read := true, utype := 0x0, unit := some 0 }

/-- The effect of EPOCH_READ: the apply-epoch, and OPEN_EPOCH as of its start. -/
def applyEpochRead (_c : Cmd) (b : Blk) : Blk × Res :=
  (b, Res.words [b.clk.epoch % 2 ^ 64, (b.clk.epoch + 1) % 2 ^ 64])

/-- EPOCH_READ (R76). -/
def execEpochRead (c : Cmd) (s : State) : Host.Outcome State Fault Refusal := s.opcode Op.epochRead c applyEpochRead

/-- NOP (R76). -/
def Op.nop : Op := { code := 0x0003, perm := .a, utype := 0x0, unit := some 0 }

/-- The effect of NOP: none. -/
def applyNop (_c : Cmd) (b : Blk) : Blk × Res := (b, {})

/-- NOP (R76). -/
def execNop (c : Cmd) (s : State) : Host.Outcome State Fault Refusal := s.opcode Op.nop c applyNop

/-! ### Ownership (R65, R76) -/

/-- Objects of a kind: 1 carriers, 2 grant queues, 3 endpoint blocks, 4 rule partitions. -/
def objectCount (kind : Nat) : Nat :=
  match kind with
  | 1 => 2 ^ 22
  | 2 => 2 ^ 17
  | 3 => 8192
  | 4 => 256
  | _ => 0

/-- Objects of a kind that a part has: carriers and grant queues of fitted trees. -/
def objectsFitted (p : Part) (kind : Nat) : Nat :=
  match kind with
  | 1 => Part.trees p * 65536
  | 2 => Part.trees p * 2048
  | k => objectCount k

/-- Offsets at fault in the object range of TENANT_ASSIGN and TENANT_QUERY. -/
def objectBad (p : Part) (c : Cmd) : List Nat :=
  let kind := c.f 0 63 56
  let first := c.f 0 47 0
  let n := c.f 1 31 0
  (if kind = 0 ∨ 4 < kind then [fieldAt 0 56]
   else (if objectsFitted p kind ≤ first then [fieldAt 0 0] else [])
     ++ (if first < objectsFitted p kind ∧ objectsFitted p kind < first + n then [fieldAt 0 0] else []))
  ++ (if n = 0 ∨ 65536 < n then [fieldAt 1 0] else [])

/-- TENANT_ASSIGN (R76). -/
def Op.tenantAssign (p : Part) : Op := {
  code := 0x0004, perm := .o, utype := 0x0, unit := some 0, len := 12,
  fields := [(0, 63, 56), (0, 55, 48), (0, 47, 0), (1, 31, 0)],
  bad := fun c => (if 64 < c.f 0 55 48 then [fieldAt 0 48] else []) ++ objectBad p c }

/-- The owners after an assignment. -/
def Owners.assign (o : Owners) (kind first n tenant : Nat) : Owners :=
  match kind with
  | 1 => { o with carrier := Tab.setRange 0 o.carrier first n tenant }
  | 2 => { o with queue := Tab.setRange 0 o.queue first n tenant }
  | 3 => { o with block := Tab.setRange 0 o.block first n tenant }
  | _ => { o with rules := Tab.setRange 0 o.rules first n tenant }

/-- Open outage records and reports about endpoints of a block close, and go to the owner they had (R258, R457). -/
def Blk.closeBlock (b : Blk) (first n tenant : Nat) : Blk :=
  let b := b.gatherAll
  let moved := fun (k : Nat) => decide (first ≤ k) && decide (k < first + n) && Tab.get 0 b.owners.block k != tenant
  let recs := b.dir.open_.filter (fun r => r.kind != 3 && r.kind != 4 && r.entries.any (fun e => moved (e / 4096)))
  let reps := b.tum.reports.filter (fun r => r.blocks.any moved)
  reps.foldl (fun b r => b.closeReport r) (recs.foldl (fun b r => b.closeRec r) b)

/-- The effect of TENANT_ASSIGN. -/
def applyTenantAssign (c : Cmd) (b : Blk) : Blk × Res :=
  let kind := c.f 0 63 56
  let first := c.f 0 47 0
  let n := c.f 1 31 0
  let b := if kind = 3 then b.closeBlock first n (c.f 0 55 48) else b
  let owners := Vers.write {} b.host.owners b.clk.epoch (fun o => o.assign kind first n (c.f 0 55 48))
  ({ b with host := { b.host with owners := owners } }, {})

/-- TENANT_ASSIGN (R76). -/
def execTenantAssign (c : Cmd) (s : State) : Host.Outcome State Fault Refusal :=
  s.opcode (Op.tenantAssign s.blk.sys.part) c applyTenantAssign

/-- TENANT_QUERY (R76). -/
def Op.tenantQuery (p : Part) : Op := {
  code := 0x0005, perm := .t, read := true, utype := 0x0, unit := some 0, len := 12,
  fields := [(0, 63, 56), (0, 47, 0), (1, 31, 0)], bad := objectBad p }

/-- The owner of an object of a kind. -/
def Blk.objectOwner (b : Blk) (kind k : Nat) : Nat :=
  Tab.get 0 (match kind with
    | 1 => b.owners.carrier
    | 2 => b.owners.queue
    | 3 => b.owners.block
    | _ => b.owners.rules) k

/-- The effect of TENANT_QUERY: a tenant sees 0xFF for what it does not own. -/
def applyTenantQuery (c : Cmd) (b : Blk) : Blk × Res :=
  (b, { ext := (List.range (c.f 1 31 0)).map (fun i =>
    let o := b.objectOwner (c.f 0 63 56) (c.f 0 47 0 + i)
    BitVec.ofNat 8 (if mayAct c.tenant o then o else 0xFF)) })

/-- TENANT_QUERY (R76). -/
def execTenantQuery (c : Cmd) (s : State) : Host.Outcome State Fault Refusal :=
  s.opcode (Op.tenantQuery s.blk.sys.part) c applyTenantQuery

/-! ### DEVICE_STATUS (R511) -/

/-- DEVICE_STATUS. -/
def Op.deviceStatus : Op := { code := 0x0D00, perm := .a, dormant := true, read := true, utype := 0x0, unit := some 0 }

/-- DEV_STATUS (R50). -/
def Blk.devStatus (b : Blk) : Nat :=
  devStatusWord b.sys.phase b.sys.fwReady b.sys.straps.compat b.pair.role.code

/-- A mask of n bits. -/
def maskOf (n : Nat) (p : Nat → Bool) : Nat := pack ((List.range n).map (fun i => (b2n (p i), i)))

/-- Caldera spare rows in use. -/
def Tele.rowsSpared (t : Tele) : Nat :=
  (t.sources.filter (fun s => s.1 / 65536 == 0x0A && s.2.role == .serving && s.2.slot.isSome)).length

/-- A cipher lane that is retired, by itself or with its island (R478). -/
def Tele.laneRetired (t : Tele) (l : Nat) : Bool := t.retired 0x04 l || t.islandRetired (78 + l / 3)

/-- The extended result of DEVICE_STATUS. -/
def Tele.retiredWords (t : Tele) : List Nat :=
  let isl := maskOf 102 t.islandRetired
  let pch := maskOf 68 (t.retired 0x06)
  let eng := maskOf 272 (t.retired 0x09)
  [isl % 2 ^ 64, isl / 2 ^ 64, pch % 2 ^ 64, pch / 2 ^ 64,
   pack [(maskOf 4 (t.retired 0x07), 16), (maskOf 4 (t.retired 0x05), 12), (maskOf 12 t.laneRetired, 0)]]
  ++ (List.range 5).map (fun i => eng / 2 ^ (64 * i) % 2 ^ 64) ++ [t.rowsSpared * 2 ^ 56, 0]

/-- The effect of DEVICE_STATUS. -/
def applyDeviceStatus (_c : Cmd) (b : Blk) : Blk × Res :=
  (b, {
    inl := wordsLe [b.devStatus, b.sys.cause, b.sys.startEpoch % 2 ^ 64, pack [(b.sys.startKind, 62), (b.sys.stFails, 46)]],
    ext := wordsLe b.tele.retiredWords })

/-- DEVICE_STATUS (R511). -/
def execDeviceStatus (c : Cmd) (s : State) : Host.Outcome State Fault Refusal := s.opcode Op.deviceStatus c applyDeviceStatus

/-! ### SELFTEST_RUN (R509) -/

/-- SELFTEST_RUN. -/
def Op.selftestRun : Op := {
  code := 0x0D01, perm := .o, dormant := true, utype := 0x0, unit := some 0, len := 8, fields := [(0, 63, 63)] }

/-- Whether a forced run waits for its boundary. -/
def Sys.forced (s : Sys) : Bool := s.dormantNext == some (causeWord 3 0 0 0)

/-- The effect of SELFTEST_RUN: a warm start in Dormant; with FORCE in service, Dormant at the boundary, then a warm start. -/
def applySelftestRun (c : Cmd) (b : Blk) : Blk × Res :=
  if b.sys.phase = .dormant then ({ b with sys := { b.sys with phase := .warmStart } }, {})
  else if b.sys.phase = .service ∧ c.b 0 63 ∧ !b.sys.forced then
    ({ b with sys := { b.sys with dormantNext := some (causeWord 3 0 0 0) } }, {})
  else (b, Res.badField 0 63)

/-- SELFTEST_RUN (R509), the opcode that may change the phase. -/
def execSelftestRun (c : Cmd) (s : State) : Host.Outcome State Fault Refusal :=
  s.run (fun b => b.timed (b.runOp Op.selftestRun c applySelftestRun))

/-! ### FW_LOAD (R506 to R508) -/

/-- The bit of PART_MASK of a part. -/
def Part.maskBit : Sys2Proof.Part → Nat
  | .bvh6400 => 0
  | .bvh6432 => 1
  | .bvh6416e => 2

/-- REASON of an image: 0, or the first check of the table that fails (R506). -/
def fwReason (p : Part) (c : Cmd) : Nat :=
  let img := c.ext
  let len := leWord img 1 / 2 ^ 32
  let code := (img.drop 64).take len
  if leWord img 0 / 2 ^ 32 ≠ 0x4E505457 then 1
  else if len % 8 ≠ 0 ∨ len < 8 ∨ 262144 < len ∨ extRoom c ≠ 128 + len then 2
  else if crc32c code ≠ leWord img 1 % 2 ^ 32 then 3
  else if !Config.signatureVerifies (img.take (64 + len)) ((img.drop (64 + len)).take 64) then 4
  else if !bit (leWord img 2) (45 + Part.maskBit p) then 5
  else if cmdIfVersion < bits (leWord img 2) 63 48 then 6
  else 0

/-- The 16-byte inline result of FW_LOAD. -/
def fwResult (p : Part) (c : Cmd) : List Byte := wordsLe [pack [(fwReason p c, 56), (leWord c.ext 0 % 2 ^ 32, 0)], 0]

/-- FW_LOAD, which checks its image at acceptance. -/
def Op.fwLoad (p : Part) : Op := {
  code := 0x0D02, perm := .o, dormant := true, utype := 0x0, unit := some 0,
  bad := fun c => if fwReason p c = 0 then [] else [0xFF], extResult := fwResult p }

/-- The effect of FW_LOAD: in service the image is being written, in Dormant it is staged (R507). -/
def applyFwLoad (c : Cmd) (b : Blk) : Blk × Res :=
  let v := leWord c.ext 0 % 2 ^ 32
  let sys := if b.sys.phase = .service then { b.sys with fwWriting := some v } else { b.sys with fwStaged := some v }
  ({ b with sys := sys }, { inl := fwResult b.sys.part c })

/-- FW_LOAD (R506). -/
def execFwLoad (c : Cmd) (s : State) : Host.Outcome State Fault Refusal := s.opcode (Op.fwLoad s.blk.sys.part) c applyFwLoad

/-- FW_IMAGE_WRITTEN (R507): the image is in every cluster's instruction store, and jobs resume. -/
def execFwImageWritten (s : State) : Host.Outcome State Fault Refusal :=
  s.svc (fun b =>
    match b.sys.fwWriting with
    | none => b
    | some v => { b with sys := { b.sys with fwVersion := v, fwReady := true, fwWriting := none } })

end Sys2Proof.Machine
end

