-- ==== Sys2Proof/Machine/Apply.lean ====
section
/-! DEFINITION. The opcode commands as a table: each form's place in the opcode index, its static checks and its effect, for
the commands that come in slots and wait in change sets. -/
namespace Sys2Proof.Machine

/-- An opcode command with what its chapter gives it. -/
structure OpRow where
  op : Op
  cmd : Cmd
  apply : Cmd → Blk → Blk × Res

/-- The row of an opcode command; none for an event. -/
def opRow (p : Part) (i : Instr) : Option OpRow :=
  match i with
  | .capsQuery c => some ⟨Op.capsQuery, c, applyCapsQuery⟩
  | .epochRead c => some ⟨Op.epochRead, c, applyEpochRead⟩
  | .nop c => some ⟨Op.nop, c, applyNop⟩
  | .tenantAssign c => some ⟨(Op.tenantAssign p), c, applyTenantAssign⟩
  | .tenantQuery c => some ⟨(Op.tenantQuery p), c, applyTenantQuery⟩
  | .treeConfig c => some ⟨Op.treeConfig, c, applyTreeConfig⟩
  | .defectConfig c => some ⟨Op.defectConfig, c, applyDefectConfig⟩
  | .treeStatus c => some ⟨Op.treeStatus, c, applyTreeStatus⟩
  | .circuitAisConfig c => some ⟨Op.circuitAisConfig, c, applyCircuitAisConfig⟩
  | .treeSetMode c => some ⟨Op.treeSetMode, c, applyTreeSetMode⟩
  | .treeProtectConfig c => some ⟨Op.treeProtectConfig, c, applyTreeProtectConfig⟩
  | .discoveryConfig c => some ⟨Op.discoveryConfig, c, applyDiscoveryConfig⟩
  | .terminalActivate c => some ⟨Op.terminalActivate, c, applyTerminalActivate⟩
  | .terminalDeactivate c => some ⟨Op.terminalDeactivate, c, applyTerminalDeactivate⟩
  | .rangeRead c => some ⟨Op.rangeRead, c, applyRangeRead⟩
  | .skewConfig c => some ⟨Op.skewConfig, c, applySkewConfig⟩
  | .gqConfig c => some ⟨Op.gqConfig, c, applyGqConfig⟩
  | .gqConfigTree c => some ⟨Op.gqConfigTree, c, applyGqConfigTree⟩
  | .gqConfigDevice c => some ⟨Op.gqConfigDevice, c, applyGqConfigDevice⟩
  | .gqRead c => some ⟨Op.gqRead, c, applyGqRead⟩
  | .circuitReserve c => some ⟨Op.circuitReserve, c, applyCircuitReserve⟩
  | .circuitRelease c => some ⟨Op.circuitRelease, c, applyCircuitRelease⟩
  | .accountRead c => some ⟨Op.accountRead, c, applyAccountRead⟩
  | .epWrite c => some ⟨Op.epWrite, c, applyEpWrite⟩
  | .epRead c => some ⟨Op.epRead, c, applyEpRead⟩
  | .epBind c => some ⟨Op.epBind, c, applyEpBind⟩
  | .epUnbind c => some ⟨Op.epUnbind, c, applyEpUnbind⟩
  | .agingConfig c => some ⟨Op.agingConfig, c, applyAgingConfig⟩
  | .outageConfig c => some ⟨Op.outageConfig, c, applyOutageConfig⟩
  | .flowWrite c => some ⟨Op.flowWrite, c, applyFlowWrite⟩
  | .flowRead c => some ⟨Op.flowRead, c, applyFlowRead⟩
  | .parseNodeWrite c => some ⟨Op.parseNodeWrite, c, applyParseNodeWrite⟩
  | .parseNodeRead c => some ⟨Op.parseNodeRead, c, applyParseNodeRead⟩
  | .ruleWrite c => some ⟨Op.ruleWrite, c, applyRuleWrite⟩
  | .ruleRead c => some ⟨Op.ruleRead, c, applyRuleRead⟩
  | .hashConfig c => some ⟨Op.hashConfig, c, applyHashConfig⟩
  | .indirectionWrite c => some ⟨Op.indirectionWrite, c, applyIndirectionWrite⟩
  | .exceptionConfig c => some ⟨Op.exceptionConfig, c, applyExceptionConfig⟩
  | .portConfigPort c => some ⟨Op.portConfigPort, c, applyPortConfigPort⟩
  | .portConfigSubPort c => some ⟨Op.portConfigSubPort, c, applyPortConfigSubPort⟩
  | .portConfigHost c => some ⟨Op.portConfigHost, c, applyPortConfigHost⟩
  | .queueConfig c => some ⟨Op.queueConfig, c, applyQueueConfig⟩
  | .thresholdConfig c => some ⟨Op.thresholdConfig, c, applyThresholdConfig⟩
  | .carrierMap c => some ⟨Op.carrierMap, c, applyCarrierMap⟩
  | .carrierMapGroup c => some ⟨Op.carrierMapGroup, c, applyCarrierMapGroup⟩
  | .mirrorConfigPort c => some ⟨Op.mirrorConfigPort, c, applyMirrorConfigPort⟩
  | .mirrorConfigEncap c => some ⟨Op.mirrorConfigEncap, c, applyMirrorConfigEncap⟩
  | .sampleConfig c => some ⟨Op.sampleConfig, c, applySampleConfig⟩
  | .frerConfig c => some ⟨Op.frerConfig, c, applyFrerConfig⟩
  | .frameInject c => some ⟨Op.frameInject, c, applyFrameInject⟩
  | .keyLoadEndpoint c => some ⟨Op.keyLoadEndpoint, c, applyKeyLoadEndpoint⟩
  | .keyLoadCarrier c => some ⟨Op.keyLoadCarrier, c, applyKeyLoadCarrier⟩
  | .keyLoadTenant c => some ⟨Op.keyLoadTenant, c, applyKeyLoadTenant⟩
  | .keyRetire c => some ⟨Op.keyRetire, c, applyKeyRetire⟩
  | .carrierCipher c => some ⟨Op.carrierCipher, c, applyCarrierCipher⟩
  | .nonceQuery c => some ⟨Op.nonceQuery, c, applyNonceQuery⟩
  | .checkConfig c => some ⟨Op.checkConfig, c, applyCheckConfig⟩
  | .checkSave c => some ⟨Op.checkSave, c, applyCheckSave⟩
  | .checkRestore c => some ⟨Op.checkRestore, c, applyCheckRestore⟩
  | .timeConfigDevice c => some ⟨Op.timeConfigDevice, c, applyTimeConfigDevice⟩
  | .timeConfigTree c => some ⟨Op.timeConfigTree, c, applyTimeConfigTree⟩
  | .ptpPortConfig c => some ⟨Op.ptpPortConfig, c, applyPtpPortConfig⟩
  | .stepTime c => some ⟨Op.stepTime, c, applyStepTime⟩
  | .timeRead c => some ⟨Op.timeRead, c, applyTimeRead⟩
  | .ppsConfig c => some ⟨Op.ppsConfig, c, applyPpsConfig⟩
  | .synceConfig c => some ⟨Op.synceConfig, c, applySynceConfig⟩
  | .pairConfig c => some ⟨Op.pairConfig, c, applyPairConfig⟩
  | .pairStatus c => some ⟨Op.pairStatus, c, applyPairStatus⟩
  | .roleSwap c => some ⟨(Op.roleRequest 0), c, applyRoleSwap⟩
  | .roleLock c => some ⟨(Op.roleRequest 1), c, applyRoleLock⟩
  | .roleUnlock c => some ⟨(Op.roleRequest 2), c, applyRoleUnlock⟩
  | .roleLeave c => some ⟨(Op.roleRequest 3), c, applyRoleLeave⟩
  | .roleRestoreNow c => some ⟨(Op.roleRequest 4), c, applyRoleRestoreNow⟩
  | .resyncStart c => some ⟨Op.resyncStart, c, applyResyncStart⟩
  | .wtrConfig c => some ⟨Op.wtrConfig, c, applyWtrConfig⟩
  | .handlerWrite c => some ⟨Op.handlerWrite, c, applyHandlerWrite⟩
  | .handlerRead c => some ⟨Op.handlerRead, c, applyHandlerRead⟩
  | .mgmtConfigTree c => some ⟨Op.mgmtConfigTree, c, applyMgmtConfigTree⟩
  | .mgmtConfigSend c => some ⟨Op.mgmtConfigSend, c, applyMgmtConfigSend⟩
  | .engineStatus c => some ⟨Op.engineStatus, c, applyEngineStatus⟩
  | .engineCounterRead c => some ⟨Op.engineCounterRead, c, applyEngineCounterRead⟩
  | .counterRead c => some ⟨Op.counterRead, c, applyCounterRead⟩
  | .counterClear c => some ⟨Op.counterClear, c, applyCounterClear⟩
  | .binRead c => some ⟨Op.binRead, c, applyBinRead⟩
  | .ventRead c => some ⟨Op.ventRead, c, applyVentRead⟩
  | .ventExtend c => some ⟨Op.ventExtend, c, applyVentExtend⟩
  | .faultConfigSource c => some ⟨Op.faultConfigSource, c, applyFaultConfigSource⟩
  | .faultConfigWear c => some ⟨Op.faultConfigWear, c, applyFaultConfigWear⟩
  | .unitRetest c => some ⟨Op.unitRetest, c, applyUnitRetest⟩
  | .wearRead c => some ⟨Op.wearRead, c, applyWearRead⟩
  | .deviceStatus c => some ⟨Op.deviceStatus, c, applyDeviceStatus⟩
  | .selftestRun c => some ⟨Op.selftestRun, c, applySelftestRun⟩
  | .fwLoad c => some ⟨(Op.fwLoad p), c, applyFwLoad⟩
  | _ => none

/-- The command that an opcode and a payload name (R75), in the form that the payload selects; none where the opcode is not in
the index. -/
def instrOf (code : Nat) (c : Cmd) : Option Instr :=
  match code with
  | 0x0001 => some (.capsQuery c)
  | 0x0002 => some (.epochRead c)
  | 0x0003 => some (.nop c)
  | 0x0004 => some (.tenantAssign c)
  | 0x0005 => some (.tenantQuery c)
  | 0x0100 => some (.treeConfig c)
  | 0x0101 => some (.defectConfig c)
  | 0x0102 => some (.treeStatus c)
  | 0x0103 => some (.circuitAisConfig c)
  | 0x0200 => some (.treeSetMode c)
  | 0x0201 => some (.treeProtectConfig c)
  | 0x0300 => some (.discoveryConfig c)
  | 0x0301 => some (.terminalActivate c)
  | 0x0302 => some (.terminalDeactivate c)
  | 0x0303 => some (.rangeRead c)
  | 0x0304 => some (.skewConfig c)
  | 0x0400 => some (if c.f 0 63 62 = 1 then .gqConfigTree c else if c.f 0 63 62 = 2 then .gqConfigDevice c else .gqConfig c)
  | 0x0401 => some (.gqRead c)
  | 0x0402 => some (.circuitReserve c)
  | 0x0403 => some (.circuitRelease c)
  | 0x0404 => some (.accountRead c)
  | 0x0500 => some (.epWrite c)
  | 0x0501 => some (.epRead c)
  | 0x0502 => some (.epBind c)
  | 0x0503 => some (.epUnbind c)
  | 0x0504 => some (.agingConfig c)
  | 0x0505 => some (.outageConfig c)
  | 0x0506 => some (.flowWrite c)
  | 0x0507 => some (.flowRead c)
  | 0x0600 => some (.parseNodeWrite c)
  | 0x0601 => some (.parseNodeRead c)
  | 0x0602 => some (.ruleWrite c)
  | 0x0603 => some (.ruleRead c)
  | 0x0604 => some (.hashConfig c)
  | 0x0605 => some (.indirectionWrite c)
  | 0x0606 => some (.exceptionConfig c)
  | 0x0700 => some (if c.f 0 63 62 = 1 then .portConfigSubPort c
      else if c.f 0 63 62 = 2 then .portConfigHost c
      else .portConfigPort c)
  | 0x0701 => some (.queueConfig c)
  | 0x0702 => some (.thresholdConfig c)
  | 0x0703 => some (if c.b 0 63 then .carrierMapGroup c else .carrierMap c)
  | 0x0704 => some (if c.b 0 63 then .mirrorConfigEncap c else .mirrorConfigPort c)
  | 0x0705 => some (.sampleConfig c)
  | 0x0706 => some (.frerConfig c)
  | 0x0707 => some (.frameInject c)
  | 0x0800 => some (if c.f 0 63 62 = 1 then .keyLoadCarrier c
      else if c.f 0 63 62 = 2 then .keyLoadTenant c
      else .keyLoadEndpoint c)
  | 0x0801 => some (.keyRetire c)
  | 0x0802 => some (.carrierCipher c)
  | 0x0803 => some (.nonceQuery c)
  | 0x0804 => some (.checkConfig c)
  | 0x0805 => some (.checkSave c)
  | 0x0806 => some (.checkRestore c)
  | 0x0900 => some (if c.b 0 63 then .timeConfigTree c else .timeConfigDevice c)
  | 0x0901 => some (.ptpPortConfig c)
  | 0x0902 => some (.stepTime c)
  | 0x0903 => some (.timeRead c)
  | 0x0904 => some (.ppsConfig c)
  | 0x0905 => some (.synceConfig c)
  | 0x0A00 => some (.pairConfig c)
  | 0x0A01 => some (.pairStatus c)
  | 0x0A02 => some (if c.f 0 63 61 = 1 then .roleLock c
      else if c.f 0 63 61 = 2 then .roleUnlock c
      else if c.f 0 63 61 = 3 then .roleLeave c
      else if c.f 0 63 61 = 4 then .roleRestoreNow c
      else .roleSwap c)
  | 0x0A03 => some (.resyncStart c)
  | 0x0A04 => some (.wtrConfig c)
  | 0x0B00 => some (.handlerWrite c)
  | 0x0B01 => some (.handlerRead c)
  | 0x0B02 => some (if c.b 0 63 then .mgmtConfigSend c else .mgmtConfigTree c)
  | 0x0B03 => some (.engineStatus c)
  | 0x0B04 => some (.engineCounterRead c)
  | 0x0C00 => some (.counterRead c)
  | 0x0C01 => some (.counterClear c)
  | 0x0C02 => some (.binRead c)
  | 0x0C03 => some (.ventRead c)
  | 0x0C04 => some (.ventExtend c)
  | 0x0C05 => some (if c.f 0 63 56 = 0 then .faultConfigWear c else .faultConfigSource c)
  | 0x0C06 => some (.unitRetest c)
  | 0x0C07 => some (.wearRead c)
  | 0x0D00 => some (.deviceStatus c)
  | 0x0D01 => some (.selftestRun c)
  | 0x0D02 => some (.fwLoad c)
  | _ => none

/-- The same command with its packet changed. -/
def withCmd (p : Part) (i : Instr) (f : Cmd → Cmd) : Instr :=
  match opRow p i with
  | none => i
  | some r => (instrOf r.op.code (f r.cmd)).getD i

/-! ### Change sets (R31, R32, R62, R402) -/

/-- A position of a ring as a number that grows with the order of fetching, across the wrap of the 32-bit index (R43). -/
def Blk.ringOrder (b : Blk) (c : Cmd) : Nat :=
  if c.partner ∨ c.ring = 8 then 0
  else 2 ^ 32 - ((Tab.get {} b.host.rings (c.tenant * 8 + c.ring)).cmdCons - BitVec.ofNat 32 c.pos).toNat

/-- Where a command stands in the order of its epoch: tenant, source chip with wavelength A first, ring with the sideband
after ring 7, ring position. The partner's commands come over the link in their ring order. -/
def Blk.orderKey (b : Blk) (i : Instr) : List Nat :=
  match opRow b.sys.part i with
  | none => []
  | some r => [r.cmd.tenant, b2n (r.cmd.partner != b.wave), r.cmd.ring, b.ringOrder r.cmd]

/-- Applies a staged command. -/
def Blk.applyStaged (b : Blk) (changeSet : Nat) (i : Instr) : Blk :=
  match opRow b.sys.part i with
  | none => b
  | some r => b.applyOp r.op r.cmd r.apply changeSet

/-- Whether a command only reads, so that it applies after the writes of its boundary (R33). -/
def Blk.isRead (b : Blk) (i : Instr) : Bool := (opRow b.sys.part i).any (fun r => r.op.read)

/-- Puts a command into the change set of an epoch. -/
def stage (sets : List (Nat × List Instr)) (e : Nat) (i : Instr) : List (Nat × List Instr) :=
  match sets with
  | [] => [(e, [i])]
  | (k, l) :: r => if k = e then (k, l ++ [i]) :: r else if e < k then (e, [i]) :: (k, l) :: r else (k, l) :: stage r e i

/-- The commands of an epoch's change set. -/
def setOf (sets : List (Nat × List Instr)) (e : Nat) : List Instr :=
  match sets.find? (fun x => x.1 == e) with
  | none => []
  | some x => x.2

/-- Opcodes that write and yet act on one chip of a pair alone (R401). -/
def localOpcodes : List Nat :=
  [0x0201, 0x0304, 0x0700, 0x0701, 0x0702, 0x0704, 0x0705, 0x0900, 0x0901, 0x0902, 0x0904, 0x0905, 0x0C01, 0x0C04, 0x0C05,
   0x0C06, 0x0D01, 0x0D02, 0x0A00, 0x0A03, 0x0003]

/-- Whether both chips of a joined pair apply an opcode (R401). -/
def Op.pairWide (o : Op) : Bool := !o.read && !localOpcodes.contains o.code

end Sys2Proof.Machine
end

