-- ==== Sys2Proof/Machine/Interface.lean ====
section
/-! DEFINITION. The host's side: BAR0, the command rings, acceptance into change sets, replies, interrupts, the sideband
and the PCIe resets (02, R495, R496). -/
namespace Sys2Proof.Machine

/-! ### BAR0 (R50) -/

/-- A ring, by function × 8 + ring. -/
def Blk.cmdRing (b : Blk) (k : Nat) : Ring := Tab.get {} b.host.rings k

/-- Changes a ring. -/
def Blk.updCmdRing (b : Blk) (k : Nat) (f : Ring → Ring) : Blk :=
  { b with host := { b.host with rings := Tab.upd {} b.host.rings k f } }

/-- RING_CTRL as it reads (R50). -/
def Ring.word (r : Ring) : Nat := pack [(b2n r.enable, 63), (b2n (r.owed == 0), 62), (b2n r.overrun, 61), (r.size, 0)]

/-- Whether a function has the ring (R41). -/
def ringThere (fn ring : Nat) : Bool := decide (fn ≤ 64) && decide (ring < 8)

/-- The 8 bytes of BAR0 at an offset that is a multiple of 8 (R50). -/
def Blk.barWord (b : Blk) (fn offset : Nat) : Nat :=
  if offset = 0x0000 then
    pack [(0x4E50, 48), (Part.code b.sys.part, 32), (b.sys.rev, 24), (fn, 16), (cmdIfVersion, 8)]
  else if offset = 0x0008 then b.devStatus
  else if offset = 0x0010 then b.clk.epoch % 2 ^ 64
  else if offset = 0x0018 then b.openEpoch % 2 ^ 64
  else if offset = 0x0020 then if fn = 0 ∧ b.sys.phase.inDormant then b.sys.cause else 0
  else if 0x100 ≤ offset ∧ offset < 0x300 then
    let r := b.cmdRing (fn * 8 + (offset - 0x100) / 64)
    match (offset - 0x100) % 64 with
    | 0x00 => r.word
    | 0x08 => r.cmdBase
    | 0x10 => r.replyBase
    | 0x18 => r.cmdProd.toNat + r.cmdCons.toNat * 2 ^ 32
    | 0x20 => r.replyProd.toNat + r.replyCons.toNat * 2 ^ 32
    | _ => 0
  else 0

/-- What a read of BAR0 returns: one access of 8 bytes, or of 4 bytes at a 32-bit register or at one half of a 64-bit one
(R50). The table has no command that reads BAR0. -/
def Blk.barRead (b : Blk) (fn offset width : Nat) : Nat :=
  if width = 8 ∧ offset % 8 = 0 then b.barWord fn offset
  else if width = 4 ∧ offset % 4 = 0 then b.barWord fn (offset / 8 * 8) / 2 ^ (offset % 8 * 8) % 2 ^ 32
  else 0

/-- A write of RING_CTRL: the halves written say whether SIZE_LOG2 and whether ENABLE and OVERRUN take part. SIZE_LOG2
takes effect before ENABLE is judged (R48, R50). -/
def Ring.ctrl (r : Ring) (v : Nat) (low high : Bool) : Ring :=
  let o := if high && bit v 61 then false else r.overrun
  let size := if low && !r.enable && r.owed == 0 then bits v 4 0 else r.size
  let r := { r with overrun := o, size := size }
  if !high then r
  else if !bit v 63 then { r with enable := false }
  else if !r.enable && decide (6 ≤ r.size) && decide (r.size ≤ 16) then
    { r with enable := true, halted := false, cmdProd := 0, cmdCons := 0, replyProd := 0, replyCons := 0 }
  else r

/-- A write that reaches a ring: PCIe is up and the function has the ring. -/
def Blk.onRing (b : Blk) (fn ring : Nat) (f : Ring → Ring) : Blk :=
  if b.pcie && ringThere fn ring then b.updCmdRing (fn * 8 + ring) f else b

/-- An 8-byte write of RING_CTRL. -/
def Blk.ringCtrl (b : Blk) (fn ring : Nat) (v : W64) : Blk := b.onRing fn ring (fun r => r.ctrl v.toNat true true)

/-- RING_ENABLE (R48). -/
def execRingEnable (fn ring : Nat) (value : W64) (s : State) : Host.Outcome State Fault Refusal :=
  s.unit (fun b => b.ringCtrl fn ring value)

/-- RING_DISABLE (R48). -/
def execRingDisable (fn ring : Nat) (value : W64) (s : State) : Host.Outcome State Fault Refusal :=
  s.unit (fun b => b.ringCtrl fn ring value)

/-- RING_SIZE_SET (R48). -/
def execRingSizeSet (fn ring : Nat) (value : W64) (s : State) : Host.Outcome State Fault Refusal :=
  s.unit (fun b => b.ringCtrl fn ring value)

/-- RING_OVERRUN_CLEAR (R10, R50). -/
def execRingOverrunClear (fn ring : Nat) (value : W64) (s : State) : Host.Outcome State Fault Refusal :=
  s.unit (fun b => b.ringCtrl fn ring value)

/-- A write of CMD_PROD: more than 2^S beyond CMD_CONS halts the ring (R43, R49). -/
def Blk.ringBell (b : Blk) (fn ring : Nat) (prod : BitVec 32) : Blk :=
  if b.pcie && ringThere fn ring then
    let r := b.cmdRing (fn * 8 + ring)
    if 2 ^ r.size < (prod - r.cmdCons).toNat ∧ !r.halted then
      (b.updCmdRing (fn * 8 + ring) (fun r => { r with cmdProd := prod, halted := true, overrun := true })).vent
        { type := 0x0002, tenant := fn, island := 100, object := fn * 8 + ring }
    else b.updCmdRing (fn * 8 + ring) (fun r => { r with cmdProd := prod })
  else b

/-- CMD_DOORBELL (R43, R49). -/
def execCmdDoorbell (fn ring : Nat) (prod : BitVec 32) (s : State) : Host.Outcome State Fault Refusal :=
  s.unit (fun b => b.ringBell fn ring prod)

/-- REPLY_DOORBELL (R43, R44). -/
def execReplyDoorbell (fn ring : Nat) (cons : BitVec 32) (s : State) : Host.Outcome State Fault Refusal :=
  s.unit (fun b => b.onRing fn ring (fun r => { r with replyCons := cons }))

/-- A 64-bit register with the halves written replaced. -/
def mergeHalves (old v : Nat) (low high : Bool) : Nat :=
  (if high then v / 2 ^ 32 else old / 2 ^ 32) % 2 ^ 32 * 2 ^ 32 + (if low then v else old) % 2 ^ 32

/-- A write to a BAR0 register, of 8 bytes or of one half: CMD_BASE and REPLY_BASE only while the ring is disabled and idle,
read-only and unlisted offsets not at all (R10, R48, R50). -/
def Blk.barWrite (b : Blk) (fn offset value width : Nat) : Blk :=
  let reg := offset / 8 * 8
  let low := width == 8 || offset % 8 == 0
  let high := width == 8 || offset % 8 == 4
  let v := if width = 8 ∨ offset % 8 = 0 then value else value * 2 ^ 32
  if (width = 8 ∧ offset % 8 = 0 ∨ width = 4 ∧ offset % 4 = 0) ∧ 0x100 ≤ reg ∧ reg < 0x300 then
    let ring := (reg - 0x100) / 64
    let idle (r : Ring) : Bool := !r.enable && r.owed == 0
    match (reg - 0x100) % 64 with
    | 0x00 => b.onRing fn ring (fun r => r.ctrl v low high)
    | 0x08 => b.onRing fn ring (fun r => if idle r then { r with cmdBase := mergeHalves r.cmdBase v low high } else r)
    | 0x10 => b.onRing fn ring (fun r => if idle r then { r with replyBase := mergeHalves r.replyBase v low high } else r)
    | 0x18 => if low then b.ringBell fn ring (BitVec.ofNat 32 v) else b
    | 0x20 => if high then b.onRing fn ring (fun r => { r with replyCons := BitVec.ofNat 32 (v / 2 ^ 32) }) else b
    | _ => b
  else b

/-- REGISTER_WRITE (R50). -/
def execRegisterWrite (fn offset value width : Nat) (s : State) : Host.Outcome State Fault Refusal :=
  s.unit (fun b => b.barWrite fn offset value width)

/-! ### Command slots (R51, R77 to R80) -/

/-- A native command slot: the opcode and the command, with the offset of a reserved header field that is not zero. -/
def parseNative (tenant ring pos : Nat) (slot ext : List Byte) (partner : Bool) : Nat × Cmd :=
  let w0 := leWord slot 0
  let w3 := leWord slot 3
  let len := bits w0 23 16
  (bits w0 63 48, {
    tenant := tenant, ring := ring, pos := pos, tag := bits w0 47 32, legacy := bit w0 31, asap := bit w0 30,
    irq := bit w0 29, unit := bits w0 15 0, epoch := leWord slot 1, extAddr := leWord slot 2, extLen := bits w3 39 16,
    inlineLen := len, inl := leNat ((slot.drop 32).take (min len 96)), ext := ext.take (bits w3 39 16), partner := partner,
    badHeader := least ((if bits w0 28 24 = 0 then [] else [3]) ++ (if bits w3 63 40 = 0 then [] else [29])
      ++ (if bits w3 15 0 = 0 then [] else [24])) })

/-- The opcodes that carry a unit word in the BVH-2100 layout (R80, item 3). -/
def unitWordOpcodes : List Nat :=
  [0x0100, 0x0101, 0x0102, 0x0200, 0x0201, 0x0300, 0x0301, 0x0302, 0x0303, 0x0304, 0x0600, 0x0601, 0x0604, 0x0605, 0x0700,
   0x0901, 0x0B02, 0x0B03]

/-- The unit that a BVH-2100 command without a unit word addresses (R80, items 1 and 2). -/
def legacyUnit (p : Part) (code : Nat) (c : Cmd) : Nat :=
  if code = 0x0602 then 0x7000 + c.f 0 63 48 / 32768
  else if code = 0x0603 then 0x7000 + c.f 1 63 48 / 32768
  else
    match (instrOf code c).bind (opRow p) with
    | none => 0
    | some r =>
      match (r.op.names c).find? (fun n => n.1 / 4096 == r.op.utype) with
      | some n => n.1
      | none => r.op.unit.getD (r.op.utype * 4096)

/-- A BVH-2100 command slot (R78 to R80). -/
def parseLegacy (p : Part) (tenant ring pos : Nat) (slot ext : List Byte) : Nat × Cmd :=
  let w0 := leWord slot 0
  let w1 := leWord slot 1
  let code := bits w0 15 0
  let len := bits w0 23 16
  let inl := leNat ((slot.drop 16).take (min len 48))
  let unitWord := inl % 2 ^ 64
  let carries := unitWordOpcodes.contains code && !(code == 0x0700 && bits unitWord 63 62 == 2)
  let extLen := w1 % 4096 * 4096
  let c : Cmd := {
    tenant := tenant, ring := ring, pos := pos, tag := bits w0 63 32, legacy := true, asap := true, irq := true, unit := 0,
    epoch := 0, extAddr := w1 / 4096 * 4096, extLen := extLen, inlineLen := if carries then len - 8 else len,
    inl := if carries then inl / 2 ^ 64 else inl, ext := ext.take extLen, partner := false,
    badHeader := least ((if 48 < len ∨ carries ∧ len < 8 then [2] else [])
      ++ (if carries ∧ unitWord / 65536 ≠ 0 then [18] else [])) }
  (code, { c with unit := if carries then unitWord % 65536 else legacyUnit p code c })

/-- A slot of a ring, in the layout that the strap and its bit 31 select (R77). -/
def Blk.parseSlot (b : Blk) (tenant ring pos : Nat) (slot ext : List Byte) : Nat × Cmd :=
  if b.sys.straps.compat || bit (leWord slot 0) 31 then parseLegacy b.sys.part tenant ring pos slot ext
  else parseNative tenant ring pos slot ext false

end Sys2Proof.Machine

namespace Sys2Proof
open Machine

/-- A command as a native slot: what a COMMAND frame carries (R401). -/
def Cmd.slot (code : Nat) (c : Cmd) : List Byte :=
  wordsLe [pack [(code, 48), (c.tag % 65536, 32), (b2n c.asap, 30), (b2n c.irq, 29), (c.inlineLen, 16), (c.unit, 0)],
           c.epoch, c.extAddr, c.extLen * 65536]
  ++ toLe c.inl 96

end Sys2Proof

namespace Sys2Proof.Machine

/-! ### Acceptance (R20, R31, R44, R57, R61, R401) -/

/-- Whether pair-wide commands go over the link: the pair is joined, or a newcomer is being fed (R401, R420, R427). -/
def Blk.forwards (b : Blk) : Bool := b.joined || b.feeding || b.pair.role == .joining

/-- Sends a pair-wide command over the link and waits for its staging acknowledgement (R401). -/
def Blk.forward (b : Blk) (code : Nat) (c : Cmd) (e : Nat) : Blk :=
  (b.sendLink 0x0A ([0] ++ toBe c.tenant 1 ++ toBe c.ring 1 ++ toBe c.pos 4 ++ toBe e 8 ++ c.slot code ++ c.ext)).setPair
    (fun p => { p with staged := p.staged ++ [⟨c.tenant, c.ring, c.pos, e⟩] })

/-- Withdraws a command from the partner (R414). -/
def Blk.withdraw (b : Blk) (c : Cmd) : Blk :=
  b.sendLink 0x0A ([2] ++ toBe c.tenant 1 ++ toBe c.ring 1 ++ toBe c.pos 4)

/-- The tenant of a staged command. -/
def Blk.tenantOf (b : Blk) (i : Instr) : Option Nat := (opRow b.sys.part i).map (fun r => r.cmd.tenant)

/-- Why an epoch's change set has no room for a command of a tenant: 0 it has, 1 the device limit, 2 the tenant's (R61). -/
def Blk.setFull (b : Blk) (e tenant : Nat) : Nat :=
  let l := setOf b.host.sets e
  if 131072 ≤ l.length then 1
  else if tenant ≠ 0 ∧ 1024 ≤ (l.filter (fun i => b.tenantOf i == some tenant)).length then 2
  else 0

/-- The first epoch from e on whose change set has room (R61). -/
def Blk.roomFrom (b : Blk) (tenant : Nat) : Nat → Nat → Nat
  | 0, e => e
  | n + 1, e => if b.setFull e tenant = 0 then e else b.roomFrom tenant n (e + 1)

/-- Puts a command into the change set of an epoch. -/
def Blk.stageAt (b : Blk) (e : Nat) (i : Instr) : Blk := { b with host := { b.host with sets := stage b.host.sets e i } }

/-- Stages an accepted command, forwarded where it is pair-wide. -/
def Blk.take (b : Blk) (r : OpRow) (e : Nat) (i : Instr) : Blk :=
  let b := (b.stageAt e i).count 0xC5 0 r.cmd.tenant
  if r.op.pairWide && b.forwards then b.forward r.op.code r.cmd e else b

/-- Judges a command at acceptance: rejected with a reply, or placed in the change set of its apply-epoch (R57, R58). -/
def Blk.accept (b : Blk) (code : Nat) (c : Cmd) : Blk :=
  match instrOf code c with
  | none => b.answer code c (Res.err .unknownOp) b.clk.epoch 0 b.doneTime
  | some i =>
    match opRow b.sys.part i with
    | none => b
    | some r =>
      match b.acceptCheck r.op r.cmd with
      | some (st, d) => b.answer code c (r.op.rejection r.cmd st d) b.clk.epoch 0 b.doneTime
      | none =>
        if c.epoch < b.openEpoch ∧ c.asap = false then b.answer code c (Res.err .late) b.clk.epoch 0 b.doneTime
        else
          let e := max c.epoch b.openEpoch
          let full := b.setFull e c.tenant
          if full = 0 then b.take r e i
          else if c.asap then b.take r (b.roomFrom c.tenant (b.host.sets.length + 1) e) i
          else b.answer code c (Res.err .busy full) b.clk.epoch 0 b.doneTime

/-- Whether a ring gives a command: enabled, not halted, one made visible, and room for its reply (R44, R48, R49). -/
def Ring.ready (r : Ring) : Bool :=
  r.enable && !r.halted && r.cmdProd != r.cmdCons && decide (r.owed + (r.replyProd - r.replyCons).toNat < 2 ^ r.size)

/-- The ring whose turn it is: the next one after the last ring served that gives a command (R45). -/
def Blk.nextRing (b : Blk) : Option Nat :=
  let l := (b.host.rings.filter (fun x => x.2.ready)).map Prod.fst
  (l.find? (fun k => decide (b.host.turn < k))).or l.head?

/-- Bytes of a command slot (R42, R77). -/
def Blk.slotSize (b : Blk) : Nat := if b.sys.straps.compat then 64 else 128

/-- COMMAND_FETCH (R42, R44, R45, R77, R496): the slot of CMD_CONS is read, round robin over the rings; nothing is fetched while
self-test runs. -/
def execCommandFetch (fn ring : Nat) (slot ext : List Byte) (s : State) : Host.Outcome State Fault Refusal :=
  s.unit (fun b =>
    let k := fn * 8 + ring
    let r := b.cmdRing k
    if (b.sys.phase == .service || b.sys.phase == .dormant) && b.pcie && ringThere fn ring && r.ready && b.nextRing == some k then
      let p := b.parseSlot fn ring r.cmdCons.toNat (slot.take b.slotSize) ext
      let b := b.emit (.hostRead fn (r.cmdBase + r.cmdCons.toNat % 2 ^ r.size * b.slotSize) b.slotSize)
      let b := b.updCmdRing k (fun r => { r with cmdCons := r.cmdCons + 1, owed := r.owed + 1 })
      ({ b with host := { b.host with turn := k } }).accept p.1 p.2
    else b)

/-! ### Replies (R46, R47, R56, R69, R78) -/

/-- The 64-byte or 32-byte slot of a BVH-2100 reply (R77, R78, R81). -/
def Reply.legacySlot (r : Reply) (phase : Bool) (size : Nat) : List Byte :=
  let inl := r.inl.take 16
  wordsLe [pack [(r.tag % 2 ^ 32, 32), (status4 r.status, 28), (r.status, 16), (b2n phase, 15), (inl.length, 0)],
           r.done % 2 ^ 64]
  ++ inl ++ List.replicate (size - 16 - inl.length) 0

/-- Whether a ring position comes before another, in 32-bit arithmetic. -/
def earlier (a b : Nat) : Bool :=
  let d := (b + 2 ^ 32 - a % 2 ^ 32) % 2 ^ 32
  decide (0 < d) && decide (d < 2 ^ 31)

/-- The ring position of a command that a ring of this chip owes a reply. -/
def Blk.owedPos (b : Blk) (fn ring : Nat) (i : Instr) : Option Nat :=
  match opRow b.sys.part i with
  | none => none
  | some r => if r.cmd.tenant = fn ∧ r.cmd.ring = ring ∧ !r.cmd.partner ∧ !r.cmd.mute then some r.cmd.pos else none

/-- Positions of a ring's commands that are fetched and not yet answered. -/
def Blk.owing (b : Blk) (fn ring : Nat) : List Nat :=
  ((b.host.sets ++ b.host.deferred).flatMap Prod.snd ++ b.dir.due.map (fun x => x.2.2)).filterMap (b.owedPos fn ring)

/-- Positions of a ring's commands for the apply-epoch of a reply that have completed or wait for their boundary point: those of
commands that were applied, which a rejection at acceptance (change set 0) is not. -/
def Blk.alike (b : Blk) (l : List Reply) (r : Reply) : List Nat :=
  if r.changeSet = 0 then []
  else (l.filter (fun x => x.changeSet != 0 && x.applied == r.applied)).map Reply.pos
    ++ ((b.dir.due.filter (fun x => x.1 == r.applied)).filterMap (fun x => b.owedPos r.fn r.ring x.2.2))

/-- The reply that a ring writes next: in order of completion, those of one apply-epoch in ring order; with the COMPAT_CMD strap
at 1, one that no earlier command of its ring waits before (R46, R79). -/
def Blk.nextReply (b : Blk) (fn ring : Nat) : Option Reply :=
  let l := b.host.replies.filter (fun r => r.fn == fn && r.ring == ring)
  if b.sys.straps.compat then
    let ps := b.owing fn ring ++ l.map Reply.pos
    l.find? (fun r => !ps.any (fun p => earlier p r.pos))
  else l.find? (fun r => !(b.alike l r).any (fun p => earlier p r.pos))

/-- Writes a reply: its extended result, then its slot, then the ring's vector unless that was sent within 2 µs (R47, R69). -/
def Blk.writeReply (b : Blk) (r : Reply) (sameWindow : Bool) : Blk :=
  let k := r.fn * 8 + r.ring
  let g := b.cmdRing k
  let n := 2 ^ g.size
  let phase := bit g.replyProd.toNat g.size
  let size := if b.sys.straps.compat then 32 else 64
  let slot := if r.legacy then r.legacySlot phase size else r.slot phase
  let irq := (r.irq || r.legacy || r.status != 0) && !sameWindow
  let b := { b with host := { b.host with replies := b.host.replies.erase r } }
  (b.emits ((if irq then [Output.msix r.fn r.ring] else [])
    ++ [Output.hostWrite r.fn (g.replyBase + g.replyProd.toNat % n * size) slot]
    ++ (if r.ext.isEmpty then [] else [Output.hostWrite r.fn r.extAddr r.ext]))).updCmdRing k
      (fun g => { g with replyProd := g.replyProd + 1, owed := g.owed - 1 })

/-- REPLY_WRITE (R46, R47). -/
def execReplyWrite (fn ring : Nat) (sameWindow : Bool) (s : State) : Host.Outcome State Fault Refusal :=
  s.unit (fun b =>
    if b.pcie then
      match b.nextReply fn ring with
      | none => b
      | some r => b.writeReply r sameWindow
    else b)

/-! ### The sideband (R70 to R72, R496) -/

/-- Whether the SMBus target answers: the health island runs (R494, R497). -/
def Blk.smbus (b : Blk) : Bool :=
  match b.sys.phase with
  | .unpowered => false
  | .reset => false
  | .selfTest => !b.sys.tests.contains 0x01
  | _ => true

/-- Changes the sideband. -/
def Blk.setSb (b : Blk) (f : Sideband → Sideband) : Blk := { b with host := { b.host with sb := f b.host.sb } }

/-- The 7-bit address of the SMBus target (R70). -/
def Blk.smbAddress (b : Blk) : Nat := 0x6C + b.sys.straps.smbAddr.toNat

/-- Answers a read of a command code with its bytes and the PEC byte over the whole transaction (R70). The PEC is SMBus's
CRC-8: PRESUMED, log 143. -/
def Blk.smbAnswer (b : Blk) (code : Nat) (bytes : List Byte) : Blk :=
  b.emit (.smbData bytes (crc8 ([BitVec.ofNat 8 (2 * b.smbAddress), BitVec.ofNat 8 code,
    BitVec.ofNat 8 (2 * b.smbAddress + 1)] ++ bytes)))

/-- A block as it is read: its byte count, then its bytes (R71). -/
def smbBlock (bytes : List Byte) : List Byte := BitVec.ofNat 8 bytes.length :: bytes

/-- Judges the command of an accepted submission. RING_POS of a sideband command is a free value: the manual gives it none. -/
def Blk.sbAccept (b : Blk) (bytes : List Byte) : Blk :=
  let p := parseNative 0 8 (Config.freeValue b.free % 2 ^ 32) bytes [] false
  let bad := if bytes.length - 32 < p.2.inlineLen then some (min 2 (p.2.badHeader.getD 2)) else p.2.badHeader
  b.draw.accept p.1 { p.2 with badHeader := bad }

/-- SB_SUBMIT (R70 to R72, R496). -/
def execSbSubmit (count : Nat) (bytes : List Byte) (pecOk : Bool) (s : State) : Host.Outcome State Fault Refusal :=
  s.unit (fun b =>
    if !b.smbus then b
    else if !pecOk then b.emit (.smbAck false)
    else
      let b := b.emit (.smbAck true)
      if count < 32 ∨ 128 < count ∨ b.host.sb.outstanding then b.setSb (fun x => { x with discarded := true })
      else if b.sys.phase.busy then b.setSb (fun x => { x with outstanding := true, held := some (bytes.take count) })
      else (b.setSb (fun x => { x with outstanding := true, discarded := false })).sbAccept (bytes.take count))

/-- The submission that was held is accepted when self-test ends (R496). -/
def Blk.sbRelease (b : Blk) : Blk :=
  match b.host.sb.held with
  | none => b
  | some bytes => (b.setSb (fun x => { x with held := none, discarded := false })).sbAccept bytes

/-- SB_REPLY (R71, R72). -/
def execSbReply (s : State) : Host.Outcome State Fault Refusal :=
  s.unit (fun b =>
    if b.smbus then
      match b.host.sb.reply with
      | none => b.smbAnswer 0x11 (smbBlock [])
      | some l => (b.smbAnswer 0x11 (smbBlock l)).setSb (fun x => { x with reply := none, outstanding := false })
    else b)

/-- SB_STATUS as it reads (R71). -/
def Blk.sbStatus (b : Blk) : Nat :=
  pack [(b2n b.host.sb.reply.isSome, 0), (b2n b.host.sb.outstanding, 1), (b2n b.sys.phase.inDormant, 2),
        (b2n b.host.sb.discarded, 3)]

/-- SB_STATUS (R71). -/
def execSbStatus (s : State) : Host.Outcome State Fault Refusal :=
  s.unit (fun b => if b.smbus then b.smbAnswer 0x12 [BitVec.ofNat 8 b.sbStatus] else b)

/-- SB_INVALID_WRITE (R70, R72): acknowledged through its PEC, where that is right, and discarded. -/
def execSbInvalidWrite (_code : Nat) (write : SbWrite) (s : State) : Host.Outcome State Fault Refusal :=
  s.unit (fun b => if b.smbus then b.emit (.smbAck write.pecOk) else b)

/-- SB_INVALID_READ (R72): a byte count of zero, or a data byte of zero. -/
def execSbInvalidRead (code : Nat) (_block : Bool) (s : State) : Host.Outcome State Fault Refusal :=
  s.unit (fun b => if b.smbus then b.smbAnswer code [0] else b)

/-- SMBUS_TIMEOUT (R532): the transaction in progress is discarded. -/
def execSmbusTimeout (s : State) : Host.Outcome State Fault Refusal := s.unit (fun b => b)

/-! ### PCIe resets (R495) -/

/-- A staged command whose reply a reset of its function has taken away. -/
def Blk.muted (b : Blk) (hit : Nat → Bool) (i : Instr) : Instr :=
  withCmd b.sys.part i (fun c => if hit c.tenant ∧ c.ring < 8 ∧ !c.partner then { c with mute := true } else c)

/-- The PCIe side of some functions returns to its reset values: rings, MSI-X state, receive ring and the replies owed
(R495). -/
def Blk.pcieReset (b : Blk) (hit : Nat → Bool) : Blk :=
  let mutes (l : List (Nat × List Instr)) := l.map (fun x => (x.1, x.2.map (b.muted hit)))
  { b with
    msix := b.msix.filter (fun x => !hit (x.1 / 16))
    dir := { b.dir with due := b.dir.due.map (fun x => (x.1, x.2.1, b.muted hit x.2.2)) }
    host := { b.host with
      rings := b.host.rings.filter (fun r => !hit (r.1 / 8)), replies := b.host.replies.filter (fun r => !hit r.fn),
      sets := mutes b.host.sets, deferred := mutes b.host.deferred },
    sw := { b.sw with
      rings := (b.sw.rings.filterMap (fun (x : Nat × RxRing) =>
        if hit x.1 then (if x.2.weight = 1 then none else some (x.1, { ({} : RxRing) with weight := x.2.weight })) else some x)) } }

/-- PERST (R495, R523): not handled while REFCLK_PCIE is lost. -/
def execPerst (s : State) : Host.Outcome State Fault Refusal :=
  s.unit (fun b => if b.sys.refPcie then b.pcieReset (fun _ => true) else b)

/-- PCIE_HOT_RESET (R495). -/
def execPcieHotReset (s : State) : Host.Outcome State Fault Refusal :=
  s.unit (fun b => if b.pcie then b.pcieReset (fun _ => true) else b)

/-- PCIE_FLR (R495). -/
def execPcieFlr (fn : Nat) (s : State) : Host.Outcome State Fault Refusal :=
  s.unit (fun b => if b.pcie then b.pcieReset (fun f => f == fn) else b)

/-- PCIE_CONFIG_REQUEST (R495): answered with Retry Status until 60 ms after reset and after PERST# is deasserted. -/
def execPcieConfigRequest (fn sinceResetUs sincePerstUs : Nat) (s : State) : Host.Outcome State Fault Refusal :=
  s.unit (fun b => b.emit (.configAnswer fn (decide (sinceResetUs < 60000 ∨ sincePerstUs < 60000))))

/-! ### The exchange of tokens (R19 to R22) -/

/-- A pair-wide command of this chip that the partner has not acknowledged, staged for epoch n (R401). -/
def Blk.unacked (b : Blk) (n : Nat) (i : Instr) : Bool :=
  match opRow b.sys.part i with
  | none => false
  | some r => !r.cmd.partner && b.pair.staged.any (fun x =>
      x.tenant == r.cmd.tenant && x.ring == r.cmd.ring && x.pos == r.cmd.pos && decide (x.epoch ≤ n))

/-- A command whose acknowledgement did not come before its change set closed: withdrawn, and taken again for the next epoch
with ASAP, or late (R31, R401). -/
def Blk.tooLate (b : Blk) (i : Instr) : Blk :=
  match opRow b.sys.part i with
  | none => b
  | some r =>
    let c := r.cmd
    let b := (b.withdraw c).setPair (fun p => { p with
      staged := p.staged.filter (fun x => !(x.tenant == c.tenant && x.ring == c.ring && x.pos == c.pos)) })
    if c.asap then
      let e := b.roomFrom c.tenant (b.host.sets.length + 1) b.openEpoch
      (b.stageAt e i).forward r.op.code c e
    else b.answer r.op.code c (Res.err .late) b.clk.epoch 0 b.doneTime

/-- CHANGE_SET_CLOSE (R20): at the start of frame 8N − 1 the change set of epoch N closes. In Dormant it goes on (R501, R523). -/
def execChangeSetClose (s : State) : Host.Outcome State Fault Refusal :=
  s.alive (fun b =>
    let n := b.clk.epoch + 1
    if b.clk.closed ∨ (b.sys.phase = .service ∧ b.clk.fc + 1 < 8 * n) then b
    else
      let l := setOf b.host.sets n
      let late := l.filter (b.unacked n)
      let b := { b with
        clk := { b.clk with closed := true },
        host := { b.host with sets := b.host.sets.map (fun x => if x.1 = n then (n, l.filter (fun i => !b.unacked n i)) else x) } }
      late.foldl Blk.tooLate b)

/-- PREPARE (R19). -/
def execPrepare (s : State) : Host.Outcome State Fault Refusal :=
  s.alive (fun b => if b.clk.closed then { b with clk := { b.clk with prepared := true } } else b)

/-- The islands that exchange tokens: powered and not retired; in Dormant only the health and host command islands (R12, R19,
R501). -/
def Blk.tokenIslands (b : Blk) (l : List Nat) : List Nat :=
  ((List.range 102).filter (fun i => l.contains i && islandFitted b.sys.part i && !b.tele.islandRetired i
    && (!b.sys.phase.inDormant || decide (100 ≤ i))))

/-- An island missed PREPARE: TOKEN_MISS, and at the fourth boundary in a row one occurrence of its fault source (R22). -/
def Blk.missPrepare (b : Blk) (i : Nat) : Blk :=
  let n := Tab.get 0 b.clk.missRun i + 1
  let b := { b with clk := { b.clk with missRun := Tab.set 0 b.clk.missRun i (n % 4) } }.count 0xC4 2 i
  if n = 4 then b.faultEvent 0x01 i else b

/-- PREPARE_DEADLINE (R21, R22): the runs of the islands that acknowledged start again; a deferral writes its record. -/
def execPrepareDeadline (missing : List Nat) (s : State) : Host.Outcome State Fault Refusal :=
  s.alive (fun b =>
    if !b.clk.prepared then b
    else
      let miss := b.tokenIslands missing
      let b := { b with
        clk := { b.clk with missing := miss, missRun := b.clk.missRun.filter (fun x => miss.contains x.1) },
        pair := { b.pair with wdGood := !miss.contains 83 && !miss.contains 100 } }
      let b := miss.foldl Blk.missPrepare b
      match miss with
      | [] => b
      | i :: _ => b.vent { type := 0x0001, object := b.clk.epoch + 1, detail := i })

/-- COMMIT_ACK_DEADLINE (R22). -/
def execCommitAckDeadline (missing : List Nat) (s : State) : Host.Outcome State Fault Refusal :=
  s.alive (fun b =>
    let miss := b.tokenIslands missing
    let b := { b with pair := { b.pair with wdGood := !miss.contains 83 && !miss.contains 100 } }
    miss.foldl (fun b i => (b.count 0xC4 2 i).faultEvent 0x01 i) b)

end Sys2Proof.Machine
end

