-- ==== Sys2Proof/Machine/Startup.lean ====
section
/-! DEFINITION. Start-up, self-test and Dormant (15), and the reference clocks, rails, temperatures and test port (16). -/
namespace Sys2Proof.Machine

/-! ### Resets (R491, R493, R499) -/

/-- The block held in reset: every field at its reset value but the part, its balls' levels and the model's own counts. -/
def Blk.cold (b : Blk) (phase : Phase) (kind : Nat) : Blk := {
  sys := {
    part := b.sys.part, rev := b.sys.rev, phase := phase, straps := b.sys.straps, startKind := kind,
    refTree := b.sys.refTree, refUplink := b.sys.refUplink, refPcie := b.sys.refPcie, railLow := b.sys.railLow,
    extest := b.sys.extest },
  cip := { keks := b.cip.keks },
  pair := { actIn := b.pair.actIn },
  out := b.out,
  free := b.free }

/-- POWER_ON (R491, R525): rails applied with RESET_N low. -/
def execPowerOn (s : State) : Host.Outcome State Fault Refusal :=
  s.run (fun b => { b with sys := { b.sys with railLow := false } }.cold .reset 0)

/-- POWER_DOWN (R525): nothing is driven. -/
def execPowerDown (s : State) : Host.Outcome State Fault Refusal := s.run (fun b => b.cold .unpowered 0)

/-- PIN_RESET (R491, R530): a low level of less than 2 µs is ignored. -/
def execPinReset (lowNs : Nat) (s : State) : Host.Outcome State Fault Refusal :=
  s.run (fun b =>
    if lowNs < 2000 ∨ b.sys.phase = .unpowered then b else b.cold .reset (if b.sys.railLow then 0 else 1))

/-- The tests of a cold start in the order of the list, those of absent units skipped (R497). -/
def coldTests (p : Part) : List Nat :=
  (List.range 20).filter (fun t =>
    decide (1 ≤ t) && !((t == 0x0B || t == 0x13) && !unitFitted p 0x9000) && !(t == 0x0F && !unitFitted p 0xB000)
    && !(t == 0x10 && !unitFitted p 0x3000) && !(t == 0x11 && !unitFitted p 0xA000))

/-- RESET_N rises, or a supply returns: the straps are sampled and start-up begins (R492, R494). -/
def Blk.startUp (b : Blk) (straps : Straps) : Blk :=
  { b with sys := { b.sys with straps := straps, phase := .selfTest, tests := coldTests b.sys.part } }

/-- RESET_RELEASE (R492, R494). With a rail low the head-end stays in reset (R526). -/
def execResetRelease (straps : Straps) (s : State) : Host.Outcome State Fault Refusal :=
  s.run (fun b => if b.sys.phase = .reset ∧ !b.sys.railLow then b.startUp straps else b)

/-- RAIL_UNDERVOLTAGE (R526): every rail but VDD_AON is watched. -/
def execRailUndervoltage (rail : Rail) (s : State) : Host.Outcome State Fault Refusal :=
  s.run (fun b =>
    if rail = .aon ∨ b.sys.phase = .unpowered then b
    else { b with sys := { b.sys with railLow := true } }.cold .reset 0)

/-- UNDERVOLTAGE_RELEASE (R526). -/
def execUndervoltageRelease (straps : Straps) (s : State) : Host.Outcome State Fault Refusal :=
  s.run (fun b =>
    if b.sys.phase = .reset ∧ b.sys.railLow then
      ({ b with sys := { b.sys with railLow := false, startKind := 0 } }).startUp straps
    else b)

/-! ### Entering Dormant (R500, R501) -/

/-- Answers a staged command with FAULT and DETAIL 0, in the change set of an epoch. -/
def Blk.failStaged (b : Blk) (set : Nat) (i : Instr) : Blk :=
  match opRow b.sys.part i with
  | none => b
  | some r => b.answer r.op.code r.cmd (Res.err .fault) b.clk.epoch (set % 2 ^ 32) b.doneTime

/-- The trees of a head-end whose units have just been reset: those with a retired island are stopped. -/
def Tele.freshTrees (t : Tele) (p : Part) : Tab Tree :=
  ((List.range (Part.trees p)).filter t.islandRetired).map (fun k => (k, { ({} : Tree) with stopped := true }))

/-- Every island but health and host command is reset; what is retired stays so (R501). -/
def Blk.unitsReset (b : Blk) : Blk :=
  let b : Blk := {
    clk := b.clk, sys := b.sys, host := b.host, tele := b.tele, trees := b.tele.freshTrees b.sys.part,
    sw := { rings := b.sw.rings }, cip := { keks := b.cip.keks }, pair := { actIn := b.pair.actIn }, msix := b.msix,
    out := b.out, free := b.free }
  { b with
    cip := { b.cip with down := if unitFitted b.sys.part 0x9000 then (List.range 4).filter (fun i => (b.lanes i).isEmpty) else [] },
    tum := { b.tum with fallback := (List.range 16).filter (fun c => !b.clusterRuns c) } }

/-- Enters Dormant with a cause; a head-end in Dormant keeps the first (R500, R504, R512). An image that was being written is
kept as staged. SELFTEST_RUN with FORCE goes on with a warm start (R509). -/
def Blk.enterDormant (b : Blk) (cause : Nat) : Blk :=
  if b.sys.phase.inDormant then { b with sys := { b.sys with dormantNext := none } }
  else
    let b := { b with
      sys := { b.sys with
        phase := .dormant, cause := cause, dormantEpoch := b.clk.epoch, dormantNext := none, fwStaged := b.sys.fwWriting,
        fwWriting := none, fwVersion := 0, fwReady := false, txOn := 0, refresh2x := 0 },
      clk := { b.clk with healthPaced := !b.sys.refTree } }
    let b := b.vent { type := 0x0D02, object := cause }
    let b := b.emit (.msix 0 9)
    let b := (b.host.deferred ++ b.host.sets).foldl (fun b x => x.2.foldl (fun b i => b.failStaged x.1 i) b) b
    let b := ({ b with host := { b.host with sets := [], deferred := [] } }).unitsReset
    if cause / 2 ^ 56 = 3 then { b with sys := { b.sys with phase := .warmStart } } else b.sbRelease

/-! ### Self-test (R497, R498) -/

/-- Whether a test of a unit is one of the list: the unit exists and the part fits it (R497). -/
def testsUnit (p : Part) (test index : Nat) : Bool :=
  match test with
  | 0x01 => index == 101
  | 0x03 => decide (index < 102) && islandFitted p index
  | 0x04 => index == 100
  | 0x05 => decide (index < 100) && islandFitted p index
  | 0x06 => decide (index < 102) && islandFitted p index
  | 0x07 => decide (index < 12416)
  | 0x08 => decide (index < 2)
  | 0x09 => decide (index < 68)
  | 0x0A => decide (index < 68)
  | 0x0B => decide (index < 16) && unitFitted p 0x9000
  | 0x0C => decide (index < 272)
  | 0x0D => decide (index < Part.trees p)
  | 0x0E => decide (index < 48)
  | 0x0F => decide (index < 4) && unitFitted p 0xB000
  | 0x10 => index == 0 && unitFitted p 0x3000
  | 0x11 => index == 0 && unitFitted p 0xA000
  | 0x13 => index == 0 && unitFitted p 0x9000
  | _ => index == 0

/-- The source that a failed test retires; none where the outcome is Dormant (R497, R498). -/
def testSource (test index : Nat) : Option (Nat × Nat) :=
  match test with
  | 0x03 => if dormantIsland index then none else some (0x01, index)
  | 0x05 => if dormantIsland index then none else some (0x01, index)
  | 0x06 => if dormantIsland index then none else some (0x01, index)
  | 0x07 => some (0x0A, index)
  | 0x09 => some (0x06, index)
  | 0x0A => some (0x06, index)
  | 0x0B => some (if index < 12 then (0x04, index) else (0x05, index - 12))
  | 0x0C => some (0x09, index)
  | 0x0D => some (0x01, index)
  | 0x0E => some (0x01, 71 + index / 8)
  | 0x0F => some (0x07, index)
  | 0x10 => some (0x01, 77)
  | _ => none

/-- Whether a source is out of service, in the sense of its kind. -/
def Tele.sourceOut (t : Tele) (kind index : Nat) : Bool :=
  if kind ≤ 3 then t.islandRetired index
  else if kind = 0x04 then t.laneRetired index
  else t.retired kind index

/-- Pseudo-channels of a stack that are retired now and were not before. -/
def Blk.stackFails (b : Blk) (before : Tele) (stack : Nat) : Nat :=
  ((List.range 34).filter (fun i =>
    b.tele.retired 0x06 (34 * stack + i) && !before.retired 0x06 (34 * stack + i))).length

/-- Whether the failure of a unit that has a source to retire puts the head-end in Dormant all the same: no spare row, a third
pseudo-channel of a stack (R497). -/
def Blk.noSpareLeft (b : Blk) (before : Tele) (kind index : Nat) : Bool :=
  (kind == 0x0A && b.tele.role kind index == .serving && (b.tele.spareOf kind index).isNone)
  || (kind == 0x06 && decide (2 ≤ b.stackFails before (index / 34)))

/-- Both unwrap units of two islands that share are retired: the cipher islands are too (R497). -/
def Blk.unwrapPair (b : Blk) (u : Nat) : Blk :=
  if b.tele.retired 0x05 u && b.tele.retired 0x05 (u ^^^ 1) then
    (b.retireUnit 0x01 (78 + u) true).retireUnit 0x01 (78 + (u ^^^ 1)) true
  else b

/-- The SELFTEST_FAIL record (R505). -/
def testFail (test index outcome : Nat) : RecIn := { type := 0x0D01, object := test * 2 ^ 32 + index, detail := outcome }

/-- A unit fails a test. `before` is the store before this self-test and `now` before this test. The second component is the
cause of Dormant, where that is the outcome. -/
def Blk.failUnit (b : Blk) (before now : Tele) (test index : Nat) : Blk × Option Nat :=
  let count (b : Blk) : Blk := { b with sys := { b.sys with stFails := min 65535 (b.sys.stFails + 1) } }
  let cause := causeWord 1 test index 0
  match testSource test index with
  | none => ((count b).vent (testFail test index 2), some cause)
  | some (kind, i) =>
    if now.sourceOut kind i then (b, none)
    else if b.noSpareLeft before kind i then ((count b).vent (testFail test index 2), some cause)
    else
      let spare := !(b.tele.role kind i == .spare) && (b.tele.spareOf kind i).isSome
      let alone := kind = 0x09 ∧ !spare
        ∧ !((spareGroup 0x09 i).any (fun e => e != i && b.tele.role 0x09 e == .serving) && !b.tele.islandRetired (84 + i / 17))
        ∧ !b.clusterRuns ((i / 17) ^^^ 1)
      let b := (count b).vent (testFail test index (if alone then 2 else b2n (!spare)))
      let b := b.retireUnit kind i true
      let b := if kind = 0x05 then b.unwrapPair i else b
      (b, if alone then some cause else none)

/-- The units that fail a test, with those that fail it because a reference is lost (R523). -/
def Blk.testFails (b : Blk) (test : Nat) (failed : List Nat) : List Nat :=
  let refs := if test = 0x03 then
      (if b.sys.refTree then [] else [101]) ++ (if b.sys.refUplink then [] else [71, 72, 73, 74, 75, 76])
    else []
  ((failed ++ refs).eraseDups).filter (testsUnit b.sys.part test)

/-- A test ends: its failures in order, and the first cause of Dormant among them. -/
def Blk.testEnds (b : Blk) (before : Tele) (test : Nat) (failed : List Nat) : Blk × Option Nat :=
  let now := b.tele
  (b.testFails test failed).foldl (fun (x : Blk × Option Nat) i =>
    let y := x.1.failUnit before now test i
    (y.1, x.2.orElse (fun _ => y.2))) (b, none)

/-- Tests that end before a test begins (R494, R497). -/
def testAfter (test : Nat) : List Nat :=
  if test = 0x01 then []
  else if test = 0x02 then [0x01]
  else if test ≤ 0x04 then [0x01, 0x02]
  else if test = 0x09 then [0x01, 0x02, 0x03, 0x04, 0x08]
  else if test = 0x0A then [0x01, 0x02, 0x03, 0x04, 0x08, 0x09]
  else if test = 0x12 then (List.range 20).filter (· != 0x12)
  else [0x01, 0x02, 0x03, 0x04]

/-- The COLD_START record (R499, R505). -/
def Blk.coldStart (b : Blk) : RecIn :=
  let x := b.sys.straps
  { type := 0x0D00, object := b.sys.startKind,
    detail := pack [(b2n x.compat, 0), (x.smbAddr.toNat, 1), (b2n x.pairWave, 3), (b2n x.pairPref, 4)],
    w6 := Part.code b.sys.part * 65536 + b.sys.rev }

/-- A new KEK is drawn (R332, R497). -/
def Blk.newKek (b : Blk) : Blk := { b with cip := { b.cip with kek := .drawn b.cip.keks, keks := b.cip.keks + 1 } }

/-- What a test that ends without failure brings with it. -/
def Blk.testPassed (b : Blk) (test : Nat) : Blk :=
  if test = 0x01 then b.vent b.coldStart
  else if test = 0x04 then { b with sys := { b.sys with pcieUp := true } }
  else if test = 0x13 then b.newKek
  else b

/-- The last test of a cold start is done: the head-end is in service (R499), unless it is in Dormant already or the tree
reference has gone (R523). -/
def Blk.coldDone (b : Blk) : Blk :=
  if b.sys.phase = .selfTest ∧ b.sys.tests = [] then
    let b := { b with sys := { b.sys with phase := .service } }
    if b.sys.refTree then b.sbRelease else b.enterDormant (causeWord 2 0 101 1)
  else b

/-- A test of a cold start ends, which test 0x01 failing does not reach. -/
def Blk.testDone (b : Blk) (test : Nat) (failed : List Nat) : Blk :=
  let b' := { b with sys := { b.sys with tests := b.sys.tests.erase test } }
  let r := (if b.testFails test failed = [] then b'.testPassed test else b').testEnds {} test failed
  (match r.2 with
    | none => r.1
    | some cause => r.1.enterDormant cause).coldDone

/-- Whether a test is the running start's, and those that come before it have ended (R494). -/
def Blk.testDue (b : Blk) (test : Nat) : Bool :=
  (b.sys.phase == .selfTest || b.sys.phase == .dormant) && b.sys.tests.contains test
  && !(testAfter test).any b.sys.tests.contains

/-- SELFTEST_TEST_DONE (R494, R497, R498): one test of a cold start ends. Dormant is entered at once (R500); after a failed
test 0x01 the head-end stays in reset. -/
def execSelftestTestDone (test : Nat) (failed : List Nat) (s : State) : Host.Outcome State Fault Refusal :=
  s.run (fun b =>
    if !b.testDue test then b
    else if test = 0x01 ∧ b.testFails test failed ≠ [] then b.cold .reset b.sys.startKind
    else b.timed (b.testDone test failed))

/-! ### The warm start (R503) -/

/-- The counters, bins, windows and roles that a warm start leaves: chapter 0xC is kept, and so is every retired unit that the
self-test does not bring back. -/
def Tele.warm (t : Tele) : Tele :=
  let ours (k : Nat) : Bool := k / 2 ^ 44 == 0xC
  { t with
    ctrs := t.ctrs.filter (fun x => ours x.1), latch := t.latch.filter (fun x => ours x.1), quarters := [], days := [],
    quarterBase := t.quarterBase.filter (fun x => ours x.1), dayBase := t.dayBase.filter (fun x => ours x.1),
    windows := [], warnMargin := 200,
    sources := Tab.mapVals {} (fun k (x : Source) =>
      if k / 65536 ≤ 2 ∧ dormantIsland (k % 65536) then { x with role := .initial, doomed := false } else x) t.sources }

/-- The head-end leaves Dormant (R503): the state of R499 but for what is kept. Its next frame tick begins epoch N + 1. -/
def Blk.leaveDormant (b : Blk) (us : Nat) : Blk :=
  let n := b.clk.epoch + 1
  let entry := b.sys.dormantEpoch
  let b := { b with
    sys := { b.sys with
      phase := .service, cause := 0, startKind := 2, startEpoch := n, fwVersion := b.sys.fwStaged.getD 0,
      fwReady := b.sys.fwStaged.isSome, fwStaged := none },
    clk := { b.clk with fc := 8 * n },
    host := { b.host with owners := [(0, {})] },
    tele := b.tele.warm }
  let b := b.unitsReset
  let b := { b with
    gey := { b.gey with slot := (8 * n + 1, 0), consume := 64 * n, shareEpoch := n, snapEpoch := n },
    dir := { b.dir with next := 64 * n, point := n - 1 } }
  let b := if unitFitted b.sys.part 0x9000 then b.newKek else b
  b.vent { type := 0x0D03, object := entry, w6 := us }

/-- Whether the warm start runs test 0x04: DORMANT_CAUSE names it, or the cold start had not come to it. -/
def Blk.lacks04 (b : Blk) : Bool := b.sys.cause / 2 ^ 48 == 0x0104 || b.sys.tests.contains 0x04

/-- The tests that a warm start runs (R503). -/
def Blk.warmRuns (b : Blk) (test : Nat) : Bool :=
  (coldTests b.sys.part).contains test && test != 0x01 && (test != 0x04 || b.lacks04)

/-- Every failure of a warm start, each test's together and in the order given, with test 0x03 first where a reference is lost. -/
def Blk.warmFails (b : Blk) (failed : List (Nat × Nat)) : Blk × Option Nat :=
  let first := if b.sys.refTree && b.sys.refUplink then [] else [0x03]
  let order := ((first ++ failed.map Prod.fst).eraseDups).filter b.warmRuns
  order.foldl (fun (x : Blk × Option Nat) t =>
    let y := x.1.testEnds b.tele t ((failed.filter (fun f => f.1 == t)).map Prod.snd)
    (y.1, x.2.orElse (fun _ => y.2))) (b, none)

/-- The self-test of a warm start has ended: in service again, or still in Dormant with the new cause, which is the second
component. The PCIe link that a failed test 0x04 held down is released when the test passes (R503, R523). -/
def Blk.warmEnds (b : Blk) (failed : List (Nat × Nat)) (us : Nat) : Blk × Option Nat :=
  let up := if b.lacks04 then !failed.contains (0x04, 100) else b.sys.pcieUp
  let r := { b with sys := { b.sys with stFails := 0 } }.warmFails failed
  let b := { r.1 with sys := { r.1.sys with pcieUp := up, tests := [] } }
  let b := match r.2 with
    | none => b.leaveDormant us
    | some cause => { b with sys := { b.sys with phase := .dormant, cause := cause } }
  ((b.emit (.msix 0 9)).sbRelease, r.2)

/-- WARM_START_COMPLETE (R503, R509, R523): after a pass, the next frame tick begins the next epoch. -/
def execWarmStartComplete (failed : List (Nat × Nat)) (us : Nat) (s : State) : Host.Outcome State Fault Refusal :=
  s.run (fun b =>
    if b.sys.phase = .warmStart then
      let r := b.warmEnds failed us
      (b.timed r.1).at b.clk.epoch (if r.2.isNone then 8 * (b.clk.epoch + 1) else b.clk.fc)
    else b)

/-! ### References, temperatures and the test port (16) -/

/-- REFCLK_LOSS (R523): the tree reference's loss puts the head-end in Dormant at once; the uplink reference's retires the
uplink port islands at the next boundary; the PCIe reference's takes PCIe down. -/
def execRefclkLoss (ref : RefClk) (s : State) : Host.Outcome State Fault Refusal :=
  s.run (fun b =>
    b.timed (match ref with
    | .pcie => { b with sys := { b.sys with refPcie := false } }
    | .uplink =>
      let b := { b with sys := { b.sys with refUplink := false } }
      if b.sys.phase = .service then
        ((List.range 6).map (71 + ·)).foldl (fun b i =>
          if b.tele.islandRetired i then b else b.updSource 0x01 i (fun x => { x with doomed := true })) b
      else b
    | .tree =>
      let b := { b with sys := { b.sys with refTree := false } }
      if b.sys.phase = .service then b.enterDormant (causeWord 2 0 101 1)
      else if b.sys.phase.inDormant then { b with clk := { b.clk with healthPaced := true } }
      else b))

/-- REFCLK_RETURN (R523): the sequencer goes back to the tree reference at the next boundary. -/
def execRefclkReturn (ref : RefClk) (s : State) : Host.Outcome State Fault Refusal :=
  s.unit (fun b =>
    match ref with
    | .pcie => { b with sys := { b.sys with refPcie := true } }
    | .uplink => { b with sys := { b.sys with refUplink := true } }
    | .tree => { b with sys := { b.sys with refTree := true } })

/-- Sets the refresh of a stack. -/
def Blk.refresh (b : Blk) (stack : Nat) (twice : Bool) : Blk :=
  let m : BitVec 2 := BitVec.ofNat 2 (2 ^ stack)
  { b with sys := { b.sys with refresh2x := if twice then b.sys.refresh2x ||| m else b.sys.refresh2x &&& ~~~m } }

/-- HBM_TEMP_HIGH (R537). -/
def execHbmTempHigh (stack : Nat) (s : State) : Host.Outcome State Fault Refusal := s.svc (fun b => b.refresh stack true)

/-- HBM_TEMP_NORMAL (R537). -/
def execHbmTempNormal (stack : Nat) (s : State) : Host.Outcome State Fault Refusal := s.svc (fun b => b.refresh stack false)

/-- THERM_TRIP (R538): until the next cold start, no light and no transmitter. -/
def execThermTrip (s : State) : Host.Outcome State Fault Refusal :=
  s.unit (fun b => if b.sys.phase = .unpowered then b else { b with sys := { b.sys with thermTrip := true, txOn := 0 } })

/-- TEST_PORT_RESET (R535). -/
def execTestPortReset (s : State) : Host.Outcome State Fault Refusal :=
  s.unit (fun b => { b with sys := { b.sys with extest := none } })

/-- EXTEST (R535): the boundary register drives every output ball. -/
def execExtest (boundary : Boundary) (s : State) : Host.Outcome State Fault Refusal :=
  s.unit (fun b => if b.sys.phase = .unpowered then b else { b with sys := { b.sys with extest := some boundary } })

/-- Whether OPT_TXDIS of a tree is released, so that its laser is dark: as the boundary register says under EXTEST (R186,
R521, R535). -/
def Blk.txDisReleased (b : Blk) (t : Nat) : Bool :=
  match b.sys.extest with
  | some x => !x.txDisLow.getLsbD t
  | none => !b.sys.txOn.getLsbD t

end Sys2Proof.Machine
end

