-- ==== Sys2Proof/Machine/Resync.lean ====
section
/-! DEFINITION. Forwarded commands and the copying of cold state between the chips of a pair (R401, R414, R420 to R427). -/
namespace Sys2Proof.Machine

/-! ### Forwarded commands (R401, R414) -/

/-- Whether a staged command is the partner's at a ring position. -/
def Blk.partnerAt (b : Blk) (tenant ring pos : Nat) (i : Instr) : Bool :=
  match opRow b.sys.part i with
  | none => false
  | some r => r.cmd.partner && r.cmd.tenant == tenant && r.cmd.ring == ring && r.cmd.pos == pos

/-- COMMAND_FRAME_RX (R401, R414): a forwarded command is staged and acknowledged; an acknowledgement makes a command sent
accepted; a withdrawal takes a forwarded command out of the change sets. -/
def execCommandFrameRx (cmd : PairCommand) (s : State) : Host.Outcome State Fault Refusal :=
  s.pairRow (fun b =>
    if !b.forwards then b
    else
      match cmd with
      | .forward tenant ring pos epoch slot ext =>
        let p := parseNative tenant ring pos slot ext true
        match instrOf p.1 p.2 with
        | none => b
        | some i =>
          if epoch < b.openEpoch then b
          else (b.stageAt epoch i).sendLink 0x0A ([1] ++ toBe tenant 1 ++ toBe ring 1 ++ toBe pos 4)
      | .ack tenant ring pos =>
        b.setPair (fun p => { p with
          staged := p.staged.filter (fun x => !(x.tenant == tenant && x.ring == ring && x.pos == pos)) })
      | .withdraw tenant ring pos =>
        { b with host := { b.host with
            sets := b.host.sets.map (fun x => (x.1, x.2.filter (fun i => !b.partnerAt tenant ring pos i))) } })

/-! ### Pages (R423, R424) -/

/-- The page after a page, in the order of the items. -/
def pageAfter (p : Nat × Nat) : Option (Nat × Nat) :=
  if p.2 + 1 < itemPages p.1 then some (p.1, p.2 + 1) else if p.1 < 6 then some (p.1 + 1, 0) else none

/-- The data of a page: flow contexts and endpoint contexts as their words. The content of the other items is free: 64 KiB, and 1
to 65,536 bytes on an item's last page. -/
def Blk.pageData (b : Blk) (item no : Nat) : List Byte :=
  let m := Config.freeMessage b.free
  if item = 5 then
    (List.range 1024).flatMap (fun i => wordsLe (Flow.words (Tab.get {} b.dir.flows (1024 * no + i))))
  else if item = 6 then
    (List.range 256).flatMap (fun i =>
      let e := 256 * no + i
      wordsLe (Ctx.words (Tab.get {} b.dir.ctxs e) (b.endpointOwner e)))
  else if no + 1 < itemPages item then (List.range 65536).map (fun i => m.getD i 0)
  else m.getD 0 0 :: (m.drop 1).take 65535

/-- Sends a page, read after the last batch applied (R423, R424). -/
def Blk.sendPage (b : Blk) (item no : Nat) : Blk :=
  let data := b.pageData item no
  let slot := b.dir.next - 1
  let head := toBe (pack [(item, 248), (no, 216), (slot / 8 % 2 ^ 64, 152), (slot % 8, 149), (data.length, 132), (crc64 0 data, 0)]) 32
  (if item ≤ 4 then b.draw else b).sendLink 0x0D (head ++ data)

/-- PAGE_SEND (R420, R423, R424): the next page; with every page sent and a shadow of two epochs, the JOIN frame that names
epoch J. -/
def execPageSend (s : State) : Host.Outcome State Fault Refusal :=
  s.pairRow (fun b =>
    if !b.feeding then b
    else
      match b.pair.sending with
      | some p => (b.sendPage p.1 p.2).setPair (fun x => { x with sending := pageAfter p })
      | none =>
        if b.pair.joinAt.isNone ∧ b.pair.shadowFrom + 2 ≤ b.clk.epoch then
          let j := b.clk.epoch + 2
          (b.setPair (fun x => { x with joinAt := some j })).sendLink 0x02 (toBe j 8)
        else b)

/-- PAGE_REQ_RX (R424): the pages asked for are sent again. -/
def execPageReqRx (item : Nat) (pages : List Nat) (s : State) : Host.Outcome State Fault Refusal :=
  s.pairRow (fun b =>
    if b.feeding ∧ 1 ≤ item ∧ item ≤ 6 then
      (pages.filter (fun n => decide (n < itemPages item))).foldl (fun b n => b.sendPage item n) b
    else b)

/-- Ownership, tenant load keys and check configuration of a page of item 0x01. -/
def Blk.installOwners (b : Blk) (p : Page) : Blk :=
  { b with
    host := { b.host with owners := Config.pageOwners p.no p.data b.host.owners }
    cip := { b.cip with loadKeys := Config.pageLoadKeys p.no p.data b.cip.loadKeys }
    dir := { b.dir with blocks := Config.pageBlocks p.no p.data b.dir.blocks } }

/-- A forwarded command of the staged version joins the change set of its apply-epoch, unless it stands there already. -/
def Blk.adoptStaged (b : Blk) (x : Nat × Instr) : Blk :=
  if b.openEpoch ≤ x.1 ∧ (opRow b.sys.part x.2).any (fun r => r.op.pairWide && r.cmd.partner) = true
      ∧ b.host.sets.all (fun y => y.1 != x.1 || !y.2.contains x.2) = true
  then b.stageAt x.1 x.2 else b

/-- Every version of every versioned table of a page of item 0x02, and the version staged (R24). -/
def Blk.installTables (b : Blk) (p : Page) : Blk :=
  let b := { b with
    gey := { b.gey with cfg := Config.pageGeyser p.no p.data b.gey.cfg }
    sw := { b.sw with cfg := Config.pageSwitch p.no p.data b.sw.cfg }
    cls := { b.cls with cfg := Config.pageClassify p.no p.data b.cls.cfg }
    tim := { b.tim with cfg := Config.pageTime p.no p.data b.tim.cfg }
    cip := { b.cip with cfg := Config.pageCiphers p.no p.data b.cip.cfg }
    tum := { b.tum with handlers := Config.pageHandlers p.no p.data b.tum.handlers } }
  let b := b.treeList.foldl (fun b t =>
    b.updTree t (fun x => { x with disc := Config.pageDiscovery p.no p.data t x.disc })) b
  (Config.pageStaged p.no p.data).foldl Blk.adoptStaged b

/-- A terminal index as a page of item 0x03 gives it: its state, with what ACTIVATING holds of its messages, its serial number,
its RTD and so its EqD (R170), and its timers (R171). -/
def Term.adopt (x y : Term) : Term :=
  { x with
    state := y.state, serial := y.serial, rtd := y.rtd, eqdUse := eightFrames - y.rtd, eqdApply := none, provIndex := y.provIndex
    actSent := y.actSent, actSeqs := y.actSeqs, actFrame := y.actFrame, nextRange := y.nextRange, rangeMiss := y.rangeMiss
    rangeGrants := y.rangeGrants, snFrom := y.snFrom, heldFrom := y.heldFrom, lastBurst := y.lastBurst }

/-- A carrier as a page of item 0x04 gives it: its keys and the end of its lease. -/
def CarrierKeys.adopt (x y : CarrierKeys) : CarrierKeys :=
  { x with slots := y.slots, leaseEnd := y.leaseEnd, warn := y.warn, spent := y.spent }

/-- Installs a page (R423). -/
def Blk.install (b : Blk) (p : Page) : Blk :=
  if p.item = 1 then b.installOwners p
  else if p.item = 2 then b.installTables p
  else if p.item = 3 then
    ((Config.pageTerms p.no p.data).filter (fun x => decide (x.1 < 512 * Part.trees b.sys.part))).foldl (fun b x =>
      b.updTerm x.1 (fun y => y.adopt x.2)) b
  else if p.item = 4 then
    ((Config.pageCarriers p.no p.data).filter (fun x => decide (x.1 < 2 ^ 22))).foldl (fun b x =>
      b.updCarrier x.1 (fun y => y.adopt x.2)) b
  else if p.item = 5 then
    (List.range 1024).foldl (fun b i =>
      let f := 1024 * p.no + i
      (b.updFlow f (fun _ => Flow.ofWords ((List.range 8).map (fun k => leWord p.data (8 * i + k))))).healFlow f) b
  else
    (List.range 256).foldl (fun b i =>
      let e := 256 * p.no + i
      (b.putCtx e (Tab.get {} b.dir.ctxs e) (Ctx.ofWords ((List.range 32).map (fun k => leWord p.data (32 * i + k))))).healCtx e) b

/-- Replays what the log holds after the batch `slot`; the flag says that every message of the page's endpoints was accepted
(R424). -/
def Blk.replay (b : Blk) (p : Page) (slot : Nat) : Blk × Bool :=
  (b.pair.log.filter (fun x => decide (slot < x.1))).foldl (fun (x : Blk × Bool) l =>
    match l.2 with
    | .cmd i => (x.1.applyStaged x.1.clk.epoch i, x.2)
    | .msg m =>
      let mine := p.item = 6 ∧ bits (beNat (m.sdu.take 16)) 119 95 / 256 = p.no
      if mine then
        let r := x.1.upMessage m true
        (r.1, x.2 && r.2)
      else x) (b, true)

/-- Takes the DISCOVERY_CONFIG of a tree, where it differs. -/
def Blk.takeDisc (b from_ : Blk) (t : Nat) : Blk :=
  if (b.tree t).disc = (from_.tree t).disc then b else b.updTree t (fun x => { x with disc := (from_.tree t).disc })

/-- Takes what a page holds, as a replay left it. -/
def Blk.takePage (b : Blk) (p : Page) (from_ : Blk) : Blk :=
  if p.item = 1 then
    { b with
      host := { b.host with owners := from_.host.owners }
      cip := { b.cip with loadKeys := from_.cip.loadKeys }
      dir := { b.dir with blocks := from_.dir.blocks } }
  else if p.item = 2 then
    let b := { b with
      gey := { b.gey with cfg := from_.gey.cfg }
      sw := { b.sw with cfg := from_.sw.cfg }
      cls := { b.cls with cfg := from_.cls.cfg }
      tim := { b.tim with cfg := from_.tim.cfg }
      cip := { b.cip with cfg := from_.cip.cfg }
      tum := { b.tum with handlers := from_.tum.handlers } }
    b.treeList.foldl (fun b t => b.takeDisc from_ t) b
  else if p.item = 3 then { b with terms := from_.terms }
  else if p.item = 4 then { b with cip := { b.cip with carriers := from_.cip.carriers } }
  else if p.item = 5 then
    (List.range 1024).foldl (fun b i =>
      let f := 1024 * p.no + i
      b.updFlow f (fun _ => Tab.get {} from_.dir.flows f)) b
  else
    (List.range 256).foldl (fun b i =>
      let e := 256 * p.no + i
      b.putCtx e (Tab.get {} b.dir.ctxs e) (Tab.get {} from_.dir.ctxs e)) b

/-- A page whose DIGEST fails: asked for again, and after the third time the newcomer goes to ISOLATED (R424, R427). -/
def Blk.badPage (b : Blk) (p : Page) : Blk :=
  let n := ((b.pair.badPages.find? (fun x => x.1 == (p.item, p.no))).map Prod.snd).getD 0 + 1
  let b := b.setPair (fun x => { x with
    badPages := ((p.item, p.no), n) :: x.badPages.filter (fun y => y.1 != (p.item, p.no)) })
  if n < 3 then b.askPage p.item p.no
  else (b.vent { type := 0x0A06, island := 83, object := p.item, detail := p.no }).isolate

/-- PAGE_RX (R423, R424, R427). -/
def execPageRx (page : Page) (s : State) : Host.Outcome State Fault Refusal :=
  s.pairRow (fun b =>
    let slot := slotOf page.asU page.asQ
    if b.pair.role ≠ .joining ∨ !b.pair.agreed ∨ page.item = 0 ∨ 6 < page.item ∨ itemPages page.item ≤ page.no then b
    else if crc64 0 page.data ≠ page.digest then b.badPage page
    else if 5 ≤ page.item ∧ (b.dir.next ≤ slot ∨ slot + 64 < b.dir.next) then b.askPage page.item page.no
    else
      let fresh := !b.pair.installed.contains (page.item, page.no)
      let b := b.install page
      let r := b.replay page slot
      let b := b.takePage page r.1
      if !r.2 then b.askPage page.item page.no
      else if !fresh then b
      else
        (b.setPair (fun x => { x with
          installed := x.installed ++ [(page.item, page.no)], pagesDone := x.pagesDone + 1,
          step := if page.item = 6 then 4 else 3 })).count 0xA4 10 83)

end Sys2Proof.Machine
end

