-- ==== Sys2Proof/Machine/Banks.lean ====
section
/-! DEFINITION. Commands at their apply-epoch, and the bank stream of the directory with its boundary points (R23, R32, R33, R245
to R247, R252). -/
namespace Sys2Proof.Machine

/-! ### Commands at their apply-epoch (R32, R33, R62, R402) -/

/-- Whether a command is this chip's own and pair-wide. -/
def Blk.ownPairWide (b : Blk) (i : Instr) : Bool :=
  (opRow b.sys.part i).any (fun r => !r.cmd.partner && r.op.pairWide)

/-- DIVERGED for a command of the change set of an epoch (R414, R427). -/
def Blk.divergedReply (b : Blk) (set : Nat) (i : Instr) : Blk :=
  match opRow b.sys.part i with
  | none => b
  | some r => b.answer r.op.code r.cmd (Res.err .diverged) b.clk.epoch (set % 2 ^ 32) b.doneTime

/-- A command at its apply-epoch. A newcomer's own pair-wide commands are not applied, and those of the partner go to its log
(R424, R427). -/
def Blk.atEpoch (b : Blk) (set : Nat) (i : Instr) : Blk :=
  if b.pair.role = .joining then
    if b.ownPairWide i then b.divergedReply set i
    else
      let wide := (opRow b.sys.part i).any (fun r => r.op.pairWide)
      let b := if wide then b.setPair (fun p => { p with
          log := (p.log ++ [(b.dir.next, LogItem.cmd i)]).filter (fun x => decide (b.dir.next < x.1 + 64)) })
        else b
      b.applyStaged set i
  else b.applyStaged set i

/-- Some commands, each with its change set, in their order: every write, then every read (R33). -/
def Blk.runAll (b : Blk) (l : List (Nat × Instr)) : Blk :=
  (l.filter (fun x => !b.isRead x.2) ++ l.filter (fun x => b.isRead x.2)).foldl (fun b x => b.atEpoch x.1 x.2) b

/-! ### Boundary points (R23, R245, R252) -/

/-- Whether a directory island applies a command, at its boundary point (R23, R245): the commands on contexts, on aging, outage
and check configuration, and on the owners of endpoint blocks (R237). -/
def bankCommand (i : Instr) : Bool :=
  match i with
  | .epWrite _ => true
  | .epRead _ => true
  | .epBind _ => true
  | .epUnbind _ => true
  | .agingConfig _ => true
  | .outageConfig _ => true
  | .keyLoadEndpoint _ => true
  | .keyRetire c => c.f 0 63 62 == 0
  | .nonceQuery c => c.f 0 63 62 == 0
  | .checkConfig _ => true
  | .checkSave _ => true
  | .checkRestore _ => true
  | .tenantAssign c => c.f 0 63 56 == 3
  | .tenantQuery c => c.f 0 63 56 == 3
  | _ => false

/-- The boundary point of epoch n in the bank stream (R245): leases read back are adopted (R412), the sweep visits of the epoch
before are made, then the commands for epoch n are applied. -/
def Blk.passPoint (b : Blk) (n : Nat) : Blk :=
  let b := b.adoptLeases.sweep (n - 1)
  let mine := (b.dir.due.filter (fun x => x.1 == n)).map Prod.snd
  let b := { b with dir := { b.dir with point := n, due := b.dir.due.filter (fun x => x.1 != n) } }
  b.runAll mine

/-- The boundary point of epoch n, with n as the epoch of what it does: the stream may reach it after COMMIT of a later epoch. -/
def Blk.pointAt (b : Blk) (n : Nat) : Blk :=
  let r := ({ b with clk := { b.clk with epoch := n } } : Blk).passPoint n
  { r with clk := { r.clk with epoch := b.clk.epoch } }

/-- Whether the stream stands at the next boundary point and COMMIT of its epoch has come. -/
def Blk.pointDue (b : Blk) : Bool := decide (b.dir.point < b.clk.epoch) && decide (b.dir.bound ≤ b.dir.next)

/-- The stream goes on to the boundary points of epochs that have begun: phases without a message pass, and each point reached is
made. -/
def Blk.catchUp : Nat → Blk → Blk
  | 0, b => b
  | k + 1, b =>
    let b := if b.dir.point < b.clk.epoch then b.passIdle b.dir.bound else b
    if b.pointDue then Blk.catchUp k (b.pointAt (b.dir.point + 1)) else b

/-- The stream goes on as far as it can. -/
def Blk.streamOn (b : Blk) : Blk := Blk.catchUp (b.clk.epoch - b.dir.point) b

/-- The commands of some change sets, each in the order of R32: the islands' own at COMMIT, the directory's at the boundary point,
which the stream has mostly reached at COMMIT. -/
def Blk.applySets (b : Blk) (sets : List (Nat × List Instr)) : Blk :=
  let l := sets.flatMap (fun x => (sortBy b.orderKey x.2).map (fun i => (x.1, i)))
  let own := l.filter (fun x => !bankCommand x.2)
  let b := (own.filter (fun x => !b.isRead x.2)).foldl (fun b x => b.atEpoch x.1 x.2) b
  let due := (l.filter (fun x => bankCommand x.2)).map (fun x => (b.clk.epoch, x))
  let b := ({ b with dir := { b.dir with due := b.dir.due ++ due } }).streamOn
  (own.filter (fun x => b.isRead x.2)).foldl (fun b x => b.atEpoch x.1 x.2) b

/-! ### The rows of the bank stream (R245, R246) -/

/-- BANK_BATCH (R245): with every marker of a phase present, and in a joined pair the partner's list, the banks apply its
messages in order; this model runs the 64 banks together. Its phase is over, so the deadlines of the phases before it have
passed. -/
def execBankBatch (uf phase : Nat) (upsets : List Upset) (s : State) : Host.Outcome State Fault Refusal :=
  s.svc (fun b =>
    let slot := slotOf uf phase
    let b := b.passIdle slot
    if b.dir.next ≠ slot ∨ 8 ≤ phase ∨ b.dir.bound ≤ slot then b else (b.takeBatch slot upsets).streamOn)

/-- BANK_MARKER_DEADLINE (R246): 15 µs after the end of a phase the batch is taken without the trees whose markers are
missing. -/
def execBankMarkerDeadline (uf phase : Nat) (upsets : List Upset) (s : State) : Host.Outcome State Fault Refusal :=
  s.svc (fun b =>
    let slot := slotOf uf phase
    let b := b.passIdle slot
    if slot < b.dir.next ∨ 8 ≤ phase ∨ b.unmarked slot = [] then b
    else
      let b := b.leaveOut slot
      if b.dir.next ≠ slot ∨ b.dir.bound ≤ slot then b else (b.takeBatch slot upsets).streamOn)

end Sys2Proof.Machine
end

