-- ==== Sys2Proof/Machine/Epoch.lean ====
section
/-! DEFINITION. The epoch boundary: EPOCH_COMMIT (R19 to R24, R29, R32, R33, R62). -/
namespace Sys2Proof.Machine

/-! ### What ends with an epoch -/

/-- Cycles of an engine in an epoch: 1.6 GHz for 1 ms (R452). -/
def epochCycles : Nat := 1600000

/-- The cycles of an engine in service over the epoch that ends; what no job took is front-starved (R452, R453). -/
def Blk.closeEngine (b : Blk) (e : Nat) : Blk :=
  let c := Tab.get {} b.tum.cycles e
  let spent := c.retired + c.failed + c.rerun + c.cipher + c.memory + c.output
  [(0, max epochCycles spent), (1, c.retired), (2, c.failed), (3, c.rerun), (4, epochCycles - spent), (5, c.cipher),
   (6, c.memory), (7, c.output)].foldl (fun b x => b.countN 0xBB x.1 e x.2) b

/-- The cycles of every engine in service. -/
def Blk.closeCycles (b : Blk) : Blk :=
  let serving := (List.range 272).filter (fun e => b.tele.role 0x09 e == .serving && !b.tele.islandRetired (84 + e / 17))
  let b := serving.foldl Blk.closeEngine b
  { b with tum := { b.tum with cycles := [] } }

/-- A terminal's runs for SF and its window for SD move on by one epoch (R121). -/
def Term.epochEnds (x : Term) : Term :=
  { x with
    sfRun := if x.uncorr then x.sfRun + 1 else 0, sfOk := if x.uncorr then 0 else x.sfOk + 1, uncorr := false,
    sdHist := ((0, 0) :: x.sdHist).take 64 }

/-- Live counts by epoch start again: codewords of terminals, exception frames, corrected granules (R121, R284, R476). -/
def Blk.epochCounts (b : Blk) : Blk :=
  { b with
    terms := Tab.mapVals {} (fun _ x => x.epochEnds) b.terms, cls := { b.cls with excCount := [] },
    tele := { b.tele with corrected := [] } }

/-! ### Versions (R24, R29) -/

/-- At the start of epoch m, every version last current at m − 4 or before is retired. DISCOVERY_CONFIG is kept for the cycles
that began under it (R203). -/
def Blk.retireVersions (b : Blk) (m : Nat) : Blk :=
  { b with
    host := { b.host with owners := Vers.retire m b.host.owners }, gey := { b.gey with cfg := Vers.retire m b.gey.cfg },
    tim := { b.tim with cfg := Vers.retire m b.tim.cfg }, sw := { b.sw with cfg := Vers.retire m b.sw.cfg },
    cls := { b.cls with cfg := Vers.retire m b.cls.cfg }, cip := { b.cip with cfg := Vers.retire m b.cip.cfg },
    tum := { b.tum with handlers := Vers.retire m b.tum.handlers },
    trees := b.trees.map (fun x => (x.1, { x.2 with disc := Vers.retire (m - 16) x.2.disc })) }

/-! ### Pair state at a boundary (R414, R418, R508) -/

/-- A chip that leaves service at epoch n returns DIVERGED for its own pair-wide commands staged for n and later, and withdraws
them (R414). -/
def Blk.divergeFrom (b : Blk) (n : Nat) : Blk :=
  let mine := b.host.sets.flatMap (fun x => if n ≤ x.1 then (x.2.filter b.ownPairWide).map (fun i => (x.1, i)) else [])
  let b := { b with host := { b.host with sets := b.host.sets.map (fun x =>
      if n ≤ x.1 then (x.1, x.2.filter (fun i => !b.ownPairWide i)) else x) } }
  mine.foldl (fun b x =>
    match opRow b.sys.part x.2 with
    | none => b
    | some r => (b.withdraw r.cmd).divergedReply x.1 x.2) b

/-- Changes of pair state at the boundary of epoch n (R414, R418). -/
def Blk.pairAt (b : Blk) (n : Nat) : Blk :=
  let leaves := b.joined && b.pair.next.any (fun x => decide (x.1 ≤ n) && x.2 == .isolated)
  (if leaves then b.divergeFrom n else b).pairBoundary n

/-- Epoch boundaries in a row at which the partner's firmware differed (R508). -/
def Blk.fwCompare (b : Blk) : Blk :=
  if b.joined then
    b.setPair (fun p => { p with fwDiffer := if p.hello.all (fun h => h.fwVersion == b.sys.fwVersion) then 0 else p.fwDiffer + 1 })
  else b

/-! ### COMMIT (R19, R21, R23) -/

/-- The trees that a change set reconfigures with TREE_CONFIG. -/
def reconfigured (l : List Instr) : List Nat :=
  l.filterMap (fun i =>
    match i with
    | .treeConfig c => some (c.unit % 4096)
    | _ => none)

/-- Epoch n begins, and with it the change set that has been confirmed; the sets that are applied with it, oldest first.
Where an island missed PREPARE, none is: change set n is deferred, and the maps of its trees are sent empty for two frames
(R21, R204). -/
def Blk.beginEpoch (b : Blk) (n : Nat) : Blk × List (Nat × List Instr) :=
  let own := (b.host.sets.filter (fun x => decide (x.1 ≤ n)))
  let all := b.host.deferred ++ own
  let hold := !b.clk.missing.isEmpty
  let b := { b with
    clk := { b.clk with
      epoch := n, closed := false, prepared := false, missing := [], healthPaced := b.sys.phase.inDormant && !b.sys.refTree,
      changeSet := (if hold then n - 1 else n) % 2 ^ 32, fc := if b.sys.phase = .service then b.clk.fc else 8 * n },
    host := { b.host with sets := b.host.sets.filter (fun x => decide (n < x.1)), deferred := if hold then all else [] } }
  if hold then
    ((reconfigured (own.flatMap Prod.snd)).foldl (fun b t =>
      b.updTree t (fun x => { x with mapEmpty := max x.mapEmpty (8 * n + 2) })) b, [])
  else (b, all)

/-- A cause of Dormant that waited for the boundary (R500). -/
def Blk.dormantAt (b : Blk) : Blk :=
  match b.sys.dormantNext with
  | none => b
  | some cause => b.enterDormant cause

/-- The boundary of epoch n in service: what the epoch before closes, then what epoch n begins with. -/
def Blk.commitService (b : Blk) (n : Nat) : Blk :=
  let b := b.closeCycles
  let r := b.beginEpoch n
  let b := ((r.1.closeDigest (n - 1)).compareDigest (n - 1)).latchBoundary n
  let b := (((b.unitBoundary.epochCounts).pairAt n).retireVersions n).dropCaches
  ((b.autoStepNow.applySets r.2).sampleConstraint.fwCompare).dormantAt

/-- The boundary of epoch n in Dormant, where the health and host command islands alone run (R501). -/
def Blk.commitDormant (b : Blk) (n : Nat) : Blk :=
  let r := b.beginEpoch n
  let b := (r.1.latchBoundary n).unitBoundary
  (b.applySets r.2).dormantAt

/-- EPOCH_COMMIT (R17, R19, R23): COMMIT of the next epoch, at the start of its first frame. -/
def execEpochCommit (s : State) : Host.Outcome State Fault Refusal :=
  s.run (fun b =>
    let n := b.clk.epoch + 1
    if b.sys.phase = .service then (if b.clk.fc = 8 * n then (b.timed (b.commitService n)).at n (8 * n) else b)
    else if b.sys.phase.paced then (b.timed (b.commitDormant n)).at n (8 * n)
    else b)

end Sys2Proof.Machine
end

