-- ==== Sys2Proof/Machine/Dispatch.lean ====
section
/-! DEFINITION. One arm for each command of the block, each one direct call of its meaning. -/
namespace Sys2Proof.Machine

def exec (i : Instr) (s : State) : Host.Outcome State Fault Refusal :=
  match i with
  | .powerOn => Sys2Proof.Machine.execPowerOn s
  | .pinReset lowNs => Sys2Proof.Machine.execPinReset lowNs s
  | .resetRelease straps => Sys2Proof.Machine.execResetRelease straps s
  | .selftestTestDone test failed => Sys2Proof.Machine.execSelftestTestDone test failed s
  | .railUndervoltage rail => Sys2Proof.Machine.execRailUndervoltage rail s
  | .undervoltageRelease straps => Sys2Proof.Machine.execUndervoltageRelease straps s
  | .perst => Sys2Proof.Machine.execPerst s
  | .pcieHotReset => Sys2Proof.Machine.execPcieHotReset s
  | .pcieFlr fn => Sys2Proof.Machine.execPcieFlr fn s
  | .pcieConfigRequest fn sinceResetUs sincePerstUs => Sys2Proof.Machine.execPcieConfigRequest fn sinceResetUs sincePerstUs s
  | .refclkLoss ref => Sys2Proof.Machine.execRefclkLoss ref s
  | .refclkReturn ref => Sys2Proof.Machine.execRefclkReturn ref s
  | .hbmTempHigh stack => Sys2Proof.Machine.execHbmTempHigh stack s
  | .hbmTempNormal stack => Sys2Proof.Machine.execHbmTempNormal stack s
  | .thermTrip => Sys2Proof.Machine.execThermTrip s
  | .testPortReset => Sys2Proof.Machine.execTestPortReset s
  | .extest boundary => Sys2Proof.Machine.execExtest boundary s
  | .registerWrite fn offset value width => Sys2Proof.Machine.execRegisterWrite fn offset value width s
  | .ringEnable fn ring value => Sys2Proof.Machine.execRingEnable fn ring value s
  | .ringDisable fn ring value => Sys2Proof.Machine.execRingDisable fn ring value s
  | .ringSizeSet fn ring value => Sys2Proof.Machine.execRingSizeSet fn ring value s
  | .ringOverrunClear fn ring value => Sys2Proof.Machine.execRingOverrunClear fn ring value s
  | .cmdDoorbell fn ring prod => Sys2Proof.Machine.execCmdDoorbell fn ring prod s
  | .replyDoorbell fn ring cons => Sys2Proof.Machine.execReplyDoorbell fn ring cons s
  | .commandFetch fn ring slot ext => Sys2Proof.Machine.execCommandFetch fn ring slot ext s
  | .replyWrite fn ring sameWindow => Sys2Proof.Machine.execReplyWrite fn ring sameWindow s
  | .sbSubmit count bytes pecOk => Sys2Proof.Machine.execSbSubmit count bytes pecOk s
  | .sbReply => Sys2Proof.Machine.execSbReply s
  | .sbStatus => Sys2Proof.Machine.execSbStatus s
  | .sbInvalidWrite code write => Sys2Proof.Machine.execSbInvalidWrite code write s
  | .sbInvalidRead code block => Sys2Proof.Machine.execSbInvalidRead code block s
  | .smbusTimeout => Sys2Proof.Machine.execSmbusTimeout s
  | .changeSetClose => Sys2Proof.Machine.execChangeSetClose s
  | .prepare => Sys2Proof.Machine.execPrepare s
  | .prepareDeadline missing => Sys2Proof.Machine.execPrepareDeadline missing s
  | .epochCommit => Sys2Proof.Machine.execEpochCommit s
  | .commitAckDeadline missing => Sys2Proof.Machine.execCommitAckDeadline missing s
  | .warmStartComplete failed us => Sys2Proof.Machine.execWarmStartComplete failed us s
  | .downstreamFrame facts => Sys2Proof.Machine.execDownstreamFrame facts s
  | .phaseEndMarker tree uf phase => Sys2Proof.Machine.execPhaseEndMarker tree uf phase s
  | .upstreamBurst burst => Sys2Proof.Machine.execUpstreamBurst burst s
  | .delimiterWindowClose tree uf start => Sys2Proof.Machine.execDelimiterWindowClose tree uf start s
  | .probeDetection tree windows => Sys2Proof.Machine.execProbeDetection tree windows s
  | .defectChange tree object code => Sys2Proof.Machine.execDefectChange tree object code s
  | .aisPeriodEnd flow up => Sys2Proof.Machine.execAisPeriodEnd flow up s
  | .rangingTimeout tree index => Sys2Proof.Machine.execRangingTimeout tree index s
  | .heldTimeout tree index => Sys2Proof.Machine.execHeldTimeout tree index s
  | .activateTimeout tree index => Sys2Proof.Machine.execActivateTimeout tree index s
  | .driftEpoch tree index => Sys2Proof.Machine.execDriftEpoch tree index s
  | .rerangeFail tree index => Sys2Proof.Machine.execRerangeFail tree index s
  | .skewAcquired tree bursts => Sys2Proof.Machine.execSkewAcquired tree bursts s
  | .skewTrack tree sum count => Sys2Proof.Machine.execSkewTrack tree sum count s
  | .protectHoldOffExpiry tree => Sys2Proof.Machine.execProtectHoldOffExpiry tree s
  | .protectTxWaitExpiry tree => Sys2Proof.Machine.execProtectTxWaitExpiry tree s
  | .protectWtrExpiry tree => Sys2Proof.Machine.execProtectWtrExpiry tree s
  | .placementSlot => Sys2Proof.Machine.execPlacementSlot s
  | .shareComputation => Sys2Proof.Machine.execShareComputation s
  | .lateMarkerArrival tree uf phase => Sys2Proof.Machine.execLateMarkerArrival tree uf phase s
  | .bankBatch uf phase upsets => Sys2Proof.Machine.execBankBatch uf phase upsets s
  | .bankMarkerDeadline uf phase upsets => Sys2Proof.Machine.execBankMarkerDeadline uf phase upsets s
  | .lateEndpointMessage tree uf phase flow sdu => Sys2Proof.Machine.execLateEndpointMessage tree uf phase flow sdu s
  | .downstreamEndpointMessage upsets => Sys2Proof.Machine.execDownstreamEndpointMessage upsets s
  | .outageRecordClose terminal tenant kind => Sys2Proof.Machine.execOutageRecordClose terminal tenant kind s
  | .outageRecordDeliver => Sys2Proof.Machine.execOutageRecordDeliver s
  | .uplinkFrameRx sub bytes bad room toa => Sys2Proof.Machine.execUplinkFrameRx sub bytes bad room toa s
  | .pauseRx sub frame => Sys2Proof.Machine.execPauseRx sub frame s
  | .subPortLinkDown sub => Sys2Proof.Machine.execSubPortLinkDown sub s
  | .subPortLinkUp sub => Sys2Proof.Machine.execSubPortLinkUp sub s
  | .parserPass pass checkFail => Sys2Proof.Machine.execParserPass pass checkFail s
  | .recirculationPass pass => Sys2Proof.Machine.execRecirculationPass pass s
  | .tableParityScan faults => Sys2Proof.Machine.execTableParityScan faults s
  | .egressDequeue port corrected checkFail => Sys2Proof.Machine.execEgressDequeue port corrected checkFail s
  | .frameFoundBadLate queue pos why => Sys2Proof.Machine.execFrameFoundBadLate queue pos why s
  | .frerSequencePoint uf phase => Sys2Proof.Machine.execFrerSequencePoint uf phase s
  | .hostDelivery reads => Sys2Proof.Machine.execHostDelivery reads s
  | .rxRingPoll tenant word1 => Sys2Proof.Machine.execRxRingPoll tenant word1 s
  | .leaseReadbackComplete key => Sys2Proof.Machine.execLeaseReadbackComplete key s
  | .keyCacheRefill flow slot => Sys2Proof.Machine.execKeyCacheRefill flow slot s
  | .ptpMessageRx => Sys2Proof.Machine.execPtpMessageRx s
  | .ptpMessageTx sub kind depart => Sys2Proof.Machine.execPtpMessageTx sub kind depart s
  | .ppsInEdge edge => Sys2Proof.Machine.execPpsInEdge edge s
  | .ppsOutPulse => Sys2Proof.Machine.execPpsOutPulse s
  | .sourceTimeout => Sys2Proof.Machine.execSourceTimeout s
  | .hoValidExpiry => Sys2Proof.Machine.execHoValidExpiry s
  | .esmcRx sub ql ppb => Sys2Proof.Machine.execEsmcRx sub ql ppb s
  | .synceSourceLoss entry why => Sys2Proof.Machine.execSynceSourceLoss entry why s
  | .synceWtrExpiry entry => Sys2Proof.Machine.execSynceWtrExpiry entry s
  | .esmcTx => Sys2Proof.Machine.execEsmcTx s
  | .todWriteStandard tree => Sys2Proof.Machine.execTodWriteStandard tree s
  | .helloTx => Sys2Proof.Machine.execHelloTx s
  | .helloRx frame => Sys2Proof.Machine.execHelloRx frame s
  | .linkFrameRx frame => Sys2Proof.Machine.execLinkFrameRx frame s
  | .watchdogToggle => Sys2Proof.Machine.execWatchdogToggle s
  | .watchdogSilence => Sys2Proof.Machine.execWatchdogSilence s
  | .linkSilence => Sys2Proof.Machine.execLinkSilence s
  | .agreedItemDeadline item arg => Sys2Proof.Machine.execAgreedItemDeadline item arg s
  | .joinHandshake hello mac kek => Sys2Proof.Machine.execJoinHandshake hello mac kek s
  | .handshakeRetry => Sys2Proof.Machine.execHandshakeRetry s
  | .batchRx batch => Sys2Proof.Machine.execBatchRx batch s
  | .constraintRx epoch budget => Sys2Proof.Machine.execConstraintRx epoch budget s
  | .recipeRx recipe => Sys2Proof.Machine.execRecipeRx recipe s
  | .timeFrameRx time => Sys2Proof.Machine.execTimeFrameRx time s
  | .leaseFrameRx key leaseEnd => Sys2Proof.Machine.execLeaseFrameRx key leaseEnd s
  | .acceptListRx accepts => Sys2Proof.Machine.execAcceptListRx accepts s
  | .commandFrameRx cmd => Sys2Proof.Machine.execCommandFrameRx cmd s
  | .dnEndpointRx uf phase messages => Sys2Proof.Machine.execDnEndpointRx uf phase messages s
  | .mapFrameRx tree uf entries => Sys2Proof.Machine.execMapFrameRx tree uf entries s
  | .digestRx epoch digest faulted => Sys2Proof.Machine.execDigestRx epoch digest faulted s
  | .pageSend => Sys2Proof.Machine.execPageSend s
  | .pageRx page => Sys2Proof.Machine.execPageRx page s
  | .pageReqRx item pages => Sys2Proof.Machine.execPageReqRx item pages s
  | .gridAlign tree offsets => Sys2Proof.Machine.execGridAlign tree offsets s
  | .joinPoint j => Sys2Proof.Machine.execJoinPoint j s
  | .wtrExpiry => Sys2Proof.Machine.execWtrExpiry s
  | .fwVersionMismatch => Sys2Proof.Machine.execFwVersionMismatch s
  | .handlerJob engine cipherWait memoryWait outputWait => Sys2Proof.Machine.execHandlerJob engine cipherWait memoryWait outputWait s
  | .jobWriteBack cluster => Sys2Proof.Machine.execJobWriteBack cluster s
  | .engineFault engine cycles why => Sys2Proof.Machine.execEngineFault engine cycles why s
  | .managementJob tree => Sys2Proof.Machine.execManagementJob tree s
  | .mgmtMessageRx terminal checkFail => Sys2Proof.Machine.execMgmtMessageRx terminal checkFail s
  | .mgmtRetry tree terminal => Sys2Proof.Machine.execMgmtRetry tree terminal s
  | .outageJob => Sys2Proof.Machine.execOutageJob s
  | .reportClose tenant cls key => Sys2Proof.Machine.execReportClose tenant cls key s
  | .reportDeliver => Sys2Proof.Machine.execReportDeliver s
  | .hbmCopyComplete pchannel => Sys2Proof.Machine.execHbmCopyComplete pchannel s
  | .retestComplete kind index failed => Sys2Proof.Machine.execRetestComplete kind index failed s
  | .capsQuery c => Sys2Proof.Machine.execCapsQuery c s
  | .epochRead c => Sys2Proof.Machine.execEpochRead c s
  | .nop c => Sys2Proof.Machine.execNop c s
  | .tenantAssign c => Sys2Proof.Machine.execTenantAssign c s
  | .tenantQuery c => Sys2Proof.Machine.execTenantQuery c s
  | .treeConfig c => Sys2Proof.Machine.execTreeConfig c s
  | .defectConfig c => Sys2Proof.Machine.execDefectConfig c s
  | .treeStatus c => Sys2Proof.Machine.execTreeStatus c s
  | .circuitAisConfig c => Sys2Proof.Machine.execCircuitAisConfig c s
  | .treeSetMode c => Sys2Proof.Machine.execTreeSetMode c s
  | .treeProtectConfig c => Sys2Proof.Machine.execTreeProtectConfig c s
  | .discoveryConfig c => Sys2Proof.Machine.execDiscoveryConfig c s
  | .terminalActivate c => Sys2Proof.Machine.execTerminalActivate c s
  | .terminalDeactivate c => Sys2Proof.Machine.execTerminalDeactivate c s
  | .rangeRead c => Sys2Proof.Machine.execRangeRead c s
  | .skewConfig c => Sys2Proof.Machine.execSkewConfig c s
  | .gqConfig c => Sys2Proof.Machine.execGqConfig c s
  | .gqConfigTree c => Sys2Proof.Machine.execGqConfigTree c s
  | .gqConfigDevice c => Sys2Proof.Machine.execGqConfigDevice c s
  | .gqRead c => Sys2Proof.Machine.execGqRead c s
  | .circuitReserve c => Sys2Proof.Machine.execCircuitReserve c s
  | .circuitRelease c => Sys2Proof.Machine.execCircuitRelease c s
  | .accountRead c => Sys2Proof.Machine.execAccountRead c s
  | .epWrite c => Sys2Proof.Machine.execEpWrite c s
  | .epRead c => Sys2Proof.Machine.execEpRead c s
  | .epBind c => Sys2Proof.Machine.execEpBind c s
  | .epUnbind c => Sys2Proof.Machine.execEpUnbind c s
  | .agingConfig c => Sys2Proof.Machine.execAgingConfig c s
  | .outageConfig c => Sys2Proof.Machine.execOutageConfig c s
  | .flowWrite c => Sys2Proof.Machine.execFlowWrite c s
  | .flowRead c => Sys2Proof.Machine.execFlowRead c s
  | .parseNodeWrite c => Sys2Proof.Machine.execParseNodeWrite c s
  | .parseNodeRead c => Sys2Proof.Machine.execParseNodeRead c s
  | .ruleWrite c => Sys2Proof.Machine.execRuleWrite c s
  | .ruleRead c => Sys2Proof.Machine.execRuleRead c s
  | .hashConfig c => Sys2Proof.Machine.execHashConfig c s
  | .indirectionWrite c => Sys2Proof.Machine.execIndirectionWrite c s
  | .exceptionConfig c => Sys2Proof.Machine.execExceptionConfig c s
  | .portConfigPort c => Sys2Proof.Machine.execPortConfigPort c s
  | .portConfigSubPort c => Sys2Proof.Machine.execPortConfigSubPort c s
  | .portConfigHost c => Sys2Proof.Machine.execPortConfigHost c s
  | .queueConfig c => Sys2Proof.Machine.execQueueConfig c s
  | .thresholdConfig c => Sys2Proof.Machine.execThresholdConfig c s
  | .carrierMap c => Sys2Proof.Machine.execCarrierMap c s
  | .carrierMapGroup c => Sys2Proof.Machine.execCarrierMapGroup c s
  | .mirrorConfigPort c => Sys2Proof.Machine.execMirrorConfigPort c s
  | .mirrorConfigEncap c => Sys2Proof.Machine.execMirrorConfigEncap c s
  | .sampleConfig c => Sys2Proof.Machine.execSampleConfig c s
  | .frerConfig c => Sys2Proof.Machine.execFrerConfig c s
  | .frameInject c => Sys2Proof.Machine.execFrameInject c s
  | .keyLoadEndpoint c => Sys2Proof.Machine.execKeyLoadEndpoint c s
  | .keyLoadCarrier c => Sys2Proof.Machine.execKeyLoadCarrier c s
  | .keyLoadTenant c => Sys2Proof.Machine.execKeyLoadTenant c s
  | .keyRetire c => Sys2Proof.Machine.execKeyRetire c s
  | .carrierCipher c => Sys2Proof.Machine.execCarrierCipher c s
  | .nonceQuery c => Sys2Proof.Machine.execNonceQuery c s
  | .checkConfig c => Sys2Proof.Machine.execCheckConfig c s
  | .checkSave c => Sys2Proof.Machine.execCheckSave c s
  | .checkRestore c => Sys2Proof.Machine.execCheckRestore c s
  | .timeConfigDevice c => Sys2Proof.Machine.execTimeConfigDevice c s
  | .timeConfigTree c => Sys2Proof.Machine.execTimeConfigTree c s
  | .ptpPortConfig c => Sys2Proof.Machine.execPtpPortConfig c s
  | .stepTime c => Sys2Proof.Machine.execStepTime c s
  | .timeRead c => Sys2Proof.Machine.execTimeRead c s
  | .ppsConfig c => Sys2Proof.Machine.execPpsConfig c s
  | .synceConfig c => Sys2Proof.Machine.execSynceConfig c s
  | .pairConfig c => Sys2Proof.Machine.execPairConfig c s
  | .pairStatus c => Sys2Proof.Machine.execPairStatus c s
  | .roleSwap c => Sys2Proof.Machine.execRoleSwap c s
  | .roleLock c => Sys2Proof.Machine.execRoleLock c s
  | .roleUnlock c => Sys2Proof.Machine.execRoleUnlock c s
  | .roleLeave c => Sys2Proof.Machine.execRoleLeave c s
  | .roleRestoreNow c => Sys2Proof.Machine.execRoleRestoreNow c s
  | .resyncStart c => Sys2Proof.Machine.execResyncStart c s
  | .wtrConfig c => Sys2Proof.Machine.execWtrConfig c s
  | .handlerWrite c => Sys2Proof.Machine.execHandlerWrite c s
  | .handlerRead c => Sys2Proof.Machine.execHandlerRead c s
  | .mgmtConfigTree c => Sys2Proof.Machine.execMgmtConfigTree c s
  | .mgmtConfigSend c => Sys2Proof.Machine.execMgmtConfigSend c s
  | .engineStatus c => Sys2Proof.Machine.execEngineStatus c s
  | .engineCounterRead c => Sys2Proof.Machine.execEngineCounterRead c s
  | .counterRead c => Sys2Proof.Machine.execCounterRead c s
  | .counterClear c => Sys2Proof.Machine.execCounterClear c s
  | .binRead c => Sys2Proof.Machine.execBinRead c s
  | .ventRead c => Sys2Proof.Machine.execVentRead c s
  | .ventExtend c => Sys2Proof.Machine.execVentExtend c s
  | .faultConfigSource c => Sys2Proof.Machine.execFaultConfigSource c s
  | .faultConfigWear c => Sys2Proof.Machine.execFaultConfigWear c s
  | .unitRetest c => Sys2Proof.Machine.execUnitRetest c s
  | .wearRead c => Sys2Proof.Machine.execWearRead c s
  | .deviceStatus c => Sys2Proof.Machine.execDeviceStatus c s
  | .selftestRun c => Sys2Proof.Machine.execSelftestRun c s
  | .fwLoad c => Sys2Proof.Machine.execFwLoad c s
  | .powerDown => Sys2Proof.Machine.execPowerDown s
  | .fwImageWritten => Sys2Proof.Machine.execFwImageWritten s

end Sys2Proof.Machine
end

