-- ==== Sys2Proof/WellFormed.lean ====
section
/-! DEFINITION. Which commands are well formed: every operand inside the range the spec gives it. The block answers
ill-formed commands too (a command word's own errors are the block's to report); these checks say what a sender that keeps
to the interface sends. -/
namespace Sys2Proof

/-- A number from a to b. -/
def inRange (a b n : Nat) : Bool := decide (a ≤ n) && decide (n ≤ b)

/-- A PCIe function: the physical one or a virtual one of 1 to 64 (R41). -/
def fnOk (fn : Nat) : Bool := decide (fn ≤ 64)

/-- A ring of a function (R41). -/
def ringOk (ring : Nat) : Bool := decide (ring < 8)

/-- A tenant (R64). -/
def tenantOk (tenant : Nat) : Bool := decide (tenant ≤ 64)

/-- A tree (R3). -/
def treeOk (tree : Nat) : Bool := decide (tree < 64)

/-- A terminal index on a tree. -/
def indexOk (index : Nat) : Bool := decide (index < 512)

/-- A phase of a frame. -/
def phaseOk (phase : Nat) : Bool := decide (phase < 8)

/-- A flow index: a carrier of a tree (R52). -/
def flowOk (flow : Nat) : Bool := decide (flow < 2 ^ 22)

/-- A key's number: an endpoint, or 2^32 and a flow index (R341). -/
def keyOk (key : Nat) : Bool := decide (key < 2 ^ 25) || (decide (2 ^ 32 ≤ key) && flowOk (key - 2 ^ 32))

/-- An uplink sub-port (R52). -/
def subOk (sub : Nat) : Bool := decide (sub < 48)

/-- An island (R1). -/
def islandOk (island : Nat) : Bool := decide (island < 102)

/-- An index that a start-up test may name: an island, or one of the 12,416 rows of the Caldera (R497). -/
def islandOrUnit (index : Nat) : Bool := decide (index < 12416)

/-- A command as fetched (R51). -/
def Cmd.wf (c : Cmd) : Bool :=
  tenantOk c.tenant && decide (c.ring ≤ 8) && decide (c.tag < 2 ^ 16) && decide (c.unit < 2 ^ 16) && decide (c.epoch < 2 ^ 64)
  && decide (c.extAddr < 2 ^ 64) && decide (c.extLen < 2 ^ 24) && decide (c.inlineLen < 256) && decide (c.inl < 2 ^ 768)
  && decide (c.ext.length ≤ c.extLen)

/-- What FEC found in a burst (R133): no more codewords corrected and uncorrectable than there are. -/
def FecCount.wf (x : FecCount) : Bool := decide (x.corrected + x.uncorr ≤ x.words) && decide (x.symbols ≤ x.received)

/-- A burst (R110, R119). -/
def RxBurst.wf (x : RxBurst) : Bool := treeOk x.tree && decide (x.searchBits < 2 ^ x.bitsLen) && x.fec.wf

/-- A PAUSE or PFC frame (R314): a quanta of each class. -/
def PauseFrame.wf (x : PauseFrame) : Bool := x.quanta.length == 8 && x.quanta.all (fun q => decide (q < 2 ^ 16))

/-- An upset. -/
def Upset.wf : Upset → Bool
  | .hbm flow id granule pch _ =>
    (if flow then flowOk id else decide (id < 2 ^ 25)) && decide (granule < 8) && decide (pch < 68)
  | .cipher _ unit unwrap _ => decide (unit < (if unwrap then 4 else 12))
  | .checkCfg block => decide (block < 8192)
  | .channel _ => true

/-- The light of a micro-window of a discovery cycle (R162, R165): one of 64, and 12,000 byte-slots of it. -/
def ProbeWindow.wf (x : ProbeWindow) : Bool := decide (x.window < 64) && x.samples.length == 12000

/-- A search of an acquiring chip B (R182). -/
def SkewSearch.wf (x : SkewSearch) : Bool := decide (x.bits < 2 ^ x.len)

/-- What a partner tells of a tree (R192). -/
def TreeFact.wf (x : TreeFact) : Bool := treeOk x.tree && decide (x.skew < 4)

/-- A HELLO (R397): the partner's frame counter is within its epoch, or at its end (R17). -/
def Hello.wf (h : Hello) : Bool :=
  decide (h.part < 2 ^ 16) && decide (h.rev < 2 ^ 16) && decide (h.fwVersion < 2 ^ 32)
  && decide (8 * h.epoch ≤ h.fc) && decide (h.fc ≤ 8 * h.epoch + 8)

/-- A link frame (R397). -/
def LinkFrame.wf (f : LinkFrame) : Bool := (f.lane.map (fun l => decide (l < 4))).getD true

/-- A phase batch of the reference chip (R397). -/
def PairBatch.wf (x : PairBatch) : Bool := phaseOk x.phase && x.trees.all (fun t => treeOk t.tree)

/-- A recipe (R405). -/
def Recipe.wf (x : Recipe) : Bool := treeOk x.tree && x.entries.all (fun e => decide (e.carrier < 2 ^ 16))

/-- Whether a command is well formed. -/
def Instr.wf : Instr → Bool
  | .powerOn => true
  | .pinReset _ => true
  | .resetRelease _ => true
  | .selftestTestDone test failed => inRange 1 19 test && failed.all islandOrUnit
  | .railUndervoltage _ => true
  | .undervoltageRelease _ => true
  | .perst => true
  | .pcieHotReset => true
  | .pcieFlr fn => fnOk fn
  | .pcieConfigRequest fn _ _ => fnOk fn
  | .refclkLoss _ => true
  | .refclkReturn _ => true
  | .hbmTempHigh stack => decide (stack < 2)
  | .hbmTempNormal stack => decide (stack < 2)
  | .thermTrip => true
  | .testPortReset => true
  | .extest _ => true
  | .registerWrite fn offset value width => fnOk fn && decide (offset < 2 ^ 16) && (width == 4 || width == 8) && decide (value < 2 ^ (8 * width))
  | .ringEnable fn ring _ => fnOk fn && ringOk ring
  | .ringDisable fn ring _ => fnOk fn && ringOk ring
  | .ringSizeSet fn ring _ => fnOk fn && ringOk ring
  | .ringOverrunClear fn ring _ => fnOk fn && ringOk ring
  | .cmdDoorbell fn ring _ => fnOk fn && ringOk ring
  | .replyDoorbell fn ring _ => fnOk fn && ringOk ring
  | .commandFetch fn ring slot _ => fnOk fn && ringOk ring && (slot.length == 64 || slot.length == 128)
  | .replyWrite fn ring _ => fnOk fn && ringOk ring
  | .sbSubmit count _ _ => decide (count < 256)
  | .sbReply => true
  | .sbStatus => true
  | .sbInvalidWrite code _ => decide (code < 256)
  | .sbInvalidRead code _ => decide (code < 256)
  | .smbusTimeout => true
  | .changeSetClose => true
  | .prepare => true
  | .prepareDeadline missing => missing.all islandOk
  | .epochCommit => true
  | .commitAckDeadline missing => missing.all islandOk
  | .warmStartComplete failed _ => failed.all (fun x => inRange 1 19 x.1 && islandOrUnit x.2)
  | .downstreamFrame facts => facts.upsets.all Upset.wf
  | .phaseEndMarker tree _ phase => treeOk tree && phaseOk phase
  | .upstreamBurst burst => burst.wf
  | .delimiterWindowClose tree _ _ => treeOk tree
  | .probeDetection tree windows => treeOk tree && windows.all ProbeWindow.wf
  | .defectChange tree _ code => treeOk tree && decide (code < 8)
  | .aisPeriodEnd flow _ => flowOk flow
  | .rangingTimeout tree index => treeOk tree && indexOk index
  | .heldTimeout tree index => treeOk tree && indexOk index
  | .activateTimeout tree index => treeOk tree && indexOk index
  | .driftEpoch tree index => treeOk tree && indexOk index
  | .rerangeFail tree index => treeOk tree && indexOk index
  | .skewAcquired tree bursts => treeOk tree && bursts.all SkewSearch.wf
  | .skewTrack tree _ _ => treeOk tree
  | .protectHoldOffExpiry tree => treeOk tree
  | .protectTxWaitExpiry tree => treeOk tree
  | .protectWtrExpiry tree => treeOk tree
  | .placementSlot => true
  | .shareComputation => true
  | .lateMarkerArrival tree _ phase => treeOk tree && phaseOk phase
  | .bankBatch _ phase upsets => phaseOk phase && upsets.all Upset.wf
  | .bankMarkerDeadline _ phase upsets => phaseOk phase && upsets.all Upset.wf
  | .lateEndpointMessage tree _ phase flow _ => treeOk tree && phaseOk phase && flowOk flow
  | .downstreamEndpointMessage upsets => upsets.all Upset.wf
  | .outageRecordClose terminal tenant kind => decide (terminal < 2 ^ 15) && tenantOk tenant && inRange 1 5 kind
  | .outageRecordDeliver => true
  | .uplinkFrameRx sub _ _ _ _ => subOk sub
  | .pauseRx sub frame => subOk sub && frame.wf
  | .subPortLinkDown sub => subOk sub
  | .subPortLinkUp sub => subOk sub
  | .parserPass pass _ => decide (pass.side < 2)
  | .recirculationPass pass => decide (pass.side < 2)
  | .tableParityScan faults => faults.all (fun x => islandOk x.1 && decide (x.2.1 < 4))
  | .egressDequeue port _ _ => decide (port < 115)
  | .frameFoundBadLate _ _ _ => true
  | .frerSequencePoint _ phase => phaseOk phase
  | .hostDelivery _ => true
  | .rxRingPoll tenant _ => tenantOk tenant
  | .leaseReadbackComplete key => keyOk key
  | .keyCacheRefill flow slot => flowOk flow && decide (slot < 4)
  | .ptpMessageRx => true
  | .ptpMessageTx sub _ _ => subOk sub
  | .ppsInEdge _ => true
  | .ppsOutPulse => true
  | .sourceTimeout => true
  | .hoValidExpiry => true
  | .esmcRx sub ql _ => subOk sub && decide (ql < 256)
  | .synceSourceLoss _ _ => true
  | .synceWtrExpiry _ => true
  | .esmcTx => true
  | .todWriteStandard tree => treeOk tree
  | .helloTx => true
  | .helloRx frame => frame.hello.wf && frame.trees.all TreeFact.wf
  | .linkFrameRx frame => frame.wf
  | .watchdogToggle => true
  | .watchdogSilence => true
  | .linkSilence => true
  | .agreedItemDeadline _ _ => true
  | .joinHandshake hello mac _ => hello.wf && mac.length == 16
  | .handshakeRetry => true
  | .batchRx batch => batch.wf
  | .constraintRx _ _ => true
  | .recipeRx recipe => recipe.wf
  | .timeFrameRx _ => true
  | .leaseFrameRx key _ => keyOk key
  | .acceptListRx accepts => phaseOk accepts.phase
  | .commandFrameRx _ => true
  | .dnEndpointRx _ phase _ => phaseOk phase
  | .mapFrameRx tree _ _ => treeOk tree
  | .digestRx _ _ _ => true
  | .pageSend => true
  | .pageRx page => inRange 1 5 page.item || page.item == 6
  | .pageReqRx item _ => inRange 1 6 item
  | .gridAlign tree _ => treeOk tree
  | .joinPoint _ => true
  | .wtrExpiry => true
  | .fwVersionMismatch => true
  | .handlerJob engine _ _ _ => decide (engine < 272)
  | .jobWriteBack cluster => decide (cluster < 16)
  | .engineFault engine _ _ => decide (engine < 272)
  | .managementJob tree => treeOk tree
  | .mgmtMessageRx terminal _ => decide (terminal < 2 ^ 15)
  | .mgmtRetry tree terminal => treeOk tree && indexOk terminal
  | .outageJob => true
  | .reportClose tenant cls _ => tenantOk tenant && decide (cls < 128)
  | .reportDeliver => true
  | .hbmCopyComplete pchannel => decide (pchannel < 68)
  | .retestComplete kind _ _ => inRange 1 10 kind
  | .capsQuery c => c.wf
  | .epochRead c => c.wf
  | .nop c => c.wf
  | .tenantAssign c => c.wf
  | .tenantQuery c => c.wf
  | .treeConfig c => c.wf
  | .defectConfig c => c.wf
  | .treeStatus c => c.wf
  | .circuitAisConfig c => c.wf
  | .treeSetMode c => c.wf
  | .treeProtectConfig c => c.wf
  | .discoveryConfig c => c.wf
  | .terminalActivate c => c.wf
  | .terminalDeactivate c => c.wf
  | .rangeRead c => c.wf
  | .skewConfig c => c.wf
  | .gqConfig c => c.wf
  | .gqConfigTree c => c.wf
  | .gqConfigDevice c => c.wf
  | .gqRead c => c.wf
  | .circuitReserve c => c.wf
  | .circuitRelease c => c.wf
  | .accountRead c => c.wf
  | .epWrite c => c.wf
  | .epRead c => c.wf
  | .epBind c => c.wf
  | .epUnbind c => c.wf
  | .agingConfig c => c.wf
  | .outageConfig c => c.wf
  | .flowWrite c => c.wf
  | .flowRead c => c.wf
  | .parseNodeWrite c => c.wf
  | .parseNodeRead c => c.wf
  | .ruleWrite c => c.wf
  | .ruleRead c => c.wf
  | .hashConfig c => c.wf
  | .indirectionWrite c => c.wf
  | .exceptionConfig c => c.wf
  | .portConfigPort c => c.wf
  | .portConfigSubPort c => c.wf
  | .portConfigHost c => c.wf
  | .queueConfig c => c.wf
  | .thresholdConfig c => c.wf
  | .carrierMap c => c.wf
  | .carrierMapGroup c => c.wf
  | .mirrorConfigPort c => c.wf
  | .mirrorConfigEncap c => c.wf
  | .sampleConfig c => c.wf
  | .frerConfig c => c.wf
  | .frameInject c => c.wf
  | .keyLoadEndpoint c => c.wf
  | .keyLoadCarrier c => c.wf
  | .keyLoadTenant c => c.wf
  | .keyRetire c => c.wf
  | .carrierCipher c => c.wf
  | .nonceQuery c => c.wf
  | .checkConfig c => c.wf
  | .checkSave c => c.wf
  | .checkRestore c => c.wf
  | .timeConfigDevice c => c.wf
  | .timeConfigTree c => c.wf
  | .ptpPortConfig c => c.wf
  | .stepTime c => c.wf
  | .timeRead c => c.wf
  | .ppsConfig c => c.wf
  | .synceConfig c => c.wf
  | .pairConfig c => c.wf
  | .pairStatus c => c.wf
  | .roleSwap c => c.wf
  | .roleLock c => c.wf
  | .roleUnlock c => c.wf
  | .roleLeave c => c.wf
  | .roleRestoreNow c => c.wf
  | .resyncStart c => c.wf
  | .wtrConfig c => c.wf
  | .handlerWrite c => c.wf
  | .handlerRead c => c.wf
  | .mgmtConfigTree c => c.wf
  | .mgmtConfigSend c => c.wf
  | .engineStatus c => c.wf
  | .engineCounterRead c => c.wf
  | .counterRead c => c.wf
  | .counterClear c => c.wf
  | .binRead c => c.wf
  | .ventRead c => c.wf
  | .ventExtend c => c.wf
  | .faultConfigSource c => c.wf
  | .faultConfigWear c => c.wf
  | .unitRetest c => c.wf
  | .wearRead c => c.wf
  | .deviceStatus c => c.wf
  | .selftestRun c => c.wf
  | .fwLoad c => c.wf
  | .powerDown => true
  | .fwImageWritten => true

end Sys2Proof
end

