-- ==== Sys2Proof/Safety.lean ====
section
/-! DEFINITION. The words that claims about the block use: a safe state, a command that its unit takes, the state a reply leaves
behind, and the lists of commands that the rules about the whole block name. -/
namespace Sys2Proof.Machine

/-- The frame counter lies within the epoch, or at its end, where COMMIT is due (R17, R20). -/
def Blk.clockOk (b : Blk) : Bool := decide (8 * b.clk.epoch ≤ b.clk.fc) && decide (b.clk.fc ≤ 8 * b.clk.epoch + 8)

/-- A safe state: its clock numbers agree, and every command that waits is well formed. -/
def State.Safe (s : State) : Prop := s.blk.clockOk = true ∧ s.pending.all Instr.wf = true

/-- The state with another block and the same queue. -/
def State.put (s : State) (b : Blk) : State := { s with blk := b }

/-- The head-end is in service, and an opcode command passes every check of acceptance (R57, R58). -/
def State.Takes (s : State) (o : Op) (c : Cmd) : Prop := s.blk.sys.phase = .service ∧ s.blk.acceptCheck o c = none

/-- The state after an opcode command of which the block `b` is the effect and `r` the result: the reply is counted and handed
over, naming the epoch in force and its change set (R31, R46, R56). -/
def State.answered (s : State) (o : Op) (c : Cmd) (b : Blk) (r : Res) : State :=
  { s with blk := b.answer o.code c r s.blk.clk.epoch (s.blk.clk.epoch % 2 ^ 32) b.doneTime }

/-- Every subsystem but the clock, the outputs and what the health island keeps is at its values of a cold start (R499); of the
key-encryption keys the count of those drawn stays, and of the pair's balls the level outside. -/
structure Blk.Cleared (b : Blk) : Prop where
  clk : b.clk = {}
  host : b.host = {}
  tele : b.tele = {}
  trees : b.trees = []
  terms : b.terms = []
  gey : b.gey = {}
  sw : b.sw = {}
  tim : b.tim = {}
  cls : b.cls = {}
  dir : b.dir = {}
  cip : b.cip = { keks := b.cip.keks }
  tum : b.tum = {}
  pair : b.pair = { actIn := b.pair.actIn }
  msix : b.msix = []

/-- The commands that are requests of a host: one for each opcode form of the opcode index (R75). -/
def isOpcode (i : Instr) : Bool := (opRow .bvh6400 i).isSome

/-- The commands besides the opcodes that act in other phases than service: those of start-up, of the balls, of the host's
registers and rings, of the sideband, of the tokens, and the ends of a copy and of a retest (R493 to R497, R501, R503). -/
def outsideService (i : Instr) : Bool :=
  match i with
  | .powerOn => true
  | .powerDown => true
  | .pinReset _ => true
  | .resetRelease _ => true
  | .selftestTestDone _ _ => true
  | .railUndervoltage _ => true
  | .undervoltageRelease _ => true
  | .perst => true
  | .pcieHotReset => true
  | .pcieFlr _ => true
  | .pcieConfigRequest _ _ _ => true
  | .refclkLoss _ => true
  | .refclkReturn _ => true
  | .thermTrip => true
  | .testPortReset => true
  | .extest _ => true
  | .registerWrite _ _ _ _ => true
  | .ringEnable _ _ _ => true
  | .ringDisable _ _ _ => true
  | .ringSizeSet _ _ _ => true
  | .ringOverrunClear _ _ _ => true
  | .cmdDoorbell _ _ _ => true
  | .replyDoorbell _ _ _ => true
  | .commandFetch _ _ _ _ => true
  | .replyWrite _ _ _ => true
  | .sbSubmit _ _ _ => true
  | .sbReply => true
  | .sbStatus => true
  | .sbInvalidWrite _ _ => true
  | .sbInvalidRead _ _ => true
  | .smbusTimeout => true
  | .changeSetClose => true
  | .prepare => true
  | .prepareDeadline _ => true
  | .epochCommit => true
  | .commitAckDeadline _ => true
  | .warmStartComplete _ _ => true
  | .hbmCopyComplete _ => true
  | .retestComplete _ _ _ => true
  | _ => false

/-- The commands whose units carry service and so stand still in every other phase: of the trees, ranging, Geyser, the
directory, the switch, the parsers, the cipher engine, time, the pair and the Tumbler engines, the HBM's refresh and the writing
of a firmware image. -/
def serviceRow (i : Instr) : Bool := !isOpcode i && !outsideService i

/-- The commands that can begin another epoch: the boundary itself, and those that start the head-end from cold (R17, R491). -/
def movesEpoch : Instr → Bool
  | .powerOn => true
  | .powerDown => true
  | .pinReset _ => true
  | .railUndervoltage _ => true
  | .selftestTestDone _ _ => true
  | .epochCommit => true
  | .joinHandshake _ _ _ => true
  | _ => false

/-- The commands that can change the frame counter: those that can begin another epoch, the frame tick, and the end of a warm
start (R17, R503). -/
def movesFrame (i : Instr) : Bool :=
  match i with
  | .downstreamFrame _ => true
  | .warmStartComplete _ _ => true
  | _ => movesEpoch i

/-- The commands that can change where the head-end is in its life (R491, R494, R500, R503, R509, R523, R525). -/
def movesPhase (i : Instr) : Bool :=
  match i with
  | .powerOn => true
  | .powerDown => true
  | .pinReset _ => true
  | .railUndervoltage _ => true
  | .resetRelease _ => true
  | .undervoltageRelease _ => true
  | .selftestTestDone _ _ => true
  | .warmStartComplete _ _ => true
  | .refclkLoss _ => true
  | .epochCommit => true
  | .selftestRun _ => true
  | _ => false

/-- The commands at which RESET_N, or its equivalent at the return of a supply, rises (R492, R526). -/
def releases (i : Instr) : Bool :=
  match i with
  | .resetRelease _ => true
  | .undervoltageRelease _ => true
  | _ => false

end Sys2Proof.Machine
end

