-- ==== Sys2Proof/Certificates/Slice0/Obligations.lean ====
section
/-! DEFINITION. The statements for the provers. -/

open Sys2Proof Sys2Proof.Machine

/-! ### The queue and the step -/

/-- A step runs the command at the front of the queue, with the rest of the queue. -/
def Obligations.StepRunsTheFrontCommand : Prop :=
  ∀ (c : Instr) (rest : List Instr) (b : Blk),
    step { blk := b, pending := c :: rest } = exec c { blk := b, pending := rest }

/-- On an empty queue the block idles. The model's own choice (DESIGN CHOICE, log 18): every effect of time is a command. -/
def Obligations.EmptyQueueIdles : Prop :=
  ∀ b : Blk, step { blk := b, pending := [] } = .next { blk := b, pending := [] }

/-- Every command of the table, from every state, answers a next state and leaves the queue to the step. -/
def Obligations.EveryCommandAnswersNext : Prop :=
  ∀ (i : Instr) (s : State), ∃ t, exec i s = .next t ∧ t.pending = s.pending

/-! ### Reset and the clock (R17, R50, R492, R499) -/

/-- What the registers of BAR0 read right after reset, for the reset values that R50 gives: IDENTITY, DEV_STATUS with
SELFTEST_BUSY alone, CUR_EPOCH, OPEN_EPOCH, DORMANT_CAUSE, and of every ring RING_CTRL with IDLE alone; an access of 4 bytes reads
half of what one of 8 bytes reads. The part is the model's choice (log 2). -/
def Obligations.ResetRegistersRead : Prop :=
  State.reset.pending = [] ∧ State.reset.blk.Cleared ∧ State.reset.blk.sys.phase = .reset
  ∧ (∀ fn < 65, State.reset.blk.barRead fn 0x0000 8
      = 0x4E50 * 2 ^ 48 + 0x6400 * 2 ^ 32 + 1 * 2 ^ 24 + fn * 2 ^ 16 + 3 * 2 ^ 8)
  ∧ (∀ fn, State.reset.blk.barRead fn 0x0008 8 = 2 ^ 62)
  ∧ (∀ fn, State.reset.blk.barRead fn 0x0010 8 = 0)
  ∧ (∀ fn, State.reset.blk.barRead fn 0x0018 8 = 1)
  ∧ (∀ fn, State.reset.blk.barRead fn 0x0020 8 = 0)
  ∧ (∀ fn, ∀ n < 8, State.reset.blk.barRead fn (0x100 + 0x40 * n) 8 = 2 ^ 62)
  ∧ (∀ fn offset, offset % 8 = 0 →
    State.reset.blk.barRead fn offset 4 = State.reset.blk.barRead fn offset 8 % 2 ^ 32
    ∧ State.reset.blk.barRead fn (offset + 4) 4 = State.reset.blk.barRead fn offset 8 / 2 ^ 32 % 2 ^ 32)

/-- The state after reset is safe. -/
def Obligations.ResetIsSafe : Prop := State.reset.Safe

/-- From every safe state, whether a run reaches it or not, a step leads to a safe state: the frame counter stays within the
epoch, or at its end where COMMIT is due, and the commands that wait stay well formed. -/
def Obligations.EveryStepKeepsSafe : Prop :=
  ∀ s t : State, s.Safe → step s = .next t → t.Safe

/-- Only the epoch boundary, a start from cold and the adoption of the partner's numbers change CUR_EPOCH; the frame counter
changes besides at a frame tick and at the end of a warm start; nothing ever changes the part. -/
def Obligations.OnlyTheClockMovesTheClock : Prop :=
  ∀ (i : Instr) (s t : State), exec i s = .next t →
    (movesEpoch i = false → t.blk.clk.epoch = s.blk.clk.epoch)
    ∧ (movesFrame i = false → t.blk.clk.fc = s.blk.clk.fc)
    ∧ t.blk.sys.part = s.blk.sys.part ∧ t.blk.sys.rev = s.blk.sys.rev

/-- EPOCH_COMMIT begins the next epoch: in service at the start of its first frame, in Dormant by itself; in service before that
frame it does nothing, and without power or in self-test neither. -/
def Obligations.CommitBeginsTheNextEpoch : Prop :=
  (∀ s : State, s.blk.sys.phase = .service → s.blk.clk.fc = 8 * (s.blk.clk.epoch + 1) →
    ∃ t, exec .epochCommit s = .next t ∧ t.pending = s.pending
      ∧ t.blk.clk.epoch = s.blk.clk.epoch + 1 ∧ t.blk.clk.fc = s.blk.clk.fc)
  ∧ (∀ s : State, s.blk.sys.phase = .dormant ∨ s.blk.sys.phase = .warmStart →
    ∃ t, exec .epochCommit s = .next t ∧ t.pending = s.pending
      ∧ t.blk.clk.epoch = s.blk.clk.epoch + 1 ∧ t.blk.clk.fc = 8 * (s.blk.clk.epoch + 1))
  ∧ (∀ s : State, s.blk.sys.phase = .service → s.blk.clk.fc ≠ 8 * (s.blk.clk.epoch + 1) → exec .epochCommit s = .next s)
  ∧ (∀ s : State, s.blk.sys.phase = .unpowered ∨ s.blk.sys.phase = .reset ∨ s.blk.sys.phase = .selfTest →
    exec .epochCommit s = .next s)

/-- The straps are sampled at the rising edge of RESET_N, and at the return of a supply, which acts as that edge; no other
command, and no release at another time, changes what was sampled. -/
def Obligations.StrapsAreSampledAtRelease : Prop :=
  (∀ (x : Straps) (s : State), s.blk.sys.phase = .reset → s.blk.sys.railLow = false →
    ∃ t, exec (.resetRelease x) s = .next t ∧ t.blk.sys.straps = x)
  ∧ (∀ (x : Straps) (s : State), s.blk.sys.phase = .reset → s.blk.sys.railLow = true →
    ∃ t, exec (.undervoltageRelease x) s = .next t ∧ t.blk.sys.straps = x)
  ∧ (∀ (i : Instr) (s t : State), exec i s = .next t → releases i = false ∨ s.blk.sys.phase ≠ .reset →
    t.blk.sys.straps = s.blk.sys.straps)

/-! ### The phases of the head-end's life (R491, R493, R496, R500, R501, R503) -/

/-- Only a cold start's commands, a warm start's end, the loss of a reference, the epoch boundary and SELFTEST_RUN change where
the head-end is in its life. -/
def Obligations.OnlyStartUpMovesThePhase : Prop :=
  ∀ (i : Instr) (s t : State), movesPhase i = false → exec i s = .next t → t.blk.sys.phase = s.blk.sys.phase

/-- Held in reset, in self-test, without power or in Dormant, the units that carry service do nothing. -/
def Obligations.ServiceCommandsNeedService : Prop :=
  ∀ (i : Instr) (s : State), serviceRow i = true → s.blk.sys.phase ≠ .service → exec i s = .next s

/-- While self-test runs, and without power, no opcode command is taken (R496). -/
def Obligations.OpcodesWaitForSelfTest : Prop :=
  ∀ (i : Instr) (s : State), isOpcode i = true → s.blk.sys.phase ≠ .service → s.blk.sys.phase ≠ .dormant →
    exec i s = .next s

/-! ### Opcode commands: acceptance, application, reply (R54 to R59, R64, R75, R502) -/

/-- The index of opcodes: code, the Tenants column, and whether it is marked D. -/
def opcodeIndex : List (Nat × Perm × Bool) :=
  [(0x0001, .a, true), (0x0002, .a, false), (0x0003, .a, false), (0x0004, .o, false), (0x0005, .t, false), (0x0100, .o, false),
   (0x0101, .o, false), (0x0102, .o, false), (0x0103, .o, false), (0x0200, .o, false), (0x0201, .o, false), (0x0300, .o, false),
   (0x0301, .o, false), (0x0302, .o, false), (0x0303, .o, false), (0x0304, .o, false), (0x0400, .t, false), (0x0401, .t, false),
   (0x0402, .o, false), (0x0403, .o, false), (0x0404, .o, false), (0x0500, .t, false), (0x0501, .t, false), (0x0502, .t, false),
   (0x0503, .t, false), (0x0504, .o, false), (0x0505, .o, false), (0x0506, .t, false), (0x0507, .t, false), (0x0600, .o, false)]
  ++ [(0x0601, .o, false), (0x0602, .t, false), (0x0603, .t, false), (0x0604, .o, false), (0x0605, .o, false), (0x0606, .o, false),
   (0x0700, .o, false), (0x0701, .o, false), (0x0702, .o, false), (0x0703, .o, false), (0x0704, .o, false), (0x0705, .o, false),
   (0x0706, .o, false), (0x0707, .t, false), (0x0800, .t, false), (0x0801, .t, false), (0x0802, .t, false), (0x0803, .t, false),
   (0x0804, .t, false), (0x0805, .t, false), (0x0806, .t, false), (0x0900, .o, false), (0x0901, .o, false), (0x0902, .o, false),
   (0x0903, .a, false), (0x0904, .o, false), (0x0905, .o, false), (0x0A00, .o, false), (0x0A01, .o, false), (0x0A02, .o, false)]
  ++ [(0x0A03, .o, false), (0x0A04, .o, false), (0x0B00, .o, false), (0x0B01, .o, false), (0x0B02, .o, false), (0x0B03, .o, false),
   (0x0B04, .t, false), (0x0C00, .t, false), (0x0C01, .t, false), (0x0C02, .t, false), (0x0C03, .t, true), (0x0C04, .o, false),
   (0x0C05, .o, false), (0x0C06, .o, false), (0x0C07, .o, false), (0x0D00, .a, true), (0x0D01, .o, true), (0x0D02, .o, true)]

/-- The opcodes marked S. -/
def snapshotOpcodes : List Nat := [0x0401, 0x0601, 0x0603, 0x0B01]

/-- The head-end defines the opcodes of the index and no others, each with its Tenants column and its marks. -/
def Obligations.OpcodeIndexAsPublished : Prop :=
  (∀ x ∈ opcodeIndex, ∀ (p : Part) (c : Cmd), ∃ i r, instrOf x.1 c = some i ∧ opRow p i = some r ∧ r.cmd = c
    ∧ r.op.code = x.1 ∧ r.op.perm = x.2.1 ∧ r.op.dormant = x.2.2 ∧ r.op.snap = snapshotOpcodes.contains x.1)
  ∧ (∀ (code : Nat) (c : Cmd), code ∉ opcodeIndex.map Prod.fst → instrOf code c = none)

/-- An opcode command of any row that passes acceptance, and whose application succeeds, completes: its effect is applied whole,
and its reply carries OK, the tag, the position and the epoch in force. Every opcode row of the table is named by `opRow`. -/
def Obligations.OpcodeCommandCompletes : Prop :=
  ∀ (i : Instr) (r : OpRow) (s : State), opRow s.blk.sys.part i = some r → s.Takes r.op r.cmd →
    movesPhase i = false → (r.apply r.cmd s.blk).2.st = .ok →
    exec i s = .next { s with blk := s.blk.within (s.answered r.op r.cmd (r.apply r.cmd s.blk).1 (r.apply r.cmd s.blk).2).blk }

/-- A command that fails a check of acceptance has no effect but its reply, its tenant's command counters and the record that
its status names; nor has one whose application fails. After FAULT the finding of the parity error stays, with its counts and
records, and nothing else. -/
def Obligations.FailedOpcodeChangesNothing : Prop :=
  ∀ (i : Instr) (r : OpRow) (s : State), opRow s.blk.sys.part i = some r →
    (∀ st d, s.blk.sys.phase = .service ∨ s.blk.sys.phase = .dormant → s.blk.acceptCheck r.op r.cmd = some (st, d) →
      exec i s = .next { s with blk := s.blk.answer r.op.code r.cmd (r.op.rejection r.cmd st d) s.blk.clk.epoch 0 s.blk.doneTime })
    ∧ (s.Takes r.op r.cmd →
      ((r.apply r.cmd s.blk).2.st ≠ .ok → (r.apply r.cmd s.blk).2.st ≠ .fault →
        exec i s = .next (s.answered r.op r.cmd s.blk (r.apply r.cmd s.blk).2))
      ∧ ((r.apply r.cmd s.blk).2.st = .fault → ∃ t, exec i s = .next t
        ∧ t.blk.trees = s.blk.trees ∧ t.blk.terms = s.blk.terms ∧ t.blk.gey = s.blk.gey ∧ t.blk.sw = s.blk.sw
        ∧ t.blk.tim = s.blk.tim ∧ t.blk.cls = s.blk.cls ∧ t.blk.cip = s.blk.cip ∧ t.blk.tum = s.blk.tum
        ∧ t.blk.dir.ctxs = s.blk.dir.ctxs ∧ t.blk.dir.flows = s.blk.dir.flows ∧ t.blk.host.owners = s.blk.host.owners
        ∧ t.blk.host.sets = s.blk.host.sets))

/-- What a reply carries (R46, R56, R59): the tag, the ring position and the status of its command, in the order of completion. -/
def Obligations.ReplyNamesItsCommand : Prop :=
  ∀ (b : Blk) (code : Nat) (c : Cmd) (r : Res) (n m k : Nat),
    (c.partner = false → c.mute = false → c.ring < 8 →
      ∃ x : Reply, (b.answer code c r n m k).host.replies = b.host.replies ++ [x]
        ∧ x.fn = c.tenant ∧ x.ring = c.ring ∧ x.pos = c.pos ∧ x.tag = c.tag ∧ x.opcode = code ∧ x.status = r.st.code
        ∧ x.applied = n ∧ x.changeSet = m ∧ x.inl = r.inl.take 32)
    ∧ (c.partner = true ∨ c.mute = true → (b.answer code c r n m k).host = b.host)
    ∧ (c.partner = false → c.mute = false → c.ring = 8 →
      (b.answer code c r n m k).host.replies = b.host.replies ∧ (b.answer code c r n m k).host.sb.reply.isSome = true)
    ∧ (r.st ≠ .ok → r.st ≠ .denied → (b.answer code c r n m k).tele
        = (b.countReply c.tenant r.st).tele)

/-- The checks of acceptance in the order of R58: DORMANT, BAD_PARAM, ABSENT, DENIED; none fails for tenant 0 on a well-formed
command to fitted units in service. -/
def Obligations.AcceptanceChecksInOrder : Prop :=
  ∀ (b : Blk) (o : Op) (c : Cmd),
    (b.sys.phase = .dormant → o.dormant = false → b.acceptCheck o c = some (.dormant, 0))
    ∧ (b.sys.phase = .service ∨ o.dormant = true →
      (∀ k, c.badHeader = none → o.firstBad b.openEpoch c = some k → b.acceptCheck o c = some (.badParam, k))
      ∧ (∀ k, c.badHeader = some k → o.firstBad b.openEpoch c = none → b.acceptCheck o c = some (.badParam, k))
      ∧ (∀ u, c.badHeader = none → o.firstBad b.openEpoch c = none → o.absentUnit b.sys.part c = some u →
        b.acceptCheck o c = some (.absent, u))
      ∧ (c.badHeader = none → o.firstBad b.openEpoch c = none → o.absentUnit b.sys.part c = none →
        (o.perm = .o → c.tenant ≠ 0 → b.acceptCheck o c = some (.denied, 1))
        ∧ (o.perm ≠ .o ∨ c.tenant = 0 → b.acceptCheck o c = none)))

/-! ### Layouts (R51, R56, R81, R473) -/

/-- A native command slot, written from a command and read back, is that command, with every header field and every payload at
every value the layout admits. -/
def Obligations.CommandSlotRoundTrips : Prop :=
  ∀ (code : Nat) (c : Cmd), code < 2 ^ 16 → c.tag < 2 ^ 16 → c.unit < 2 ^ 16 → c.epoch < 2 ^ 64 → c.extAddr < 2 ^ 64 →
    c.extLen < 2 ^ 24 → c.inlineLen < 2 ^ 8 → c.inl < 2 ^ (8 * min c.inlineLen 96) → c.ext.length ≤ c.extLen →
    c.legacy = false → c.mute = false → c.badHeader = none →
    parseNative c.tenant c.ring c.pos (c.slot code) c.ext c.partner = (code, c)

/-- A reply slot: 64 bytes, each field of the header where R56 puts it and every reserved bit 0, then the inline result. -/
def Obligations.ReplySlotLayout : Prop :=
  ∀ (r : Reply) (phase : Bool), r.opcode < 2 ^ 16 → r.tag < 2 ^ 16 → r.status < 2 ^ 8 → r.detail < 2 ^ 8 → r.applied < 2 ^ 64 →
    r.ext.length < 2 ^ 24 → r.changeSet < 2 ^ 32 → r.pos < 2 ^ 32 → r.inl.length ≤ 32 →
    (r.slot phase).length = 64
    ∧ bits (leWord (r.slot phase) 0) 63 48 = r.opcode ∧ bits (leWord (r.slot phase) 0) 47 32 = r.tag
    ∧ bits (leWord (r.slot phase) 0) 31 24 = r.status ∧ bits (leWord (r.slot phase) 0) 23 16 = r.detail
    ∧ bit (leWord (r.slot phase) 0) 15 = phase ∧ bit (leWord (r.slot phase) 0) 14 = r.trunc
    ∧ bits (leWord (r.slot phase) 0) 13 8 = 0 ∧ bits (leWord (r.slot phase) 0) 7 0 = r.inl.length
    ∧ leWord (r.slot phase) 1 = r.applied
    ∧ bits (leWord (r.slot phase) 2) 63 24 = 0 ∧ bits (leWord (r.slot phase) 2) 23 0 = r.ext.length
    ∧ bits (leWord (r.slot phase) 3) 63 32 = r.changeSet ∧ bits (leWord (r.slot phase) 3) 31 0 = r.pos
    ∧ (r.slot phase).drop 32 = r.inl ++ List.replicate (32 - r.inl.length) 0

/-- A Vent record: 64 bytes, each field where R473 puts it and the reserved bits 0. -/
def Obligations.VentRecordLayout : Prop :=
  ∀ r : Rec, r.type < 2 ^ 16 → r.tenant < 2 ^ 7 → r.island < 2 ^ 7 → r.rep < 2 ^ 18 → r.seq < 2 ^ 64 → r.first < 2 ^ 64 →
    r.last < 2 ^ 64 → r.object < 2 ^ 64 → r.detail < 2 ^ 64 → r.w6 < 2 ^ 64 → r.w7 < 2 ^ 64 →
    (wordsLe r.words).length = 64
    ∧ bits (leWord (wordsLe r.words) 0) 63 48 = r.type ∧ bits (leWord (wordsLe r.words) 0) 47 41 = r.tenant
    ∧ bits (leWord (wordsLe r.words) 0) 40 34 = r.island ∧ bits (leWord (wordsLe r.words) 0) 33 16 = r.rep
    ∧ bits (leWord (wordsLe r.words) 0) 15 0 = 0
    ∧ leWord (wordsLe r.words) 1 = r.seq ∧ leWord (wordsLe r.words) 2 = r.first ∧ leWord (wordsLe r.words) 3 = r.last
    ∧ leWord (wordsLe r.words) 4 = r.object ∧ leWord (wordsLe r.words) 5 = r.detail
    ∧ leWord (wordsLe r.words) 6 = r.w6 ∧ leWord (wordsLe r.words) 7 = r.w7

/-- STATUS4 of a BVH-2100 reply, for every native status. -/
def Obligations.Status4Mapping : Prop :=
  status4 Status.ok.code = 0x0 ∧ status4 Status.absent.code = 0x3 ∧ status4 Status.unknownOp.code = 0x3
  ∧ status4 Status.dormant.code = 0x4
  ∧ ∀ st : Status, st ≠ .ok → st ≠ .absent → st ≠ .unknownOp → st ≠ .dormant → status4 st.code = 0x1

/-! ### Versions, counters, the Vent and fault sources (R24, R26, R29, R467, R471, R472, R477) -/

/-- A write of versioned state at epoch n makes a version that is current for n and later, and leaves every earlier epoch's
version as it was; a version is retired four epochs after the last it was current for, and the current one never. -/
def Obligations.VersionsKeepEarlierEpochs : Prop :=
  ∀ (α : Type) (d : α) (v : Vers α) (f : α → α) (e : Nat) (x : α) (n : Nat), e ≤ n →
    (∀ m, n ≤ m → Vers.at d (Vers.write d ((e, x) :: v) n f) m = f x)
    ∧ (∀ m, e < n → m < n → Vers.at d (Vers.write d ((e, x) :: v) n f) m = Vers.at d ((e, x) :: v) m)
    ∧ (∀ m, Vers.cur d (Vers.retire m ((e, x) :: v)) = x)
    ∧ (∀ m k y, v = [(k, y)] → 1 ≤ e →
      ((k, y) ∈ Vers.retire m ((e, x) :: v) ↔ m < (e - 1) + 4 ∨ (k, y) = (e, x)))

/-- A counter that reaches all ones stays there and sets its sticky flag, with one COUNTER_SAT record at that moment and none
later; before that it counts, and no other counter moves. -/
def Obligations.CountersSaturate : Prop :=
  ∀ (b : Blk) (family counter inst n : Nat), 0 < n → Tab.wf {} b.tele.ctrs = true →
    let k := ctrKey family counter inst
    let c := Tab.get {} b.tele.ctrs k
    (c.val + n < 2 ^ 64 - 1 →
      Tab.get {} (b.countN family counter inst n).tele.ctrs k = { c with val := c.val + n, total := c.total + n }
      ∧ (b.countN family counter inst n).tele.vent = b.tele.vent
      ∧ ∀ j, j ≠ k → Tab.get {} (b.countN family counter inst n).tele.ctrs j = Tab.get {} b.tele.ctrs j)
    ∧ (2 ^ 64 - 1 ≤ c.val + n → c.sat = true →
      Tab.get {} (b.countN family counter inst n).tele.ctrs k
        = { c with val := 2 ^ 64 - 1, sat := true, total := c.total + n }
      ∧ (b.countN family counter inst n).tele.vent = b.tele.vent)
    ∧ (2 ^ 64 - 1 ≤ c.val + n → c.sat = false →
      let t := (b.tele.bump k n).1
      Tab.get {} t.ctrs k = { c with val := 2 ^ 64 - 1, sat := true, total := c.total + n }
      ∧ b.countN family counter inst n
        = ({ b with tele := (t.bump (ctrKey 0xC0 2 0) 1).1 }).vent { type := 0x0C01, object := k })

/-- A record equal to the newest one held merges with it: no new record, no SEQ; any other record is appended with the next SEQ
while the ring has room and no loss is pending; in a full ring it is dropped, and the loss of its island noted. -/
def Obligations.VentMergesAppendsOrLoses : Prop :=
  ∀ (b : Blk) (n : RecIn),
    (∀ l r, b.tele.vent = l ++ [r] → r.same n = true →
      (b.ventStore n).tele.vent = l ++ [r.merge n b.clk.epoch] ∧ (b.ventStore n).tele.seq = b.tele.seq)
    ∧ ((∀ r, b.tele.vent.getLast? = some r → r.same n = false) → b.tele.losses = [] →
      (b.tele.vent.length < b.tele.capacity →
        (b.ventStore n).tele.vent = b.tele.vent ++ [n.toRec b.tele.seq b.clk.epoch]
        ∧ (b.ventStore n).tele.seq = b.tele.seq + 1)
      ∧ (b.tele.capacity ≤ b.tele.vent.length →
        (b.ventStore n).tele.vent = b.tele.vent ∧ (b.ventStore n).tele.seq = b.tele.seq
        ∧ Tab.get {} (b.ventStore n).tele.losses n.island = { count := 1, first := b.clk.epoch, last := b.clk.epoch }))

/-- An event of a fault source is permanent, and dooms its unit, exactly when N events of that source, with itself, are later
than 1,000 × W epochs ago; the last 16 events are kept. -/
def Obligations.FaultWindowJudges : Prop :=
  ∀ (b : Blk) (kind index : Nat), Tab.wf {} b.tele.sources = true →
    let k := sourceKey kind index
    let old := Tab.get {} b.tele.sources k
    let w := b.tele.window kind
    let now := Tab.get {} (b.faultEvent kind index).tele.sources k
    now.events = (b.clk.epoch :: old.events).take 16
    ∧ (now.doomed = true ↔ old.doomed = true
      ∨ w.2 ≤ (((b.clk.epoch :: old.events).take 16).filter (fun x => b.clk.epoch < x + 1000 * w.1)).length)
    ∧ now.role = old.role ∧ (b.faultEvent kind index).pair.faulted = true
    ∧ ∀ j, j ≠ k → Tab.get {} (b.faultEvent kind index).tele.sources j = Tab.get {} b.tele.sources j

/-! ### Resets, self-test, references, balls (15, 16) -/

/-- A cold start leaves nothing but the part, its references and what the test port drives: powered up, powered down, RESET_N low
for 2 µs, or a rail more than 7 % low. A shorter low level of RESET_N, and VDD_AON, are not watched. -/
def Obligations.ColdStartsClearTheBlock : Prop :=
  (∀ s : State, ∃ t, exec .powerOn s = .next t ∧ t.pending = s.pending ∧ t.blk.Cleared ∧ t.blk.sys.phase = .reset
    ∧ t.blk.sys.startKind = 0 ∧ t.blk.sys.railLow = false ∧ t.blk.sys.txOn = 0 ∧ t.blk.sys.thermTrip = false)
  ∧ (∀ s : State, ∃ t, exec .powerDown s = .next t ∧ t.pending = s.pending ∧ t.blk.Cleared ∧ t.blk.sys.phase = .unpowered
    ∧ t.blk.sys.txOn = 0)
  ∧ (∀ (n : Nat) (s : State), 2000 ≤ n → s.blk.sys.phase ≠ .unpowered →
    ∃ t, exec (.pinReset n) s = .next t ∧ t.pending = s.pending ∧ t.blk.Cleared ∧ t.blk.sys.phase = .reset
      ∧ t.blk.sys.startKind = (if s.blk.sys.railLow then 0 else 1) ∧ t.blk.sys.railLow = s.blk.sys.railLow
      ∧ t.blk.sys.txOn = 0 ∧ t.blk.sys.thermTrip = false)
  ∧ (∀ (n : Nat) (s : State), n < 2000 → exec (.pinReset n) s = .next s)
  ∧ (∀ (rail : Rail) (s : State), rail ≠ .aon → s.blk.sys.phase ≠ .unpowered →
    ∃ t, exec (.railUndervoltage rail) s = .next t ∧ t.pending = s.pending ∧ t.blk.Cleared ∧ t.blk.sys.phase = .reset
      ∧ t.blk.sys.startKind = 0 ∧ t.blk.sys.railLow = true ∧ t.blk.sys.txOn = 0)
  ∧ (∀ s : State, exec (.railUndervoltage .aon) s = .next s)

/-- The rising edge of RESET_N, or the return of every rail, samples the straps and starts the tests; a test that passes is
struck off the list, with what it brings: test 0x04 lets PCIe train, test 0x13 draws a key-encryption key, test 0x01 writes the
COLD_START record. After the last the head-end is in service. A failed test 0x01 leaves it in reset, and a failed test of the
device, with no unit to retire, in Dormant. -/
def Obligations.SelfTestLeadsToService : Prop :=
  (∀ (x : Straps) (s : State), s.blk.sys.phase = .reset → s.blk.sys.railLow = false →
    exec (.resetRelease x) s = .next (s.put { s.blk with
      sys := { s.blk.sys with straps := x, phase := .selfTest, tests := coldTests s.blk.sys.part } }))
  ∧ (∀ (x : Straps) (s : State), s.blk.sys.phase = .reset → s.blk.sys.railLow = true →
    exec (.undervoltageRelease x) s = .next (s.put { s.blk with
      sys := { s.blk.sys with
        straps := x, phase := .selfTest, tests := coldTests s.blk.sys.part, railLow := false, startKind := 0 } }))
  ∧ (∀ (test : Nat) (s : State), s.blk.sys.phase = .selfTest → s.blk.testDue test = true → s.blk.testFails test [] = [] →
    s.blk.sys.tests.erase test ≠ [] →
    let sys := { s.blk.sys with tests := s.blk.sys.tests.erase test }
    (test ≠ 0x01 → test ≠ 0x04 → test ≠ 0x13 → exec (.selftestTestDone test []) s = .next (s.put { s.blk with sys := sys }))
    ∧ (test = 0x04 → exec (.selftestTestDone test []) s = .next (s.put { s.blk with sys := { sys with pcieUp := true } }))
    ∧ (test = 0x13 → exec (.selftestTestDone test []) s = .next (s.put { s.blk with
        sys := sys, cip := { s.blk.cip with kek := .drawn s.blk.cip.keks, keks := s.blk.cip.keks + 1 } }))
    ∧ (test = 0x01 → exec (.selftestTestDone test []) s = .next (s.put ({ s.blk with sys := sys }.vent
        { type := 0x0D00, object := s.blk.sys.startKind,
          detail := b2n s.blk.sys.straps.compat + 2 * s.blk.sys.straps.smbAddr.toNat + 8 * b2n s.blk.sys.straps.pairWave
            + 16 * b2n s.blk.sys.straps.pairPref,
          w6 := Part.code s.blk.sys.part * 65536 + s.blk.sys.rev }))))
  ∧ (∀ s : State, s.blk.sys.phase = .selfTest → s.blk.sys.tests = [0x12] → s.blk.sys.refTree = true → s.blk.host.sb.held = none →
    exec (.selftestTestDone 0x12 []) s = .next (s.put { s.blk with sys := { s.blk.sys with phase := .service, tests := [] } }))
  ∧ (∀ s : State, s.blk.sys.phase = .selfTest → s.blk.testDue 0x01 = true →
    ∃ t, exec (.selftestTestDone 0x01 [101]) s = .next t ∧ t.pending = s.pending ∧ t.blk.Cleared ∧ t.blk.sys.phase = .reset)
  ∧ (∀ (test : Nat) (s : State), test = 0x02 ∨ test = 0x12 → s.blk.sys.phase = .selfTest → s.blk.testDue test = true →
    ∃ t, exec (.selftestTestDone test [0]) s = .next t ∧ t.pending = s.pending ∧ t.blk.sys.phase = .dormant
      ∧ t.blk.sys.cause = causeWord 1 test 0 0 ∧ t.blk.sys.stFails = min 65535 (s.blk.sys.stFails + 1))

/-- The loss of the tree reference in service puts the head-end in Dormant at once, with the cause that R523 gives, no command
staged and no light sent; that of the uplink reference dooms the uplink port islands to retire at the next boundary; that of the
PCIe reference takes PCIe down. Each return undoes only what stands for its reference. -/
def Obligations.ReferenceLossesAreHandled : Prop :=
  (∀ s : State, s.blk.sys.phase = .service →
    ∃ t, exec (.refclkLoss .tree) s = .next t ∧ t.pending = s.pending ∧ t.blk.sys.refTree = false
      ∧ t.blk.sys.phase = .dormant ∧ t.blk.sys.cause = causeWord 2 0 101 1 ∧ t.blk.sys.txOn = 0
      ∧ t.blk.sys.dormantEpoch = s.blk.clk.epoch ∧ t.blk.clk.healthPaced = true
      ∧ (s.blk.host.sb.held = none → t.blk.host.sets = [] ∧ t.blk.host.deferred = []))
  ∧ (∀ s : State, s.blk.sys.phase = .reset ∨ s.blk.sys.phase = .selfTest →
    exec (.refclkLoss .tree) s = .next (s.put { s.blk with sys := { s.blk.sys with refTree := false } }))
  ∧ (∀ s : State, s.blk.sys.phase = .dormant →
    exec (.refclkLoss .tree) s = .next (s.put { s.blk with
      sys := { s.blk.sys with refTree := false }, clk := { s.blk.clk with healthPaced := true } }))
  ∧ (∀ s : State, s.blk.sys.phase = .service →
    ∃ t, exec (.refclkLoss .uplink) s = .next t ∧ t.pending = s.pending
      ∧ t.blk = { s.blk with sys := { s.blk.sys with refUplink := false }, tele := { s.blk.tele with sources := t.blk.tele.sources } }
      ∧ (∀ i, 71 ≤ i → i ≤ 76 → Tab.wf {} s.blk.tele.sources = true → s.blk.tele.islandRetired i = false →
        (Tab.get {} t.blk.tele.sources (sourceKey 0x01 i)).doomed = true))
  ∧ (∀ s : State, exec (.refclkLoss .pcie) s = .next (s.put { s.blk with sys := { s.blk.sys with refPcie := false } }))
  ∧ (∀ s : State, exec (.refclkReturn .tree) s = .next (s.put { s.blk with sys := { s.blk.sys with refTree := true } }))
  ∧ (∀ s : State, exec (.refclkReturn .uplink) s = .next (s.put { s.blk with sys := { s.blk.sys with refUplink := true } }))
  ∧ (∀ s : State, exec (.refclkReturn .pcie) s = .next (s.put { s.blk with sys := { s.blk.sys with refPcie := true } }))

/-- Temperatures, the thermal trip and the test port change their own registers and nothing else: the refresh of a stack doubled
and back, THERM_TRIP with every OPT_TXDIS released, the boundary register driving the balls and not. -/
def Obligations.ThermalAndTestPortEvents : Prop :=
  (∀ (k : Nat) (s : State), k < 2 → s.blk.sys.phase = .service →
    ∃ t, exec (.hbmTempHigh k) s = .next t ∧ t = s.put { s.blk with sys := { s.blk.sys with refresh2x := t.blk.sys.refresh2x } }
      ∧ ∀ i < 2, t.blk.sys.refresh2x.getLsbD i = (decide (i = k) || s.blk.sys.refresh2x.getLsbD i))
  ∧ (∀ (k : Nat) (s : State), k < 2 → s.blk.sys.phase = .service →
    ∃ t, exec (.hbmTempNormal k) s = .next t ∧ t = s.put { s.blk with sys := { s.blk.sys with refresh2x := t.blk.sys.refresh2x } }
      ∧ ∀ i < 2, t.blk.sys.refresh2x.getLsbD i = (!decide (i = k) && s.blk.sys.refresh2x.getLsbD i))
  ∧ (∀ s : State, s.blk.sys.phase ≠ .unpowered →
    exec .thermTrip s = .next (s.put { s.blk with sys := { s.blk.sys with thermTrip := true, txOn := 0 } }))
  ∧ (∀ (x : Boundary) (s : State), s.blk.sys.phase ≠ .unpowered →
    exec (.extest x) s = .next (s.put { s.blk with sys := { s.blk.sys with extest := some x } }))
  ∧ (∀ s : State, exec .testPortReset s = .next (s.put { s.blk with sys := { s.blk.sys with extest := none } }))

/-- A warm start that passes ends in service at the next epoch's first frame, with the staged firmware loaded, the Vent and the
ring registers kept and one DORMANT_LEAVE record; one that fails ends in Dormant with the new cause. The ends of a copy, of a
retest and of the writing of a firmware image. -/
def Obligations.ReturnsToService : Prop :=
  (∀ (us : Nat) (s : State), s.blk.sys.phase = .warmStart → s.blk.sys.refTree = true → s.blk.sys.refUplink = true →
    s.blk.host.sb.held = none →
    ∃ t, exec (.warmStartComplete [] us) s = .next t ∧ t.pending = s.pending ∧ t.blk.sys.phase = .service
      ∧ t.blk.clk.epoch = s.blk.clk.epoch ∧ t.blk.clk.fc = 8 * (s.blk.clk.epoch + 1) ∧ t.blk.sys.startKind = 2
      ∧ t.blk.sys.cause = 0 ∧ t.blk.sys.stFails = 0 ∧ t.blk.sys.fwReady = s.blk.sys.fwStaged.isSome
      ∧ t.blk.sys.fwVersion = s.blk.sys.fwStaged.getD 0
      ∧ t.blk.host.rings = s.blk.host.rings ∧ t.blk.sw.rings = s.blk.sw.rings ∧ t.blk.tele.ventExt = s.blk.tele.ventExt
      ∧ t.blk.gey.cfg = [(0, {})] ∧ t.blk.sw.cfg = [(0, {})] ∧ t.blk.dir.ctxs = [])
  ∧ (∀ (us : Nat) (s : State), s.blk.sys.phase = .warmStart → s.blk.host.sb.held = none →
    ∃ t, exec (.warmStartComplete [(0x02, 0)] us) s = .next t ∧ t.pending = s.pending ∧ t.blk.sys.phase = .dormant
      ∧ t.blk.clk.epoch = s.blk.clk.epoch ∧ t.blk.clk.fc = s.blk.clk.fc)
  ∧ (∀ (p : Nat) (s : State), s.blk.sys.phase.paced = true → s.blk.tele.role 0x06 p = .copying →
    exec (.hbmCopyComplete p) s = .next (s.put
      ((s.blk.updSource 0x06 p (fun x => { x with role := .retired, slot := none })).retireRecords 0x06 p
        ((spareGroup 0x06 p).find? (fun i => i != p && (Tab.get {} s.blk.tele.sources (sourceKey 0x06 i)).slot
          == some ((Tab.get {} s.blk.tele.sources (sourceKey 0x06 p)).slot.getD p))))))
  ∧ (∀ (kind index : Nat) (s : State), s.blk.sys.phase.paced = true → s.blk.tele.role kind index = .testing →
    s.blk.retestFault kind index none = none →
    exec (.retestComplete kind index none) s = .next (s.put
      ((s.blk.setRole kind index
        (if !(spareGroup kind index).isEmpty then .spare else if kind = 8 then .serving else .returning)).vent
        { type := 0x0C05, object := sourceKey kind index, detail := b2n (spareGroup kind index).isEmpty })))
  ∧ (∀ (kind index test : Nat) (s : State), s.blk.sys.phase.paced = true → s.blk.tele.role kind index = .testing →
    test ∈ retestTests kind index →
    exec (.retestComplete kind index (some test)) s = .next (s.put
      ((s.blk.setRole kind index .retired).vent { type := 0x0C06, object := sourceKey kind index, detail := test })))
  ∧ (∀ (v : Nat) (s : State), s.blk.sys.phase = .service → s.blk.sys.fwWriting = some v →
    exec .fwImageWritten s = .next (s.put { s.blk with
      sys := { s.blk.sys with fwVersion := v, fwReady := true, fwWriting := none } }))

/-! ### PCIe, BAR0, rings, replies, the sideband and the tokens (01, 02) -/

/-- PERST#, a hot reset and a function-level reset act on the PCIe side alone: the rings, the MSI-X state and the receive ring of
the functions concerned return to their reset values, the replies owed to them are not written, commands already accepted stay
to be applied, and no tree, queue, table or key changes. A configuration request is answered with Retry Status until 60 ms after
reset and after PERST#. -/
def Obligations.PcieResetsActOnPcieAlone : Prop :=
  (∀ s : State, s.blk.sys.refPcie = true → exec .perst s = .next (s.put (s.blk.pcieReset (fun _ => true))))
  ∧ (∀ s : State, s.blk.pcie = true → exec .pcieHotReset s = .next (s.put (s.blk.pcieReset (fun _ => true))))
  ∧ (∀ (fn : Nat) (s : State), s.blk.pcie = true → exec (.pcieFlr fn) s = .next (s.put (s.blk.pcieReset (fun f => f == fn))))
  ∧ (∀ (fn a b : Nat) (s : State),
    exec (.pcieConfigRequest fn a b) s = .next (s.put (s.blk.emit (.configAnswer fn (decide (a < 60000 ∨ b < 60000))))))
  ∧ (∀ (b : Blk) (hit : Nat → Bool),
    let r := b.pcieReset hit
    (∀ k, Tab.get {} r.host.rings k = if hit (k / 8) then {} else Tab.get {} b.host.rings k)
    ∧ (∀ k, Tab.get {} r.msix k = if hit (k / 16) then {} else Tab.get {} b.msix k)
    ∧ (Tab.wf {} b.sw.rings = true → ∀ k, Tab.get {} r.sw.rings k
      = if hit k then { weight := (Tab.get {} b.sw.rings k).weight } else Tab.get {} b.sw.rings k)
    ∧ r.host.replies = b.host.replies.filter (fun x => !hit x.fn)
    ∧ r.host.sets.map (fun x => (x.1, x.2.length)) = b.host.sets.map (fun x => (x.1, x.2.length))
    ∧ r = { b with
        msix := r.msix, dir := { b.dir with due := r.dir.due }, sw := { b.sw with rings := r.sw.rings },
        host := { b.host with rings := r.host.rings, replies := r.host.replies, sets := r.host.sets, deferred := r.host.deferred } })

/-- RING_CTRL: ENABLE takes effect only with SIZE_LOG2 in 6 to 16, as this same write leaves it, and sets the four indices to
zero; SIZE_LOG2 is written only while the ring is disabled and idle; a 1 in OVERRUN clears it; clearing ENABLE stops the ring
and keeps the rest. -/
def Obligations.RingControlWrites : Prop :=
  ∀ (fn ring : Nat) (v : W64) (s : State), s.blk.pcie = true → fn ≤ 64 → ring < 8 →
    let k := fn * 8 + ring
    let r := Tab.get {} s.blk.host.rings k
    let now := fun (r' : Ring) => (.next (s.put { s.blk with
      host := { s.blk.host with rings := Tab.set {} s.blk.host.rings k r' } }) : Host.Outcome State Fault Refusal)
    let ov := r.overrun && !bit v.toNat 61
    (r.enable = false → r.owed = 0 → bit v.toNat 63 = true → 6 ≤ bits v.toNat 4 0 → bits v.toNat 4 0 ≤ 16 →
      exec (.ringEnable fn ring v) s = now { r with
        enable := true, halted := false, overrun := ov, size := bits v.toNat 4 0, cmdProd := 0, cmdCons := 0, replyProd := 0,
        replyCons := 0 })
    ∧ (r.enable = false → r.owed = 0 → bit v.toNat 63 = true → bits v.toNat 4 0 < 6 ∨ 16 < bits v.toNat 4 0 →
      exec (.ringEnable fn ring v) s = now { r with overrun := ov, size := bits v.toNat 4 0 })
    ∧ (r.enable = true → bit v.toNat 63 = false → exec (.ringDisable fn ring v) s = now { r with enable := false, overrun := ov })
    ∧ (r.enable = false → r.owed = 0 → bit v.toNat 63 = false →
      exec (.ringSizeSet fn ring v) s = now { r with overrun := ov, size := bits v.toNat 4 0 })
    ∧ (r.enable = true → bit v.toNat 63 = true → exec (.ringSizeSet fn ring v) s = now { r with overrun := ov })
    ∧ (r.enable = true → bit v.toNat 63 = true → bit v.toNat 61 = true →
      exec (.ringOverrunClear fn ring v) s = now { r with overrun := false })
    ∧ (r.enable = false → r.owed = 0 → bit v.toNat 63 = false → bit v.toNat 61 = true →
      exec (.ringOverrunClear fn ring v) s = now { r with overrun := false, size := bits v.toNat 4 0 })

/-- Doorbells and bases: CMD_PROD within 2^S of CMD_CONS is taken; beyond it the ring halts, with OVERRUN and one record.
REPLY_CONS is taken; CMD_BASE and REPLY_BASE only while the ring is disabled and idle. With PCIe down no write arrives, and a
write to an offset outside the rings is ignored. -/
def Obligations.DoorbellsAndBases : Prop :=
  (∀ (fn ring : Nat) (s : State), s.blk.pcie = true → fn ≤ 64 → ring < 8 →
    let k := fn * 8 + ring
    let r := Tab.get {} s.blk.host.rings k
    let now := fun (r' : Ring) => s.put { s.blk with host := { s.blk.host with rings := Tab.set {} s.blk.host.rings k r' } }
    (∀ prod : BitVec 32, (prod - r.cmdCons).toNat ≤ 2 ^ r.size →
      exec (.cmdDoorbell fn ring prod) s = .next (now { r with cmdProd := prod }))
    ∧ (∀ prod : BitVec 32, 2 ^ r.size < (prod - r.cmdCons).toNat → r.halted = false →
      exec (.cmdDoorbell fn ring prod) s = .next (s.put ((now { r with cmdProd := prod, halted := true, overrun := true }).blk.vent
        { type := 0x0002, tenant := fn, island := 100, object := k })))
    ∧ (∀ cons : BitVec 32, exec (.replyDoorbell fn ring cons) s = .next (now { r with replyCons := cons }))
    ∧ (∀ v, v < 2 ^ 64 →
      (r.enable = false → r.owed = 0 →
        exec (.registerWrite fn (0x108 + 64 * ring) v 8) s = .next (now { r with cmdBase := v })
        ∧ exec (.registerWrite fn (0x110 + 64 * ring) v 8) s = .next (now { r with replyBase := v }))
      ∧ (r.enable = true ∨ r.owed ≠ 0 →
        exec (.registerWrite fn (0x108 + 64 * ring) v 8) s = .next (now r)
        ∧ exec (.registerWrite fn (0x110 + 64 * ring) v 8) s = .next (now r))))
  ∧ (∀ (fn offset v width : Nat) (s : State), offset < 0x100 ∨ 0x300 ≤ offset → exec (.registerWrite fn offset v width) s = .next s)
  ∧ (∀ (fn offset v width ring : Nat) (prod cons : BitVec 32) (w : W64) (s : State), s.blk.pcie = false →
    exec (.registerWrite fn offset v width) s = .next s ∧ exec (.cmdDoorbell fn ring prod) s = .next s
    ∧ exec (.replyDoorbell fn ring cons) s = .next s ∧ exec (.ringEnable fn ring w) s = .next s
    ∧ exec (.ringDisable fn ring w) s = .next s ∧ exec (.ringSizeSet fn ring w) s = .next s
    ∧ exec (.ringOverrunClear fn ring w) s = .next s)

/-- A command is fetched from the ring whose turn it is: the slot at CMD_CONS is read, CMD_CONS moves, a reply is owed, and the
command goes into the change set of its apply-epoch, or, with ASAP, into the earliest open one; an opcode outside the index and an
apply-epoch that has closed are answered at once. The turn goes round over the rings that are ready; a ring that is not ready, or
full of replies, keeps its command. -/
def Obligations.FetchStagesTheCommand : Prop :=
  (∀ (fn ring : Nat) (slot ext : List Byte) (s : State),
    let k := fn * 8 + ring
    let r := Tab.get {} s.blk.host.rings k
    let size := if s.blk.sys.straps.compat then 64 else 128
    let x := s.blk.parseSlot fn ring r.cmdCons.toNat (slot.take size) ext
    let b := Blk.emit { s.blk with host := { s.blk.host with
      turn := k, rings := Tab.set {} s.blk.host.rings k { r with cmdCons := r.cmdCons + 1, owed := r.owed + 1 } } }
      (.hostRead fn (r.cmdBase + r.cmdCons.toNat % 2 ^ r.size * size) size)
    (s.blk.sys.phase = .service ∨ s.blk.sys.phase = .dormant → s.blk.pcie = true → fn ≤ 64 → ring < 8 → r.ready = true →
      s.blk.nextRing = some k →
      (∀ i row, instrOf x.1 x.2 = some i → opRow s.blk.sys.part i = some row → row.cmd = x.2 →
        s.blk.acceptCheck row.op x.2 = none → x.2.epoch ≥ s.blk.openEpoch ∨ x.2.asap = true →
        s.blk.setFull (max x.2.epoch s.blk.openEpoch) x.2.tenant = 0 → s.blk.forwards = false →
        exec (.commandFetch fn ring slot ext) s = .next (s.put ({ b with host := { b.host with
          sets := stage b.host.sets (max x.2.epoch s.blk.openEpoch) i } }.count 0xC5 0 x.2.tenant)))
      ∧ (instrOf x.1 x.2 = none → exec (.commandFetch fn ring slot ext) s
          = .next (s.put (b.answer x.1 x.2 { st := .unknownOp } s.blk.clk.epoch 0 s.blk.doneTime)))
      ∧ (∀ i row, instrOf x.1 x.2 = some i → opRow s.blk.sys.part i = some row → row.cmd = x.2 →
        s.blk.acceptCheck row.op x.2 = none → x.2.epoch < s.blk.openEpoch → x.2.asap = false →
        exec (.commandFetch fn ring slot ext) s
          = .next (s.put (b.answer x.1 x.2 { st := .late } s.blk.clk.epoch 0 s.blk.doneTime))))
    ∧ (r.ready = false ∨ s.blk.nextRing ≠ some k → exec (.commandFetch fn ring slot ext) s = .next s))
  ∧ (∀ (b : Blk) (j : Nat), (∀ x ∈ b.host.rings, x.2.ready = true → x.1 = j) →
    (∃ x ∈ b.host.rings, x.2.ready = true) → b.nextRing = some j)
  ∧ (∀ (b : Blk) (k : Nat), Tab.wf {} b.host.rings = true → b.nextRing = some k →
    (Tab.get {} b.host.rings k).ready = true
    ∧ ∀ j, (Tab.get {} b.host.rings j).ready = true → b.host.turn < j → b.host.turn < k ∧ k ≤ j)

/-- A reply is written: its extended result first, then its slot at REPLY_PROD, then the ring's vector where IRQ is set or the
status is not OK, but for one sent in the same 2 µs; REPLY_PROD moves and one reply less is owed. With none ready nothing
happens. -/
def Obligations.RepliesAreWritten : Prop :=
  ∀ (fn ring : Nat) (same : Bool) (s : State), s.blk.pcie = true →
    (∀ x, s.blk.nextReply fn ring = some x → x.fn = fn → x.ring = ring → x.legacy = false → s.blk.sys.straps.compat = false →
      let k := fn * 8 + ring
      let g := Tab.get {} s.blk.host.rings k
      exec (.replyWrite fn ring same) s = .next (s.put
        (({ s.blk with host := { s.blk.host with
              replies := s.blk.host.replies.erase x,
              rings := Tab.set {} s.blk.host.rings k { g with replyProd := g.replyProd + 1, owed := g.owed - 1 } } }).emits
          ((if (x.irq || x.status != 0) && !same then [Output.msix fn ring] else [])
            ++ [Output.hostWrite fn (g.replyBase + g.replyProd.toNat % 2 ^ g.size * 64) (x.slot (bit g.replyProd.toNat g.size))]
            ++ (if x.ext.isEmpty then [] else [Output.hostWrite fn x.extAddr x.ext])))))
    ∧ (s.blk.nextReply fn ring = none → exec (.replyWrite fn ring same) s = .next s)

/-- The sideband holds one command: a second submission, and one of a wrong length, is acknowledged and discarded with bit 3
set; a wrong PEC is not acknowledged; while self-test runs the submission is held. SB_REPLY gives the reply once, as a block read,
SB_STATUS the four bits, and other codes read as zero. Every read ends with the PEC of its transaction, addressed to 0x6C + SMB_ADDR
(its CRC-8: log 143). -/
def Obligations.SidebandTransactions : Prop :=
  ∀ s : State, s.blk.smbus = true →
    let answer := fun (code : Nat) (l : List Byte) =>
      let at_ := 2 * (0x6C + s.blk.sys.straps.smbAddr.toNat)
      s.blk.emit (.smbData l (crc8 ([BitVec.ofNat 8 at_, BitVec.ofNat 8 code, BitVec.ofNat 8 (at_ + 1)] ++ l)))
    (∀ n l, exec (.sbSubmit n l false) s = .next (s.put (s.blk.emit (.smbAck false))))
    ∧ (∀ n l, n < 32 ∨ 128 < n ∨ s.blk.host.sb.outstanding = true →
      exec (.sbSubmit n l true) s = .next (s.put ((s.blk.emit (.smbAck true)).setSb (fun x => { x with discarded := true }))))
    ∧ (∀ n l, 32 ≤ n → n ≤ 128 → s.blk.host.sb.outstanding = false → s.blk.sys.phase.busy = true →
      exec (.sbSubmit n l true) s = .next (s.put ((s.blk.emit (.smbAck true)).setSb
        (fun x => { x with outstanding := true, held := some (l.take n) }))))
    ∧ (∀ n l, 32 ≤ n → n ≤ 128 → s.blk.host.sb.outstanding = false → s.blk.sys.phase = .service →
      ∃ t, exec (.sbSubmit n l true) s = .next t ∧ t.pending = s.pending ∧ t.blk.host.sb.outstanding = true
        ∧ t.blk.host.sb.discarded = false ∧ t.blk.trees = s.blk.trees ∧ t.blk.sys = s.blk.sys)
    ∧ (∀ l, s.blk.host.sb.reply = some l → exec .sbReply s = .next (s.put
      ((answer 0x11 (BitVec.ofNat 8 l.length :: l)).setSb (fun x => { x with reply := none, outstanding := false }))))
    ∧ (s.blk.host.sb.reply = none → exec .sbReply s = .next (s.put (answer 0x11 [0])))
    ∧ exec .sbStatus s = .next (s.put (answer 0x12 [BitVec.ofNat 8
        (b2n s.blk.host.sb.reply.isSome + 2 * b2n s.blk.host.sb.outstanding + 4 * b2n s.blk.sys.phase.inDormant
          + 8 * b2n s.blk.host.sb.discarded)]))
    ∧ (∀ code write, exec (.sbInvalidWrite code write) s = .next (s.put (s.blk.emit (.smbAck write.pecOk))))
    ∧ (∀ code block, exec (.sbInvalidRead code block) s = .next (s.put (answer code [0])))
    ∧ exec .smbusTimeout s = .next s

/-- The tokens. One frame before the boundary, and at once where no frame is paced, the change set of the next epoch closes, and
stays as it was staged; PREPARE follows. At its deadline every island that has not acknowledged counts a miss, its fourth in a row
is an event of its fault source, COMMIT will defer, and the deferral writes its record; with none missing the runs start again. An
island that misses COMMIT is counted, with an event of its fault source. -/
def Obligations.TokensCloseAndPrepare : Prop :=
  (∀ s : State, s.blk.sys.phase.paced = true → s.blk.clk.closed = false → s.blk.pair.staged = [] →
    (s.blk.sys.phase = .service → 8 * (s.blk.clk.epoch + 1) ≤ s.blk.clk.fc + 1) →
    let n := s.blk.clk.epoch + 1
    let b := { s.blk with
      clk := { s.blk.clk with closed := true },
      host := { s.blk.host with sets := s.blk.host.sets.map (fun x => if x.1 = n then (n, setOf s.blk.host.sets n) else x) } }
    exec .changeSetClose s = .next (s.put b) ∧ (∀ m, setOf b.host.sets m = setOf s.blk.host.sets m) ∧ b.openEpoch = n + 1)
  ∧ (∀ s : State, s.blk.sys.phase = .service → s.blk.clk.fc + 1 < 8 * (s.blk.clk.epoch + 1) → exec .changeSetClose s = .next s)
  ∧ (∀ s : State, s.blk.sys.phase.paced = true → s.blk.clk.closed = true →
    exec .prepare s = .next (s.put { s.blk with clk := { s.blk.clk with prepared := true } }))
  ∧ (∀ (l : List Nat) (s : State), s.blk.sys.phase.paced = true → s.blk.clk.prepared = true →
    let miss := s.blk.tokenIslands l
    let b := { s.blk with
      clk := { s.blk.clk with missing := miss, missRun := s.blk.clk.missRun.filter (fun x => miss.contains x.1) },
      pair := { s.blk.pair with wdGood := !miss.contains 83 && !miss.contains 100 } }
    (miss = [] → exec (.prepareDeadline l) s = .next (s.put b))
    ∧ (∀ i r, miss = i :: r → exec (.prepareDeadline l) s
      = .next (s.put ((miss.foldl Blk.missPrepare b).vent { type := 0x0001, object := s.blk.clk.epoch + 1, detail := i }))))
  ∧ (∀ (b : Blk) (i n : Nat), Tab.get 0 b.clk.missRun i = n →
    let x := { b with clk := { b.clk with missRun := Tab.set 0 b.clk.missRun i ((n + 1) % 4) } }.count 0xC4 2 i
    (n = 3 → b.missPrepare i = x.faultEvent 0x01 i) ∧ (n ≠ 3 → b.missPrepare i = x))
  ∧ (∀ (l : List Nat) (s : State), s.blk.sys.phase.paced = true →
    let miss := s.blk.tokenIslands l
    exec (.commitAckDeadline l) s = .next (s.put (miss.foldl (fun b i => (b.count 0xC4 2 i).faultEvent 0x01 i)
      { s.blk with pair := { s.blk.pair with wdGood := !miss.contains 83 && !miss.contains 100 } })))

/-! ### The tree line (03) -/

/-- A burst that is expected is taken, found bad or missed. Where no delimiter qualifies it is missed, and in an overrun lost; with a
delimiter its grant closes as bad where its header fails, and as received where it passes. -/
def Obligations.BurstsCloseTheirGrants : Prop :=
  ∀ (x : RxBurst) (g : Grant) (s : State), s.blk.sys.phase = .service → s.blk.grantAt x.tree x.uf x.start = some g →
    s.blk.receives x.tree = true → s.blk.expects g = true →
    let b := s.blk
    let id := gid g.tree g.term
    let d := decodeBurst (burstSeed g.tag g.term g.uf) (burstBytes g.length x.bytes)
    let closed := fun (t : State) (o : GrantEnd) =>
      t.pending = s.pending ∧ ∀ y ∈ t.blk.gey.grants, y.tree = g.tree → y.uf = g.uf → y.start = g.start → y.outcome = o
    (g.discovery = false → (b.term id).lob = false →
      exec (.delimiterWindowClose x.tree x.uf x.start) s = .next (s.put
        (((((b.countLine g.tree id 5 2 1).updGrant g.tree g.uf g.start (fun y => { y with outcome := .missed })).countLine
          g.tree id 3 0 1).updTree g.tree (fun y => { y with expected := true })).updTerm id
          (fun y => { y with lobRun := y.lobRun + 1, lobOk := 0 }))))
    ∧ (x.overrun = true → exec (.upstreamBurst x) s = .next (s.put ((b.count 0x11 17 x.tree).burstLost g)))
    ∧ (x.overrun = false → (b.tree x.tree).mode = .native →
      (findDelimiter x.searchBits x.bitsLen x.firstBit g.window = none →
        exec (.upstreamBurst x) s = exec (.delimiterWindowClose x.tree x.uf x.start) s)
      ∧ (∀ delta, findDelimiter x.searchBits x.bitsLen x.firstBit g.window = some delta → g.discovery = false →
        d.usable.length < 16 ∨ headerCheck g true d.usable ≠ (true, true) →
        ∃ t, exec (.upstreamBurst x) s = .next t ∧ closed t .bad)
      ∧ (∀ delta, findDelimiter x.searchBits x.bitsLen x.firstBit g.window = some delta →
        16 ≤ d.usable.length → headerCheck g true d.usable = (true, true) →
        ∃ t r u l, exec (.upstreamBurst x) s = .next t ∧ closed t (.received r u l)))

/-- The frame tick moves the frame counter on by one and, at the last frame of an epoch, waits for COMMIT. A head-end with no
light on sends nothing, and its time of day goes on. The marker of an upstream phase closes its part of the batches of Geyser and
of the directory. -/
def Obligations.FramesAndPhasesPass : Prop :=
  (∀ (x : TickFacts) (s : State), s.blk.sys.phase = .service → s.blk.clk.fc / 8 = s.blk.clk.epoch →
    ∃ t, exec (.downstreamFrame x) s = .next t ∧ t.pending = s.pending ∧ t.blk.clk.epoch = s.blk.clk.epoch
      ∧ t.blk.clk.fc = s.blk.clk.fc + 1)
  ∧ (∀ (x : TickFacts) (s : State), s.blk.clk.fc / 8 ≠ s.blk.clk.epoch → exec (.downstreamFrame x) s = .next s)
  ∧ (∀ s : State, s.blk.sys.phase = .service → s.blk.clk.fc / 8 = s.blk.clk.epoch → s.blk.joined = false →
    s.blk.feeding = false → s.blk.clk.fc % 8 ≠ 0 → (∀ t < Part.trees s.blk.sys.part, (s.blk.tree t).txOn = false) →
    exec (.downstreamFrame ⟨[], 0⟩) s = .next (s.put { (Blk.advanceTime { s.blk with pair := { s.blk.pair with
        idleFrame := false, recipes := s.blk.pair.recipes.filter (fun r => decide (s.blk.clk.fc < r.frame)), time := none } } 1) with
      clk := { s.blk.clk with fc := s.blk.clk.fc + 1 } }))
  ∧ (∀ (tree uf phase : Nat) (s : State), s.blk.sys.phase = .service → tree < Part.trees s.blk.sys.part →
    (s.blk.tree tree).stopped = false → (s.blk.tree tree).rxOn = false → phase < 7 → uf < s.blk.clk.fc →
    (∀ p ∈ s.blk.gey.parts, (p.tree, p.uf, p.phase) ≠ (tree, uf, phase)) → (tree, slotOf uf phase) ∉ s.blk.dir.markers →
    s.blk.joined = false → s.blk.feeding = false → s.blk.gey.consume ≤ slotOf uf phase → s.blk.dir.next ≤ slotOf uf phase →
    exec (.phaseEndMarker tree uf phase) s = .next (s.put { s.blk.closePart tree uf phase with
      dir := { s.blk.dir with markers := s.blk.dir.markers ++ [(tree, slotOf uf phase)] } }))

/-- Defects: LOS_T is set once its count is reached and cleared likewise, LOB of a terminal is set, each with one record; short of
the count nothing changes. The end of a circuit's period, in a frame that has begun, starts the next one, aligned to the epoch's
phase 0, and where no SDU came in it and a copy is held, inserts the substitute: the copy with ones from AIS_OFFSET on. -/
def Obligations.DefectsAndCircuitPeriods : Prop :=
  (∀ (tree object : Nat) (s : State), s.blk.sys.phase = .service → tree < Part.trees s.blk.sys.part →
    let x := s.blk.tree tree
    (x.los = false → x.defects.losSet ≤ x.losRun → x.protect.scheme = 0 →
      exec (.defectChange tree object 0) s = .next (s.put ((s.blk.updTree tree (fun y => { y with los := true })).vent
        { type := 0x0100, island := tree, object := tree * 2 ^ 32, detail := 1 })))
    ∧ (x.los = true → x.defects.losClr ≤ x.losOk → x.protect.scheme = 0 → x.hidden = [] → Tab.wf {} s.blk.trees = true →
      exec (.defectChange tree object 0) s = .next (s.put ((s.blk.updTree tree (fun y =>
        { y with los := false, clearSince := s.blk.clk.fc })).vent { type := 0x0100, island := tree, object := tree * 2 ^ 32 })))
    ∧ (x.los = false → x.losRun < x.defects.losSet → exec (.defectChange tree object 0) s = .next s))
  ∧ (∀ (tree i : Nat) (s : State), s.blk.sys.phase = .service → tree < Part.trees s.blk.sys.part →
    let x := s.blk.term (gid tree i)
    (x.lob = false → (s.blk.tree tree).defects.lobSet ≤ x.lobRun → (s.blk.tree tree).los = false → x.dg = false →
      x.state ≠ .active →
      exec (.defectChange tree i 1) s = .next (s.put (((s.blk.updTerm (gid tree i) (fun y => { y with lob := true })).updTree tree
        (fun y => { y with hidden := y.hidden.filter (· != (i, 1)) })).vent
        { type := 0x0100, island := tree, object := tree * 2 ^ 32 + i, detail := 0x0101 })))
    ∧ (x.lob = false → x.lobRun < (s.blk.tree tree).defects.lobSet → exec (.defectChange tree i 1) s = .next s))
  ∧ (∀ (flow : Nat) (c : Circuit) (s : State), s.blk.sys.phase = .service →
    Tab.get none (s.blk.tree (flowTree flow)).circuits (flow % 65536) = some c →
    let w := c.width (s.blk.tree (flowTree flow)).mode
    let up := s.blk.updCircuit flow (fun _ => { c with up := c.up.period w })
    let dn := s.blk.updCircuit flow (fun _ => { c with dn := c.dn.period w })
    (bit c.dir 0 = true → c.up.due / 8 < s.blk.clk.fc →
      (c.up.saved = none ∨ c.up.arrivedNow w = true → exec (.aisPeriodEnd flow true) s = .next (s.put up))
      ∧ (∀ x, c.up.saved = some x → c.up.arrivedNow w = false →
        exec (.aisPeriodEnd flow true) s = .next (s.put (up.insertAis c flow true c.up.due x))))
    ∧ (bit c.dir 1 = true → c.dn.due / 8 < s.blk.clk.fc →
      (c.dn.saved = none ∨ c.dn.arrivedNow w = true → exec (.aisPeriodEnd flow false) s = .next (s.put dn))
      ∧ (∀ x, c.dn.saved = some x → c.dn.arrivedNow w = false →
        exec (.aisPeriodEnd flow false) s = .next (s.put (dn.insertAis c flow false c.dn.due x))))
    ∧ (s.blk.clk.fc ≤ c.up.due / 8 → exec (.aisPeriodEnd flow true) s = .next s)
    ∧ (s.blk.clk.fc ≤ c.dn.due / 8 → exec (.aisPeriodEnd flow false) s = .next s))
  ∧ (∀ (b : Blk) (c : Circuit) (flow slot : Nat) (x : List Byte × Option Nat),
    b.insertAis c flow true slot x = (b.count 0x11 15 (flowTree flow)).toParser 0 {
      data := x.1.take c.offset ++ List.replicate (x.1.length - c.offset) 255, input := flowTree flow, flow := flow,
      stamp := b.clk.epoch, toa := b.stampedTime b.tim.tod, gen := b.tim.gen, source := flowTree flow,
      order := [slot / 8, slot % 8, flowTree flow, 777600, 0] })
  ∧ (∀ (d : CircuitDir) (k : Nat),
    let r := d.period (2 ^ k)
    r.due % 2 ^ k = 2 ^ k - 1 ∧ (d.due % 2 ^ k = 2 ^ k - 1 → r.due = d.due + 2 ^ k)
    ∧ ((∃ slot ∈ d.arrived, d.due < slot + 2 ^ k ∧ slot ≤ d.due) → r.goods = d.goods + 1 ∧ r.subs = 0)
    ∧ ((∀ slot ∈ d.arrived, slot + 2 ^ k ≤ d.due ∨ d.due < slot) → r.subs = d.subs + 1 ∧ r.goods = 0))

/-! ### Ranging and protection (04, 03) -/

/-- The ranging controller's timeouts: an index held without SN_REPORT, or for 1,000 epochs, becomes FREE; one that acknowledged
none of three ACTIVATE messages becomes PROVISIONED; those two are deactivated. Re-ranging that takes 1,000 epochs goes on slowly,
with one record. The end of a discovery cycle in which nothing answered counts the cycle; a code found at one delay in the windows'
correlations is counted and held. -/
def Obligations.RangingTimesOut : Prop :=
  (∀ (tree i : Nat) (s : State), s.blk.sys.phase = .service →
    let b := s.blk
    let x := b.term (gid tree i)
    (x.state = .held → 3 ≤ x.rangeMiss → exec (.rangingTimeout tree i) s = .next (s.put (b.restIndex tree i .free)))
    ∧ (x.state = .held → x.heldFrom + 1000 ≤ b.clk.epoch →
      exec (.heldTimeout tree i) s = .next (s.put ((b.restIndex tree i .free).queueCtl tree (.deactivate i 3 8 1))))
    ∧ (x.state = .activating → 3 ≤ x.actSent → x.actFrame + 8 ≤ b.clk.fc →
      exec (.activateTimeout tree i) s = .next (s.put ((b.restIndex tree i .provisioned).queueCtl tree (.deactivate i 4 0 1))))
    ∧ (x.state = .active → x.reranging = true → x.rerangeSlow = false → x.rerangeFrom + 1000 ≤ b.clk.epoch →
      exec (.rerangeFail tree i) s = .next (s.put ((b.updTerm (gid tree i) (fun y =>
        { y with rerangeSlow := true, rerangeFrom := b.clk.epoch })).vent
        { type := 0x0302, island := 64, object := gid tree i })))
    ∧ (x.state = .free → exec (.rangingTimeout tree i) s = .next s ∧ exec (.heldTimeout tree i) s = .next s
      ∧ exec (.activateTimeout tree i) s = .next s ∧ exec (.rerangeFail tree i) s = .next s
      ∧ exec (.driftEpoch tree i) s = .next s))
  ∧ (∀ (tree d : Nat) (v : DiscCfg) (s : State), s.blk.sys.phase = .service → tree < Part.trees s.blk.sys.part →
    (s.blk.tree tree).mode = .native → (s.blk.tree tree).txOn = true → (s.blk.tree tree).rxOn = true →
    (s.blk.tree tree).cycleEnded s.blk.clk.fc = some (d, v) → (s.blk.tree tree).lastCycle < d → s.blk.joined = false →
    s.blk.feeding = false → exec (.probeDetection tree []) s
      = .next (s.put ((s.blk.updTree tree (fun y => { y with lastCycle := d })).count 0x31 0 tree)))
  ∧ (∀ (tree d : Nat) (v : DiscCfg) (windows : List ProbeWindow) (s : State), s.blk.sys.phase = .service →
    tree < Part.trees s.blk.sys.part → (s.blk.tree tree).mode = .native → (s.blk.tree tree).txOn = true →
    (s.blk.tree tree).rxOn = true → (s.blk.tree tree).cycleEnded s.blk.clk.fc = some (d, v) → (s.blk.tree tree).lastCycle < d →
    s.blk.pair.reference = true → exec (.probeDetection tree windows) s = .next (s.put
      (((s.blk.updTree tree (fun y => { y with lastCycle := d })).count 0x31 0 tree).takeProbes tree d v (correlate v windows))))
  ∧ (∀ (b : Blk) (tree d q rtd : Nat) (v : DiscCfg) (corr : List Correlation), b.joined = false → b.feeding = false →
    probeFind v corr = ([(q, rtd)], 0) → 1 ≤ v.maxAck →
    b.takeProbes tree d v corr = (b.count 0x31 1 tree).holdProbe tree d (q, rtd))

/-- Drift: the mean of an epoch's burst offsets is judged before the first frame of the next, and where it reaches four bits the
terminal's delay moves by it, clamped to 32 bits. Feeder skew: chip B takes the median of the first 64 differences that its search
finds, then the mean of an epoch's where that moved by two bits, and tells a skew beyond 30 µs apart. -/
def Obligations.DriftAndSkewAreTracked : Prop :=
  (∀ (tree i : Nat) (s : State), s.blk.sys.phase = .service →
    let b := s.blk
    let x := b.term (gid tree i)
    let mean := roundDiv x.muSum x.muCount
    let after := b.updTerm (gid tree i) (fun y => { y.driftEpoch x.muSum.natAbs x.muCount with
      mu := max (-128) (min 127 mean), muSum := 0, muCount := 0 })
    x.state = .active → x.muCount ≠ 0 → b.clk.fc = 8 * b.clk.epoch → x.eqdApply = none →
    (x.muSum.natAbs < 4 * x.muCount → exec (.driftEpoch tree i) s = .next (s.put after))
    ∧ (4 * x.muCount ≤ x.muSum.natAbs → exec (.driftEpoch tree i) s = .next (s.put
      (after.queueCtl tree (.eqdSet i (((x.inUse b.clk.fc : Nat) : Int) - max (-32) (min 32 mean)).toNat)))))
  ∧ (∀ (tree : Nat) (bursts : List SkewSearch) (s : State), s.blk.sys.phase = .service → s.blk.chipB = true →
    (s.blk.tree tree).skewState = .acquiring → (s.blk.tree tree).rxOn = true →
    let diffs := (bursts.filterMap (s.blk.tree tree).skew.finds).take 64
    (diffs.length < 64 → exec (.skewAcquired tree bursts) s = .next s)
    ∧ (diffs.length = 64 → ∃ t, exec (.skewAcquired tree bursts) s = .next t ∧ t.pending = s.pending ∧ t.blk.terms = s.blk.terms
      ∧ t.blk.trees = Tab.upd {} s.blk.trees tree (fun y => { y with
        upSkew := median diffs, rxSkew := median diffs,
        skewState := if 1492992 < (median diffs).natAbs then .beyond else .tracking })))
  ∧ (∀ (tree count : Nat) (sum : Int) (s : State), s.blk.sys.phase = .service → s.blk.chipB = true →
    (s.blk.tree tree).skewState = .tracking → count ≠ 0 →
    let v := (s.blk.tree tree).rxSkew + roundDiv sum count
    (2 * count ≤ sum.natAbs → ∃ t, exec (.skewTrack tree sum count) s = .next t ∧ t.pending = s.pending
      ∧ t.blk.terms = s.blk.terms ∧ t.blk.trees = Tab.upd {} s.blk.trees tree (fun y => { y with
        upSkew := v, rxSkew := v, skewState := if 1492992 < v.natAbs then .beyond else .tracking }))
    ∧ (sum.natAbs < 2 * count → exec (.skewTrack tree sum count) s = .next s))
  ∧ (∀ (tree count : Nat) (sum : Int) (bursts : List SkewSearch) (s : State), s.blk.chipB = false →
    exec (.skewAcquired tree bursts) s = .next s ∧ exec (.skewTrack tree sum count) s = .next s)

/-- Type B protection: with LOS_T set on the transmitting side for the hold-off time and clear on the other, the other side
transmits; TX_WAIT ends; and with REVERT the preferred side transmits again once it has been clear for the wait-to-restore time.
With FORCE, or without protection, neither expiry moves anything. -/
def Obligations.ProtectionMovesTheSide : Prop :=
  ∀ (tree : Nat) (s : State), s.blk.sys.phase = .service →
    let b := s.blk
    let x := b.tree tree
    (∀ f, x.protect.scheme ≠ 0 → x.protect.force = 0 → x.transmits = true → x.los = true → b.otherLos tree = false →
      x.holdFrom = some f →
      (f + 8 * x.protect.holdOff ≤ b.clk.fc →
        ∃ t, exec (.protectHoldOffExpiry tree) s = .next t ∧ t.pending = s.pending ∧ (x.protect.scheme = 1 →
          Tab.get {} t.blk.trees tree = { x with transmits := false, waitFrom := none, holdFrom := none, rxSkew := -x.upSkew })
          ∧ t.blk.terms = s.blk.terms)
      ∧ (b.clk.fc < f + 8 * x.protect.holdOff → exec (.protectHoldOffExpiry tree) s = .next s))
    ∧ (∀ f, x.waitFrom = some f →
      (10 * f + 8 * x.protect.txWait ≤ 10 * b.clk.fc → exec (.protectTxWaitExpiry tree) s
        = .next (s.put (b.updTree tree (fun y => { y with waitFrom := none, sinceSwitch := 0 }))))
      ∧ (10 * b.clk.fc < 10 * f + 8 * x.protect.txWait → exec (.protectTxWaitExpiry tree) s = .next s))
    ∧ (x.protect.scheme = 1 → x.protect.revert = true → x.protect.force = 0 → x.protect.prefer = 0 → x.transmits = false →
      (x.los = false → x.clearSince + 8000 * b.pair.wtr ≤ b.clk.fc →
        ∃ t, exec (.protectWtrExpiry tree) s = .next t ∧ t.pending = s.pending ∧ t.blk.terms = s.blk.terms
          ∧ Tab.get {} t.blk.trees tree
            = { x with transmits := true, waitFrom := some b.clk.fc, holdFrom := none, rxSkew := 0 })
      ∧ (x.los = true ∨ b.clk.fc < x.clearSince + 8000 * b.pair.wtr → exec (.protectWtrExpiry tree) s = .next s))
    ∧ (x.protect.scheme = 0 ∨ x.protect.force ≠ 0 →
      exec (.protectHoldOffExpiry tree) s = .next s ∧ exec (.protectWtrExpiry tree) s = .next s)

/-! ### Geyser and the directory (05, 06) -/

/-- A placement slot moves Geyser on to the next slot, the one of the frame in hand; with nothing due it adds each queue's share
to its credit, up to sixteen shares, and takes the credit of a queue without demand. Where no tree receives, and on a chip that is
not in service, it places nothing. A
share set is computed once its inputs are held. A marker that comes after its batch was consumed is discarded. -/
def Obligations.GeyserRunsItsSlots : Prop :=
  (∀ s : State, s.blk.sys.phase = .service → s.blk.gey.slot.1 ≤ s.blk.clk.fc →
    let p := if s.blk.gey.slot.1 = s.blk.clk.fc then s.blk.gey.slot.2 else 0
    let after := if p = 7 then (s.blk.clk.fc + 1, 0) else (s.blk.clk.fc, p + 1)
    (∃ t, exec .placementSlot s = .next t ∧ t.pending = s.pending ∧ t.blk.gey.slot = after)
    ∧ (dueBefore s.blk.clk.fc p ≤ s.blk.gey.consume → p ≠ 0 → (∀ t, (s.blk.treeFor t s.blk.clk.fc).rxOn = false) →
      s.blk.gey.queues = [] →
      exec .placementSlot s = .next (s.put { s.blk with gey := { s.blk.gey with slot := after } }))
    ∧ (dueBefore s.blk.clk.fc p ≤ s.blk.gey.consume → p ≠ 0 → s.blk.places s.blk.clk.fc = false → Tab.wf {} s.blk.gey.queues = true →
      ∃ t, exec .placementSlot s = .next t ∧ t.blk.gey.grants = s.blk.gey.grants
        ∧ ∀ q, Tab.get {} t.blk.gey.queues q = { Tab.get {} s.blk.gey.queues q with
          credit := if (Tab.get {} s.blk.gey.queues q).demand = 0 then 0
            else min (16 * (Tab.get {} s.blk.gey.queues q).share)
              ((Tab.get {} s.blk.gey.queues q).credit + (Tab.get {} s.blk.gey.queues q).share) }))
  ∧ (∀ s : State, s.blk.clk.fc < s.blk.gey.slot.1 → exec .placementSlot s = .next s)
  ∧ (∀ s : State, s.blk.sys.phase = .service → s.blk.gey.snapEpoch = s.blk.clk.epoch → s.blk.gey.shareEpoch < s.blk.clk.epoch →
    exec .shareComputation s
      = .next (s.put { s.blk with gey := { s.blk.gey with next := some (s.blk.shareSet s.blk.clk.epoch) } }))
  ∧ (∀ s : State, s.blk.gey.snapEpoch ≠ s.blk.clk.epoch ∨ s.blk.clk.epoch ≤ s.blk.gey.shareEpoch →
    exec .shareComputation s = .next s)
  ∧ (∀ (tree uf phase : Nat) (s : State), s.blk.sys.phase = .service →
    (8 * uf + phase < s.blk.gey.consume → exec (.lateMarkerArrival tree uf phase) s = .next (s.put { s.blk with
      gey := { s.blk.gey with
        parts := s.blk.gey.parts.filter (fun x => !(x.tree == tree && x.uf == uf && x.phase == phase)) } }))
    ∧ (s.blk.gey.consume ≤ 8 * uf + phase → exec (.lateMarkerArrival tree uf phase) s = .next s))

/-- The banks apply the batch of a phase once every marker has come and its messages are at the banks, or at the deadline without
the parts of the trees whose marker is missing; phases without a message pass, and the next phase follows. A message of a part that
was left out is late and only counted. -/
def Obligations.BanksApplyTheirBatches : Prop :=
  (∀ (uf phase : Nat) (s : State), s.blk.sys.phase = .service →
    let b := s.blk
    let slot := 8 * uf + phase
    let gone := fun (l : List UpMsg) => l.filter (fun m => orderSlot m.order != slot)
    let recent := fun (l : List (Nat × Nat)) => l.filter (fun x => decide (slot < x.2 + 64))
    let after := { b with dir := { b.dir with
      inbox := gone b.dir.inbox, next := slot + 1, late := recent b.dir.late, markers := recent b.dir.markers } }
    phase < 8 → b.dir.next ≤ slot → slot < b.dir.bound → b.dir.point = b.clk.epoch →
    (∀ m ∈ b.dir.inbox, orderSlot m.order < b.dir.next ∨ slot ≤ orderSlot m.order) →
    (∀ f ∈ b.queue endpointQueue, orderSlot f.order < b.dir.next ∨ slot < orderSlot f.order) →
    b.joined = false → b.pair.role ≠ .joining → b.feeding = false → b.dir.held = [] →
    (b.unmarked slot = [] →
      (b.batchOf slot = [] → exec (.bankBatch uf phase []) s = .next (s.put (after.takeAgreed slot)))
      ∧ (∀ m, b.batchOf slot = [m] → stale m.stamp b.clk.epoch = false → b.laneless m = false →
        exec (.bankBatch uf phase []) s = .next (s.put ((after.upMessage m true).1.takeAgreed slot)))
      ∧ exec (.bankMarkerDeadline uf phase []) s = .next (s.put { b with dir := { b.dir with next := slot } }))
    ∧ (b.unmarked slot ≠ [] →
      exec (.bankBatch uf phase []) s = .next (s.put { b with dir := { b.dir with next := slot } })
      ∧ (b.dir.inbox = [] → exec (.bankMarkerDeadline uf phase []) s = .next (s.put (Blk.takeAgreed { after with
          dir := { after.dir with late := recent ((b.unmarked slot).map (fun t => (t, slot)) ++ b.dir.late) } } slot)))))
  ∧ (∀ (uf phase : Nat) (u : List Upset) (s : State), 8 * uf + phase < s.blk.dir.next →
    exec (.bankBatch uf phase u) s = .next s ∧ exec (.bankMarkerDeadline uf phase u) s = .next s)
  ∧ (∀ (tree uf phase flow : Nat) (sdu : List Byte) (s : State), s.blk.sys.phase = .service →
    let slot := 8 * uf + phase
    let late := (tree, slot) ∈ s.blk.dir.late ∨ (slot < s.blk.dir.next ∧ (tree, slot) ∉ s.blk.dir.markers)
    (late → 16 ≤ sdu.length →
      exec (.lateEndpointMessage tree uf phase flow sdu) s = .next (s.put (s.blk.countEp 26 (bits (beNat (sdu.take 16)) 119 95))))
    ∧ (late → sdu.length < 16 →
      exec (.lateEndpointMessage tree uf phase flow sdu) s = .next (s.put (s.blk.countDir 26 66 (s.blk.carrierOwner flow) 1)))
    ∧ (¬ late → exec (.lateEndpointMessage tree uf phase flow sdu) s = .next s))

/-- The oldest downstream message is judged: too old it is discarded, too short counted, of an endpoint that is not bound counted,
and of one that is bound and unprotected it draws the endpoint's counter and is queued on its carrier. An outage record closes at
its boundary point with its tenant's SEQ, once the events before that point are in it, and goes to its tenant's notice queue, or is
lost and counted. -/
def Obligations.DownstreamMessagesAndOutageRecords : Prop :=
  (∀ (m : DnMsg) (r : List DnMsg) (s : State), s.blk.sys.phase = .service → s.blk.dir.dnWait = m :: r → s.blk.joined = false →
    let b := s.blk
    let x := { b with dir := { b.dir with dnWait := r } }
    let l := m.data.drop m.payload
    let hdr := beNat (l.take 16)
    let e := bits hdr 119 95
    let len := bits hdr 78 71
    (stale m.frame.stamp b.clk.epoch = true →
      exec (.downstreamEndpointMessage []) s
        = .next (s.put ((if m.waiting then x.stopWaiting e else x).staleDiscard (66 + stackOf e))))
    ∧ (stale m.frame.stamp b.clk.epoch = false → l.length < 16 →
      exec (.downstreamEndpointMessage []) s = .next (s.put (x.countDir 27 66 m.owner 1)))
    ∧ (∀ c, stale m.frame.stamp b.clk.epoch = false → 16 + len ≤ l.length → bits hdr 127 124 = 1 → bits hdr 123 120 ≤ 3 →
      x.readCtx e = (x, some c) →
      (c.valid = false ∨ c.bound = false → exec (.downstreamEndpointMessage []) s = .next (s.put (x.countEp 11 e)))
      ∧ (∀ y n, c.valid = true → c.bound = true → c.prot = 0 → c.keySpent = false → 16 + len + checkWidth c.poly ≤ 256 →
        x.drawEp e = (y, some n) →
        exec (.downstreamEndpointMessage []) s
          = .next (s.put (y.sealAndQueue e [] m (bits hdr 123 120) ((l.drop 16).take len) n)))))
  ∧ (∀ s : State, s.blk.dir.dnWait = [] → exec (.downstreamEndpointMessage []) s = .next s)
  ∧ (∀ (terminal tenant kind : Nat) (r : OutRec) (s : State), s.blk.sys.phase = .service →
    s.blk.dir.open_.find? (fun r => r.terminal == terminal && r.tenant == tenant && r.kind == kind) = some r →
    (r.closeAt ≤ s.blk.dir.point → (∀ ev ∈ s.blk.dir.events, r.takes ev = false ∨ r.closeAt ≤ ev.point) → exec (.outageRecordClose terminal tenant kind) s = .next (s.put { s.blk with
      dir := { s.blk.dir with
        open_ := s.blk.dir.open_.filter (· != r),
        closed := s.blk.dir.closed ++ [{ r with
          seq := Tab.get 0 s.blk.dir.outSeq tenant,
          boundCount := if kind = 3 ∨ kind = 4 then Tab.get 0 s.blk.dir.boundCount terminal else 0 }],
        outSeq := Tab.set 0 s.blk.dir.outSeq tenant ((Tab.get 0 s.blk.dir.outSeq tenant + 1) % 65536) } }))
    ∧ (s.blk.dir.point < r.closeAt → exec (.outageRecordClose terminal tenant kind) s = .next s))
  ∧ (∀ (r : OutRec) (rest : List OutRec) (y : Blk) (s : State), s.blk.sys.phase = .service → s.blk.dir.closed = r :: rest →
    let x := { s.blk with dir := { s.blk.dir with closed := rest } }
    let f : Frame := {
      data := r.bytes 0, fcsLen := 0, input := 113, tenant := r.tenant, stamp := s.blk.clk.epoch,
      source := recIsland r.cluster }
    (x.admitFlag (hostQueue r.tenant 1) f = (y, true) → exec .outageRecordDeliver s = .next (s.put y))
    ∧ (x.admitFlag (hostQueue r.tenant 1) f = (y, false) → exec .outageRecordDeliver s = .next (s.put (Blk.countDir
      { y with dir := { y.dir with outLost := Tab.upd 0 y.dir.outLost r.tenant (· + 1) } } 23 (recIsland r.cluster) r.tenant 1))))
  ∧ (∀ s : State, s.blk.dir.closed = [] → exec .outageRecordDeliver s = .next s)

/-! ### Uplink ports, the switch core, the parsers and the cipher engine (07 to 10) -/

/-- An uplink sub-port: a good frame is counted in and goes to the parsers with the stamp of the epoch, or, where it is the time
unit's, waits there; with no room it is counted as lost, and a bad one without cut-through goes no further. PAUSE and PFC hold classes, and a quanta of 0 releases them. A link
that goes down empties the sub-port's queues; an enabled sub-port of an island in service comes up. -/
def Obligations.UplinkPortsTakeFrames : Prop :=
  ∀ (sub : Nat) (s : State), s.blk.sys.phase = .service →
    let b := s.blk
    let p := b.sub sub
    (b.subUp sub = true →
      (∀ l bad spent toa, exec (.uplinkFrameRx sub l bad ⟨true, spent⟩ toa) s = .next (s.put (b.count 0x76 6 (64 + sub))))
      ∧ (∀ l bad spent toa, bad = true ∨ p.maxFrame < l.length ∨ fcsGood l = false → p.ct = false →
        exec (.uplinkFrameRx sub l bad ⟨false, spent⟩ toa) s = .next (s.put (b.countIn (64 + sub) l.length)))
      ∧ (∀ l spent toa, l.length ≤ p.maxFrame → fcsGood l = true → b.takesPtp sub (l.take (l.length - 4)) = false → p.fc = 0 →
        exec (.uplinkFrameRx sub l false ⟨false, spent⟩ toa) s = .next (s.put ((b.countIn (64 + sub) l.length).toParser 1 {
          data := l.take (l.length - 4), input := 64 + sub, stamp := b.clk.epoch, toa := b.stampedTime (toa + b.rxCorrection sub),
          gen := b.tim.gen, source := sub, cutThrough := p.ct })))
      ∧ (∀ l spent toa, l.length ≤ p.maxFrame → fcsGood l = true → b.takesPtp sub (l.take (l.length - 4)) = true →
        let data := l.take (l.length - 4)
        let time := b.stampedTime (toa + b.rxCorrection sub)
        let x := (b.countIn (64 + sub) l.length).plainCopies {
          data := data, input := 64 + sub, stamp := b.clk.epoch, toa := time, gen := b.tim.gen, source := sub } spent
        exec (.uplinkFrameRx sub l false ⟨false, spent⟩ toa) s = .next (s.put { x with tim := { x.tim with
          ptpIn := x.tim.ptpIn ++ [{
            sub := sub, bytes := data.drop (14 + tagsLen data.length (data.drop 12)), toa := time, stamp := b.clk.epoch }] } }))
      ∧ (∀ f : PauseFrame, f.pfc = false → exec (.pauseRx sub f) s = .next (s.put ((b.updSub sub (fun x =>
          { x with held := if 0 < f.quanta.getD 0 0 then 0xFF else 0 })).count 0x76 8 (64 + sub))))
      ∧ (∀ f : PauseFrame, f.pfc = true → ∃ h, exec (.pauseRx sub f) s = .next (s.put ((b.updSub sub (fun x =>
          { x with held := h })).count 0x76 8 (64 + sub)))
        ∧ ∀ i < 8, h.getLsbD i = if f.classes.getLsbD i = true then decide (0 < f.quanta.getD i 0) else p.held.getLsbD i)
      ∧ (∃ t, exec (.subPortLinkDown sub) s = .next t ∧ t.pending = s.pending ∧ t.blk.subUp sub = false
        ∧ (Tab.wf [] b.sw.queues = true → ∀ k < 8, t.blk.queue (classQueue (64 + sub) k) = [])
        ∧ t.blk.cls = b.cls ∧ t.blk.dir = b.dir ∧ t.blk.trees = b.trees))
    ∧ (b.subUp sub = false →
      (∀ l bad room toa, exec (.uplinkFrameRx sub l bad room toa) s = .next s) ∧ (∀ f, exec (.pauseRx sub f) s = .next s)
      ∧ exec (.subPortLinkDown sub) s = .next s)
    ∧ (b.subFormed sub = true → p.enable = true → b.tele.islandRetired (71 + sub / 8) = false →
      exec (.subPortLinkUp sub) s = .next (s.put (b.updSub sub (fun x => { x with up := true }))))
    ∧ (p.enable = false → exec (.subPortLinkUp sub) s = .next s)

/-- An output reads its next frame: the highest strict class that holds one, counted and sent; a frame that is too old is
discarded, and one whose channel fails its check code is lost where it is received. A frame found bad before its head has left is
discarded, and one that a sub-port is sending ends with a stomped FCS. The sequence point numbers stream frames in order; the host port fills the descriptor of the tenant whose turn it is, and a ring
without one waits until it is polled. -/
def Obligations.OutputsServeTheirFrames : Prop :=
  (∀ (f : Frame) (rest : List Frame) (s : State), s.blk.sys.phase = .service → stale f.stamp s.blk.clk.epoch = false →
    f.bad = false →
    let b := s.blk
    (b.queue fumaroleQueue = f :: rest →
      exec (.egressDequeue 112 0 false) s = .next (s.put (((b.setQueue fumaroleQueue rest).countOut 112 f.length).emit
        (.fumaroleFrame (f.data ++ fcs f.data))))
      ∧ exec (.egressDequeue 112 0 true) s = .next (s.put ((b.setQueue fumaroleQueue rest).checkFail 77)))
    ∧ (b.queue endpointQueue = f :: rest → exec (.egressDequeue 113 0 false) s
      = .next (s.put (((b.setQueue endpointQueue rest).countOut 113 f.length).toBank f)))
    ∧ (∀ port k, port < 112 → b.nextClass port = (b, some k) → b.queue (classQueue port k) = f :: rest →
      let x := b.setQueue (classQueue port k) rest
      (port < 64 → exec (.egressDequeue port 0 false) s
        = .next (s.put (((x.countOut port f.length).mirrorOut f port f.data).toTreeTx port f)))
      ∧ (64 ≤ port → exec (.egressDequeue port 0 false) s = .next (s.put (x.sendSub (port - 64) f)))))
  ∧ (∀ (b : Blk) (port k : Nat), k < 8 → b.classReady port k = true → (b.swCfg.queueSet (classQueue port k)).weighted = false →
    (∀ j, k < j → j < 8 → b.classReady port j = false ∨ (b.swCfg.queueSet (classQueue port j)).weighted = true) →
    b.nextClass port = (b, some k))
  ∧ (∀ (f : Frame) (s : State), s.blk.sys.phase = .service → stale f.stamp s.blk.clk.epoch = true →
    s.blk.queue fumaroleQueue = [f] →
    exec (.egressDequeue 112 0 false) s = .next (s.put ((s.blk.setQueue fumaroleQueue []).staleDiscard 70)))
  ∧ (∀ (queue pos : Nat) (f : Frame) (row cell : Nat) (s : State), s.blk.sys.phase = .service → 512 ≤ queue →
    (s.blk.queue queue)[pos]? = some f →
    let x := ((s.blk.count 0x74 2 70).faultEvent 0x0A row).setQueue queue ((s.blk.queue queue).eraseIdx pos)
    (cell < f.cells → cell = 0 ∨ 896 ≤ queue ∨ pos ≠ 0 →
      exec (.frameFoundBadLate queue pos (.uncorrectable row cell)) s = .next (s.put (x.count 0x76 4 (portOf queue))))
    ∧ (cell < f.cells → 0 < cell → queue < 896 → pos = 0 →
      exec (.frameFoundBadLate queue pos (.uncorrectable row cell)) s = .next (s.put (x.stompSub (portOf queue - 64) f cell)))
    ∧ (f.cells ≤ cell → exec (.frameFoundBadLate queue pos (.uncorrectable row cell)) s = .next s)
    ∧ (f.bad = true → exec (.frameFoundBadLate queue pos .fcs) s
      = .next (s.put ((s.blk.setQueue queue ((s.blk.queue queue).eraseIdx pos)).count 0x76 4 (portOf queue)))))
  ∧ (∀ (uf phase : Nat) (f : Frame) (s : State), s.blk.sys.phase = .service → s.blk.joined = false →
    s.blk.unmarked (8 * uf + phase) = [] → s.blk.sw.seqWait = [f] → f.input < 64 → orderSlot f.order ≤ 8 * uf + phase →
    let x := Tab.get {} s.blk.sw.streams f.stream
    (s.blk.partLate f.input (orderSlot f.order) = false → x.enable = true → x.dup = false →
      exec (.frerSequencePoint uf phase) s = .next (s.put ((Blk.count { s.blk with sw := { s.blk.sw with
        seqWait := [],
        streams := Tab.set {} s.blk.sw.streams f.stream { x with number := (x.number + 1) % 65536 } } } 0x79 0 f.stream).enqueue
          (classQueue (64 + f.source) f.tclass) { f with number := some x.number })))
    ∧ (s.blk.partLate f.input (orderSlot f.order) = true → f.stream ≠ 0 →
      exec (.frerSequencePoint uf phase) s
        = .next (s.put (Blk.count { s.blk with sw := { s.blk.sw with seqWait := [] } } 0x74 3 70))))
  ∧ (∀ (reads : HostReads) (s : State), s.blk.sys.phase = .service →
    let b := s.blk
    let go := drr 65 id (fun k => (b.ring k).weight * 256) b.hostHead b.sw.hostTurn b.sw.hostDeficit
    ((∀ k < 65, b.hostHead k = none) → exec (.hostDelivery reads) s = .next s)
    ∧ (∀ k kind f rest, go.2 = some k → b.hostKind k = some kind → b.queue (hostQueue k kind) = f :: rest →
      stale f.stamp b.clk.epoch = false → f.bad = false →
      let x := Blk.setQueue { b with sw := { b.sw with hostTurn := go.1.1, hostDeficit := go.1.2 } } (hostQueue k kind) rest
      ((b.ring k).enable = false → exec (.hostDelivery reads) s = .next (s.put (x.noRing k kind f)))
      ∧ (∀ w0 w1, (b.ring k).enable = true → reads.descs.find? (fun d => d.1 == k) = some (k, w0, w1) → w1.getLsbD 47 = true →
        exec (.hostDelivery reads) s
          = .next (s.put (((x.countN 0x74 1 70 reads.corrected).readDescriptor k).fillDescriptor k kind f w0 w1)))))
  ∧ (∀ (tenant : Nat) (w : W64) (s : State), s.blk.sys.phase = .service →
    ((s.blk.ring tenant).stalled = true → w.getLsbD 47 = true →
      exec (.rxRingPoll tenant w) s
        = .next (s.put ((s.blk.readDescriptor tenant).updRing tenant (fun r => { r with stalled := false }))))
    ∧ ((s.blk.ring tenant).stalled = true → w.getLsbD 47 = false →
      exec (.rxRingPoll tenant w) s = .next (s.put (s.blk.readDescriptor tenant)))
    ∧ ((s.blk.ring tenant).stalled = false → exec (.rxRingPoll tenant w) s = .next s))

/-- A parser takes the oldest frame of a pipeline that has no second pass waiting: one that is too old is discarded, one whose
channel fails its check code is lost, any other is looked up under the configuration of its stamp; one for a group waits while the
copy budget of its input is spent. A table's parity fault is kept in every version and recorded once. A lease that has been read back
takes effect, alone at once and in a pair at a boundary point; a key in the cache is unwrapped again, and dropped where that fails. -/
def Obligations.ParsersAndCipherEngine : Prop :=
  (∀ (f : Frame) (rest : List Frame) (pass : Pass) (s : State), s.blk.sys.phase = .service →
    Tab.get [] s.blk.cls.wait pass.side = f :: rest → Tab.get [] s.blk.cls.recirc pass.side = [] → pass.side < 2 →
    let y := { s.blk with cls := { s.blk.cls with wait := Tab.set [] s.blk.cls.wait pass.side rest } }
    let x := if pass.side = 1 ∧ 64 ≤ f.input ∧ f.input < 112 then y.flowControl (f.input - 64) else y
    let tenant := if pass.side = 0 then Tab.get 0 (x.ownersAt f.stamp).carrier f.flow else 0
    let r := x.pass pass.side 0 tenant 0 f f.data
    let d : Decided := { side := pass.side, passNo := 0, frame := f, data := f.data, out := r.2, spent := pass.spent }
    exec (.parserPass pass true) s = .next (s.put ((x.checkFail (68 + pass.side)).unparsed f))
    ∧ (stale f.stamp s.blk.clk.epoch = true →
      exec (.parserPass pass false) s = .next (s.put ((x.staleDiscard (68 + pass.side)).unparsed f)))
    ∧ (stale f.stamp s.blk.clk.epoch = false →
      (r.1.holdsInput d = false → exec (.parserPass pass false) s = .next (s.put (r.1.endPass d)))
      ∧ (r.1.holdsInput d = true → exec (.parserPass pass false) s = .next s)))
  ∧ (∀ (side : Nat) (s : State), Tab.get [] s.blk.cls.wait side = [] → Tab.get [] s.blk.cls.recirc side = [] →
    (∀ fail spent, exec (.parserPass ⟨side, spent⟩ fail) s = .next s)
    ∧ ∀ spent, exec (.recirculationPass ⟨side, spent⟩) s = .next s)
  ∧ (∀ (side : Nat) (r : Recirc) (rest : List Recirc) (spent : Bool) (s : State), s.blk.sys.phase = .service →
    Tab.get [] s.blk.cls.recirc side = r :: rest → r.mirror = false → r.sample = false → r.tenantSample = false →
    let x := { s.blk with cls := { s.blk.cls with recirc := Tab.set [] s.blk.cls.recirc side rest } }
    let p := (x.count 0x64 1 (68 + side)).pass side r.node r.tenant 1 r.frame r.data
    let d : Decided := { side := side, passNo := 1, frame := r.frame, data := r.data, out := p.2, spent := spent }
    (stale r.frame.stamp s.blk.clk.epoch = true →
      exec (.recirculationPass ⟨side, spent⟩) s = .next (s.put ((x.staleDiscard (68 + side)).unparsed r.frame)))
    ∧ (stale r.frame.stamp s.blk.clk.epoch = false →
      (p.1.holdsInput d = false → exec (.recirculationPass ⟨side, spent⟩) s = .next (s.put (p.1.endPass d)))
      ∧ (p.1.holdsInput d = true → exec (.recirculationPass ⟨side, spent⟩) s = .next s)))
  ∧ (∀ (x : Nat × Nat × Nat) (s : State), s.blk.sys.phase = .service → x.1 = 68 ∨ x.1 = 69 →
    (s.blk.clsCfg.faults.contains x = false → exec (.tableParityScan [x]) s = .next (s.put (Blk.vent { s.blk with
        cls := { s.blk.cls with cfg := s.blk.cls.cfg.map (fun v =>
          if v.2.faults.contains x then v else (v.1, { v.2 with faults := v.2.faults ++ [x] })) } }
      { type := 0x0600, island := x.1, object := x.1, detail := x.2.1, w6 := x.2.2 })))
    ∧ (s.blk.clsCfg.faults.contains x = true → exec (.tableParityScan [x]) s = .next s))
  ∧ (∀ (key e : Nat) (s : State), s.blk.sys.phase = .service → (s.blk.lease key).pending = some e →
    let b := s.blk.updLease key (fun l => { l with pending := none })
    (s.blk.joined = false → exec (.leaseReadbackComplete key) s = .next (s.put
      ((((b.setLeaseEnd key e).updLease key (fun l => { l with waiting := false, adopt := none })).count 0x84 3
        (b.leaseHome key).1).count 0x85 2 (b.leaseHome key).2)))
    ∧ (s.blk.pair.role = .active → exec (.leaseReadbackComplete key) s = .next (s.put
      ((b.updLease key (fun l => { l with adopt := some e })).sendLink 0x08 (toBe key 8 ++ toBe e 8))))
    ∧ (s.blk.pair.role = .standby → exec (.leaseReadbackComplete key) s
      = .next (s.put (b.updLease key (fun l => { l with pending := some e })))))
  ∧ (∀ (key : Nat) (s : State), (s.blk.lease key).pending = none → exec (.leaseReadbackComplete key) s = .next s)
  ∧ (∀ (flow slot : Nat) (s : State), s.blk.sys.phase = .service →
    let x := (s.blk.count 0x84 1 (78 + flowTree flow / 16)).setCache flow slot []
    (Tab.get [] (s.blk.carrier flow).cache slot = [] → exec (.keyCacheRefill flow slot) s = .next s)
    ∧ (∀ k : StoredKey, Tab.get [] (s.blk.carrier flow).cache slot ≠ [] → Tab.get none (s.blk.carrier flow).slots slot = some k →
      s.blk.cip.upsets = [] →
      (∀ key, s.blk.unwrap k.wrapped = some key →
        exec (.keyCacheRefill flow slot) s = .next (s.put (x.setCache flow slot key)))
      ∧ (s.blk.unwrap k.wrapped = none → exec (.keyCacheRefill flow slot) s = .next (s.put x))))

/-! ### The time unit, the pair unit and the Tumbler engines (11 to 13) -/

/-- The time unit: a lost source sends the servo to HOLDOVER or FREERUN, and `valid` ends after HO_VALID. Pulses, PTP messages, ESMC
PDUs and the time of standard trees leave where they are configured. An edge at PPS_IN counts as missing where it comes too early
or too late. A PTP message is judged under the configuration of its stamp. A SyncE source that fails or recovers leads to another
choice. -/
def Obligations.TimeUnitFollowsItsSources : Prop :=
  ∀ s : State, s.blk.sys.phase = .service → s.blk.hasTime = true →
    let b := s.blk
    let cfg := b.timeCfg
    let second : Int := 65536000000000
    ((cfg.outEn = true → (cfg.squelch = true → b.tim.valid = true) →
        exec .ppsOutPulse s = .next (s.put (b.emit (.ppsOut (-cfg.outComp) cfg.outWidth))))
      ∧ (cfg.outEn = false ∨ (cfg.squelch = true ∧ b.tim.valid = false) → exec .ppsOutPulse s = .next s))
    ∧ (let off := { b with tim := { b.tim with delivers := false } }
      (cfg.src ≠ 0 → b.tim.servo = .locked → exec .sourceTimeout s = .next (s.put ((off.count 0x94 0 82).servoTo .holdover)))
      ∧ (cfg.src ≠ 0 → b.tim.servo = .acquiring → exec .sourceTimeout s
        = .next (s.put ((off.count 0x94 0 82).servoTo (if b.tim.valid = true then .holdover else .freerun))))
      ∧ (cfg.src ≠ 0 → b.tim.servo = .freerun ∨ b.tim.servo = .holdover → exec .sourceTimeout s = .next (s.put off))
      ∧ (cfg.src = 0 → exec .sourceTimeout s = .next s))
    ∧ (∀ left, b.tim.leftLocked = some left → b.tim.servo = .holdover ∨ b.tim.servo = .acquiring →
      (left + 8000 * cfg.hoValid < b.clk.fc →
        exec .hoValidExpiry s = .next (s.put { b with tim := { b.tim with valid := false } }))
      ∧ (b.clk.fc ≤ left + 8000 * cfg.hoValid → exec .hoValidExpiry s = .next s))
    ∧ ((cfg.inEn = false → ∀ edge, exec (.ppsInEdge edge) s = .next s)
      ∧ (cfg.inEn = true → ∀ edge : Int, let at_ := edge - (cfg.inComp : Int) * 65536 / 10
        let nearest := (at_ + second / 2) / second * second
        let kept := { b with tim := { b.tim with missing := 0, lastPulse := some at_ } }
        ((∀ p, b.tim.lastPulse = some p → 9 * second ≤ 10 * (at_ - p) ∧ 10 * (at_ - p) ≤ 11 * second) →
          (cfg.src = 2 → exec (.ppsInEdge edge) s = .next (s.put (kept.rawOffset (nearest - at_))))
          ∧ (cfg.src ≠ 2 → exec (.ppsInEdge edge) s = .next (s.put kept)))
        ∧ (∀ p, b.tim.lastPulse = some p → 10 * (at_ - p) < 9 * second → cfg.src ≠ 2 →
          exec (.ppsInEdge edge) s
            = .next (s.put (Blk.count { b with tim := { b.tim with missing := b.tim.missing + 1 } } 0x94 3 82)))
        ∧ (∀ p, b.tim.lastPulse = some p → 11 * second < 10 * (at_ - p) → cfg.src ≠ 2 →
          exec (.ppsInEdge edge) s = .next (s.put (Blk.count { b with
            tim := { b.tim with missing := b.tim.missing + 1, lastPulse := some at_ } } 0x94 3 82)))))
    ∧ ((b.tim.ptpIn = [] → exec .ptpMessageRx s = .next s)
      ∧ (∀ (m : PtpIn) (r : List PtpIn), b.tim.ptpIn = m :: r →
        let x := { b with tim := { b.tim with ptpIn := r } }
        let domain := (Vers.at {} b.tim.cfg (stampAt m.stamp b.clk.epoch)).domain
        (stale m.stamp b.clk.epoch = true → exec .ptpMessageRx s = .next (s.put (x.staleDiscard 82)))
        ∧ (stale m.stamp b.clk.epoch = false → field m.bytes 4 1 ≠ domain ∨ field m.bytes 1 1 % 16 ≠ 2 →
          exec .ptpMessageRx s = .next (s.put (x.underStamp m.stamp (fun b => b.count 0x96 2 (64 + m.sub)))))
        ∧ (stale m.stamp b.clk.epoch = false → field m.bytes 4 1 = domain → field m.bytes 1 1 % 16 = 2 →
          field m.bytes 0 1 % 16 = 0 → bit (field m.bytes 6 1) 1 = false →
          exec .ptpMessageRx s = .next (s.put (x.underStamp m.stamp (fun b => (b.count 0x96 0 (64 + m.sub)).syncOffset m.sub
            (ptpStamp m.bytes 34 + ptpCorrection m.bytes) m.toa))))))
    ∧ (∀ (sub kind : Nat) (depart : Int), (Tab.get {} cfg.ports sub).role ≠ 0 → b.subUp sub = true →
      let p := Tab.get {} b.tim.ports sub
      let c := Tab.get {} cfg.ports sub
      let at_ := depart + b.txCorrection sub
      let sent := fun (q : PtpPort) (seq : Nat) (time corr : Int) (a : Option Announce) =>
        (.next (s.put ((Blk.emit { b with tim := { b.tim with ports := Tab.set {} b.tim.ports sub q } }
          (.ptpFrame sub kind seq (c.dest cfg.profile kind) time corr a)).count 0x96 1 (64 + sub)))
          : Host.Outcome State Fault Refusal)
      let next := { p with seq := (p.seq + 1) % 65536 }
      (kind = 0x0 → p.state = 3 → exec (.ptpMessageTx sub kind depart) s = sent next p.seq (at_ / 65536) (at_ % 65536) none)
      ∧ (kind = 0xB → p.state = 3 → exec (.ptpMessageTx sub kind depart) s = sent next p.seq 0 0 (some b.announces))
      ∧ (kind = 0x1 ∧ cfg.profile = 0 ∧ p.state = 2 ∨ kind = 0x2 ∧ cfg.profile = 1 →
        exec (.ptpMessageTx sub kind depart) s = sent { next with req := some (p.seq, at_) } p.seq 0 0 none)
      ∧ (∀ seq arrival corr, kind = 0x3 → cfg.profile = 1 → p.asked = some (2, seq, arrival, corr) →
        exec (.ptpMessageTx sub kind depart) s = sent { p with asked := none } seq 0 (at_ - arrival + corr) none)
      ∧ (∀ seq arrival corr, kind = 0x9 → cfg.profile = 0 → p.state = 3 → p.asked = some (1, seq, arrival, corr) →
        exec (.ptpMessageTx sub kind depart) s
          = sent { p with asked := none } seq (arrival / 65536) (corr - arrival % 65536) none)
      ∧ (p.sends cfg.profile kind = false → exec (.ptpMessageTx sub kind depart) s = .next s))
    ∧ (∀ tree, tree < Part.trees b.sys.part → (b.tree tree).mode ≠ .native → b.tim.valid = true →
      ∃ t, exec (.todWriteStandard tree) s = .next t ∧ t = s.put { b with out := t.blk.out }
        ∧ ∀ i < 512, (b.term (gid tree i)).state = .active →
          ∀ time : Int, time = (b.tim.tod + 160 * frameTime + (b.tree tree).mode.txBall
              + (Tab.get {} cfg.trees tree).optTx * 65536 / 10 : Nat) →
            let o := Output.todWrite (gid tree i) (b.clk.fc + 160) time
            b.leaves o = true → o ∈ t.blk.out)
    ∧ ((cfg.txFollow = false → exec .esmcTx s = .next s)
      ∧ (cfg.txFollow = true → ∃ t, exec .esmcTx s = .next t ∧ t = s.put { b with out := t.blk.out }
        ∧ ∀ i, b.tim.selected = some i → ∀ sub < 48, b.subUp sub = true →
          let o := Output.esmc sub (if sub = cfg.syncSub i then 15 else (Tab.get {} b.tim.sync i).ql)
          b.leaves o = true → o ∈ t.blk.out)
      ∧ (cfg.txFollow = true → b.tim.selected = none → ∃ t, exec .esmcTx s = .next t
        ∧ ∀ sub < 48, b.subUp sub = true → b.leaves (.esmc sub eecQl) = true → .esmc sub eecQl ∈ t.blk.out))
    ∧ (∀ (sub ql : Nat) (ppb : Int) (i : Nat) (e : Nat × Bool), i < 4 → cfg.sources.length = 4 →
      cfg.sources[i]? = some e → e.1 = sub →
      (∀ j f, j ≠ i → cfg.sources[j]? = some f → f.1 ≠ sub) →
      exec (.esmcRx sub ql ppb) s = .next (s.put (b.syncSet i (fun y => { y with
        ql := ql % 16, heard := true, inRange := decide (|ppb| ≤ 9200), failed := y.failed && cfg.wtr != 0 }))))
    ∧ (∀ entry < 4,
      (let lost := { b with tim := { b.tim with sync := Tab.upd {} b.tim.sync entry (fun y => { y with failed := true }) } }
       (lost.syncBest = b.tim.selected → exec (.synceSourceLoss entry .linkDown) s = .next (s.put lost))
       ∧ (lost.syncBest ≠ b.tim.selected → exec (.synceSourceLoss entry .linkDown) s
          = .next (s.put ((Blk.count { lost with tim := { lost.tim with selected := lost.syncBest } } 0x94 4 82).vent
              { type := 0x0902, island := 82, object := (lost.syncBest.map cfg.syncSub).getD 0xFF }))))
      ∧ (let back := { b with tim := { b.tim with sync := Tab.upd {} b.tim.sync entry (fun y => { y with failed := false }) } }
         (back.syncBest = b.tim.selected → exec (.synceWtrExpiry entry) s = .next (s.put back))
         ∧ (back.syncBest ≠ b.tim.selected → exec (.synceWtrExpiry entry) s
          = .next (s.put ((Blk.count { back with tim := { back.tim with selected := back.syncBest } } 0x94 4 82).vent
              { type := 0x0902, island := 82, object := (back.syncBest.map cfg.syncSub).getD 0xFF })))))

/-- The Marionette link: HELLO goes out each microsecond, and one that comes says who the partner is. Frames in order are counted,
others asked for again. Silence of the link or of the watchdog makes the active chip go on alone, a standby whose partner lives
ISOLATED, and one whose partner is dead take over. A handshake that passes its checks feeds the newcomer; each other one leaves its
record. Wait-to-restore and a lasting difference of firmware name a state for a boundary to come. -/
def Obligations.PairLinkIsSupervised : Prop :=
  ∀ s : State, s.blk.sys.phase = .service → s.blk.hasPair = true →
    let b := s.blk
    let becomes := fun (i : Instr) (r : PairRole) =>
      ∃ t, exec i s = .next t ∧ t.pending = s.pending ∧ t.blk.pair.role = r
    exec .helloTx s = .next (s.put (b.sendLink 0x01 (Config.helloBytes (b.ownHello ++ b.treeFacts))))
    ∧ (b.laneCount < 3 → (∀ h, exec (.helloRx h) s = .next s) ∧ ∀ f, exec (.linkFrameRx f) s = .next s)
    ∧ (∀ (h : Hello) (trees : List TreeFact), 3 ≤ b.laneCount → b.pair.linkUp = true → h.wave ≠ b.wave → h.pref ≠ b.pref →
      let x := (b.setPair (fun p => { p with
        hello := some h, partner := h.state % 16, actIn := h.state == 1 || h.state == 3 })).count 0xA4 1 83
      let known := (trees.filter (fun f => decide (f.tree < Part.trees b.sys.part))).foldl Blk.takeFact x
      (b.joined = true → exec (.helloRx ⟨h, trees⟩) s = .next (s.put known))
      ∧ (b.joined = false → b.pair.role ≠ .isolated ∨ b.pair.auto = false → exec (.helloRx ⟨h, trees⟩) s = .next (s.put x))
      ∧ (b.pair.role = .isolated → b.pair.auto = true → b.pair.strapBad = false → b.tele.retired 0x08 0 = false →
        exec (.helloRx ⟨h, trees⟩) s = .next (s.put x.join)))
    ∧ (∀ (h : Hello) (trees : List TreeFact), 3 ≤ b.laneCount → h.wave = b.wave ∨ h.pref = b.pref →
      ∃ t, exec (.helloRx ⟨h, trees⟩) s = .next t ∧ t.pending = s.pending ∧ t.blk.pair.strapBad = true
        ∧ t.blk.pair.role = b.pair.role)
    ∧ (∀ f : LinkFrame, 3 ≤ b.laneCount → f.lane = none → f.crcOk = true → 1 ≤ f.kind → f.kind ≤ 14 →
      let want := Tab.get 0 b.pair.rxSeq (f.cls % 4)
      (f.seq = want → exec (.linkFrameRx f) s = .next (s.put ((b.setPair (fun p => { p with
        rxSeq := Tab.set 0 p.rxSeq (f.cls % 4) ((want + 1) % 2 ^ 32), retries := Tab.set 0 p.retries (f.cls % 4) 0,
        linkUp := true })).count 0xA4 1 83)))
      ∧ (want < f.seq → f.seq < want + 2 ^ 31 → f.seq < 2 ^ 32 → Tab.get 0 b.pair.retries (f.cls % 4) < 3 →
        exec (.linkFrameRx f) s = .next (s.put ((b.setPair (fun p => { p with
          retries := Tab.set 0 p.retries (f.cls % 4) (Tab.get 0 p.retries (f.cls % 4) + 1) })).count 0xA4 2 83))))
    ∧ ((b.pair.wdGood = true → exec .watchdogToggle s = .next (s.put (b.setPair (fun p => { p with wdOut := !p.wdOut }))))
      ∧ (b.pair.wdGood = false → exec .watchdogToggle s = .next s))
    ∧ (b.pair.enable = true → b.pair.linkUp = true → b.pair.wdNoted = false → exec .watchdogSilence s
        = .next (s.put ((b.setPair (fun p => { p with wdIn := false, wdNoted := true })).vent { type := 0x0A03, island := 83 })))
    ∧ (b.pair.enable = false ∨ (b.pair.linkUp = true ∧ b.pair.wdNoted = true) →
        exec .watchdogSilence s = .next (s.put (b.setPair (fun p => { p with wdIn := false }))))
    ∧ (b.pair.role = .active ∨ b.pair.role = .standby → b.pair.enable = true → b.pair.linkUp = false → becomes .watchdogSilence .alone)
    ∧ (b.pair.role = .active → becomes .linkSilence .alone)
    ∧ (b.pair.role = .standby → b.pair.wdIn = true → becomes .linkSilence .isolated)
    ∧ (b.pair.role = .standby → b.pair.wdIn = false → becomes .linkSilence .alone)
    ∧ (b.pair.role = .solo → exec .linkSilence s = .next (s.put (b.setPair (fun p => { p with linkUp := false }))))
    ∧ (∀ item arg, b.itemMissing item arg = true →
        (b.pair.role = .active → becomes (.agreedItemDeadline item arg) .alone)
        ∧ (b.pair.role = .standby → b.pair.wdIn = true → becomes (.agreedItemDeadline item arg) .isolated))
    ∧ (∀ item arg, b.itemMissing item arg = false → exec (.agreedItemDeadline item arg) s = .next s)
    ∧ (∀ (h : Hello) mac kek, b.pair.linkUp = true → b.pair.agreed = false → b.pair.strapBad = false →
        b.tele.retired 0x08 0 = false → b.pair.role = .alone →
        (∀ k, b.handshakeFault h mac = some k → exec (.joinHandshake h mac kek) s
          = .next (s.put (b.vent { type := 0x0A05, island := 83, detail := k })))
        ∧ (b.handshakeFault h mac = none → h.state = 5 → exec (.joinHandshake h mac kek) s
          = .next (s.put (b.draw.feed (toBe (Config.freeTransferKey b.free).toNat 32)))))
    ∧ (∀ h mac kek, b.pair.linkUp = false ∨ b.pair.agreed = true ∨ b.pair.strapBad = true →
        exec (.joinHandshake h mac kek) s = .next s)
    ∧ (b.pair.enable = true → b.pair.linkUp = true → b.pair.agreed = false → b.pair.strapBad = false →
        b.pair.role = .alone ∨ b.pair.role = .joining ∨ b.pair.role = .isolated →
        exec .handshakeRetry s = .next (s.put (b.sendLink 0x02 (Config.helloBytes b.ownHello))))
    ∧ (∀ e, b.pair.wtrEnd = some e → b.joined = true → e ≤ b.clk.epoch → b.pair.lockout = false →
        exec .wtrExpiry s = .next (s.put (b.setPair (fun p => { p with
          wtrEnd := none, next := some (b.clk.epoch + 1, p.role.swapped) }))))
    ∧ (b.pair.wtrEnd = none → exec .wtrExpiry s = .next s)
    ∧ (b.joined = true → 2 ≤ b.pair.fwDiffer → exec .fwVersionMismatch s = .next (s.put
        (((b.vent { type := 0x0A01, island := 83, object := b.clk.epoch, detail := 0 }).faultEvent 0x08 0).setPair (fun p =>
          { p with next := some (b.clk.epoch + 2, if b.pair.role = .standby then .isolated else .alone) }))))
    ∧ (b.pair.fwDiffer < 2 → exec .fwVersionMismatch s = .next s)

/-- What the chips of a pair agree on: batches, constraint words, recipes, times, leases, accept lists, downstream messages and
digests of the reference chip or the partner are kept where the chip is to follow them; forwarded commands are staged and
acknowledged. A newcomer installs the pages it is sent and follows the maps; at the join point both name epoch J. -/
def Obligations.ChipsOfAPairAgree : Prop :=
  ∀ s : State, s.blk.sys.phase = .service → s.blk.hasPair = true →
    let b := s.blk
    (∀ (uf phase : Nat) (p : BatchTree), b.followsBatch uf = true → p.ends = [] → p.probes = [] → p.quiets = [] →
      (∀ v ∈ p.views, v.lob = false) → b.gey.consume ≤ 8 * uf + phase →
      let views := b.changedViews p.tree (b.followedView p.tree p.views)
      exec (.batchRx ⟨uf, phase, [p]⟩) s = .next (s.put (Blk.noteViews { b with gey := { b.gey with
        parts := b.gey.parts ++ [{
          tree := p.tree, uf := uf, phase := phase, marked := true, views := views,
          reports := p.reports.map (fun r => { term := r.1, start := r.2.1, queues := r.2.2 }), ends := [] }] } } p.tree views)))
    ∧ (∀ x : PairBatch, b.followsBatch x.uf = false → exec (.batchRx x) s = .next s)
    ∧ (∀ epoch budget, exec (.constraintRx epoch budget) s
        = .next (s.put { b with gey := { b.gey with partnerB := some (budget, epoch) } }))
    ∧ (∀ r : Recipe, b.follows = true → b.clk.fc ≤ r.frame →
        exec (.recipeRx r) s = .next (s.put (b.setPair (fun p => { p with recipes := p.recipes ++ [r] }))))
    ∧ (∀ x : PairTime, b.joined = true → b.pair.reference = false → x.frame % 8 ≠ 0 →
        exec (.timeFrameRx x) s = .next (s.put (b.setPair (fun p => { p with time := some x }))))
    ∧ (∀ key e, b.pair.role = .standby → exec (.leaseFrameRx key e) s
        = .next (s.put (b.updLease key (fun l => { l with pending := none, adopt := some e }))))
    ∧ (∀ key e, b.pair.role ≠ .standby → exec (.leaseFrameRx key e) s = .next s)
    ∧ (∀ x : AcceptList, exec (.acceptListRx x) s = .next (s.put (b.setPair (fun p => { p with
        other := (({ slot := slotOf x.uf x.phase, entries := x.entries } : PhaseAccepts) :: p.other).take 64 }))))
    ∧ (∀ tenant ring pos epoch slot ext i, b.forwards = true → b.openEpoch ≤ epoch →
        (let p := parseNative tenant ring pos slot ext true
         instrOf p.1 p.2 = some i) →
        exec (.commandFrameRx (.forward tenant ring pos epoch slot ext)) s = .next (s.put ((b.stageAt epoch i).sendLink 0x0A
          ([1] ++ toBe tenant 1 ++ toBe ring 1 ++ toBe pos 4))))
    ∧ (∀ tenant ring pos, b.forwards = true → exec (.commandFrameRx (.ack tenant ring pos)) s
        = .next (s.put (b.setPair (fun p => { p with
            staged := p.staged.filter (fun x => !(x.tenant == tenant && x.ring == ring && x.pos == pos)) }))))
    ∧ (∀ c, b.forwards = false → exec (.commandFrameRx c) s = .next s)
    ∧ (∀ uf phase msgs, b.joined = true → b.pair.reference = false → b.dir.next ≤ slotOf uf phase →
        exec (.dnEndpointRx uf phase msgs) s = .next (s.put (b.setPair (fun p => { p with
          agreedDn := p.agreedDn ++ msgs.map (fun m => (slotOf uf phase, m.1, m.2)) }))))
    ∧ (∀ epoch digest faulted, b.joined = true → (∀ x ∈ b.pair.mine, x.1 ≠ epoch) →
        exec (.digestRx epoch digest faulted) s = .next (s.put (b.setPair (fun p => { p with
          theirs := p.theirs ++ [(epoch, digest.map BitVec.toNat, faulted)] }))))
    ∧ (∀ epoch (digest : List W64) faulted own bad, b.joined = true → b.pair.mine = [(epoch, own, bad)] → b.pair.theirs = [] →
        (∀ d < 8, own.getD d 0 = (digest.map BitVec.toNat).getD d 0) →
        exec (.digestRx epoch digest faulted) s = .next (s.put (((b.setPair (fun p => { p with mine := [], theirs := [] })).count
          0xA4 4 83).setPair (fun p => { p with lastDigest := epoch }))))
    ∧ (∀ tree uf (w : Nat), b.pair.role = .joining →
        let g := b.shadowGrant tree uf w
        b.grantAt tree uf g.start = none → g.forQueue = false →
        exec (.mapFrameRx tree uf [w]) s = .next (s.put { b with gey := { b.gey with grants := b.gey.grants ++ [g] } }))
    ∧ (∀ tree uf ws, b.pair.role ≠ .joining → exec (.mapFrameRx tree uf ws) s = .next s)
    ∧ (b.feeding = false → exec .pageSend s = .next s)
    ∧ (∀ p, b.feeding = true → b.pair.sending = some p → exec .pageSend s
        = .next (s.put ((b.sendPage p.1 p.2).setPair (fun x => { x with sending := pageAfter p }))))
    ∧ (b.feeding = true → b.pair.sending = none → b.pair.joinAt = none → b.pair.shadowFrom + 2 ≤ b.clk.epoch →
        exec .pageSend s = .next (s.put ((b.setPair (fun x => { x with joinAt := some (b.clk.epoch + 2) })).sendLink 0x02
          (toBe (b.clk.epoch + 2) 8))))
    ∧ (∀ item no, b.feeding = true → 1 ≤ item → item ≤ 6 → no < itemPages item →
        exec (.pageReqRx item [no]) s = .next (s.put (b.sendPage item no)))
    ∧ (∀ p : Page, b.pair.role = .joining → b.pair.agreed = true → 1 ≤ p.item → p.no < itemPages p.item →
        (p.item ≤ 4 → p.digest = crc64 0 p.data → (p.item, p.no) ∉ b.pair.installed → b.pair.log = [] →
          let c : Blk := match p.item with
            | 1 => b.installOwners p
            | 2 => b.installTables p
            | 3 => ((Config.pageTerms p.no p.data).filter (fun x => decide (x.1 < 512 * Part.trees b.sys.part))).foldl (fun b x =>
                b.updTerm x.1 (fun y => y.adopt x.2)) b
            | _ => ((Config.pageCarriers p.no p.data).filter (fun x => decide (x.1 < 2 ^ 22))).foldl (fun b x =>
                b.updCarrier x.1 (fun y => y.adopt x.2)) b
          exec (.pageRx p) s = .next (s.put ((c.setPair (fun x => { x with
            installed := x.installed ++ [(p.item, p.no)], pagesDone := x.pagesDone + 1, step := 3 })).count 0xA4 10 83)))
        ∧ (p.item ≤ 6 → p.digest ≠ crc64 0 p.data → (∀ y ∈ b.pair.badPages, y.1 ≠ (p.item, p.no)) →
          exec (.pageRx p) s = .next (s.put ((b.setPair (fun x => { x with
            badPages := ((p.item, p.no), 1) :: b.pair.badPages })).askPage p.item p.no))))
    ∧ (∀ tree offsets, (b.tree tree).mode = .native → (b.tree tree).rxOn = true → offsets.length = 64 →
        (b.pair.role = .joining → exec (.gridAlign tree offsets) s = .next (s.put (b.setPair (fun p => { p with
          offsets := Tab.set 0 p.offsets tree (median offsets) }))))
        ∧ (b.feeding = true → b.wave = true → (b.tree tree).shifting = false → 2 < (median offsets).natAbs →
          (median offsets).natAbs ≤ 256 → exec (.gridAlign tree offsets) s = .next (s.put ((b.setPair (fun p => { p with
            offsets := Tab.set 0 p.offsets tree (median offsets) })).queueCtl tree (.gridShift (-median offsets) 0 3)))))
    ∧ (∀ j, b.gey.snapEpoch = j → b.pair.shadowFrom + 2 ≤ j →
        (b.feeding = true → b.pair.joinAt = some j →
          ∃ t, exec (.joinPoint j) s = .next t ∧ t.pending = s.pending ∧ t.blk.pair.next = some (j + 1, .active)
            ∧ t.blk.pair.role = .alone)
        ∧ (b.pair.role = .joining → b.pair.agreed = true →
          ∃ t, exec (.joinPoint j) s = .next t ∧ t.pending = s.pending ∧ t.blk.pair.next = some (j + 1, .standby)
            ∧ t.blk.pair.joinAt = some j ∧ t.blk.pair.step = 5))

/-- The Tumbler engines: an engine in service runs its cluster's next job under the handler of its stamp; without firmware or
without a valid handler the job fails, and one that is too old is discarded. A job that has ended is written back and counted, and
after a fault it starts again. Reports close and go to their tenant, outage events are gathered, and management messages are sent,
matched and sent again. -/
def Obligations.TumblerJobsRunAndReport : Prop :=
  ∀ s : State, s.blk.sys.phase = .service →
    let b := s.blk
    (∀ engine cw mw ow (j : Job), engine < 272 → b.tele.role 0x09 engine = .serving → b.sys.fwWriting = none →
      b.nextJob (engine / 17) = some j →
      let h := handlerOf (Vers.at [] b.tum.handlers j.stamp) j.svc
      let ended := fun (r : JobEnd) => Blk.engineCycles { b with tum := { b.tum with
        jobs := putJob j (some { j with result := some r }) b.tum.jobs } } engine (fun c => { c with
          cipher := c.cipher + cw, memory := c.memory + mw, output := c.output + ow })
      let runs := stale j.stamp b.clk.epoch = false ∨ j.reruns ≠ 0
      (runs → b.sys.fwReady = false → exec (.handlerJob engine cw mw ow) s = .next (s.put (ended {
        fail := 9, failAction := (handlerHead h).valid && (handlerHead h).failAction, outs := [], counts := [], handler := 0,
        cycles := 0, engine := engine, stamp := b.clk.epoch })))
      ∧ (runs → b.sys.fwReady = true → (handlerHead h).valid = false → exec (.handlerJob engine cw mw ow) s
        = .next (s.put (ended {
          fail := 8, failAction := false, outs := [], counts := [], handler := 0, cycles := 32, engine := engine,
          stamp := b.clk.epoch })))
      ∧ (runs → b.sys.fwReady = true → (handlerHead h).valid = true → (stepOf h 0).op = 0 →
        exec (.handlerJob engine cw mw ow) s = .next (s.put (ended {
          fail := 0, failAction := false, outs := [], counts := [],
          handler := (Tab.get {} b.dir.ctxs j.endpoint).handler % 2 ^ 448, cycles := 33, engine := engine,
          stamp := b.clk.epoch })))
      ∧ (¬ runs → exec (.handlerJob engine cw mw ow) s = .next (s.put ((Blk.stopWaiting { b with tum := { b.tum with
          jobs := putJob j none b.tum.jobs } } j.endpoint).staleDiscard (84 + engine / 17)))))
    ∧ (∀ engine cw mw ow, b.tele.role 0x09 engine ≠ .serving ∨ b.sys.fwWriting.isSome = true ∨ b.nextJob (engine / 17) = none →
      exec (.handlerJob engine cw mw ow) s = .next s)
    ∧ (∀ (j : Job) (rest : List Job) (r : JobEnd), b.tum.jobs = j :: rest → j.result = some r → r.outs = [] → r.counts = [] →
      let at_ := b.jobCluster j.endpoint
      let x := Blk.count { b with tum := { b.tum with jobs := rest } } 0xBD 0 (svcInst j)
      (r.fail ≠ 0 → r.failAction = false → exec (.jobWriteBack at_) s
        = .next (s.put ((x.count 0xBD 1 (svcInst j)).engineCycles r.engine (fun c => { c with failed := c.failed + r.cycles }))))
      ∧ (r.fail = 0 → j.oneSided = false → b.dir.latent = [] → Tab.get 0 b.dir.faults j.endpoint = 0 →
        exec (.jobWriteBack at_) s = .next (s.put
          (((x.countN 0xBD 5 (svcInst j) r.cycles).engineCycles r.engine (fun c => { c with
            retired := c.retired + r.cycles })).writeCtx j.endpoint { Tab.get {} b.dir.ctxs j.endpoint with
              handler := r.handler }))))
    ∧ (∀ cluster, b.tum.jobs = [] → exec (.jobWriteBack cluster) s = .next s)
    ∧ (∀ engine cycles why (j : Job), engine < 272 → b.tele.role 0x09 engine = .serving → b.nextJob (engine / 17) = some j →
      why ≠ .overrun ∨ (handlerHead (handlerOf (Vers.at [] b.tum.handlers j.stamp) j.svc)).worst + 64 < cycles →
      j.reruns < 3 →
      exec (.engineFault engine cycles why) s = .next (s.put
        (((Blk.engineCycles { b with tum := { b.tum with
          jobs := putJob j (some { j with reruns := j.reruns + 1 }) b.tum.jobs } } engine (fun c => { c with
            rerun := c.rerun + cycles })).count 0xBC 0 (engine / 17)).faultEvent 0x09 engine)))
    ∧ (∀ engine cycles why, b.tele.role 0x09 engine ≠ .serving → exec (.engineFault engine cycles why) s = .next s)
    ∧ (∀ (ev : OutEvent) rest, b.dir.events = ev :: rest → b.sys.fwWriting = none →
      let x := { b with dir := { b.dir with events := rest } }
      (b.sys.fwReady = true → exec .outageJob s = .next (s.put (x.gather { ev with cluster := b.serves ev.cluster })))
      ∧ (b.sys.fwReady = false → exec .outageJob s = .next (s.put x)))
    ∧ (b.dir.events = [] → exec .outageJob s = .next s)
    ∧ (∀ tenant cls key (r : Report),
      b.tum.reports.find? (fun r => r.tenant == tenant && r.svc == cls && r.key == key) = some r →
      let n := Tab.get 0 b.tum.seq tenant
      (r.closeAt ≤ b.dir.point →
        (∀ j ∈ b.tum.jobs, j.tenant ≠ tenant ∨ j.svc ≠ cls ∨ 64 * r.closeAt ≤ orderSlot j.order + 1) →
        exec (.reportClose tenant cls key) s = .next (s.put { b with tum := { b.tum with
          seq := Tab.set 0 b.tum.seq tenant ((n + 1) % 65536), reports := b.tum.reports.filter (· != r),
          closed := b.tum.closed ++ [{ r with seq := n, stamp := b.clk.epoch }] } }))
      ∧ (b.dir.point < r.closeAt → exec (.reportClose tenant cls key) s = .next s))
    ∧ (∀ (r : Report) rest, b.tum.closed = r :: rest →
      let h : ServiceHead := {
        kind := 3, tenant := r.tenant, svc := r.svc, key := r.key, count := r.entries.length, seq := r.seq, stamp := r.first }
      let x := Blk.admitFlag { b with tum := { b.tum with closed := rest } } (hostQueue r.tenant 3) {
        data := h.bytes 0 ++ r.entries.flatten, fcsLen := 0, input := 113, tenant := r.tenant, stamp := r.stamp }
      (x.2 = true → exec .reportDeliver s = .next (s.put x.1))
      ∧ (x.2 = false → exec .reportDeliver s = .next (s.put (Blk.count { x.1 with tum := { x.1.tum with
          lost := Tab.upd 0 x.1.tum.lost r.tenant (· + 1) } } 0xB5 0 r.tenant))))
    ∧ (b.tum.closed = [] → exec .reportDeliver s = .next s)
    ∧ (∀ tree, (b.mgmt tree).enable = true → b.sys.fwWriting = none →
      (∀ g ∈ b.tum.uploads, g / 512 ≠ tree) →
      (∀ x, b.sys.fwReady = true → b.tum.sends.find? (fun x => x.1 / 512 == tree) = some x → exec (.managementJob tree) s
        = .next (s.put ((Blk.mgmtTransmit { b with tum := { b.tum with sends := b.tum.sends.erase x } } x.1 x.2.1 x.2.2).count
          0xBC 1 (b.mgmtCluster tree))))
      ∧ (b.tum.sends.find? (fun x => x.1 / 512 == tree) = none → exec (.managementJob tree) s = .next s))
    ∧ (∀ tree, (b.mgmt tree).enable = false → exec (.managementJob tree) s = .next s)
    ∧ (∀ terminal (sdu : List Byte) stamp,
      b.tum.mgmtIn.find? (fun x => x.1 == terminal) = some (terminal, sdu, stamp) →
      let x := { b with tum := { b.tum with mgmtIn := b.tum.mgmtIn.erase (terminal, sdu, stamp) } }
      let msg := sdu.take (sdu.length - 4)
      let l := Tab.get [] b.tum.trans terminal
      let answered := fun (l : List Trans) => Blk.service { x with tum := { x.tum with trans := Tab.set [] b.tum.trans terminal l } }
        b.clk.epoch { kind := 4, tenant := 0, key := terminal, seq := 0, stamp := stamp, tci := beNat (msg.take 2) } msg
      exec (.mgmtMessageRx terminal true) s = .next (s.put (x.checkFail (84 + b.mgmtCluster (terminal / 512))))
      ∧ (stale stamp b.clk.epoch = true →
        exec (.mgmtMessageRx terminal false) s = .next (s.put (x.staleDiscard (84 + b.mgmtCluster (terminal / 512)))))
      ∧ (stale stamp b.clk.epoch = false → (b.mgmt (terminal / 512)).enable = true → b.sys.fwReady = true →
        sdu.drop (sdu.length - 4) = b.mgmtCheck terminal msg →
        (∀ y, l.find? (fun y => y.tci == beNat (msg.take 2)) = some y →
          exec (.mgmtMessageRx terminal false) s = .next (s.put (answered (l.erase y))))
        ∧ (l.find? (fun y => y.tci == beNat (msg.take 2)) = none →
          exec (.mgmtMessageRx terminal false) s = .next (s.put (answered l))))
      ∧ (stale stamp b.clk.epoch = false →
        (b.mgmt (terminal / 512)).enable = false ∨ sdu.drop (sdu.length - 4) ≠ b.mgmtCheck terminal msg →
        exec (.mgmtMessageRx terminal false) s = .next (s.put x)))
    ∧ (∀ terminal fail, b.tum.mgmtIn.find? (fun x => x.1 == terminal) = none → exec (.mgmtMessageRx terminal fail) s = .next s)
    ∧ (∀ tree index (x : Trans), (b.mgmt tree).enable = true → b.sys.fwReady = true →
      Tab.get [] b.tum.trans (gid tree index) = [x] → x.sent + (b.mgmtRetries tree).2 ≤ b.clk.epoch → b.tum.mgmtIn = [] →
      let put := fun (l : List Trans) => { b with tum := { b.tum with trans := Tab.set [] b.tum.trans (gid tree index) l } }
      (x.left = 0 → exec (.mgmtRetry tree index) s = .next (s.put (((put []).service b.clk.epoch {
        kind := 5, tenant := 0, key := gid tree index, seq := 0, stamp := b.clk.epoch, tci := x.tci } []).count 0xBC 3
          (b.mgmtCluster tree))))
      ∧ (x.left ≠ 0 → exec (.mgmtRetry tree index) s
        = .next (s.put (((put [{ x with sent := b.clk.epoch, left := x.left - 1 }]).mgmtTransmit (gid tree index) x.msg
          b.clk.epoch).count 0xBC 2 (b.mgmtCluster tree)))))

/-! ### The opcode commands, by chapter (02 to 15) -/

/-- Commands that read: with the objects readable, each completes with status OK and changes nothing but what its reply brings
about (R33); three do so in Dormant as well. A read that names an earlier epoch reads a version that is kept. What NOP and EPOCH_READ
answer, and the owners that TENANT_QUERY answers. VENT_READ with CONSUME frees the records below its number and no others, and appends
at most LOST records. -/
def Obligations.ReadsAnswerAndChangeNothing : Prop :=
  ∀ (c : Cmd) (s : State),
    let b := s.blk
    let live := b.sys.phase = .service ∨ b.sys.phase = .dormant
    let clean := b.dir.latent = [] ∧ b.dir.faults = [] ∧ b.dir.flowFaults = []
    let mayRange := mayAct c.tenant (b.endpointOwner (epRange c).1) = true
    let now := c.legacy = true ∨ c.word 0 = 0
    (s.Takes Op.nop c → exec (.nop c) s = .next (s.answered Op.nop c b {}))
    ∧ (s.Takes Op.epochRead c → exec (.epochRead c) s
        = .next (s.answered Op.epochRead c b (Res.words [b.clk.epoch % 2 ^ 64, (b.clk.epoch + 1) % 2 ^ 64])))
    ∧ (s.Takes (Op.tenantQuery b.sys.part) c → exec (.tenantQuery c) s = .next (s.answered (Op.tenantQuery b.sys.part) c b {
        ext := (List.range (c.f 1 31 0)).map (fun i => BitVec.ofNat 8
          (if c.tenant = 0 ∨ c.tenant = b.objectOwner (c.f 0 63 56) (c.f 0 47 0 + i)
            then b.objectOwner (c.f 0 63 56) (c.f 0 47 0 + i) else 0xFF)) }))
    ∧ (live → b.acceptCheck Op.capsQuery c = none → (applyCapsQuery c b).2.st = .ok
      ∧ exec (.capsQuery c) s = .next (s.answered Op.capsQuery c b (applyCapsQuery c b).2))
    ∧ (live → b.acceptCheck Op.deviceStatus c = none → (applyDeviceStatus c b).2.st = .ok
      ∧ exec (.deviceStatus c) s = .next (s.answered Op.deviceStatus c b (applyDeviceStatus c b).2))
    ∧ (s.Takes Op.treeStatus c → (applyTreeStatus c b).2.st = .ok
      ∧ exec (.treeStatus c) s = .next (s.answered Op.treeStatus c b (applyTreeStatus c b).2))
    ∧ (s.Takes Op.rangeRead c → (applyRangeRead c b).2.st = .ok
      ∧ exec (.rangeRead c) s = .next (s.answered Op.rangeRead c b (applyRangeRead c b).2))
    ∧ (s.Takes Op.accountRead c → (applyAccountRead c b).2.st = .ok
      ∧ exec (.accountRead c) s = .next (s.answered Op.accountRead c b (applyAccountRead c b).2))
    ∧ (s.Takes Op.wearRead c → (applyWearRead c b).2.st = .ok
      ∧ exec (.wearRead c) s = .next (s.answered Op.wearRead c b (applyWearRead c b).2))
    ∧ (s.Takes Op.timeRead c → (applyTimeRead c b).2.st = .ok
      ∧ exec (.timeRead c) s = .next (s.answered Op.timeRead c b (applyTimeRead c b).2))
    ∧ (s.Takes Op.pairStatus c → (applyPairStatus c b).2.st = .ok
      ∧ exec (.pairStatus c) s = .next (s.answered Op.pairStatus c b (applyPairStatus c b).2))
    ∧ (s.Takes Op.engineStatus c → (applyEngineStatus c b).2.st = .ok
      ∧ exec (.engineStatus c) s = .next (s.answered Op.engineStatus c b (applyEngineStatus c b).2))
    ∧ (s.Takes Op.engineCounterRead c → c.tenant = 0 ∨ c.tenant = c.f 0 63 57 → (applyEngineCounterRead c b).2.st = .ok
      ∧ exec (.engineCounterRead c) s = .next (s.answered Op.engineCounterRead c b (applyEngineCounterRead c b).2))
    ∧ (s.Takes Op.counterRead c → b.ctrRefused (ctrIn c) c.tenant = none → (applyCounterRead c b).2.st = .ok
      ∧ exec (.counterRead c) s = .next (s.answered Op.counterRead c b (applyCounterRead c b).2))
    ∧ (s.Takes Op.binRead c → b.ctrRefused (ctrIn c) c.tenant = none → (applyBinRead c b).2.st = .ok
      ∧ exec (.binRead c) s = .next (s.answered Op.binRead c b (applyBinRead c b).2))
    ∧ (s.Takes Op.gqRead c → now ∨ (c.word 0 ≤ b.clk.epoch ∧ (Vers.kept b.gey.cfg (c.word 0)).isSome = true) →
      (applyGqRead c b).2.st = .ok
      ∧ exec (.gqRead c) s = .next (s.answered Op.gqRead c b (applyGqRead c b).2))
    ∧ (s.Takes Op.parseNodeRead c → now ∨ (c.word 0 ≤ b.clk.epoch ∧ (Vers.kept b.cls.cfg (c.word 0)).isSome = true) →
      (applyParseNodeRead c b).2.st = .ok
      ∧ exec (.parseNodeRead c) s = .next (s.answered Op.parseNodeRead c b (applyParseNodeRead c b).2))
    ∧ (s.Takes Op.ruleRead c → now ∨ (c.word 0 ≤ b.clk.epoch ∧ (Vers.kept b.cls.cfg (c.word 0)).isSome = true) →
      (applyRuleRead c b).2.st = .ok
      ∧ exec (.ruleRead c) s = .next (s.answered Op.ruleRead c b (applyRuleRead c b).2))
    ∧ (s.Takes Op.handlerRead c → now ∨ (c.word 0 ≤ b.clk.epoch ∧ (Vers.kept b.tum.handlers (c.word 0)).isSome = true) →
      (applyHandlerRead c b).2.st = .ok
      ∧ exec (.handlerRead c) s = .next (s.answered Op.handlerRead c b (applyHandlerRead c b).2))
    ∧ (s.Takes Op.epRead c → clean → mayRange → (applyEpRead c b).2.st = .ok
      ∧ exec (.epRead c) s = .next (s.answered Op.epRead c b (applyEpRead c b).2))
    ∧ (s.Takes Op.checkSave c → clean → mayRange → (applyCheckSave c b).2.st = .ok
      ∧ exec (.checkSave c) s = .next (s.answered Op.checkSave c b (applyCheckSave c b).2))
    ∧ (s.Takes Op.flowRead c → clean → b.flowsOwned c = true → (applyFlowRead c b).2.st = .ok
      ∧ exec (.flowRead c) s = .next (s.answered Op.flowRead c b (applyFlowRead c b).2))
    ∧ (s.Takes Op.nonceQuery c → clean →
      (c.f 0 63 62 = 0 → mayAct c.tenant (b.endpointOwner (c.f 1 63 39)) = true) →
      (c.f 0 63 62 ≠ 0 → mayAct c.tenant (b.carrierOwner (c.f 1 63 42)) = true) →
      (applyNonceQuery c b).2.st = .ok
      ∧ exec (.nonceQuery c) s = .next (s.answered Op.nonceQuery c b (applyNonceQuery c b).2))
    ∧ (live → b.acceptCheck Op.ventRead c = none → c.b 1 47 = false → (applyVentRead c b).2.st = .ok
      ∧ exec (.ventRead c) s = .next (s.answered Op.ventRead c b (applyVentRead c b).2))
    ∧ (live → b.acceptCheck Op.ventRead c = none → c.b 1 47 = true → c.tenant = 0 → b.tele.losses = [] →
      (applyVentRead c b).2.st = .ok
      ∧ exec (.ventRead c) s = .next (s.answered Op.ventRead c { b with tele := { b.tele with
          vent := b.tele.vent.filter (fun x => decide (c.word 0 ≤ x.seq)) } } (applyVentRead c b).2))

/-- The commands of the trees and of the ranging controller, on a command that its unit takes. -/
def Obligations.TreesAndTerminalsAreConfigured : Prop :=
  ∀ (c : Cmd) (s : State),
    let b := s.blk
    let t := c.unit % 4096
    let x := b.tree t
    (s.Takes Op.treeConfig c → (x.txOn = true → c.b 0 63 = true) → (x.rxOn = true → c.b 0 62 = true) →
      b.treeConfigBad c = none → Tab.wf {} b.trees = true →
      ∃ y : Tree, exec (.treeConfig c) s = .next (s.answered Op.treeConfig c ((b.updTree t (fun _ => y)).driveTx t) {})
        ∧ y.txOn = c.b 0 63 ∧ y.rxOn = c.b 0 62 ∧ y.mapLead = c.f 0 61 59 ∧ y.tag = c.f 0 31 0 ∧ y.mode = x.mode ∧ y.disc = x.disc
        ∧ y.rxSince = (if c.b 0 62 = x.rxOn then x.rxSince else 8 * b.clk.epoch)
        ∧ y.skewState = (if c.b 0 62 = true ∧ x.rxOn = false ∧ b.chipB = true then .acquiring else x.skewState))
    ∧ (s.Takes Op.treeConfig c → c.f 0 61 59 < leadMin x.discNow.reachMax →
      exec (.treeConfig c) s = .next (s.answered Op.treeConfig c b (Res.badField 0 59)))
    ∧ (s.Takes Op.treeConfig c → x.rxOn = true → c.b 0 62 = false → b.treeConfigBad c = none → Tab.wf {} b.terms = true →
      ∃ y : Blk, exec (.treeConfig c) s = .next (s.answered Op.treeConfig c y {})
        ∧ ∀ i < 512, (y.term (gid t i)).state = .free ∨ (y.term (gid t i)).state = .provisioned)
    ∧ (s.Takes Op.defectConfig c → exec (.defectConfig c) s = .next (s.answered Op.defectConfig c (b.updTree t (fun x => { x with
        defects := {
          losSet := c.f 0 63 60, losClr := c.f 0 59 56, lobSet := c.f 0 55 52, lobClr := c.f 0 51 48, lcdSet := c.f 0 47 44,
          lcdClr := c.f 0 43 40, sfSet := c.f 0 39 36, sfClr := c.f 0 35 30, sdExp := c.f 0 29 26, sdWin := c.f 0 25 20 } })) {}))
    ∧ (s.Takes Op.circuitAisConfig c →
      let flow := c.f 0 63 42
      let x := b.tree (flowTree flow)
      let old := Tab.get none x.circuits (flow % 65536)
      let due := periodEnd (2 ^ (if x.mode = .native then c.f 0 39 37 else max 3 (c.f 0 39 37))) (64 * b.clk.epoch)
      let set := fun (up dn : CircuitDir) =>
        b.updTree (flowTree flow) (fun x => { x with circuits := Tab.set none x.circuits (flow % 65536) (some {
          dir := c.f 0 41 40, periodLog2 := c.f 0 39 37, offset := c.f 0 36 29, aisSet := c.f 0 28 25,
          aisClr := c.f 0 24 19, up := up, dn := dn }) })
      (c.f 0 41 40 = 0 → exec (.circuitAisConfig c) s = .next (s.answered Op.circuitAisConfig c
        (b.updTree (flowTree flow) (fun x => { x with circuits := Tab.set none x.circuits (flow % 65536) none })) {}))
      ∧ (c.f 0 41 40 ≠ 0 → x.mode = .native ∨ 3 ≤ c.f 0 39 37 → old = none → x.circuits.length < 256 →
        exec (.circuitAisConfig c) s = .next (s.answered Op.circuitAisConfig c (set { due := due } { due := due }) {}))
      ∧ (∀ k : Circuit, c.f 0 41 40 ≠ 0 → x.mode = .native ∨ 3 ≤ c.f 0 39 37 → old = some k →
        exec (.circuitAisConfig c) s = .next (s.answered Op.circuitAisConfig c (set
          { saved := k.up.saved, due := due, ais := k.up.ais && bit (c.f 0 41 40) 0 }
          { saved := k.dn.saved, due := due, ais := k.dn.ais && bit (c.f 0 41 40) 1 }) {}))
      ∧ (c.f 0 41 40 ≠ 0 → x.mode = .native ∨ 3 ≤ c.f 0 39 37 → old = none → 256 ≤ x.circuits.length →
        exec (.circuitAisConfig c) s = .next (s.answered Op.circuitAisConfig c b (Res.err .noSpace)))
      ∧ (c.f 0 41 40 ≠ 0 → x.mode ≠ .native → c.f 0 39 37 < 3 →
        exec (.circuitAisConfig c) s = .next (s.answered Op.circuitAisConfig c b (Res.badField 0 37))))
    ∧ (s.Takes Op.treeSetMode c → Tab.wf {} b.trees = true → Tab.wf {} b.terms = true →
      (x.txOn = false → x.rxOn = false → (∀ i < 512, (b.term (gid t i)).state ≠ .active) →
        (c.f 0 63 62 = 0 ∨ ∀ q ∈ b.geyCfg.standing t, 4 ≤ q.2.lbLog2) →
        ∃ y : Blk, exec (.treeSetMode c) s = .next (s.answered Op.treeSetMode c y {})
          ∧ (y.tree t).mode = (if c.f 0 63 62 = 0 then .native else if c.f 0 63 62 = 1 then .fiftyG else .xgs)
          ∧ (y.tree t).los = false ∧ (y.tree t).protect = x.protect ∧ (y.tree t).disc = x.disc ∧ (∀ u, u ≠ t → y.tree u = b.tree u)
          ∧ ∀ i < 512, y.term (gid t i) = (b.term (gid t i)).cleared)
      ∧ (x.txOn = true ∨ x.rxOn = true →
        exec (.treeSetMode c) s = .next (s.answered Op.treeSetMode c b (Res.badField 0 62))))
    ∧ (s.Takes Op.treeProtectConfig c →
      let scheme := c.f 0 63 62
      let peer := c.f 0 61 56
      let kept := fun (x : Tree) => x.protect.scheme = scheme ∧ x.protect.peer = peer
      (x.mode ≠ .native → (scheme = 1 → b.joined = true) → (scheme = 2 → (b.tree peer).mode = x.mode) →
        exec (.treeProtectConfig c) s = .next (s.answered Op.treeProtectConfig c (((b.updTree t (fun x => { x with
            protect := {
              scheme := scheme, peer := peer, prefer := c.f 0 55 55, revert := c.b 0 54, holdOff := c.f 0 53 47,
              force := c.f 0 46 45, txWait := c.f 0 44 40 },
            transmits := if scheme = 0 then true else if kept x then x.transmits else c.f 0 55 55 == 0,
            holdFrom := if kept x then x.holdFrom else none, waitFrom := if kept x then x.waitFrom else none })).driveTx t).judgeSide t) {}))
      ∧ (x.mode ≠ .native → scheme = 1 → b.joined = false →
        exec (.treeProtectConfig c) s = .next (s.answered Op.treeProtectConfig c b (Res.badField 0 62)))
      ∧ (x.mode ≠ .native → scheme = 2 → (b.tree peer).mode ≠ x.mode →
        exec (.treeProtectConfig c) s = .next (s.answered Op.treeProtectConfig c b (Res.badField 0 56)))
      ∧ (x.mode = .native → exec (.treeProtectConfig c) s
        = .next (s.answered Op.treeProtectConfig c b (Res.err .badParam 0))))
    ∧ (s.Takes Op.discoveryConfig c → leadMin (c.f 0 40 29) ≤ x.mapLead →
      x.mode = .native ∨ c.f 0 40 29 ≤ c.f 0 52 41 + 200 →
      exec (.discoveryConfig c) s = .next (s.answered Op.discoveryConfig c (b.updTree t (fun x => { x with
        disc := Vers.write {} x.disc b.clk.epoch (fun _ => {
          every := c.f 0 63 56, winPhase := c.f 0 55 53, reachMin := c.f 0 52 41, reachMax := c.f 0 40 29,
          probeTarget := c.f 0 28 21, dnLaunch := c.f 0 20 13, maxAck := c.f 0 12 10, auto := c.b 0 9 }) })) {}))
    ∧ (s.Takes Op.discoveryConfig c → x.mapLead < leadMin (c.f 0 40 29) →
      exec (.discoveryConfig c) s = .next (s.answered Op.discoveryConfig c b (Res.badField 0 29)))
    ∧ (s.Takes Op.terminalActivate c →
      let i := c.f 1 63 55
      (∀ k < 512, (b.term (gid t k)).serial ≠ c.word 0) → (b.term (gid t i)).state = .free →
      exec (.terminalActivate c) s = .next (s.answered Op.terminalActivate c
        (b.updTerm (gid t i) (fun y => { y with state := .provisioned, serial := c.word 0 })) {}))
    ∧ (s.Takes Op.terminalActivate c →
      let y := b.term (gid t (c.f 1 63 55))
      y.state = .provisioned → y.serial = c.word 0 → (∀ k < 512, (b.term (gid t k)).serial = c.word 0 → k = c.f 1 63 55) →
      exec (.terminalActivate c) s = .next (s.answered Op.terminalActivate c b {}))
    ∧ (s.Takes Op.terminalActivate c →
      ∀ p, b.findSerial t (c.word 0) [.held] = some p → (b.term (gid t (c.f 1 63 55))).state = .free →
      (∀ k < 512, (b.term (gid t k)).serial = c.word 0 → k = p ∨ k = c.f 1 63 55) →
      exec (.terminalActivate c) s
        = .next (s.answered Op.terminalActivate c (b.startActivate t (c.f 1 63 55) p (c.word 0)) {}))
    ∧ (s.Takes Op.terminalDeactivate c →
      let i := c.f 0 63 55
      ((b.term (gid t i)).state ≠ .free → Tab.wf {} b.terms = true →
        ∃ y : Blk, exec (.terminalDeactivate c) s = .next (s.answered Op.terminalDeactivate c y {})
          ∧ (y.term (gid t i)).state = (if c.b 0 54 = true then .free else .provisioned)
          ∧ (∀ g, g ≠ gid t i → y.term g = b.term g))
      ∧ ((b.term (gid t i)).state = .free →
        exec (.terminalDeactivate c) s = .next (s.answered Op.terminalDeactivate c b (Res.badField 0 55))))
    ∧ (s.Takes Op.skewConfig c → exec (.skewConfig c) s = .next (s.answered Op.skewConfig c (b.updTree t (fun x => { x with
        skew := {
          initSkew := signed (c.f 0 63 40) 24, initValid := c.b 0 39, dnDisp := signed (c.f 0 38 27) 12,
          rstPos := c.f 0 26 21, rstWidth := c.f 0 20 16, rssiEvery := c.f 0 15 6 } })) {}))

/-- The commands of Geyser and of the Caldera directory, on a command that its unit takes. -/
def Obligations.GeyserAndDirectoryAreConfigured : Prop :=
  ∀ (c : Cmd) (s : State),
    let b := s.blk
    let tables := fun (y : Blk) => y = { b with dir := y.dir }
    let set := fun (f : GeyCfg → GeyCfg) => { b with gey := { b.gey with cfg := Vers.write {} b.gey.cfg b.clk.epoch f } }
    let clean := b.dir.latent = [] ∧ b.dir.faults = [] ∧ b.dir.flowFaults = []
    let mayRange := mayAct c.tenant (b.endpointOwner (epRange c).1) = true
    let ep := fun (i : Nat) => (epRange c).1 + i
    (s.Takes Op.gqConfig c →
      let q := c.f 0 61 45
      let old := b.geyCfg.queue q
      let new := queueCfgOf c
      let cfg : GeyCfg := { b.geyCfg with queues := Tab.set none b.geyCfg.queues q (some new) }
      ((q % 4 = 1 → new.enable = true → new.lbLog2 < 4 → (b.tree (queueTree q)).mode = .native) →
        c.tenant = 0 ∨ (c.tenant = b.queueOwner q ∧ new = { old with weight := new.weight, maxRate := new.maxRate }
          ∧ new.weight ≤ old.weightCap ∧ (old.rateCap = 0 ∨ (new.maxRate ≠ 0 ∧ new.maxRate ≤ old.rateCap))) →
        (b.geyOk cfg (queueTree q) = true → exec (.gqConfig c) s = .next (s.answered Op.gqConfig c (set (fun _ => cfg)) {}))
        ∧ (b.geyOk cfg (queueTree q) = false → exec (.gqConfig c) s = .next (s.answered Op.gqConfig c b (Res.err .noSpace))))
      ∧ (c.tenant ≠ 0 → c.tenant ≠ b.queueOwner q →
        exec (.gqConfig c) s = .next (s.answered Op.gqConfig c b Res.deniedObject)))
    ∧ (s.Takes Op.gqConfigTree c → c.tenant = 0 →
      let cfg : GeyCfg := { b.geyCfg with trees := Tab.set {} b.geyCfg.trees (c.f 0 61 56) {
        planEff := c.f 0 55 46, entryReserve := c.f 0 45 34, poolMax := c.f 0 33 22 } }
      b.reserves cfg ≤ 32768 → b.geyOk cfg (c.f 0 61 56) = true →
      exec (.gqConfigTree c) s = .next (s.answered Op.gqConfigTree c (set (fun _ => cfg)) {}))
    ∧ (s.Takes Op.gqConfigDevice c → c.tenant = 0 → exec (.gqConfigDevice c) s
      = .next (s.answered Op.gqConfigDevice c
          (set (fun x => { x with upShare := c.f 0 61 53, upCellLimit := c.f 0 52 33 })) {}))
    ∧ (s.Takes Op.circuitReserve c →
      let id := c.f 0 63 50
      let q := c.f 0 49 33
      let x := b.tree (queueTree q)
      let k := c.f 0 32 30
      let off := c.f 0 29 24
      let fp := guardLen + c.f 0 23 7
      let rivals := ((b.geyCfg.treeResv (queueTree q)).filter (fun r => patternsMeet k off r.2.periodLog2 r.2.phaseOff)).map Prod.snd
      let cfg := fun (o : Nat) => ({ b.geyCfg with resv := Tab.set none b.geyCfg.resv id (some {
        queue := q, periodLog2 := k, phaseOff := off, length := c.f 0 23 7, rpt := c.b 0 6, offset := o }) } : GeyCfg)
      let fits := fun (o : Nat) => ((cfg o).treeResv (queueTree q)).length ≤ 512 ∧ (cfg o).resv.length ≤ 16384
        ∧ (cfg o).limitsOk x.mode (queueTree q) x.mapLead x.discNow.winPhase = true
      let place := fun (o : Nat) => if c.b 1 46 = true then highestOffset (phaseLen x.mode) fp rivals = some o
        else c.f 1 63 47 = o ∧ offsetFree (phaseLen x.mode) fp rivals o = true
      (∀ o, Tab.get none b.geyCfg.resv id = none → x.mode = .native ∨ 3 ≤ k → place o →
        (fits o → exec (.circuitReserve c) s = .next (s.answered Op.circuitReserve c (set (fun _ => cfg o))
          (Res.words [pack [(o, 47)], firstFrame k off (8 * b.clk.epoch + 2 + x.mapLead) % 2 ^ 64])))
        ∧ (¬ fits o → exec (.circuitReserve c) s = .next (s.answered Op.circuitReserve c b (Res.err .noSpace))))
      ∧ (Tab.get none b.geyCfg.resv id = none → x.mode = .native ∨ 3 ≤ k → (∀ o, ¬ place o) →
        exec (.circuitReserve c) s = .next (s.answered Op.circuitReserve c b (Res.err .noSpace)))
      ∧ ((Tab.get none b.geyCfg.resv id).isSome = true →
        exec (.circuitReserve c) s = .next (s.answered Op.circuitReserve c b (Res.badField 0 50))))
    ∧ (s.Takes Op.circuitRelease c →
      ((Tab.get none b.geyCfg.resv (c.f 0 63 50)).isSome = true → exec (.circuitRelease c) s
        = .next (s.answered Op.circuitRelease c
          (set (fun x => { x with resv := Tab.set none x.resv (c.f 0 63 50) none })) {}))
      ∧ (Tab.get none b.geyCfg.resv (c.f 0 63 50) = none →
        exec (.circuitRelease c) s = .next (s.answered Op.circuitRelease c b (Res.badField 0 50))))
    ∧ (s.Takes Op.epWrite c → mayRange → c.b 0 25 = true ∨ clean → b.pair.unsyncedFrom = none → Tab.wf {} b.dir.ctxs = true →
      ∃ y : Blk, exec (.epWrite c) s = .next (s.answered Op.epWrite c y {}) ∧ tables y
        ∧ (∀ e, (∀ i < (epRange c).2, e ≠ ep i) → Tab.get {} y.dir.ctxs e = Tab.get {} b.dir.ctxs e)
        ∧ ∀ i < (epRange c).2,
          let old := Tab.get {} b.dir.ctxs (ep i)
          let new := Ctx.ofWords ((List.range 32).map (fun k => leWord c.ext (32 * i + k)))
          let x := Tab.get {} y.dir.ctxs (ep i)
          (c.b 0 24 = true → x.valid = new.valid ∧ x.svc = new.svc ∧ x.prot = new.prot ∧ x.poly = new.poly
            ∧ x.aliveEn = new.aliveEn ∧ x.outageEn = new.outageEn)
          ∧ (c.b 0 24 = false → c.b 0 25 = false → x.valid = old.valid ∧ x.svc = old.svc ∧ x.poly = old.poly
            ∧ x.keyLoaded = old.keyLoaded ∧ x.bound = old.bound ∧ x.checkValue = old.checkValue)
          ∧ (c.b 0 25 = true → x.bound = false ∧ x.keyLoaded = false ∧ x.txCounter = 0 ∧ x.checkValue = checkInit x.poly)
          ∧ (c.b 0 23 = true → x.handler = new.handler) ∧ (c.b 0 22 = true → x.host = new.host))
    ∧ (s.Takes Op.epBind c → mayAct c.tenant (b.endpointOwner (c.f 0 63 39)) = true → clean → Tab.wf {} b.dir.ctxs = true →
      let e := c.f 0 63 39
      let x := Tab.get {} b.dir.ctxs e
      let g := c.f 0 38 24
      (x.valid = true → (Tab.get {} b.swCfg.carriers (g / 512 * 65536 + c.f 0 23 8)).purpose = 2 →
        ∃ y : Blk, exec (.epBind c) s = .next (s.answered Op.epBind c y {}) ∧ tables y
          ∧ Tab.get {} y.dir.ctxs e = { x with
              bound := true, terminal := g, carrier := c.f 0 23 8, lastSeen := b.clk.epoch, stale := false,
              isStatic := c.b 0 7, candTerminal := 0, candCarrier := 0, candCount := 0, candFirst := 0 }
          ∧ ∀ k, k ≠ e → Tab.get {} y.dir.ctxs k = Tab.get {} b.dir.ctxs k)
      ∧ (x.valid = false → (Tab.get {} b.swCfg.carriers (g / 512 * 65536 + c.f 0 23 8)).purpose = 2 →
        exec (.epBind c) s = .next (s.answered Op.epBind c b (Res.badField 0 39))))
    ∧ (s.Takes Op.epUnbind c → mayRange → clean → Tab.wf {} b.dir.ctxs = true →
      ∃ y : Blk, exec (.epUnbind c) s = .next (s.answered Op.epUnbind c y {}) ∧ tables y
        ∧ (∀ i < (epRange c).2, Tab.get {} y.dir.ctxs (ep i) = { Tab.get {} b.dir.ctxs (ep i) with
            bound := false, isStatic := false, stale := false, gasped := false, candTerminal := 0, candCarrier := 0,
            candCount := 0, candFirst := 0 })
        ∧ ∀ e, (∀ i < (epRange c).2, e ≠ ep i) → Tab.get {} y.dir.ctxs e = Tab.get {} b.dir.ctxs e)
    ∧ (s.Takes Op.agingConfig c →
      let t := c.f 0 63 32
      let n := b.clk.epoch
      let start := if t = 0 then n else ceilDiv n t * t
      exec (.agingConfig c) s = .next (s.answered Op.agingConfig c { b with dir := b.dir.setAge t n } {})
      ∧ (b.dir.setAge t n).ageT = t ∧ (t = b.dir.ageT → b.dir.setAge t n = b.dir)
      ∧ (t ≠ b.dir.ageT → (∀ m, start ≤ m → (b.dir.setAge t n).ageAt m = t)
        ∧ (b.dir.ages.Pairwise (fun x y => y.1 < x.1) → ∀ m, n ≤ m → m < start → (b.dir.setAge t n).ageAt m = b.dir.ageAt m)))
    ∧ (s.Takes Op.outageConfig c →
      let set := fun (y : Blk) => { y with dir := { y.dir with outEnable := c.b 0 63, agedNotice := c.b 0 62, window := c.f 0 61 46 } }
      (b.dir.outEnable = false ∨ c.b 0 63 = true →
        exec (.outageConfig c) s = .next (s.answered Op.outageConfig c (set b) {}))
      ∧ (b.dir.outEnable = true → c.b 0 63 = false →
        ∃ y : Blk, exec (.outageConfig c) s = .next (s.answered Op.outageConfig c (set y) {})
          ∧ y.dir.open_ = [] ∧ y.dir.events = []
          ∧ (b.dir.events = [] → tables y ∧ y.dir.closed.length = b.dir.closed.length + b.dir.open_.length)))
    ∧ (s.Takes Op.flowWrite c → b.flowsOwned c = true → c.b 0 28 = true ∨ clean → Tab.wf {} b.dir.flows = true →
      ∃ y : Blk, exec (.flowWrite c) s = .next (s.answered Op.flowWrite c y {}) ∧ y = { b with dir := y.dir, trees := y.trees }
        ∧ (∀ i < c.f 0 41 29,
          let x := Tab.get {} y.dir.flows (c.f 0 63 42 + i)
          x.host = leWord c.ext (8 * i + 6) + leWord c.ext (8 * i + 7) * 2 ^ 64
          ∧ (c.b 0 28 = false → x = { Tab.get {} b.dir.flows (c.f 0 63 42 + i) with host := x.host })
          ∧ (c.b 0 28 = true → (b.cipherNow (c.f 0 63 42 + i)).mode = 0 → x = { host := x.host })
          ∧ (c.b 0 28 = true → (b.cipherNow (c.f 0 63 42 + i)).mode ≠ 0 →
            let old := Tab.get {} b.dir.flows (c.f 0 63 42 + i)
            x = { host := x.host, dnCounter := old.dnCounter, dnKeyGen := old.dnKeyGen, dnSlot := old.dnSlot }))
        ∧ (c.b 0 28 = false → y.trees = b.trees)
        ∧ ∀ f, (∀ i < c.f 0 41 29, f ≠ c.f 0 63 42 + i) → Tab.get {} y.dir.flows f = Tab.get {} b.dir.flows f)

/-- The commands of the classification tables and of the switch core, on a command that its unit takes. -/
def Obligations.ClassifierAndSwitchAreConfigured : Prop :=
  ∀ (c : Cmd) (s : State),
    let b := s.blk
    let written := fun (f : SwCfg → SwCfg) => { b with sw := { b.sw with cfg := Vers.write {} b.sw.cfg b.clk.epoch f } }
    let tables := fun (y : Blk) => y = { b with cls := { b.cls with cfg := y.cls.cfg } }
    (s.Takes Op.parseNodeWrite c → Tab.wf [] (b.clsCfg.side (sideOf c)).nodes = true →
      ∃ y : Blk, exec (.parseNodeWrite c) s = .next (s.answered Op.parseNodeWrite c y {}) ∧ tables y
        ∧ (∀ i < c.f 0 56 49, Tab.get [] (y.clsCfg.side (sideOf c)).nodes (c.f 0 63 57 + i)
            = (if (nodeWords c.ext i).all (· == 0) = true then [] else nodeWords c.ext i))
        ∧ (∀ k, k < c.f 0 63 57 ∨ c.f 0 63 57 + c.f 0 56 49 ≤ k →
            Tab.get [] (y.clsCfg.side (sideOf c)).nodes k = Tab.get [] (b.clsCfg.side (sideOf c)).nodes k)
        ∧ y.clsCfg.rules = b.clsCfg.rules)
    ∧ (s.Takes Op.ruleWrite c → mayAct c.tenant (b.ruleOwner (c.f 0 63 48)) = true →
      c.tenant = 0 ∨ (∀ i < c.f 0 47 39, ruleDenied b c.tenant (ruleOf c.ext i) = false) → Tab.wf {} b.clsCfg.rules = true →
      ∃ y : Blk, exec (.ruleWrite c) s = .next (s.answered Op.ruleWrite c y {}) ∧ tables y
        ∧ (∀ i < c.f 0 47 39, Tab.get {} y.clsCfg.rules (c.f 0 63 48 + i) = ruleOf c.ext i)
        ∧ (∀ k, k < c.f 0 63 48 ∨ c.f 0 63 48 + c.f 0 47 39 ≤ k →
            Tab.get {} y.clsCfg.rules k = Tab.get {} b.clsCfg.rules k)
        ∧ y.clsCfg.tree = b.clsCfg.tree ∧ y.clsCfg.up = b.clsCfg.up)
    ∧ (s.Takes Op.ruleWrite c → mayAct c.tenant (b.ruleOwner (c.f 0 63 48)) = false →
      exec (.ruleWrite c) s = .next (s.answered Op.ruleWrite c b Res.deniedObject))
    ∧ (s.Takes Op.hashConfig c → Tab.wf {} (b.clsCfg.side (sideOf c)).hashes = true →
      ∃ y : Blk, exec (.hashConfig c) s = .next (s.answered Op.hashConfig c y {}) ∧ tables y
        ∧ Tab.get {} (y.clsCfg.side (sideOf c)).hashes (c.f 0 63 60) = { sel := c.f 0 59 12, seed := c.f 1 63 32 }
        ∧ ∀ k, k ≠ c.f 0 63 60 →
          Tab.get {} (y.clsCfg.side (sideOf c)).hashes k = Tab.get {} (b.clsCfg.side (sideOf c)).hashes k)
    ∧ (s.Takes Op.indirectionWrite c → Tab.wf 0 (b.clsCfg.side (sideOf c)).ind = true →
      let base := c.f 0 63 58 * 512 + c.f 0 57 49
      ∃ y : Blk, exec (.indirectionWrite c) s = .next (s.answered Op.indirectionWrite c y {}) ∧ tables y
        ∧ (∀ i < c.f 0 48 39, Tab.get 0 (y.clsCfg.side (sideOf c)).ind (base + i) = leNat ((c.ext.drop (4 * i)).take 4))
        ∧ ∀ k, k < base ∨ base + c.f 0 48 39 ≤ k →
          Tab.get 0 (y.clsCfg.side (sideOf c)).ind k = Tab.get 0 (b.clsCfg.side (sideOf c)).ind k)
    ∧ (s.Takes Op.exceptionConfig c → exec (.exceptionConfig c) s = .next (s.answered Op.exceptionConfig c
        { b with cls := { b.cls with cfg := Vers.write {} b.cls.cfg b.clk.epoch (fun x => { x with
          exc := Tab.set {} x.exc (c.f 0 63 57) {
            treeMiss := c.b 0 56, upMiss := c.b 0 55, rate := c.f 0 54 39, snap := c.f 0 38 31 } }) } } {}))
    ∧ (s.Takes Op.portConfigPort c → Tab.wf 0 b.sw.modes = true → Tab.wf {} b.sw.subs = true →
      let p := c.unit % 4096 / 8
      (Tab.get 0 b.sw.modes p = c.f 0 61 60 →
        exec (.portConfigPort c) s = .next (s.answered Op.portConfigPort c b {}))
      ∧ (Tab.get 0 b.sw.modes p ≠ c.f 0 61 60 →
        ∃ y : Blk, exec (.portConfigPort c) s = .next (s.answered Op.portConfigPort c y {})
          ∧ Tab.get 0 y.sw.modes p = c.f 0 61 60
          ∧ ∀ i < 8, (y.sub (8 * p + i)).enable = false ∧ (y.sub (8 * p + i)).up = false))
    ∧ (s.Takes Op.portConfigSubPort c →
      let k := c.unit % 4096
      let set := fun (x : Blk) => x.updSub k (fun p => { p with
        enable := c.b 0 61, ct := c.b 0 60, maxFrame := c.f 0 59 46, fc := c.f 0 45 44, push := c.b 0 43,
        stag := c.b 0 42, vid := c.f 0 41 30, defClass := c.f 0 29 27 })
      (b.subFormed k = true →
        (c.b 0 61 = true → exec (.portConfigSubPort c) s = .next (s.answered Op.portConfigSubPort c (set b) {}))
        ∧ (c.b 0 61 = false → exec (.portConfigSubPort c) s = .next (s.answered Op.portConfigSubPort c (set (b.subDown k)) {})))
      ∧ (b.subFormed k = false →
        exec (.portConfigSubPort c) s = .next (s.answered Op.portConfigSubPort c b (Res.err .badParam 0))))
    ∧ (s.Takes Op.portConfigHost c → Tab.wf {} b.sw.rings = true →
      ∃ y : Blk, exec (.portConfigHost c) s = .next (s.answered Op.portConfigHost c y {})
        ∧ y = { b with sw := { b.sw with rings := y.sw.rings } }
        ∧ (∀ k, k ≠ c.f 0 61 55 → y.ring k = b.ring k)
        ∧ (let r := y.ring (c.f 0 61 55)
           let old := b.ring (c.f 0 61 55)
           r.enable = c.b 0 54 ∧ r.size = c.f 0 53 49 ∧ r.weight = c.f 0 48 41 ∧ r.base = c.word 1
           ∧ r.pos = (if old.enable = true ∧ c.b 0 54 = true ∧ old.base = c.word 1 ∧ old.size = c.f 0 53 49 then old.pos else 0)))
    ∧ (s.Takes Op.queueConfig c → b.portBad (c.f 0 63 56) (fieldAt 0 56) = none →
      exec (.queueConfig c) s = .next (s.answered Op.queueConfig c (written (fun x => { x with
        queues := Tab.set none x.queues (classQueue (c.f 0 63 56) (c.f 0 55 53)) (some ⟨c.b 0 52, c.f 0 51 44⟩) })) {}))
    ∧ (s.Takes Op.thresholdConfig c → exec (.thresholdConfig c) s = .next (s.answered Op.thresholdConfig c (written (fun x =>
        { x with alphas := Tab.set 0 x.alphas (c.f 0 63 60) (signed (c.f 0 59 56) 4 + 7).toNat })) {}))
    ∧ (s.Takes Op.carrierMap c →
      (b.standardBars (c.f 0 62 41) (c.f 0 40 38) = false → exec (.carrierMap c) s = .next (s.answered Op.carrierMap c
        (written (fun x => { x with carriers := Tab.set {} x.carriers (c.f 0 62 41) {
          purpose := c.f 0 40 38, defClass := c.f 0 37 35, group := c.f 0 34 25 } })) {}))
      ∧ (b.standardBars (c.f 0 62 41) (c.f 0 40 38) = true →
        exec (.carrierMap c) s = .next (s.answered Op.carrierMap c b (Res.badField 0 41))))
    ∧ (s.Takes Op.carrierMapGroup c →
      let l := (List.range (c.f 0 52 46)).map (fun i => leNat ((c.ext.drop (4 * i)).take 4))
      ((∀ m ∈ l, (Tab.get {} b.swCfg.carriers m).purpose = 1) → exec (.carrierMapGroup c) s
        = .next (s.answered Op.carrierMapGroup c (written (fun x => { x with
            groups := Tab.set [] x.groups (c.f 0 62 53) l })) {}))
      ∧ (∀ m ∈ l, (Tab.get {} b.swCfg.carriers m).purpose ≠ 1 →
        exec (.carrierMapGroup c) s = .next (s.answered Op.carrierMapGroup c b Res.badExt)))
    ∧ (s.Takes Op.mirrorConfigPort c → b.portBad (c.f 0 62 55) (fieldAt 0 55) = none →
      exec (.mirrorConfigPort c) s = .next (s.answered Op.mirrorConfigPort c (written (fun x => { x with
        mirrors := Tab.set {} x.mirrors (c.f 0 62 55) { ing := c.b 0 54, egr := c.b 0 53, snap := c.f 0 52 45 } })) {}))
    ∧ (s.Takes Op.mirrorConfigEncap c → exec (.mirrorConfigEncap c) s = .next (s.answered Op.mirrorConfigEncap c
        (written (fun x => { x with encap := {
          enable := c.b 0 62, etherType := c.f 0 61 46, snap := c.f 0 45 38, da := c.f 1 63 16, sa := c.f 2 63 16 } })) {}))
    ∧ (s.Takes Op.sampleConfig c → b.portBad (c.f 0 63 56) (fieldAt 0 56) = none →
      exec (.sampleConfig c) s = .next (s.answered Op.sampleConfig c { b with sw := { b.sw with
        cfg := Vers.write {} b.sw.cfg b.clk.epoch (fun x => { x with
          samples := Tab.set {} x.samples (c.f 0 63 56) { all := c.b 0 55, n := c.f 0 54 31 } }),
        samplers := Tab.upd {} b.sw.samplers (c.f 0 63 56) (fun x => { line := x.line }) } } {}))
    ∧ (s.Takes Op.frerConfig c → c.b 0 50 = false ∨ b.subFormed (c.f 0 49 44) = true →
      let x := Tab.get {} b.sw.streams (c.f 0 63 52)
      exec (.frerConfig c) s = .next (s.answered Op.frerConfig c { b with sw := { b.sw with
        streams := Tab.set {} b.sw.streams (c.f 0 63 52) {
          enable := c.b 0 51, dup := c.b 0 50, subB := c.f 0 49 44,
          number := if x.enable = true then x.number else 0 } } } {}))
    ∧ (s.Takes Op.frameInject c →
      let k := c.f 0 63 61
      let dest := c.f 0 60 39
      let f : Frame := {
        data := c.ext.take (c.f 0 35 22), input := 114, tenant := c.tenant, stamp := b.clk.epoch, toa := b.stampedTime b.tim.tod,
        gen := b.tim.gen, source := c.f 0 21 16 }
      let x := b.countIn 114 f.length
      (c.tenant = 0 → k = 0 → b.subFormed (c.f 0 21 16) = true →
        exec (.frameInject c) s = .next (s.answered Op.frameInject c (x.toParser 1 f) {}))
      ∧ (c.tenant = 0 ∨ b.carrierOwner dest = c.tenant → k = 3 →
        exec (.frameInject c) s = .next (s.answered Op.frameInject c (x.toCarrier f dest (some (c.f 0 38 36))) {}))
      ∧ (c.tenant = 0 → k = 5 → b.subFormed dest = true →
        exec (.frameInject c) s = .next (s.answered Op.frameInject c (x.toSub f dest (some (c.f 0 38 36)) 0) {}))
      ∧ (c.tenant ≠ 0 → k ≠ 3 → exec (.frameInject c) s = .next (s.answered Op.frameInject c b Res.deniedObject)))

/-- The commands of the cipher engine and of the checks, on a command that its unit takes. -/
def Obligations.KeysCiphersAndChecksAreConfigured : Prop :=
  ∀ (c : Cmd) (s : State),
    let b := s.blk
    let tables := fun (y : Blk) => y = { b with dir := y.dir }
    let clean := b.dir.latent = [] ∧ b.dir.faults = []
    let mayRange := mayAct c.tenant (b.endpointOwner (epRange c).1) = true
    let ep := fun (i : Nat) => (epRange c).1 + i
    (s.Takes Op.keyLoadEndpoint c →
      let e := c.f 1 63 39
      let d := b.loadOp c (cipherOfEp e) e
      mayAct c.tenant (b.endpointOwner e) = true → clean →
      ((Tab.get {} b.dir.ctxs e).valid = true →
        (∀ key, d.2 = true → b.loadedKey c = some key →
          exec (.keyLoadEndpoint c) s = .next (s.answered Op.keyLoadEndpoint c
            (((d.1.writeCtx e { Tab.get {} b.dir.ctxs e with
                wrapped := leNat (d.1.wrap key), keyGen := c.f 0 59 29, keyLoaded := true, key256 := c.b 0 61, keyWarn := false,
                keySpent := false, txCounter := c.word 2, txLease := c.word 2, rxCounter := c.word 4 }).updLease e
              (fun _ => { addr := c.word 3 })).startLease e (c.word 2)) {}))
        ∧ (d.2 = true → b.loadedKey c = none → exec (.keyLoadEndpoint c) s
          = .next (s.answered Op.keyLoadEndpoint c b (Res.badField 5 0)))
        ∧ (d.2 = false → exec (.keyLoadEndpoint c) s
          = .next (s.answered Op.keyLoadEndpoint c (b.keepFindings d.1) Res.unwrapFault)))
      ∧ ((Tab.get {} b.dir.ctxs e).valid = false → exec (.keyLoadEndpoint c) s
          = .next (s.answered Op.keyLoadEndpoint c b (Res.badField 1 39))))
    ∧ (s.Takes Op.keyLoadCarrier c →
      let flow := c.f 1 63 42
      let slot := c.f 0 28 27
      let d := b.loadOp c (cipherOfTree (flowTree flow)) flow
      mayAct c.tenant (b.carrierOwner flow) = true →
      (∀ key, b.slotActive flow slot = false → (b.tree (flowTree flow)).mode = .native → d.2 = true → b.loadedKey c = some key →
        exec (.keyLoadCarrier c) s = .next (s.answered Op.keyLoadCarrier c (d.1.updCarrier flow (fun x => { x with
          slots := Tab.set none x.slots slot (some { wrapped := d.1.wrap key, key256 := c.b 0 61, gen := c.f 0 59 29 }),
          cache := Tab.set [] x.cache slot (if d.1.ciphered flow = true then key else []),
          warn := x.warn.filter (· != slot), spent := x.spent.filter (· != slot) })) {}))
      ∧ (b.slotActive flow slot = true →
        exec (.keyLoadCarrier c) s = .next (s.answered Op.keyLoadCarrier c b (Res.badField 0 27)))
      ∧ (b.slotActive flow slot = false → (b.tree (flowTree flow)).mode ≠ .native →
        exec (.keyLoadCarrier c) s = .next (s.answered Op.keyLoadCarrier c b (Res.badField 1 42))))
    ∧ (s.Takes Op.keyLoadTenant c →
      let d := b.loadOp c 0 (c.f 1 63 57)
      (∀ key, c.tenant = 0 → d.2 = true → b.loadedKey c = some key → exec (.keyLoadTenant c) s
        = .next (s.answered Op.keyLoadTenant c
          { d.1 with cip := { d.1.cip with loadKeys := Tab.set [] d.1.cip.loadKeys (c.f 1 63 57) (d.1.wrap key) } } {}))
      ∧ (c.tenant ≠ 0 → exec (.keyLoadTenant c) s = .next (s.answered Op.keyLoadTenant c b Res.deniedObject)))
    ∧ (b.cip.upsets = [] → ∀ i item, b.loadOp c i item = (b, true))
    ∧ (c.b 0 60 = false → b.loadedKey c = some (toLe (c.inl / 2 ^ 320) (if c.b 0 61 = true then 32 else 16)))
    ∧ (s.Takes Op.keyRetire c →
      (c.f 0 63 62 = 0 → mayAct c.tenant (b.endpointOwner (c.f 1 63 39)) = true → clean →
        exec (.keyRetire c) s = .next (s.answered Op.keyRetire c (b.writeCtx (c.f 1 63 39)
          { Tab.get {} b.dir.ctxs (c.f 1 63 39) with wrapped := 0, keyLoaded := false }) {}))
      ∧ (c.f 0 63 62 ≠ 0 → mayAct c.tenant (b.carrierOwner (c.f 1 63 42)) = true →
        (b.slotActive (c.f 1 63 42) (c.f 0 61 60) = false → exec (.keyRetire c) s = .next (s.answered Op.keyRetire c
          (b.updCarrier (c.f 1 63 42) (fun x => { x with
            slots := Tab.set none x.slots (c.f 0 61 60) none, cache := Tab.set [] x.cache (c.f 0 61 60) [] })) {}))
        ∧ (b.slotActive (c.f 1 63 42) (c.f 0 61 60) = true →
          exec (.keyRetire c) s = .next (s.answered Op.keyRetire c b (Res.badField 0 60)))))
    ∧ (s.Takes Op.carrierCipher c →
      let flow := c.f 0 63 42
      let mode := c.f 0 41 40
      let slot := c.f 0 39 38
      let keys := b.carrier flow
      let set := { b with cip := { b.cip with
        cfg := Vers.write [] b.cip.cfg b.clk.epoch (fun x => Tab.set {} x flow { mode := mode, slot := slot }) } }
      let native := (b.tree (flowTree flow)).mode = .native
      let room := ((cipheredOn (Vers.cur [] b.cip.cfg) (flowTree flow)).filter (· != flow)).length < 1024
      mayAct c.tenant (b.carrierOwner flow) = true → (Tab.get {} b.swCfg.carriers flow).purpose = 1 →
      (native → mode = 0 → slot = 0 → c.word 1 = 0 → c.word 2 = 0 → Tab.get none keys.slots 0 = none →
        exec (.carrierCipher c) s = .next (s.answered Op.carrierCipher c
          (set.updFlow flow (fun f => { f with dnKeyGen := 0, dnSlot := 0 })) {}))
      ∧ (∀ k : StoredKey, native → mode ≠ 0 → slot ≠ 0 → Tab.get none keys.slots slot = some k → slot ∉ keys.spent →
        (b.cipherNow flow).mode = 0 → c.word 1 % 2 ^ 20 = 0 → c.word 1 < 2 ^ 64 - 2 ^ 20 → c.word 2 % 8 = 0 → room →
        exec (.carrierCipher c) s = .next (s.answered Op.carrierCipher c
          (((((set.updFlow flow (fun f => { f with dnKeyGen := k.gen, dnSlot := slot })).updFlow flow (fun f =>
            { f with dnCounter := c.word 1 })).updCarrier flow (fun k => { k with
              leaseEnd := c.word 1, lease := { addr := c.word 2 } })).fillCache flow).startLease (flowKey flow) (c.word 1)) {}))
      ∧ (∀ k : StoredKey, native → mode ≠ 0 → slot ≠ 0 → Tab.get none keys.slots slot = some k → slot ∉ keys.spent →
        (b.cipherNow flow).mode ≠ 0 → c.word 1 = 0 → c.word 2 = 0 → room →
        exec (.carrierCipher c) s = .next (s.answered Op.carrierCipher c
          (set.updFlow flow (fun f => { f with dnKeyGen := k.gen, dnSlot := slot })) {}))
      ∧ (native → mode ≠ 0 → slot ≠ 0 → (Tab.get none keys.slots slot).isSome = true → slot ∈ keys.spent →
        (b.cipherNow flow).mode ≠ 0 → c.word 1 = 0 → c.word 2 = 0 →
        exec (.carrierCipher c) s = .next (s.answered Op.carrierCipher c b (Res.err .keySpent)))
      ∧ (¬ native → mode ≠ 2 → slot = 0 → c.word 1 = 0 → c.word 2 = 0 → mode = 0 ∨ room →
        exec (.carrierCipher c) s = .next (s.answered Op.carrierCipher c set {})))
    ∧ (s.Takes Op.carrierCipher c → mayAct c.tenant (b.carrierOwner (c.f 0 63 42)) = false →
      exec (.carrierCipher c) s = .next (s.answered Op.carrierCipher c b Res.deniedObject))
    ∧ (s.Takes Op.checkConfig c →
      let k := c.f 0 63 51
      (mayAct c.tenant (Tab.get 0 b.owners.block k) = true → exec (.checkConfig c) s = .next (s.answered Op.checkConfig c
        { b with dir := { b.dir with
          blocks := Tab.set {} b.dir.blocks k { aliveW := c.f 0 50 36, runScope := c.f 0 35 34 },
          blockFaults := Tab.set none b.dir.blockFaults k none } } {}))
      ∧ (mayAct c.tenant (Tab.get 0 b.owners.block k) = false →
        exec (.checkConfig c) s = .next (s.answered Op.checkConfig c b Res.deniedObject)))
    ∧ (s.Takes Op.checkRestore c → mayRange → clean → Tab.wf {} b.dir.ctxs = true →
      (∀ i < (epRange c).2, let x := Tab.get {} b.dir.ctxs (ep i)
        bits (leWord c.ext (2 * i + 1)) 46 44 = x.poly ∧ leWord c.ext (2 * i) < 256 ^ checkWidth x.poly) →
      ∃ y : Blk, exec (.checkRestore c) s = .next (s.answered Op.checkRestore c y {}) ∧ tables y
        ∧ (∀ i < (epRange c).2, Tab.get {} y.dir.ctxs (ep i) = { Tab.get {} b.dir.ctxs (ep i) with
            checkValue := leWord c.ext (2 * i), aliveLast := bits (leWord c.ext (2 * i + 1)) 63 48,
            aliveSeen := bit (leWord c.ext (2 * i + 1)) 47 })
        ∧ ∀ e, (∀ i < (epRange c).2, e ≠ ep i) → Tab.get {} y.dir.ctxs e = Tab.get {} b.dir.ctxs e)

/-- The commands of the time unit, the pair unit and the Tumbler engines, on a command that its unit takes. -/
def Obligations.TimePairAndEnginesAreConfigured : Prop :=
  ∀ (c : Cmd) (s : State),
    let b := s.blk
    let times := fun (f : TimeCfg → TimeCfg) => { b with tim := { b.tim with cfg := Vers.write {} b.tim.cfg b.clk.epoch f } }
    (s.Takes Op.timeConfigDevice c →
      let profile := c.f 0 60 60
      let src := c.f 0 62 61
      let set := times (fun x => { x with
        src := src, profile := profile, domain := c.f 0 59 52, lockThresh := c.f 0 51 42,
        jumpLimit := c.f 0 41 30, hoValid := c.f 0 29 14, slewMax := c.f 0 13 7 })
      (profile = b.timeCfg.profile ∨ b.timeCfg.ports.any (fun p => p.2.role != 0) = false →
        (src = b.timeCfg.src → src ≠ 0 →
          exec (.timeConfigDevice c) s = .next (s.answered Op.timeConfigDevice c set.settle {}))
        ∧ ∃ y : Blk, exec (.timeConfigDevice c) s = .next (s.answered Op.timeConfigDevice c y {})
          ∧ y.timeCfg = set.timeCfg ∧ (src = 0 → y.tim.servo = .freerun) ∧ y.tim.tod = b.tim.tod
          ∧ (src ≠ b.timeCfg.src → y.tim.raws = [] ∧ y.tim.delivers = false ∧ y.tim.sampled = none ∧ y.tim.fresh = true))
      ∧ (profile ≠ b.timeCfg.profile → b.timeCfg.ports.any (fun p => p.2.role != 0) = true →
        exec (.timeConfigDevice c) s = .next (s.answered Op.timeConfigDevice c b (Res.badField 0 60))))
    ∧ (s.Takes Op.timeConfigTree c → exec (.timeConfigTree c) s = .next (s.answered Op.timeConfigTree c (times (fun x => { x with
        trees := Tab.set {} x.trees (c.f 0 62 57) { optTx := c.f 0 56 43, optRx := c.f 0 42 29, dnFrac := c.f 0 28 5 } })) {}))
    ∧ (s.Takes Op.ptpPortConfig c →
      let sub := c.unit % 4096
      (b.subFormed sub = false → exec (.ptpPortConfig c) s = .next (s.answered Op.ptpPortConfig c b (Res.err .badParam 0)))
      ∧ (b.subFormed sub = true → b.timeCfg.profile = 0 → c.f 0 61 54 = 0 →
        exec (.ptpPortConfig c) s = .next (s.answered Op.ptpPortConfig c b (Res.badField 0 54)))
      ∧ (b.subFormed sub = true → b.timeCfg.profile ≠ 0 ∨ c.f 0 61 54 ≠ 0 → c.f 0 63 62 = 0 ∨ (b.timeCfg.ports.filter (fun p => p.1 != sub && p.2.role != 0)).length < 16 →
        Tab.wf {} b.timeCfg.ports = true →
        ∃ y : Blk, exec (.ptpPortConfig c) s = .next (s.answered Op.ptpPortConfig c y {}) ∧ y = { b with tim := y.tim }
          ∧ Tab.get {} y.timeCfg.ports sub = {
              role := c.f 0 63 62, prio := c.f 0 61 54, mcast := c.b 0 53, asym := signed (c.f 0 52 29) 24 })
      ∧ (b.subFormed sub = true → b.timeCfg.profile ≠ 0 ∨ c.f 0 61 54 ≠ 0 → c.f 0 63 62 ≠ 0 →
        16 ≤ (b.timeCfg.ports.filter (fun p => p.1 != sub && p.2.role != 0)).length →
        exec (.ptpPortConfig c) s = .next (s.answered Op.ptpPortConfig c b (Res.err .noSpace))))
    ∧ (s.Takes Op.stepTime c →
      (c.f 0 63 62 = 0 →
        let new := (c.word 1 * 1000000000 + c.f 2 63 32) * 65536 + c.f 2 31 16
        ∃ (y : Blk) (r : Res), r.st = .ok ∧ exec (.stepTime c) s = .next (s.answered Op.stepTime c y r)
          ∧ y.tim.tod = new ∧ y.tim.gen = (if new < b.tim.tod then (b.tim.gen + 1) % 65536 else b.tim.gen % 65536)
          ∧ y.tim.absStep = true ∧ y.tim.raws = [])
      ∧ (c.f 0 63 62 = 1 → 0 ≤ (b.tim.tod : Int) + signed (c.word 1) 64 * 65536 + c.f 2 31 16 →
        ∃ (y : Blk) (r : Res), r.st = .ok ∧ exec (.stepTime c) s = .next (s.answered Op.stepTime c y r)
          ∧ (y.tim.tod : Int) = b.tim.tod + signed (c.word 1) 64 * 65536 + c.f 2 31 16)
      ∧ (c.f 0 63 62 = 1 → (b.tim.tod : Int) + signed (c.word 1) 64 * 65536 + c.f 2 31 16 < 0 →
        exec (.stepTime c) s = .next (s.answered Op.stepTime c b (Res.badField 1 0)))
      ∧ (∀ o, c.f 0 63 62 = 2 → b.tim.sampled = some o → 0 ≤ (b.tim.tod : Int) + o →
        ∃ (y : Blk) (r : Res), r.st = .ok ∧ exec (.stepTime c) s = .next (s.answered Op.stepTime c y r)
          ∧ (y.tim.tod : Int) = b.tim.tod + o ∧ y.tim.sampled = none)
      ∧ (c.f 0 63 62 = 2 → b.tim.sampled = none →
        exec (.stepTime c) s = .next (s.answered Op.stepTime c b (Res.badField 0 62))))
    ∧ (s.Takes Op.ppsConfig c → exec (.ppsConfig c) s = .next (s.answered Op.ppsConfig c (times (fun x => { x with
        outEn := c.b 0 63, squelch := c.b 0 62, outWidth := c.f 0 61 40, outComp := signed (c.f 0 39 24) 16,
        inEn := c.b 0 23, inComp := c.f 0 22 7 })) {}))
    ∧ (s.Takes Op.synceConfig c → (∀ x ∈ syncSources c, x.2 = true → b.subFormed x.1 = true) →
      ∃ y : Blk, exec (.synceConfig c) s = .next (s.answered Op.synceConfig c y {})
        ∧ y.timeCfg = { b.timeCfg with sources := syncSources c, qlEn := c.b 0 35, txFollow := c.b 0 34, wtr := c.f 0 33 30 }
        ∧ y.tim.selected = y.syncBest)
    ∧ (s.Takes Op.pairConfig c →
      let set := fun (x : Blk) => x.setPair (fun p => { p with
        enable := c.b 0 63, auto := c.b 0 62, secret := BitVec.ofNat 256 (c.inl / 2 ^ 64),
        idleFrame := p.idleFrame || b.pair.enable != c.b 0 63 })
      (c.b 0 63 = true → b.pair.role = .solo → exec (.pairConfig c) s = .next (s.answered Op.pairConfig c ((set b).toRole .alone) {}))
      ∧ ((c.b 0 63 = true ↔ b.pair.role ≠ .solo) → exec (.pairConfig c) s = .next (s.answered Op.pairConfig c (set b) {}))
      ∧ (c.b 0 63 = false → b.pair.role = .alone →
        exec (.pairConfig c) s = .next (s.answered Op.pairConfig c (((set b).toRole .solo).setPair Pair.parted) {}))
      ∧ (c.b 0 63 = false → b.pair.role ≠ .solo → b.pair.role ≠ .alone →
        exec (.pairConfig c) s = .next (s.answered Op.pairConfig c b (Res.badField 0 63))))
    ∧ (b.joined = true →
      (s.Takes (Op.roleRequest 0) c → b.pair.lockout = false →
        exec (.roleSwap c) s = .next (s.answered (Op.roleRequest 0) c ((b.toRole b.pair.role.swapped).startWtr) {}))
      ∧ (s.Takes (Op.roleRequest 0) c → b.pair.lockout = true →
        exec (.roleSwap c) s = .next (s.answered (Op.roleRequest 0) c b (Res.badField 0 61)))
      ∧ (s.Takes (Op.roleRequest 1) c →
        let set := b.setPair (fun p => { p with lockout := true, wtrEnd := none })
        (b.prefWaits = true →
          exec (.roleLock c) s = .next (s.answered (Op.roleRequest 1) c (set.toRole b.pair.role.swapped) {}))
        ∧ (b.prefWaits = false → exec (.roleLock c) s = .next (s.answered (Op.roleRequest 1) c set {})))
      ∧ (s.Takes (Op.roleRequest 2) c → exec (.roleUnlock c) s = .next (s.answered (Op.roleRequest 2) c
        (b.setPair (fun p => { p with lockout := false })) {}))
      ∧ (s.Takes (Op.roleRequest 3) c →
        (c.partner = true → exec (.roleLeave c) s = .next (s.answered (Op.roleRequest 3) c b.takeOver {}))
        ∧ (c.partner = false → exec (.roleLeave c) s = .next (s.answered (Op.roleRequest 3) c b.isolate {})))
      ∧ (s.Takes (Op.roleRequest 4) c → b.pair.wtrEnd = none →
        exec (.roleRestoreNow c) s = .next (s.answered (Op.roleRequest 4) c b {}))
      ∧ (s.Takes (Op.roleRequest 4) c → b.pair.wtrEnd ≠ none →
        exec (.roleRestoreNow c) s = .next (s.answered (Op.roleRequest 4) c
          (((b.setPair (fun p => { p with wtrEnd := none })).toRole b.pair.role.swapped).startWtr) {})))
    ∧ (∀ r, (b.toRole r).pair.role = r) ∧ b.takeOver.pair.role = .alone ∧ b.isolate.pair.role = .isolated
    ∧ b.join.pair.role = .joining
    ∧ (b.joined = true → (if b.prefWaits = true then b.pair.role.swapped else b.pair.role) = (if b.pref = true then .active else .standby))
    ∧ (b.joined = false → s.Takes (Op.roleRequest 0) c →
      exec (.roleSwap c) s = .next (s.answered (Op.roleRequest 0) c b (Res.badField 0 61)))
    ∧ (b.joined = false → s.Takes (Op.roleRequest 1) c →
      exec (.roleLock c) s = .next (s.answered (Op.roleRequest 1) c b (Res.badField 0 61)))
    ∧ (b.joined = false → s.Takes (Op.roleRequest 3) c →
      exec (.roleLeave c) s = .next (s.answered (Op.roleRequest 3) c b (Res.badField 0 61)))
    ∧ (b.joined = false → s.Takes (Op.roleRequest 4) c →
      exec (.roleRestoreNow c) s = .next (s.answered (Op.roleRequest 4) c b (Res.badField 0 61)))
    ∧ (b.joined = false → s.Takes (Op.roleRequest 2) c →
      exec (.roleUnlock c) s = .next (s.answered (Op.roleRequest 2) c b (Res.badField 0 61)))
    ∧ (s.Takes Op.resyncStart c →
      (b.pair.role = .isolated → b.pair.linkUp = true →
        exec (.resyncStart c) s = .next (s.answered Op.resyncStart c b.join {}))
      ∧ (b.pair.role ≠ .isolated ∨ b.pair.linkUp = false →
        exec (.resyncStart c) s = .next (s.answered Op.resyncStart c b (Res.err .badParam 0))))
    ∧ (s.Takes Op.wtrConfig c → exec (.wtrConfig c) s = .next (s.answered Op.wtrConfig c
        (b.setPair (fun p => { p with revert := c.b 0 63, wtr := c.f 0 62 51 })) {}))
    ∧ (s.Takes Op.handlerWrite c → Tab.wf resetHandler (Vers.cur [] b.tum.handlers) = true →
      ∃ y : Blk, exec (.handlerWrite c) s = .next (s.answered Op.handlerWrite c y {})
        ∧ y = { b with tum := { b.tum with handlers := y.tum.handlers } }
        ∧ (∀ i < c.f 0 56 49, ∀ k < 64, (handlerOf (Vers.cur [] y.tum.handlers) (c.f 0 63 57 + i)).getD (k + 1) 0
            = leWord c.ext (65 * i + k + 1))
        ∧ (∀ i < c.f 0 56 49, handlerHead (handlerOf (Vers.cur [] y.tum.handlers) (c.f 0 63 57 + i)) = {
            handlerHead (handlerIn c.ext i) with
              worst := if bit (leWord c.ext (65 * i)) 63 = true then handlerWorst (handlerIn c.ext i) % 2 ^ 13 else 0 })
        ∧ ∀ k, k < c.f 0 63 57 ∨ c.f 0 63 57 + c.f 0 56 49 ≤ k →
          handlerOf (Vers.cur [] y.tum.handlers) k = handlerOf (Vers.cur [] b.tum.handlers) k)
    ∧ (s.Takes Op.mgmtConfigTree c →
      let t := c.unit % 4096
      ((b.tree t).mode = .native → 1 ≤ c.f 0 60 58 → c.f 0 60 58 ≤ 4 → c.f 0 54 51 ≠ 0 →
        exec (.mgmtConfigTree c) s = .next (s.answered Op.mgmtConfigTree c { b with tum := { b.tum with
          mgmt := Tab.set {} b.tum.mgmt t {
            enable := c.b 0 62, mib := c.b 0 61, maxOut := c.f 0 60 58, retries := c.f 0 57 55, retryS := c.f 0 54 51 } } } {}))
      ∧ ((b.tree t).mode ≠ .native → exec (.mgmtConfigTree c) s = .next (s.answered Op.mgmtConfigTree c { b with
          tum := { b.tum with mgmt := Tab.set {} b.tum.mgmt t { b.mgmt t with enable := c.b 0 62, mib := c.b 0 61 } } } {})))
    ∧ (s.Takes Op.mgmtConfigSend c →
      let t := c.unit % 4096
      let g := gid t (c.f 0 62 54)
      let tci := c.f 0 53 38
      let msg := c.ext.take c.extLen
      ((b.term g).state = .active →
        (b.tree t).mode ≠ .native ∨ (Tab.get {} b.swCfg.carriers (t * 65536 + c.f 0 62 54)).purpose = 3 →
        (tci = 0 → exec (.mgmtConfigSend c) s = .next (s.answered Op.mgmtConfigSend c
          { b with tum := { b.tum with sends := b.tum.sends ++ [(g, msg, b.clk.epoch)] } } {}))
        ∧ (tci ≠ 0 → b.mgmtFull g msg = false →
          exec (.mgmtConfigSend c) s = .next (s.answered Op.mgmtConfigSend c (b.startSend g tci msg) {}))
        ∧ (tci ≠ 0 → b.mgmtFull g msg = true →
          exec (.mgmtConfigSend c) s = .next (s.answered Op.mgmtConfigSend c b (Res.err .noSpace))))
      ∧ ((b.term g).state ≠ .active →
        exec (.mgmtConfigSend c) s = .next (s.answered Op.mgmtConfigSend c b (Res.badField 0 54))))

/-- The commands of ownership, of telemetry and of the device, on a command that its unit takes. -/
def Obligations.OwnersTelemetryAndDevice : Prop :=
  ∀ (c : Cmd) (s : State),
    let b := s.blk
    let part := b.sys.part
    (s.Takes (Op.tenantAssign part) c →
      Tab.wf 0 b.owners.carrier = true → Tab.wf 0 b.owners.queue = true → Tab.wf 0 b.owners.block = true →
      Tab.wf 0 b.owners.rules = true →
      ∃ y : Blk, exec (.tenantAssign c) s = .next (s.answered (Op.tenantAssign part) c y {})
        ∧ (c.f 0 63 56 ≠ 3 ∨ (b.dir.open_ = [] ∧ b.dir.events = [] ∧ b.tum.reports = []) →
          y = { b with host := { b.host with owners := y.host.owners } })
        ∧ (∀ k, c.f 0 47 0 ≤ k → k < c.f 0 47 0 + c.f 1 31 0 → y.objectOwner (c.f 0 63 56) k = c.f 0 55 48)
        ∧ (∀ kind k, kind ≠ c.f 0 63 56 ∨ k < c.f 0 47 0 ∨ c.f 0 47 0 + c.f 1 31 0 ≤ k →
          1 ≤ kind → kind ≤ 4 → y.objectOwner kind k = b.objectOwner kind k))
    ∧ (s.Takes Op.counterClear c → b.ctrRefused (ctrIn c) c.tenant = none → Tab.wf {} b.tele.ctrs = true →
      ∃ (y : Blk) (r : Res), r.st = .ok ∧ exec (.counterClear c) s = .next (s.answered Op.counterClear c y r)
        ∧ y = { b with tele := { b.tele with ctrs := y.tele.ctrs } }
        ∧ ∀ k < (ctrIn c).entries c, b.noRead (ctrIn c) c.tenant ((ctrIn c).nth k).1 = false →
          (Tab.get {} y.tele.ctrs (counterKey (ctrIn c).family ((ctrIn c).nth k).2 ((ctrIn c).nth k).1)).val = 0)
    ∧ (s.Takes Op.counterClear c → (ctrIn c).allowed c.tenant = false →
      exec (.counterClear c) s = .next (s.answered Op.counterClear c b Res.deniedObject))
    ∧ (s.Takes Op.counterClear c → (ctrIn c).allowed c.tenant = true → b.portsUnformed (ctrIn c) = true →
      exec (.counterClear c) s = .next (s.answered Op.counterClear c b (Res.badField 0 8)))
    ∧ (s.Takes Op.ventExtend c → b.tele.losses = [] →
      (c.b 1 63 = false → exec (.ventExtend c) s = .next (s.answered Op.ventExtend c { b with tele := { b.tele with
        vent := b.tele.vent.drop (b.tele.vent.length - 4096), ventExt := none } } {}))
      ∧ (c.b 1 63 = true → ∃ y : Blk, exec (.ventExtend c) s = .next (s.answered Op.ventExtend c y {})
        ∧ y.tele.ventExt = some (c.word 0, c.f 1 62 58) ∧ y = { b with tele := y.tele, out := y.out }
        ∧ y.tele.vent = b.tele.vent.drop (b.tele.vent.length - 2 ^ c.f 1 62 58)))
    ∧ (s.Takes Op.faultConfigSource c → exec (.faultConfigSource c) s = .next (s.answered Op.faultConfigSource c
        { b with tele := { b.tele with
          windows := Tab.set (0, 0) b.tele.windows (c.f 0 63 56) (c.f 0 55 32, c.f 0 31 27) } } {}))
    ∧ (s.Takes Op.faultConfigWear c → exec (.faultConfigWear c) s = .next (s.answered Op.faultConfigWear c
        { b with tele := { b.tele with warnMargin := c.f 0 55 46 } } {}))
    ∧ (s.Takes Op.unitRetest c →
      (b.tele.role (c.f 0 63 56) (c.f 0 55 40) = .retired ∨ b.tele.role (c.f 0 63 56) (c.f 0 55 40) = .testing →
        exec (.unitRetest c) s = .next (s.answered Op.unitRetest c (b.updSource (c.f 0 63 56) (c.f 0 55 40) (fun x => { x with
          role := .testing, events := [] })) {}))
      ∧ (b.tele.role (c.f 0 63 56) (c.f 0 55 40) ≠ .retired → b.tele.role (c.f 0 63 56) (c.f 0 55 40) ≠ .testing →
        exec (.unitRetest c) s = .next (s.answered Op.unitRetest c b (Res.badField 0 40))))
    ∧ (s.Takes Op.selftestRun c →
      (c.b 0 63 = true → b.sys.forced = false → exec (.selftestRun c) s = .next (s.answered Op.selftestRun c
        { b with sys := { b.sys with dormantNext := some (causeWord 3 0 0 0) } } {}))
      ∧ (c.b 0 63 = false ∨ b.sys.forced = true → exec (.selftestRun c) s = .next (s.answered Op.selftestRun c b (Res.badField 0 63))))
    ∧ (b.sys.phase = .dormant → b.acceptCheck Op.selftestRun c = none →
      exec (.selftestRun c) s = .next (s.answered Op.selftestRun c { b with sys := { b.sys with phase := .warmStart } } {}))
    ∧ (s.Takes (Op.fwLoad part) c → exec (.fwLoad c) s = .next (s.answered (Op.fwLoad part) c
        { b with sys := { b.sys with fwWriting := some (leWord c.ext 0 % 2 ^ 32) } }
        { inl := wordsLe [leWord c.ext 0 % 2 ^ 32, 0] }))
    ∧ (b.sys.phase = .dormant → b.acceptCheck (Op.fwLoad part) c = none →
      exec (.fwLoad c) s = .next (s.answered (Op.fwLoad part) c
        { b with sys := { b.sys with fwStaged := some (leWord c.ext 0 % 2 ^ 32) } }
        { inl := wordsLe [leWord c.ext 0 % 2 ^ 32, 0] }))
end

