-- ==== Sys2Proof/Laws/Bytes.lean ====
section
/-! SUPPORT. Laws of byte strings: a number written as bytes reads back, and words of host memory lie where they were put. -/
namespace Sys2Proof.Machine

@[simp] theorem toLe_length (n k : Nat) : (toLe n k).length = k := by
  induction k generalizing n with
  | zero => rfl
  | succ k ih => simp [toLe, ih]

/-- A number written as k bytes reads back modulo 2^(8k). -/
theorem leNat_toLe (n k : Nat) : leNat (toLe n k) = n % 256 ^ k := by
  induction k generalizing n with
  | zero => simp [toLe, leNat, Nat.mod_one]
  | succ k ih =>
    simp only [toLe, leNat, ih, BitVec.toNat_ofNat]
    have e : n % 256 ^ (k + 1) = n % 256 + 256 * (n / 256 % 256 ^ k) := by rw [Nat.pow_succ', Nat.mod_mul]
    rw [e, show (2 : Nat) ^ 8 = 256 from rfl]

theorem toLe_take (n k j : Nat) (h : j ≤ k) : (toLe n k).take j = toLe n j := by
  induction k generalizing n j with
  | zero => simp [Nat.le_zero.mp h, toLe]
  | succ k ih =>
    cases j with
    | zero => simp [toLe]
    | succ j => simp [toLe, ih _ _ (by omega : j ≤ k)]

@[simp] theorem wordsLe_length (ws : List Nat) : (wordsLe ws).length = 8 * ws.length := by
  induction ws with
  | nil => rfl
  | cons w r ih => simp only [wordsLe, List.flatMap_cons, List.length_append, toLe_length, List.length_cons] at *; omega

/-- The first word of some words followed by other bytes. -/
theorem leWord_zero (w : Nat) (ws : List Nat) (l : List Byte) (h : w < 2 ^ 64) : leWord (wordsLe (w :: ws) ++ l) 0 = w := by
  have e : ((wordsLe (w :: ws) ++ l).drop (8 * 0)).take 8 = toLe w 8 := by
    simp [wordsLe]
  rw [leWord, e, leNat_toLe]
  exact Nat.mod_eq_of_lt (by norm_num at h ⊢; exact h)

/-- A later word of some words followed by other bytes. -/
theorem leWord_succ (w : Nat) (ws : List Nat) (l : List Byte) (i : Nat) :
    leWord (wordsLe (w :: ws) ++ l) (i + 1) = leWord (wordsLe ws ++ l) i := by
  have e : (wordsLe (w :: ws) ++ l).drop (8 * (i + 1)) = (wordsLe ws ++ l).drop (8 * i) := by
    rw [show 8 * (i + 1) = 8 + 8 * i by omega, ← List.drop_drop]
    simp [wordsLe]
  rw [leWord, leWord, e]

end Sys2Proof.Machine
end

