-- ==== Sys2Proof/Laws/State.lean ====
section
/-! SUPPORT. One lemma for each field and each plain update of the block: what the field reads after the update. No later
proof unfolds a record update. -/
namespace Sys2Proof.Machine


/-! `Blk.at` -/
@[simp] theorem Blk.at_clk (b : Blk) (epoch fc : Nat) : (b.at epoch fc).clk = { b.clk with epoch := epoch, fc := fc } := rfl
@[simp] theorem Blk.at_sys (b : Blk) (epoch fc : Nat) : (b.at epoch fc).sys = b.sys := rfl
@[simp] theorem Blk.at_host (b : Blk) (epoch fc : Nat) : (b.at epoch fc).host = b.host := rfl
@[simp] theorem Blk.at_tele (b : Blk) (epoch fc : Nat) : (b.at epoch fc).tele = b.tele := rfl
@[simp] theorem Blk.at_trees (b : Blk) (epoch fc : Nat) : (b.at epoch fc).trees = b.trees := rfl
@[simp] theorem Blk.at_terms (b : Blk) (epoch fc : Nat) : (b.at epoch fc).terms = b.terms := rfl
@[simp] theorem Blk.at_gey (b : Blk) (epoch fc : Nat) : (b.at epoch fc).gey = b.gey := rfl
@[simp] theorem Blk.at_sw (b : Blk) (epoch fc : Nat) : (b.at epoch fc).sw = b.sw := rfl
@[simp] theorem Blk.at_tim (b : Blk) (epoch fc : Nat) : (b.at epoch fc).tim = b.tim := rfl
@[simp] theorem Blk.at_cls (b : Blk) (epoch fc : Nat) : (b.at epoch fc).cls = b.cls := rfl
@[simp] theorem Blk.at_dir (b : Blk) (epoch fc : Nat) : (b.at epoch fc).dir = b.dir := rfl
@[simp] theorem Blk.at_cip (b : Blk) (epoch fc : Nat) : (b.at epoch fc).cip = b.cip := rfl
@[simp] theorem Blk.at_tum (b : Blk) (epoch fc : Nat) : (b.at epoch fc).tum = b.tum := rfl
@[simp] theorem Blk.at_pair (b : Blk) (epoch fc : Nat) : (b.at epoch fc).pair = b.pair := rfl
@[simp] theorem Blk.at_out (b : Blk) (epoch fc : Nat) : (b.at epoch fc).out = b.out := rfl
@[simp] theorem Blk.at_free (b : Blk) (epoch fc : Nat) : (b.at epoch fc).free = b.free := rfl
@[simp] theorem Blk.at_msix (b : Blk) (epoch fc : Nat) :
    (b.at epoch fc).msix = b.msix := rfl

/-! `Blk.emits` -/
@[simp] theorem Blk.emits_clk (b : Blk) (l : List Output) : (b.emits l).clk = b.clk := rfl
@[simp] theorem Blk.emits_sys (b : Blk) (l : List Output) : (b.emits l).sys = b.sys := rfl
@[simp] theorem Blk.emits_host (b : Blk) (l : List Output) : (b.emits l).host = b.host := rfl
@[simp] theorem Blk.emits_tele (b : Blk) (l : List Output) : (b.emits l).tele = b.tele := rfl
@[simp] theorem Blk.emits_trees (b : Blk) (l : List Output) : (b.emits l).trees = b.trees := rfl
@[simp] theorem Blk.emits_terms (b : Blk) (l : List Output) : (b.emits l).terms = b.terms := rfl
@[simp] theorem Blk.emits_gey (b : Blk) (l : List Output) : (b.emits l).gey = b.gey := rfl
@[simp] theorem Blk.emits_sw (b : Blk) (l : List Output) : (b.emits l).sw = b.sw := rfl
@[simp] theorem Blk.emits_tim (b : Blk) (l : List Output) : (b.emits l).tim = b.tim := rfl
@[simp] theorem Blk.emits_cls (b : Blk) (l : List Output) : (b.emits l).cls = b.cls := rfl
@[simp] theorem Blk.emits_dir (b : Blk) (l : List Output) : (b.emits l).dir = b.dir := rfl
@[simp] theorem Blk.emits_cip (b : Blk) (l : List Output) : (b.emits l).cip = b.cip := rfl
@[simp] theorem Blk.emits_tum (b : Blk) (l : List Output) : (b.emits l).tum = b.tum := rfl
@[simp] theorem Blk.emits_pair (b : Blk) (l : List Output) : (b.emits l).pair = b.pair := rfl
@[simp] theorem Blk.emits_out (b : Blk) (l : List Output) : (b.emits l).out = l.filter b.leaves ++ b.out := rfl
@[simp] theorem Blk.emits_free (b : Blk) (l : List Output) : (b.emits l).free = b.free := rfl
@[simp] theorem Blk.emits_msix (b : Blk) (l : List Output) :
    (b.emits l).msix = l.foldl pend b.msix := rfl

/-! `Blk.emit` -/
@[simp] theorem Blk.emit_clk (b : Blk) (o : Output) : (b.emit o).clk = b.clk := rfl
@[simp] theorem Blk.emit_sys (b : Blk) (o : Output) : (b.emit o).sys = b.sys := rfl
@[simp] theorem Blk.emit_host (b : Blk) (o : Output) : (b.emit o).host = b.host := rfl
@[simp] theorem Blk.emit_tele (b : Blk) (o : Output) : (b.emit o).tele = b.tele := rfl
@[simp] theorem Blk.emit_trees (b : Blk) (o : Output) : (b.emit o).trees = b.trees := rfl
@[simp] theorem Blk.emit_terms (b : Blk) (o : Output) : (b.emit o).terms = b.terms := rfl
@[simp] theorem Blk.emit_gey (b : Blk) (o : Output) : (b.emit o).gey = b.gey := rfl
@[simp] theorem Blk.emit_sw (b : Blk) (o : Output) : (b.emit o).sw = b.sw := rfl
@[simp] theorem Blk.emit_tim (b : Blk) (o : Output) : (b.emit o).tim = b.tim := rfl
@[simp] theorem Blk.emit_cls (b : Blk) (o : Output) : (b.emit o).cls = b.cls := rfl
@[simp] theorem Blk.emit_dir (b : Blk) (o : Output) : (b.emit o).dir = b.dir := rfl
@[simp] theorem Blk.emit_cip (b : Blk) (o : Output) : (b.emit o).cip = b.cip := rfl
@[simp] theorem Blk.emit_tum (b : Blk) (o : Output) : (b.emit o).tum = b.tum := rfl
@[simp] theorem Blk.emit_pair (b : Blk) (o : Output) : (b.emit o).pair = b.pair := rfl
@[simp] theorem Blk.emit_out (b : Blk) (o : Output) : (b.emit o).out = [o].filter b.leaves ++ b.out := rfl
@[simp] theorem Blk.emit_free (b : Blk) (o : Output) : (b.emit o).free = b.free := rfl
@[simp] theorem Blk.emit_msix (b : Blk) (o : Output) :
    (b.emit o).msix = pend b.msix o := rfl

/-! `Blk.draw` -/
@[simp] theorem Blk.draw_clk (b : Blk) : (b.draw).clk = b.clk := rfl
@[simp] theorem Blk.draw_sys (b : Blk) : (b.draw).sys = b.sys := rfl
@[simp] theorem Blk.draw_host (b : Blk) : (b.draw).host = b.host := rfl
@[simp] theorem Blk.draw_tele (b : Blk) : (b.draw).tele = b.tele := rfl
@[simp] theorem Blk.draw_trees (b : Blk) : (b.draw).trees = b.trees := rfl
@[simp] theorem Blk.draw_terms (b : Blk) : (b.draw).terms = b.terms := rfl
@[simp] theorem Blk.draw_gey (b : Blk) : (b.draw).gey = b.gey := rfl
@[simp] theorem Blk.draw_sw (b : Blk) : (b.draw).sw = b.sw := rfl
@[simp] theorem Blk.draw_tim (b : Blk) : (b.draw).tim = b.tim := rfl
@[simp] theorem Blk.draw_cls (b : Blk) : (b.draw).cls = b.cls := rfl
@[simp] theorem Blk.draw_dir (b : Blk) : (b.draw).dir = b.dir := rfl
@[simp] theorem Blk.draw_cip (b : Blk) : (b.draw).cip = b.cip := rfl
@[simp] theorem Blk.draw_tum (b : Blk) : (b.draw).tum = b.tum := rfl
@[simp] theorem Blk.draw_pair (b : Blk) : (b.draw).pair = b.pair := rfl
@[simp] theorem Blk.draw_out (b : Blk) : (b.draw).out = b.out := rfl
@[simp] theorem Blk.draw_free (b : Blk) : (b.draw).free = b.free + 1 := rfl
@[simp] theorem Blk.draw_msix (b : Blk) :
    (b.draw).msix = b.msix := rfl

/-! `Blk.updTree` -/
@[simp] theorem Blk.updTree_clk (b : Blk) (t : Nat) (f : Tree → Tree) : (b.updTree t f).clk = b.clk := rfl
@[simp] theorem Blk.updTree_sys (b : Blk) (t : Nat) (f : Tree → Tree) : (b.updTree t f).sys = b.sys := rfl
@[simp] theorem Blk.updTree_host (b : Blk) (t : Nat) (f : Tree → Tree) : (b.updTree t f).host = b.host := rfl
@[simp] theorem Blk.updTree_tele (b : Blk) (t : Nat) (f : Tree → Tree) : (b.updTree t f).tele = b.tele := rfl
@[simp] theorem Blk.updTree_trees (b : Blk) (t : Nat) (f : Tree → Tree) : (b.updTree t f).trees = Tab.upd {} b.trees t f := rfl
@[simp] theorem Blk.updTree_terms (b : Blk) (t : Nat) (f : Tree → Tree) : (b.updTree t f).terms = b.terms := rfl
@[simp] theorem Blk.updTree_gey (b : Blk) (t : Nat) (f : Tree → Tree) : (b.updTree t f).gey = b.gey := rfl
@[simp] theorem Blk.updTree_sw (b : Blk) (t : Nat) (f : Tree → Tree) : (b.updTree t f).sw = b.sw := rfl
@[simp] theorem Blk.updTree_tim (b : Blk) (t : Nat) (f : Tree → Tree) : (b.updTree t f).tim = b.tim := rfl
@[simp] theorem Blk.updTree_cls (b : Blk) (t : Nat) (f : Tree → Tree) : (b.updTree t f).cls = b.cls := rfl
@[simp] theorem Blk.updTree_dir (b : Blk) (t : Nat) (f : Tree → Tree) : (b.updTree t f).dir = b.dir := rfl
@[simp] theorem Blk.updTree_cip (b : Blk) (t : Nat) (f : Tree → Tree) : (b.updTree t f).cip = b.cip := rfl
@[simp] theorem Blk.updTree_tum (b : Blk) (t : Nat) (f : Tree → Tree) : (b.updTree t f).tum = b.tum := rfl
@[simp] theorem Blk.updTree_pair (b : Blk) (t : Nat) (f : Tree → Tree) : (b.updTree t f).pair = b.pair := rfl
@[simp] theorem Blk.updTree_out (b : Blk) (t : Nat) (f : Tree → Tree) : (b.updTree t f).out = b.out := rfl
@[simp] theorem Blk.updTree_free (b : Blk) (t : Nat) (f : Tree → Tree) : (b.updTree t f).free = b.free := rfl
@[simp] theorem Blk.updTree_msix (b : Blk) (t : Nat) (f : Tree → Tree) :
    (b.updTree t f).msix = b.msix := rfl

/-! `Blk.updTerm` -/
@[simp] theorem Blk.updTerm_clk (b : Blk) (g : Nat) (f : Term → Term) : (b.updTerm g f).clk = b.clk := rfl
@[simp] theorem Blk.updTerm_sys (b : Blk) (g : Nat) (f : Term → Term) : (b.updTerm g f).sys = b.sys := rfl
@[simp] theorem Blk.updTerm_host (b : Blk) (g : Nat) (f : Term → Term) : (b.updTerm g f).host = b.host := rfl
@[simp] theorem Blk.updTerm_tele (b : Blk) (g : Nat) (f : Term → Term) : (b.updTerm g f).tele = b.tele := rfl
@[simp] theorem Blk.updTerm_trees (b : Blk) (g : Nat) (f : Term → Term) : (b.updTerm g f).trees = b.trees := rfl
@[simp] theorem Blk.updTerm_terms (b : Blk) (g : Nat) (f : Term → Term) : (b.updTerm g f).terms = Tab.upd {} b.terms g f := rfl
@[simp] theorem Blk.updTerm_gey (b : Blk) (g : Nat) (f : Term → Term) : (b.updTerm g f).gey = b.gey := rfl
@[simp] theorem Blk.updTerm_sw (b : Blk) (g : Nat) (f : Term → Term) : (b.updTerm g f).sw = b.sw := rfl
@[simp] theorem Blk.updTerm_tim (b : Blk) (g : Nat) (f : Term → Term) : (b.updTerm g f).tim = b.tim := rfl
@[simp] theorem Blk.updTerm_cls (b : Blk) (g : Nat) (f : Term → Term) : (b.updTerm g f).cls = b.cls := rfl
@[simp] theorem Blk.updTerm_dir (b : Blk) (g : Nat) (f : Term → Term) : (b.updTerm g f).dir = b.dir := rfl
@[simp] theorem Blk.updTerm_cip (b : Blk) (g : Nat) (f : Term → Term) : (b.updTerm g f).cip = b.cip := rfl
@[simp] theorem Blk.updTerm_tum (b : Blk) (g : Nat) (f : Term → Term) : (b.updTerm g f).tum = b.tum := rfl
@[simp] theorem Blk.updTerm_pair (b : Blk) (g : Nat) (f : Term → Term) : (b.updTerm g f).pair = b.pair := rfl
@[simp] theorem Blk.updTerm_out (b : Blk) (g : Nat) (f : Term → Term) : (b.updTerm g f).out = b.out := rfl
@[simp] theorem Blk.updTerm_free (b : Blk) (g : Nat) (f : Term → Term) : (b.updTerm g f).free = b.free := rfl
@[simp] theorem Blk.updTerm_msix (b : Blk) (g : Nat) (f : Term → Term) :
    (b.updTerm g f).msix = b.msix := rfl

/-! `Blk.setRole` -/
@[simp] theorem Blk.setRole_clk (b : Blk) (kind index : Nat) (r : Role) : (b.setRole kind index r).clk = b.clk := rfl
@[simp] theorem Blk.setRole_sys (b : Blk) (kind index : Nat) (r : Role) : (b.setRole kind index r).sys = b.sys := rfl
@[simp] theorem Blk.setRole_host (b : Blk) (kind index : Nat) (r : Role) : (b.setRole kind index r).host = b.host := rfl
@[simp] theorem Blk.setRole_tele (b : Blk) (kind index : Nat) (r : Role) :
    (b.setRole kind index r).tele = { b.tele with sources := Tab.upd {} b.tele.sources (sourceKey kind index) (fun s => { s with role := r, doomed := false }) } := rfl
@[simp] theorem Blk.setRole_trees (b : Blk) (kind index : Nat) (r : Role) : (b.setRole kind index r).trees = b.trees := rfl
@[simp] theorem Blk.setRole_terms (b : Blk) (kind index : Nat) (r : Role) : (b.setRole kind index r).terms = b.terms := rfl
@[simp] theorem Blk.setRole_gey (b : Blk) (kind index : Nat) (r : Role) : (b.setRole kind index r).gey = b.gey := rfl
@[simp] theorem Blk.setRole_sw (b : Blk) (kind index : Nat) (r : Role) : (b.setRole kind index r).sw = b.sw := rfl
@[simp] theorem Blk.setRole_tim (b : Blk) (kind index : Nat) (r : Role) : (b.setRole kind index r).tim = b.tim := rfl
@[simp] theorem Blk.setRole_cls (b : Blk) (kind index : Nat) (r : Role) : (b.setRole kind index r).cls = b.cls := rfl
@[simp] theorem Blk.setRole_dir (b : Blk) (kind index : Nat) (r : Role) : (b.setRole kind index r).dir = b.dir := rfl
@[simp] theorem Blk.setRole_cip (b : Blk) (kind index : Nat) (r : Role) : (b.setRole kind index r).cip = b.cip := rfl
@[simp] theorem Blk.setRole_tum (b : Blk) (kind index : Nat) (r : Role) : (b.setRole kind index r).tum = b.tum := rfl
@[simp] theorem Blk.setRole_pair (b : Blk) (kind index : Nat) (r : Role) : (b.setRole kind index r).pair = b.pair := rfl
@[simp] theorem Blk.setRole_out (b : Blk) (kind index : Nat) (r : Role) : (b.setRole kind index r).out = b.out := rfl
@[simp] theorem Blk.setRole_free (b : Blk) (kind index : Nat) (r : Role) : (b.setRole kind index r).free = b.free := rfl
@[simp] theorem Blk.setRole_msix (b : Blk) (kind index : Nat) (r : Role) :
    (b.setRole kind index r).msix = b.msix := rfl

/-! `Blk.setPair` -/
@[simp] theorem Blk.setPair_clk (b : Blk) (f : Pair → Pair) : (b.setPair f).clk = b.clk := rfl
@[simp] theorem Blk.setPair_sys (b : Blk) (f : Pair → Pair) : (b.setPair f).sys = b.sys := rfl
@[simp] theorem Blk.setPair_host (b : Blk) (f : Pair → Pair) : (b.setPair f).host = b.host := rfl
@[simp] theorem Blk.setPair_tele (b : Blk) (f : Pair → Pair) : (b.setPair f).tele = b.tele := rfl
@[simp] theorem Blk.setPair_trees (b : Blk) (f : Pair → Pair) : (b.setPair f).trees = b.trees := rfl
@[simp] theorem Blk.setPair_terms (b : Blk) (f : Pair → Pair) : (b.setPair f).terms = b.terms := rfl
@[simp] theorem Blk.setPair_gey (b : Blk) (f : Pair → Pair) : (b.setPair f).gey = b.gey := rfl
@[simp] theorem Blk.setPair_sw (b : Blk) (f : Pair → Pair) : (b.setPair f).sw = b.sw := rfl
@[simp] theorem Blk.setPair_tim (b : Blk) (f : Pair → Pair) : (b.setPair f).tim = b.tim := rfl
@[simp] theorem Blk.setPair_cls (b : Blk) (f : Pair → Pair) : (b.setPair f).cls = b.cls := rfl
@[simp] theorem Blk.setPair_dir (b : Blk) (f : Pair → Pair) : (b.setPair f).dir = b.dir := rfl
@[simp] theorem Blk.setPair_cip (b : Blk) (f : Pair → Pair) : (b.setPair f).cip = b.cip := rfl
@[simp] theorem Blk.setPair_tum (b : Blk) (f : Pair → Pair) : (b.setPair f).tum = b.tum := rfl
@[simp] theorem Blk.setPair_pair (b : Blk) (f : Pair → Pair) : (b.setPair f).pair = f b.pair := rfl
@[simp] theorem Blk.setPair_out (b : Blk) (f : Pair → Pair) : (b.setPair f).out = b.out := rfl
@[simp] theorem Blk.setPair_free (b : Blk) (f : Pair → Pair) : (b.setPair f).free = b.free := rfl
@[simp] theorem Blk.setPair_msix (b : Blk) (f : Pair → Pair) :
    (b.setPair f).msix = b.msix := rfl

/-! `Blk.updCmdRing` -/
@[simp] theorem Blk.updCmdRing_clk (b : Blk) (k : Nat) (f : Ring → Ring) : (b.updCmdRing k f).clk = b.clk := rfl
@[simp] theorem Blk.updCmdRing_sys (b : Blk) (k : Nat) (f : Ring → Ring) : (b.updCmdRing k f).sys = b.sys := rfl
@[simp] theorem Blk.updCmdRing_host (b : Blk) (k : Nat) (f : Ring → Ring) :
    (b.updCmdRing k f).host = { b.host with rings := Tab.upd {} b.host.rings k f } := rfl
@[simp] theorem Blk.updCmdRing_tele (b : Blk) (k : Nat) (f : Ring → Ring) : (b.updCmdRing k f).tele = b.tele := rfl
@[simp] theorem Blk.updCmdRing_trees (b : Blk) (k : Nat) (f : Ring → Ring) : (b.updCmdRing k f).trees = b.trees := rfl
@[simp] theorem Blk.updCmdRing_terms (b : Blk) (k : Nat) (f : Ring → Ring) : (b.updCmdRing k f).terms = b.terms := rfl
@[simp] theorem Blk.updCmdRing_gey (b : Blk) (k : Nat) (f : Ring → Ring) : (b.updCmdRing k f).gey = b.gey := rfl
@[simp] theorem Blk.updCmdRing_sw (b : Blk) (k : Nat) (f : Ring → Ring) : (b.updCmdRing k f).sw = b.sw := rfl
@[simp] theorem Blk.updCmdRing_tim (b : Blk) (k : Nat) (f : Ring → Ring) : (b.updCmdRing k f).tim = b.tim := rfl
@[simp] theorem Blk.updCmdRing_cls (b : Blk) (k : Nat) (f : Ring → Ring) : (b.updCmdRing k f).cls = b.cls := rfl
@[simp] theorem Blk.updCmdRing_dir (b : Blk) (k : Nat) (f : Ring → Ring) : (b.updCmdRing k f).dir = b.dir := rfl
@[simp] theorem Blk.updCmdRing_cip (b : Blk) (k : Nat) (f : Ring → Ring) : (b.updCmdRing k f).cip = b.cip := rfl
@[simp] theorem Blk.updCmdRing_tum (b : Blk) (k : Nat) (f : Ring → Ring) : (b.updCmdRing k f).tum = b.tum := rfl
@[simp] theorem Blk.updCmdRing_pair (b : Blk) (k : Nat) (f : Ring → Ring) : (b.updCmdRing k f).pair = b.pair := rfl
@[simp] theorem Blk.updCmdRing_out (b : Blk) (k : Nat) (f : Ring → Ring) : (b.updCmdRing k f).out = b.out := rfl
@[simp] theorem Blk.updCmdRing_free (b : Blk) (k : Nat) (f : Ring → Ring) : (b.updCmdRing k f).free = b.free := rfl
@[simp] theorem Blk.updCmdRing_msix (b : Blk) (k : Nat) (f : Ring → Ring) :
    (b.updCmdRing k f).msix = b.msix := rfl

/-! `Blk.setSb` -/
@[simp] theorem Blk.setSb_clk (b : Blk) (f : Sideband → Sideband) : (b.setSb f).clk = b.clk := rfl
@[simp] theorem Blk.setSb_sys (b : Blk) (f : Sideband → Sideband) : (b.setSb f).sys = b.sys := rfl
@[simp] theorem Blk.setSb_host (b : Blk) (f : Sideband → Sideband) :
    (b.setSb f).host = { b.host with sb := f b.host.sb } := rfl
@[simp] theorem Blk.setSb_tele (b : Blk) (f : Sideband → Sideband) : (b.setSb f).tele = b.tele := rfl
@[simp] theorem Blk.setSb_trees (b : Blk) (f : Sideband → Sideband) : (b.setSb f).trees = b.trees := rfl
@[simp] theorem Blk.setSb_terms (b : Blk) (f : Sideband → Sideband) : (b.setSb f).terms = b.terms := rfl
@[simp] theorem Blk.setSb_gey (b : Blk) (f : Sideband → Sideband) : (b.setSb f).gey = b.gey := rfl
@[simp] theorem Blk.setSb_sw (b : Blk) (f : Sideband → Sideband) : (b.setSb f).sw = b.sw := rfl
@[simp] theorem Blk.setSb_tim (b : Blk) (f : Sideband → Sideband) : (b.setSb f).tim = b.tim := rfl
@[simp] theorem Blk.setSb_cls (b : Blk) (f : Sideband → Sideband) : (b.setSb f).cls = b.cls := rfl
@[simp] theorem Blk.setSb_dir (b : Blk) (f : Sideband → Sideband) : (b.setSb f).dir = b.dir := rfl
@[simp] theorem Blk.setSb_cip (b : Blk) (f : Sideband → Sideband) : (b.setSb f).cip = b.cip := rfl
@[simp] theorem Blk.setSb_tum (b : Blk) (f : Sideband → Sideband) : (b.setSb f).tum = b.tum := rfl
@[simp] theorem Blk.setSb_pair (b : Blk) (f : Sideband → Sideband) : (b.setSb f).pair = b.pair := rfl
@[simp] theorem Blk.setSb_out (b : Blk) (f : Sideband → Sideband) : (b.setSb f).out = b.out := rfl
@[simp] theorem Blk.setSb_free (b : Blk) (f : Sideband → Sideband) : (b.setSb f).free = b.free := rfl
@[simp] theorem Blk.setSb_msix (b : Blk) (f : Sideband → Sideband) :
    (b.setSb f).msix = b.msix := rfl

/-! `Blk.updGq` -/
@[simp] theorem Blk.updGq_clk (b : Blk) (q : Nat) (f : QueueLive → QueueLive) : (b.updGq q f).clk = b.clk := rfl
@[simp] theorem Blk.updGq_sys (b : Blk) (q : Nat) (f : QueueLive → QueueLive) : (b.updGq q f).sys = b.sys := rfl
@[simp] theorem Blk.updGq_host (b : Blk) (q : Nat) (f : QueueLive → QueueLive) : (b.updGq q f).host = b.host := rfl
@[simp] theorem Blk.updGq_tele (b : Blk) (q : Nat) (f : QueueLive → QueueLive) : (b.updGq q f).tele = b.tele := rfl
@[simp] theorem Blk.updGq_trees (b : Blk) (q : Nat) (f : QueueLive → QueueLive) : (b.updGq q f).trees = b.trees := rfl
@[simp] theorem Blk.updGq_terms (b : Blk) (q : Nat) (f : QueueLive → QueueLive) : (b.updGq q f).terms = b.terms := rfl
@[simp] theorem Blk.updGq_gey (b : Blk) (q : Nat) (f : QueueLive → QueueLive) :
    (b.updGq q f).gey = { b.gey with queues := Tab.upd {} b.gey.queues q f } := rfl
@[simp] theorem Blk.updGq_sw (b : Blk) (q : Nat) (f : QueueLive → QueueLive) : (b.updGq q f).sw = b.sw := rfl
@[simp] theorem Blk.updGq_tim (b : Blk) (q : Nat) (f : QueueLive → QueueLive) : (b.updGq q f).tim = b.tim := rfl
@[simp] theorem Blk.updGq_cls (b : Blk) (q : Nat) (f : QueueLive → QueueLive) : (b.updGq q f).cls = b.cls := rfl
@[simp] theorem Blk.updGq_dir (b : Blk) (q : Nat) (f : QueueLive → QueueLive) : (b.updGq q f).dir = b.dir := rfl
@[simp] theorem Blk.updGq_cip (b : Blk) (q : Nat) (f : QueueLive → QueueLive) : (b.updGq q f).cip = b.cip := rfl
@[simp] theorem Blk.updGq_tum (b : Blk) (q : Nat) (f : QueueLive → QueueLive) : (b.updGq q f).tum = b.tum := rfl
@[simp] theorem Blk.updGq_pair (b : Blk) (q : Nat) (f : QueueLive → QueueLive) : (b.updGq q f).pair = b.pair := rfl
@[simp] theorem Blk.updGq_out (b : Blk) (q : Nat) (f : QueueLive → QueueLive) : (b.updGq q f).out = b.out := rfl
@[simp] theorem Blk.updGq_free (b : Blk) (q : Nat) (f : QueueLive → QueueLive) : (b.updGq q f).free = b.free := rfl
@[simp] theorem Blk.updGq_msix (b : Blk) (q : Nat) (f : QueueLive → QueueLive) :
    (b.updGq q f).msix = b.msix := rfl

/-! `Blk.setGey` -/
@[simp] theorem Blk.setGey_clk (b : Blk) (f : GeyCfg → GeyCfg) : (b.setGey f).clk = b.clk := rfl
@[simp] theorem Blk.setGey_sys (b : Blk) (f : GeyCfg → GeyCfg) : (b.setGey f).sys = b.sys := rfl
@[simp] theorem Blk.setGey_host (b : Blk) (f : GeyCfg → GeyCfg) : (b.setGey f).host = b.host := rfl
@[simp] theorem Blk.setGey_tele (b : Blk) (f : GeyCfg → GeyCfg) : (b.setGey f).tele = b.tele := rfl
@[simp] theorem Blk.setGey_trees (b : Blk) (f : GeyCfg → GeyCfg) : (b.setGey f).trees = b.trees := rfl
@[simp] theorem Blk.setGey_terms (b : Blk) (f : GeyCfg → GeyCfg) : (b.setGey f).terms = b.terms := rfl
@[simp] theorem Blk.setGey_gey (b : Blk) (f : GeyCfg → GeyCfg) :
    (b.setGey f).gey = { b.gey with cfg := Vers.write {} b.gey.cfg b.clk.epoch f } := rfl
@[simp] theorem Blk.setGey_sw (b : Blk) (f : GeyCfg → GeyCfg) : (b.setGey f).sw = b.sw := rfl
@[simp] theorem Blk.setGey_tim (b : Blk) (f : GeyCfg → GeyCfg) : (b.setGey f).tim = b.tim := rfl
@[simp] theorem Blk.setGey_cls (b : Blk) (f : GeyCfg → GeyCfg) : (b.setGey f).cls = b.cls := rfl
@[simp] theorem Blk.setGey_dir (b : Blk) (f : GeyCfg → GeyCfg) : (b.setGey f).dir = b.dir := rfl
@[simp] theorem Blk.setGey_cip (b : Blk) (f : GeyCfg → GeyCfg) : (b.setGey f).cip = b.cip := rfl
@[simp] theorem Blk.setGey_tum (b : Blk) (f : GeyCfg → GeyCfg) : (b.setGey f).tum = b.tum := rfl
@[simp] theorem Blk.setGey_pair (b : Blk) (f : GeyCfg → GeyCfg) : (b.setGey f).pair = b.pair := rfl
@[simp] theorem Blk.setGey_out (b : Blk) (f : GeyCfg → GeyCfg) : (b.setGey f).out = b.out := rfl
@[simp] theorem Blk.setGey_free (b : Blk) (f : GeyCfg → GeyCfg) : (b.setGey f).free = b.free := rfl
@[simp] theorem Blk.setGey_msix (b : Blk) (f : GeyCfg → GeyCfg) :
    (b.setGey f).msix = b.msix := rfl

/-! `Blk.updSub` -/
@[simp] theorem Blk.updSub_clk (b : Blk) (s : Nat) (f : SubPort → SubPort) : (b.updSub s f).clk = b.clk := rfl
@[simp] theorem Blk.updSub_sys (b : Blk) (s : Nat) (f : SubPort → SubPort) : (b.updSub s f).sys = b.sys := rfl
@[simp] theorem Blk.updSub_host (b : Blk) (s : Nat) (f : SubPort → SubPort) : (b.updSub s f).host = b.host := rfl
@[simp] theorem Blk.updSub_tele (b : Blk) (s : Nat) (f : SubPort → SubPort) : (b.updSub s f).tele = b.tele := rfl
@[simp] theorem Blk.updSub_trees (b : Blk) (s : Nat) (f : SubPort → SubPort) : (b.updSub s f).trees = b.trees := rfl
@[simp] theorem Blk.updSub_terms (b : Blk) (s : Nat) (f : SubPort → SubPort) : (b.updSub s f).terms = b.terms := rfl
@[simp] theorem Blk.updSub_gey (b : Blk) (s : Nat) (f : SubPort → SubPort) : (b.updSub s f).gey = b.gey := rfl
@[simp] theorem Blk.updSub_sw (b : Blk) (s : Nat) (f : SubPort → SubPort) :
    (b.updSub s f).sw = { b.sw with subs := Tab.upd {} b.sw.subs s f } := rfl
@[simp] theorem Blk.updSub_tim (b : Blk) (s : Nat) (f : SubPort → SubPort) : (b.updSub s f).tim = b.tim := rfl
@[simp] theorem Blk.updSub_cls (b : Blk) (s : Nat) (f : SubPort → SubPort) : (b.updSub s f).cls = b.cls := rfl
@[simp] theorem Blk.updSub_dir (b : Blk) (s : Nat) (f : SubPort → SubPort) : (b.updSub s f).dir = b.dir := rfl
@[simp] theorem Blk.updSub_cip (b : Blk) (s : Nat) (f : SubPort → SubPort) : (b.updSub s f).cip = b.cip := rfl
@[simp] theorem Blk.updSub_tum (b : Blk) (s : Nat) (f : SubPort → SubPort) : (b.updSub s f).tum = b.tum := rfl
@[simp] theorem Blk.updSub_pair (b : Blk) (s : Nat) (f : SubPort → SubPort) : (b.updSub s f).pair = b.pair := rfl
@[simp] theorem Blk.updSub_out (b : Blk) (s : Nat) (f : SubPort → SubPort) : (b.updSub s f).out = b.out := rfl
@[simp] theorem Blk.updSub_free (b : Blk) (s : Nat) (f : SubPort → SubPort) : (b.updSub s f).free = b.free := rfl
@[simp] theorem Blk.updSub_msix (b : Blk) (s : Nat) (f : SubPort → SubPort) :
    (b.updSub s f).msix = b.msix := rfl

/-! `Blk.setQueue` -/
@[simp] theorem Blk.setQueue_clk (b : Blk) (q : Nat) (l : List Frame) : (b.setQueue q l).clk = b.clk := rfl
@[simp] theorem Blk.setQueue_sys (b : Blk) (q : Nat) (l : List Frame) : (b.setQueue q l).sys = b.sys := rfl
@[simp] theorem Blk.setQueue_host (b : Blk) (q : Nat) (l : List Frame) : (b.setQueue q l).host = b.host := rfl
@[simp] theorem Blk.setQueue_tele (b : Blk) (q : Nat) (l : List Frame) : (b.setQueue q l).tele = b.tele := rfl
@[simp] theorem Blk.setQueue_trees (b : Blk) (q : Nat) (l : List Frame) : (b.setQueue q l).trees = b.trees := rfl
@[simp] theorem Blk.setQueue_terms (b : Blk) (q : Nat) (l : List Frame) : (b.setQueue q l).terms = b.terms := rfl
@[simp] theorem Blk.setQueue_gey (b : Blk) (q : Nat) (l : List Frame) : (b.setQueue q l).gey = b.gey := rfl
@[simp] theorem Blk.setQueue_sw (b : Blk) (q : Nat) (l : List Frame) :
    (b.setQueue q l).sw = { b.sw with queues := Tab.set [] b.sw.queues q l } := rfl
@[simp] theorem Blk.setQueue_tim (b : Blk) (q : Nat) (l : List Frame) : (b.setQueue q l).tim = b.tim := rfl
@[simp] theorem Blk.setQueue_cls (b : Blk) (q : Nat) (l : List Frame) : (b.setQueue q l).cls = b.cls := rfl
@[simp] theorem Blk.setQueue_dir (b : Blk) (q : Nat) (l : List Frame) : (b.setQueue q l).dir = b.dir := rfl
@[simp] theorem Blk.setQueue_cip (b : Blk) (q : Nat) (l : List Frame) : (b.setQueue q l).cip = b.cip := rfl
@[simp] theorem Blk.setQueue_tum (b : Blk) (q : Nat) (l : List Frame) : (b.setQueue q l).tum = b.tum := rfl
@[simp] theorem Blk.setQueue_pair (b : Blk) (q : Nat) (l : List Frame) : (b.setQueue q l).pair = b.pair := rfl
@[simp] theorem Blk.setQueue_out (b : Blk) (q : Nat) (l : List Frame) : (b.setQueue q l).out = b.out := rfl
@[simp] theorem Blk.setQueue_free (b : Blk) (q : Nat) (l : List Frame) : (b.setQueue q l).free = b.free := rfl
@[simp] theorem Blk.setQueue_msix (b : Blk) (q : Nat) (l : List Frame) :
    (b.setQueue q l).msix = b.msix := rfl

/-! `Blk.updRing` -/
@[simp] theorem Blk.updRing_clk (b : Blk) (k : Nat) (f : RxRing → RxRing) : (b.updRing k f).clk = b.clk := rfl
@[simp] theorem Blk.updRing_sys (b : Blk) (k : Nat) (f : RxRing → RxRing) : (b.updRing k f).sys = b.sys := rfl
@[simp] theorem Blk.updRing_host (b : Blk) (k : Nat) (f : RxRing → RxRing) : (b.updRing k f).host = b.host := rfl
@[simp] theorem Blk.updRing_tele (b : Blk) (k : Nat) (f : RxRing → RxRing) : (b.updRing k f).tele = b.tele := rfl
@[simp] theorem Blk.updRing_trees (b : Blk) (k : Nat) (f : RxRing → RxRing) : (b.updRing k f).trees = b.trees := rfl
@[simp] theorem Blk.updRing_terms (b : Blk) (k : Nat) (f : RxRing → RxRing) : (b.updRing k f).terms = b.terms := rfl
@[simp] theorem Blk.updRing_gey (b : Blk) (k : Nat) (f : RxRing → RxRing) : (b.updRing k f).gey = b.gey := rfl
@[simp] theorem Blk.updRing_sw (b : Blk) (k : Nat) (f : RxRing → RxRing) :
    (b.updRing k f).sw = { b.sw with rings := Tab.upd {} b.sw.rings k f } := rfl
@[simp] theorem Blk.updRing_tim (b : Blk) (k : Nat) (f : RxRing → RxRing) : (b.updRing k f).tim = b.tim := rfl
@[simp] theorem Blk.updRing_cls (b : Blk) (k : Nat) (f : RxRing → RxRing) : (b.updRing k f).cls = b.cls := rfl
@[simp] theorem Blk.updRing_dir (b : Blk) (k : Nat) (f : RxRing → RxRing) : (b.updRing k f).dir = b.dir := rfl
@[simp] theorem Blk.updRing_cip (b : Blk) (k : Nat) (f : RxRing → RxRing) : (b.updRing k f).cip = b.cip := rfl
@[simp] theorem Blk.updRing_tum (b : Blk) (k : Nat) (f : RxRing → RxRing) : (b.updRing k f).tum = b.tum := rfl
@[simp] theorem Blk.updRing_pair (b : Blk) (k : Nat) (f : RxRing → RxRing) : (b.updRing k f).pair = b.pair := rfl
@[simp] theorem Blk.updRing_out (b : Blk) (k : Nat) (f : RxRing → RxRing) : (b.updRing k f).out = b.out := rfl
@[simp] theorem Blk.updRing_free (b : Blk) (k : Nat) (f : RxRing → RxRing) : (b.updRing k f).free = b.free := rfl
@[simp] theorem Blk.updRing_msix (b : Blk) (k : Nat) (f : RxRing → RxRing) :
    (b.updRing k f).msix = b.msix := rfl

/-! `Blk.setSw` -/
@[simp] theorem Blk.setSw_clk (b : Blk) (f : SwCfg → SwCfg) : (b.setSw f).clk = b.clk := rfl
@[simp] theorem Blk.setSw_sys (b : Blk) (f : SwCfg → SwCfg) : (b.setSw f).sys = b.sys := rfl
@[simp] theorem Blk.setSw_host (b : Blk) (f : SwCfg → SwCfg) : (b.setSw f).host = b.host := rfl
@[simp] theorem Blk.setSw_tele (b : Blk) (f : SwCfg → SwCfg) : (b.setSw f).tele = b.tele := rfl
@[simp] theorem Blk.setSw_trees (b : Blk) (f : SwCfg → SwCfg) : (b.setSw f).trees = b.trees := rfl
@[simp] theorem Blk.setSw_terms (b : Blk) (f : SwCfg → SwCfg) : (b.setSw f).terms = b.terms := rfl
@[simp] theorem Blk.setSw_gey (b : Blk) (f : SwCfg → SwCfg) : (b.setSw f).gey = b.gey := rfl
@[simp] theorem Blk.setSw_sw (b : Blk) (f : SwCfg → SwCfg) :
    (b.setSw f).sw = { b.sw with cfg := Vers.write {} b.sw.cfg b.clk.epoch f } := rfl
@[simp] theorem Blk.setSw_tim (b : Blk) (f : SwCfg → SwCfg) : (b.setSw f).tim = b.tim := rfl
@[simp] theorem Blk.setSw_cls (b : Blk) (f : SwCfg → SwCfg) : (b.setSw f).cls = b.cls := rfl
@[simp] theorem Blk.setSw_dir (b : Blk) (f : SwCfg → SwCfg) : (b.setSw f).dir = b.dir := rfl
@[simp] theorem Blk.setSw_cip (b : Blk) (f : SwCfg → SwCfg) : (b.setSw f).cip = b.cip := rfl
@[simp] theorem Blk.setSw_tum (b : Blk) (f : SwCfg → SwCfg) : (b.setSw f).tum = b.tum := rfl
@[simp] theorem Blk.setSw_pair (b : Blk) (f : SwCfg → SwCfg) : (b.setSw f).pair = b.pair := rfl
@[simp] theorem Blk.setSw_out (b : Blk) (f : SwCfg → SwCfg) : (b.setSw f).out = b.out := rfl
@[simp] theorem Blk.setSw_free (b : Blk) (f : SwCfg → SwCfg) : (b.setSw f).free = b.free := rfl
@[simp] theorem Blk.setSw_msix (b : Blk) (f : SwCfg → SwCfg) :
    (b.setSw f).msix = b.msix := rfl

/-! `Blk.setCls` -/
@[simp] theorem Blk.setCls_clk (b : Blk) (f : ClsCfg → ClsCfg) : (b.setCls f).clk = b.clk := rfl
@[simp] theorem Blk.setCls_sys (b : Blk) (f : ClsCfg → ClsCfg) : (b.setCls f).sys = b.sys := rfl
@[simp] theorem Blk.setCls_host (b : Blk) (f : ClsCfg → ClsCfg) : (b.setCls f).host = b.host := rfl
@[simp] theorem Blk.setCls_tele (b : Blk) (f : ClsCfg → ClsCfg) : (b.setCls f).tele = b.tele := rfl
@[simp] theorem Blk.setCls_trees (b : Blk) (f : ClsCfg → ClsCfg) : (b.setCls f).trees = b.trees := rfl
@[simp] theorem Blk.setCls_terms (b : Blk) (f : ClsCfg → ClsCfg) : (b.setCls f).terms = b.terms := rfl
@[simp] theorem Blk.setCls_gey (b : Blk) (f : ClsCfg → ClsCfg) : (b.setCls f).gey = b.gey := rfl
@[simp] theorem Blk.setCls_sw (b : Blk) (f : ClsCfg → ClsCfg) : (b.setCls f).sw = b.sw := rfl
@[simp] theorem Blk.setCls_tim (b : Blk) (f : ClsCfg → ClsCfg) : (b.setCls f).tim = b.tim := rfl
@[simp] theorem Blk.setCls_cls (b : Blk) (f : ClsCfg → ClsCfg) :
    (b.setCls f).cls = { b.cls with cfg := Vers.write {} b.cls.cfg b.clk.epoch f } := rfl
@[simp] theorem Blk.setCls_dir (b : Blk) (f : ClsCfg → ClsCfg) : (b.setCls f).dir = b.dir := rfl
@[simp] theorem Blk.setCls_cip (b : Blk) (f : ClsCfg → ClsCfg) : (b.setCls f).cip = b.cip := rfl
@[simp] theorem Blk.setCls_tum (b : Blk) (f : ClsCfg → ClsCfg) : (b.setCls f).tum = b.tum := rfl
@[simp] theorem Blk.setCls_pair (b : Blk) (f : ClsCfg → ClsCfg) : (b.setCls f).pair = b.pair := rfl
@[simp] theorem Blk.setCls_out (b : Blk) (f : ClsCfg → ClsCfg) : (b.setCls f).out = b.out := rfl
@[simp] theorem Blk.setCls_free (b : Blk) (f : ClsCfg → ClsCfg) : (b.setCls f).free = b.free := rfl
@[simp] theorem Blk.setCls_msix (b : Blk) (f : ClsCfg → ClsCfg) :
    (b.setCls f).msix = b.msix := rfl

/-! `Blk.setTimeCfg` -/
@[simp] theorem Blk.setTimeCfg_clk (b : Blk) (f : TimeCfg → TimeCfg) : (b.setTimeCfg f).clk = b.clk := rfl
@[simp] theorem Blk.setTimeCfg_sys (b : Blk) (f : TimeCfg → TimeCfg) : (b.setTimeCfg f).sys = b.sys := rfl
@[simp] theorem Blk.setTimeCfg_host (b : Blk) (f : TimeCfg → TimeCfg) : (b.setTimeCfg f).host = b.host := rfl
@[simp] theorem Blk.setTimeCfg_tele (b : Blk) (f : TimeCfg → TimeCfg) : (b.setTimeCfg f).tele = b.tele := rfl
@[simp] theorem Blk.setTimeCfg_trees (b : Blk) (f : TimeCfg → TimeCfg) : (b.setTimeCfg f).trees = b.trees := rfl
@[simp] theorem Blk.setTimeCfg_terms (b : Blk) (f : TimeCfg → TimeCfg) : (b.setTimeCfg f).terms = b.terms := rfl
@[simp] theorem Blk.setTimeCfg_gey (b : Blk) (f : TimeCfg → TimeCfg) : (b.setTimeCfg f).gey = b.gey := rfl
@[simp] theorem Blk.setTimeCfg_sw (b : Blk) (f : TimeCfg → TimeCfg) : (b.setTimeCfg f).sw = b.sw := rfl
@[simp] theorem Blk.setTimeCfg_tim (b : Blk) (f : TimeCfg → TimeCfg) :
    (b.setTimeCfg f).tim = { b.tim with cfg := Vers.write {} b.tim.cfg b.clk.epoch f } := rfl
@[simp] theorem Blk.setTimeCfg_cls (b : Blk) (f : TimeCfg → TimeCfg) : (b.setTimeCfg f).cls = b.cls := rfl
@[simp] theorem Blk.setTimeCfg_dir (b : Blk) (f : TimeCfg → TimeCfg) : (b.setTimeCfg f).dir = b.dir := rfl
@[simp] theorem Blk.setTimeCfg_cip (b : Blk) (f : TimeCfg → TimeCfg) : (b.setTimeCfg f).cip = b.cip := rfl
@[simp] theorem Blk.setTimeCfg_tum (b : Blk) (f : TimeCfg → TimeCfg) : (b.setTimeCfg f).tum = b.tum := rfl
@[simp] theorem Blk.setTimeCfg_pair (b : Blk) (f : TimeCfg → TimeCfg) : (b.setTimeCfg f).pair = b.pair := rfl
@[simp] theorem Blk.setTimeCfg_out (b : Blk) (f : TimeCfg → TimeCfg) : (b.setTimeCfg f).out = b.out := rfl
@[simp] theorem Blk.setTimeCfg_free (b : Blk) (f : TimeCfg → TimeCfg) : (b.setTimeCfg f).free = b.free := rfl
@[simp] theorem Blk.setTimeCfg_msix (b : Blk) (f : TimeCfg → TimeCfg) :
    (b.setTimeCfg f).msix = b.msix := rfl

/-! `Blk.updFlow` -/
@[simp] theorem Blk.updFlow_clk (b : Blk) (x : Nat) (f : Flow → Flow) : (b.updFlow x f).clk = b.clk := rfl
@[simp] theorem Blk.updFlow_sys (b : Blk) (x : Nat) (f : Flow → Flow) : (b.updFlow x f).sys = b.sys := rfl
@[simp] theorem Blk.updFlow_host (b : Blk) (x : Nat) (f : Flow → Flow) : (b.updFlow x f).host = b.host := rfl
@[simp] theorem Blk.updFlow_tele (b : Blk) (x : Nat) (f : Flow → Flow) : (b.updFlow x f).tele = b.tele := rfl
@[simp] theorem Blk.updFlow_trees (b : Blk) (x : Nat) (f : Flow → Flow) : (b.updFlow x f).trees = b.trees := rfl
@[simp] theorem Blk.updFlow_terms (b : Blk) (x : Nat) (f : Flow → Flow) : (b.updFlow x f).terms = b.terms := rfl
@[simp] theorem Blk.updFlow_gey (b : Blk) (x : Nat) (f : Flow → Flow) : (b.updFlow x f).gey = b.gey := rfl
@[simp] theorem Blk.updFlow_sw (b : Blk) (x : Nat) (f : Flow → Flow) : (b.updFlow x f).sw = b.sw := rfl
@[simp] theorem Blk.updFlow_tim (b : Blk) (x : Nat) (f : Flow → Flow) : (b.updFlow x f).tim = b.tim := rfl
@[simp] theorem Blk.updFlow_cls (b : Blk) (x : Nat) (f : Flow → Flow) : (b.updFlow x f).cls = b.cls := rfl
@[simp] theorem Blk.updFlow_dir (b : Blk) (x : Nat) (f : Flow → Flow) :
    (b.updFlow x f).dir = { b.dir with flows := Tab.upd {} b.dir.flows x f } := rfl
@[simp] theorem Blk.updFlow_cip (b : Blk) (x : Nat) (f : Flow → Flow) : (b.updFlow x f).cip = b.cip := rfl
@[simp] theorem Blk.updFlow_tum (b : Blk) (x : Nat) (f : Flow → Flow) : (b.updFlow x f).tum = b.tum := rfl
@[simp] theorem Blk.updFlow_pair (b : Blk) (x : Nat) (f : Flow → Flow) : (b.updFlow x f).pair = b.pair := rfl
@[simp] theorem Blk.updFlow_out (b : Blk) (x : Nat) (f : Flow → Flow) : (b.updFlow x f).out = b.out := rfl
@[simp] theorem Blk.updFlow_free (b : Blk) (x : Nat) (f : Flow → Flow) : (b.updFlow x f).free = b.free := rfl
@[simp] theorem Blk.updFlow_msix (b : Blk) (x : Nat) (f : Flow → Flow) :
    (b.updFlow x f).msix = b.msix := rfl

/-! `Blk.updCarrier` -/
@[simp] theorem Blk.updCarrier_clk (b : Blk) (x : Nat) (f : CarrierKeys → CarrierKeys) : (b.updCarrier x f).clk = b.clk := rfl
@[simp] theorem Blk.updCarrier_sys (b : Blk) (x : Nat) (f : CarrierKeys → CarrierKeys) : (b.updCarrier x f).sys = b.sys := rfl
@[simp] theorem Blk.updCarrier_host (b : Blk) (x : Nat) (f : CarrierKeys → CarrierKeys) :
    (b.updCarrier x f).host = b.host := rfl
@[simp] theorem Blk.updCarrier_tele (b : Blk) (x : Nat) (f : CarrierKeys → CarrierKeys) :
    (b.updCarrier x f).tele = b.tele := rfl
@[simp] theorem Blk.updCarrier_trees (b : Blk) (x : Nat) (f : CarrierKeys → CarrierKeys) :
    (b.updCarrier x f).trees = b.trees := rfl
@[simp] theorem Blk.updCarrier_terms (b : Blk) (x : Nat) (f : CarrierKeys → CarrierKeys) :
    (b.updCarrier x f).terms = b.terms := rfl
@[simp] theorem Blk.updCarrier_gey (b : Blk) (x : Nat) (f : CarrierKeys → CarrierKeys) : (b.updCarrier x f).gey = b.gey := rfl
@[simp] theorem Blk.updCarrier_sw (b : Blk) (x : Nat) (f : CarrierKeys → CarrierKeys) : (b.updCarrier x f).sw = b.sw := rfl
@[simp] theorem Blk.updCarrier_tim (b : Blk) (x : Nat) (f : CarrierKeys → CarrierKeys) : (b.updCarrier x f).tim = b.tim := rfl
@[simp] theorem Blk.updCarrier_cls (b : Blk) (x : Nat) (f : CarrierKeys → CarrierKeys) : (b.updCarrier x f).cls = b.cls := rfl
@[simp] theorem Blk.updCarrier_dir (b : Blk) (x : Nat) (f : CarrierKeys → CarrierKeys) : (b.updCarrier x f).dir = b.dir := rfl
@[simp] theorem Blk.updCarrier_cip (b : Blk) (x : Nat) (f : CarrierKeys → CarrierKeys) :
    (b.updCarrier x f).cip = { b.cip with carriers := Tab.upd {} b.cip.carriers x f } := rfl
@[simp] theorem Blk.updCarrier_tum (b : Blk) (x : Nat) (f : CarrierKeys → CarrierKeys) : (b.updCarrier x f).tum = b.tum := rfl
@[simp] theorem Blk.updCarrier_pair (b : Blk) (x : Nat) (f : CarrierKeys → CarrierKeys) :
    (b.updCarrier x f).pair = b.pair := rfl
@[simp] theorem Blk.updCarrier_out (b : Blk) (x : Nat) (f : CarrierKeys → CarrierKeys) : (b.updCarrier x f).out = b.out := rfl
@[simp] theorem Blk.updCarrier_free (b : Blk) (x : Nat) (f : CarrierKeys → CarrierKeys) :
    (b.updCarrier x f).free = b.free := rfl
@[simp] theorem Blk.updCarrier_msix (b : Blk) (x : Nat) (f : CarrierKeys → CarrierKeys) :
    (b.updCarrier x f).msix = b.msix := rfl

/-! `Blk.updSource` -/
@[simp] theorem Blk.updSource_clk (b : Blk) (kind index : Nat) (f : Source → Source) :
    (b.updSource kind index f).clk = b.clk := rfl
@[simp] theorem Blk.updSource_sys (b : Blk) (kind index : Nat) (f : Source → Source) :
    (b.updSource kind index f).sys = b.sys := rfl
@[simp] theorem Blk.updSource_host (b : Blk) (kind index : Nat) (f : Source → Source) :
    (b.updSource kind index f).host = b.host := rfl
@[simp] theorem Blk.updSource_tele (b : Blk) (kind index : Nat) (f : Source → Source) :
    (b.updSource kind index f).tele = { b.tele with sources := Tab.upd {} b.tele.sources (sourceKey kind index) f } := rfl
@[simp] theorem Blk.updSource_trees (b : Blk) (kind index : Nat) (f : Source → Source) :
    (b.updSource kind index f).trees = b.trees := rfl
@[simp] theorem Blk.updSource_terms (b : Blk) (kind index : Nat) (f : Source → Source) :
    (b.updSource kind index f).terms = b.terms := rfl
@[simp] theorem Blk.updSource_gey (b : Blk) (kind index : Nat) (f : Source → Source) :
    (b.updSource kind index f).gey = b.gey := rfl
@[simp] theorem Blk.updSource_sw (b : Blk) (kind index : Nat) (f : Source → Source) :
    (b.updSource kind index f).sw = b.sw := rfl
@[simp] theorem Blk.updSource_tim (b : Blk) (kind index : Nat) (f : Source → Source) :
    (b.updSource kind index f).tim = b.tim := rfl
@[simp] theorem Blk.updSource_cls (b : Blk) (kind index : Nat) (f : Source → Source) :
    (b.updSource kind index f).cls = b.cls := rfl
@[simp] theorem Blk.updSource_dir (b : Blk) (kind index : Nat) (f : Source → Source) :
    (b.updSource kind index f).dir = b.dir := rfl
@[simp] theorem Blk.updSource_cip (b : Blk) (kind index : Nat) (f : Source → Source) :
    (b.updSource kind index f).cip = b.cip := rfl
@[simp] theorem Blk.updSource_tum (b : Blk) (kind index : Nat) (f : Source → Source) :
    (b.updSource kind index f).tum = b.tum := rfl
@[simp] theorem Blk.updSource_pair (b : Blk) (kind index : Nat) (f : Source → Source) :
    (b.updSource kind index f).pair = b.pair := rfl
@[simp] theorem Blk.updSource_out (b : Blk) (kind index : Nat) (f : Source → Source) :
    (b.updSource kind index f).out = b.out := rfl
@[simp] theorem Blk.updSource_free (b : Blk) (kind index : Nat) (f : Source → Source) :
    (b.updSource kind index f).free = b.free := rfl
@[simp] theorem Blk.updSource_msix (b : Blk) (kind index : Nat) (f : Source → Source) :
    (b.updSource kind index f).msix = b.msix := rfl

/-! `Blk.timed` -/
@[simp] theorem Blk.timed_clk (b a : Blk) : (b.timed a).clk = { a.clk with epoch := b.clk.epoch, fc := b.clk.fc } := rfl
@[simp] theorem Blk.timed_sys (b a : Blk) :
    (b.timed a).sys = { a.sys with part := b.sys.part, rev := b.sys.rev, straps := b.sys.straps } := rfl
@[simp] theorem Blk.timed_host (b a : Blk) : (b.timed a).host = a.host := rfl
@[simp] theorem Blk.timed_tele (b a : Blk) : (b.timed a).tele = a.tele := rfl
@[simp] theorem Blk.timed_trees (b a : Blk) : (b.timed a).trees = a.trees := rfl
@[simp] theorem Blk.timed_terms (b a : Blk) : (b.timed a).terms = a.terms := rfl
@[simp] theorem Blk.timed_gey (b a : Blk) : (b.timed a).gey = a.gey := rfl
@[simp] theorem Blk.timed_sw (b a : Blk) : (b.timed a).sw = a.sw := rfl
@[simp] theorem Blk.timed_tim (b a : Blk) : (b.timed a).tim = a.tim := rfl
@[simp] theorem Blk.timed_cls (b a : Blk) : (b.timed a).cls = a.cls := rfl
@[simp] theorem Blk.timed_dir (b a : Blk) : (b.timed a).dir = a.dir := rfl
@[simp] theorem Blk.timed_cip (b a : Blk) : (b.timed a).cip = a.cip := rfl
@[simp] theorem Blk.timed_tum (b a : Blk) : (b.timed a).tum = a.tum := rfl
@[simp] theorem Blk.timed_pair (b a : Blk) : (b.timed a).pair = a.pair := rfl
@[simp] theorem Blk.timed_out (b a : Blk) : (b.timed a).out = a.out := rfl
@[simp] theorem Blk.timed_free (b a : Blk) : (b.timed a).free = a.free := rfl
@[simp] theorem Blk.timed_msix (b a : Blk) :
    (b.timed a).msix = a.msix := rfl

/-! `Blk.within` -/
@[simp] theorem Blk.within_clk (b a : Blk) : (b.within a).clk = { a.clk with epoch := b.clk.epoch, fc := b.clk.fc } := rfl
@[simp] theorem Blk.within_sys (b a : Blk) :
    (b.within a).sys = { a.sys with part := b.sys.part, rev := b.sys.rev, straps := b.sys.straps, phase := b.sys.phase } := rfl
@[simp] theorem Blk.within_host (b a : Blk) : (b.within a).host = a.host := rfl
@[simp] theorem Blk.within_tele (b a : Blk) : (b.within a).tele = a.tele := rfl
@[simp] theorem Blk.within_trees (b a : Blk) : (b.within a).trees = a.trees := rfl
@[simp] theorem Blk.within_terms (b a : Blk) : (b.within a).terms = a.terms := rfl
@[simp] theorem Blk.within_gey (b a : Blk) : (b.within a).gey = a.gey := rfl
@[simp] theorem Blk.within_sw (b a : Blk) : (b.within a).sw = a.sw := rfl
@[simp] theorem Blk.within_tim (b a : Blk) : (b.within a).tim = a.tim := rfl
@[simp] theorem Blk.within_cls (b a : Blk) : (b.within a).cls = a.cls := rfl
@[simp] theorem Blk.within_dir (b a : Blk) : (b.within a).dir = a.dir := rfl
@[simp] theorem Blk.within_cip (b a : Blk) : (b.within a).cip = a.cip := rfl
@[simp] theorem Blk.within_tum (b a : Blk) : (b.within a).tum = a.tum := rfl
@[simp] theorem Blk.within_pair (b a : Blk) : (b.within a).pair = a.pair := rfl
@[simp] theorem Blk.within_out (b a : Blk) : (b.within a).out = a.out := rfl
@[simp] theorem Blk.within_free (b a : Blk) : (b.within a).free = a.free := rfl
@[simp] theorem Blk.within_msix (b a : Blk) :
    (b.within a).msix = a.msix := rfl

/-! `Blk.updGrant` -/
@[simp] theorem Blk.updGrant_clk (b : Blk) (t uf start : Nat) (f : Grant → Grant) :
    (b.updGrant t uf start f).clk = b.clk := rfl
@[simp] theorem Blk.updGrant_sys (b : Blk) (t uf start : Nat) (f : Grant → Grant) :
    (b.updGrant t uf start f).sys = b.sys := rfl
@[simp] theorem Blk.updGrant_host (b : Blk) (t uf start : Nat) (f : Grant → Grant) :
    (b.updGrant t uf start f).host = b.host := rfl
@[simp] theorem Blk.updGrant_tele (b : Blk) (t uf start : Nat) (f : Grant → Grant) :
    (b.updGrant t uf start f).tele = b.tele := rfl
@[simp] theorem Blk.updGrant_trees (b : Blk) (t uf start : Nat) (f : Grant → Grant) :
    (b.updGrant t uf start f).trees = b.trees := rfl
@[simp] theorem Blk.updGrant_terms (b : Blk) (t uf start : Nat) (f : Grant → Grant) :
    (b.updGrant t uf start f).terms = b.terms := rfl
@[simp] theorem Blk.updGrant_gey (b : Blk) (t uf start : Nat) (f : Grant → Grant) :
    (b.updGrant t uf start f).gey = { b.gey with grants := b.gey.grants.map (fun g =>
      if g.tree = t ∧ g.uf = uf ∧ g.start = start then f g else g) } := rfl
@[simp] theorem Blk.updGrant_sw (b : Blk) (t uf start : Nat) (f : Grant → Grant) :
    (b.updGrant t uf start f).sw = b.sw := rfl
@[simp] theorem Blk.updGrant_tim (b : Blk) (t uf start : Nat) (f : Grant → Grant) :
    (b.updGrant t uf start f).tim = b.tim := rfl
@[simp] theorem Blk.updGrant_cls (b : Blk) (t uf start : Nat) (f : Grant → Grant) :
    (b.updGrant t uf start f).cls = b.cls := rfl
@[simp] theorem Blk.updGrant_dir (b : Blk) (t uf start : Nat) (f : Grant → Grant) :
    (b.updGrant t uf start f).dir = b.dir := rfl
@[simp] theorem Blk.updGrant_cip (b : Blk) (t uf start : Nat) (f : Grant → Grant) :
    (b.updGrant t uf start f).cip = b.cip := rfl
@[simp] theorem Blk.updGrant_tum (b : Blk) (t uf start : Nat) (f : Grant → Grant) :
    (b.updGrant t uf start f).tum = b.tum := rfl
@[simp] theorem Blk.updGrant_pair (b : Blk) (t uf start : Nat) (f : Grant → Grant) :
    (b.updGrant t uf start f).pair = b.pair := rfl
@[simp] theorem Blk.updGrant_out (b : Blk) (t uf start : Nat) (f : Grant → Grant) :
    (b.updGrant t uf start f).out = b.out := rfl
@[simp] theorem Blk.updGrant_free (b : Blk) (t uf start : Nat) (f : Grant → Grant) :
    (b.updGrant t uf start f).free = b.free := rfl
@[simp] theorem Blk.updGrant_msix (b : Blk) (t uf start : Nat) (f : Grant → Grant) :
    (b.updGrant t uf start f).msix = b.msix := rfl

/-! `Blk.updCircuit` -/
@[simp] theorem Blk.updCircuit_clk (b : Blk) (flow : Nat) (f : Circuit → Circuit) :
    (b.updCircuit flow f).clk = b.clk := rfl
@[simp] theorem Blk.updCircuit_sys (b : Blk) (flow : Nat) (f : Circuit → Circuit) :
    (b.updCircuit flow f).sys = b.sys := rfl
@[simp] theorem Blk.updCircuit_host (b : Blk) (flow : Nat) (f : Circuit → Circuit) :
    (b.updCircuit flow f).host = b.host := rfl
@[simp] theorem Blk.updCircuit_tele (b : Blk) (flow : Nat) (f : Circuit → Circuit) :
    (b.updCircuit flow f).tele = b.tele := rfl
@[simp] theorem Blk.updCircuit_trees (b : Blk) (flow : Nat) (f : Circuit → Circuit) :
    (b.updCircuit flow f).trees = Tab.upd {} b.trees (flowTree flow) (fun t =>
      { t with circuits := Tab.upd none t.circuits (flow % 65536) (fun c => c.map f) }) := rfl
@[simp] theorem Blk.updCircuit_terms (b : Blk) (flow : Nat) (f : Circuit → Circuit) :
    (b.updCircuit flow f).terms = b.terms := rfl
@[simp] theorem Blk.updCircuit_gey (b : Blk) (flow : Nat) (f : Circuit → Circuit) :
    (b.updCircuit flow f).gey = b.gey := rfl
@[simp] theorem Blk.updCircuit_sw (b : Blk) (flow : Nat) (f : Circuit → Circuit) :
    (b.updCircuit flow f).sw = b.sw := rfl
@[simp] theorem Blk.updCircuit_tim (b : Blk) (flow : Nat) (f : Circuit → Circuit) :
    (b.updCircuit flow f).tim = b.tim := rfl
@[simp] theorem Blk.updCircuit_cls (b : Blk) (flow : Nat) (f : Circuit → Circuit) :
    (b.updCircuit flow f).cls = b.cls := rfl
@[simp] theorem Blk.updCircuit_dir (b : Blk) (flow : Nat) (f : Circuit → Circuit) :
    (b.updCircuit flow f).dir = b.dir := rfl
@[simp] theorem Blk.updCircuit_cip (b : Blk) (flow : Nat) (f : Circuit → Circuit) :
    (b.updCircuit flow f).cip = b.cip := rfl
@[simp] theorem Blk.updCircuit_tum (b : Blk) (flow : Nat) (f : Circuit → Circuit) :
    (b.updCircuit flow f).tum = b.tum := rfl
@[simp] theorem Blk.updCircuit_pair (b : Blk) (flow : Nat) (f : Circuit → Circuit) :
    (b.updCircuit flow f).pair = b.pair := rfl
@[simp] theorem Blk.updCircuit_out (b : Blk) (flow : Nat) (f : Circuit → Circuit) :
    (b.updCircuit flow f).out = b.out := rfl
@[simp] theorem Blk.updCircuit_free (b : Blk) (flow : Nat) (f : Circuit → Circuit) :
    (b.updCircuit flow f).free = b.free := rfl
@[simp] theorem Blk.updCircuit_msix (b : Blk) (flow : Nat) (f : Circuit → Circuit) :
    (b.updCircuit flow f).msix = b.msix := rfl

/-! `Blk.setCache` -/
@[simp] theorem Blk.setCache_clk (b : Blk) (flow slot : Nat) (key : List Byte) :
    (b.setCache flow slot key).clk = b.clk := rfl
@[simp] theorem Blk.setCache_sys (b : Blk) (flow slot : Nat) (key : List Byte) :
    (b.setCache flow slot key).sys = b.sys := rfl
@[simp] theorem Blk.setCache_host (b : Blk) (flow slot : Nat) (key : List Byte) :
    (b.setCache flow slot key).host = b.host := rfl
@[simp] theorem Blk.setCache_tele (b : Blk) (flow slot : Nat) (key : List Byte) :
    (b.setCache flow slot key).tele = b.tele := rfl
@[simp] theorem Blk.setCache_trees (b : Blk) (flow slot : Nat) (key : List Byte) :
    (b.setCache flow slot key).trees = b.trees := rfl
@[simp] theorem Blk.setCache_terms (b : Blk) (flow slot : Nat) (key : List Byte) :
    (b.setCache flow slot key).terms = b.terms := rfl
@[simp] theorem Blk.setCache_gey (b : Blk) (flow slot : Nat) (key : List Byte) :
    (b.setCache flow slot key).gey = b.gey := rfl
@[simp] theorem Blk.setCache_sw (b : Blk) (flow slot : Nat) (key : List Byte) :
    (b.setCache flow slot key).sw = b.sw := rfl
@[simp] theorem Blk.setCache_tim (b : Blk) (flow slot : Nat) (key : List Byte) :
    (b.setCache flow slot key).tim = b.tim := rfl
@[simp] theorem Blk.setCache_cls (b : Blk) (flow slot : Nat) (key : List Byte) :
    (b.setCache flow slot key).cls = b.cls := rfl
@[simp] theorem Blk.setCache_dir (b : Blk) (flow slot : Nat) (key : List Byte) :
    (b.setCache flow slot key).dir = b.dir := rfl
@[simp] theorem Blk.setCache_cip (b : Blk) (flow slot : Nat) (key : List Byte) :
    (b.setCache flow slot key).cip = { b.cip with carriers := Tab.upd {} b.cip.carriers flow (fun k =>
      { k with cache := Tab.set [] k.cache slot key }) } := rfl
@[simp] theorem Blk.setCache_tum (b : Blk) (flow slot : Nat) (key : List Byte) :
    (b.setCache flow slot key).tum = b.tum := rfl
@[simp] theorem Blk.setCache_pair (b : Blk) (flow slot : Nat) (key : List Byte) :
    (b.setCache flow slot key).pair = b.pair := rfl
@[simp] theorem Blk.setCache_out (b : Blk) (flow slot : Nat) (key : List Byte) :
    (b.setCache flow slot key).out = b.out := rfl
@[simp] theorem Blk.setCache_free (b : Blk) (flow slot : Nat) (key : List Byte) :
    (b.setCache flow slot key).free = b.free := rfl
@[simp] theorem Blk.setCache_msix (b : Blk) (flow slot : Nat) (key : List Byte) :
    (b.setCache flow slot key).msix = b.msix := rfl

end Sys2Proof.Machine
end

