-- ==== Sys2Proof/Laws/Tab.lean ====
section
/-! SUPPORT. Laws of sparse tables and of versions: a read after a write, and the canonical form, which every operation
keeps. -/
namespace Sys2Proof

/-- Every key of a table is above j. -/
def Tab.above {α : Type} (j : Nat) (t : Tab α) : Prop := ∀ x ∈ t, j < x.1

theorem Tab.wf_cons {α : Type} [DecidableEq α] (d : α) (j : Nat) (v : α) (t : Tab α) :
    Tab.wf d ((j, v) :: t) = true ↔ v ≠ d ∧ Tab.above j t ∧ Tab.wf d t = true := by
  induction t generalizing j v with
  | nil => simp [Tab.wf, Tab.above]
  | cons x r ih =>
    obtain ⟨k, w⟩ := x
    simp only [Tab.wf, Bool.and_eq_true, decide_eq_true_eq]
    constructor
    · rintro ⟨⟨hv, hj⟩, hr⟩
      refine ⟨hv, ?_, hr⟩
      intro x hx
      rcases List.mem_cons.mp hx with rfl | hx
      · exact hj
      · exact lt_trans hj (((ih k w).mp hr).2.1 x hx)
    · rintro ⟨hv, ha, hr⟩
      exact ⟨⟨hv, ha (k, w) (by simp)⟩, hr⟩

theorem Tab.get_of_above {α : Type} (d : α) (j : Nat) (t : Tab α) (h : Tab.above j t) : Tab.get d t j = d := by
  induction t with
  | nil => rfl
  | cons x r ih =>
    obtain ⟨k, w⟩ := x
    have hk : j < k := h (k, w) (by simp)
    rw [Tab.get, if_neg (by omega)]
    exact ih (fun y hy => h y (by simp [hy]))

theorem Tab.above_mono {α : Type} {i j : Nat} {t : Tab α} (hij : i ≤ j) (h : Tab.above j t) : Tab.above i t :=
  fun x hx => lt_of_le_of_lt hij (h x hx)

/-- A key that was written reads as written. -/
theorem Tab.get_set_same {α : Type} [DecidableEq α] (d : α) (t : Tab α) (k : Nat) (v : α) (h : Tab.wf d t = true) :
    Tab.get d (Tab.set d t k v) k = v := by
  induction t with
  | nil => by_cases hv : v = d <;> simp [Tab.set, Tab.get, hv]
  | cons x r ih =>
    obtain ⟨j, w⟩ := x
    obtain ⟨-, ha, hr⟩ := (Tab.wf_cons d j w r).mp h
    by_cases h1 : k < j
    · by_cases hv : v = d
      · subst hv
        have hn : ¬ j = k := by omega
        simp only [Tab.set, if_pos h1, if_true, Tab.get, if_neg hn]
        exact Tab.get_of_above _ _ _ (Tab.above_mono (le_of_lt h1) ha)
      · simp [Tab.set, h1, hv, Tab.get]
    · by_cases h2 : k = j
      · subst h2
        by_cases hv : v = d
        · subst hv
          simp only [Tab.set, lt_irrefl, if_false, if_true]
          exact Tab.get_of_above _ _ _ ha
        · simp [Tab.set, hv, Tab.get]
      · have hn : ¬ j = k := fun e => h2 e.symm
        simp only [Tab.set, if_neg h1, if_neg h2, Tab.get, if_neg hn]
        exact ih hr

/-- Another key reads as before. -/
theorem Tab.get_set_other {α : Type} [DecidableEq α] (d : α) (t : Tab α) (k : Nat) (v : α) (i : Nat) (hi : i ≠ k) :
    Tab.get d (Tab.set d t k v) i = Tab.get d t i := by
  have hk : ¬ k = i := fun e => hi e.symm
  induction t with
  | nil => by_cases hv : v = d <;> simp [Tab.set, Tab.get, hv, hk]
  | cons x r ih =>
    obtain ⟨j, w⟩ := x
    by_cases h1 : k < j
    · by_cases hv : v = d <;> simp [Tab.set, h1, hv, Tab.get, hk]
    · by_cases h2 : k = j
      · subst h2
        by_cases hv : v = d <;> simp [Tab.set, hv, Tab.get, hk]
      · simp only [Tab.set, if_neg h1, if_neg h2, Tab.get, ih]

theorem Tab.above_set {α : Type} [DecidableEq α] (d : α) (t : Tab α) (k : Nat) (v : α) (j : Nat) (hj : j < k)
    (h : Tab.above j t) : Tab.above j (Tab.set d t k v) := by
  induction t with
  | nil =>
    intro x hx
    by_cases hv : v = d
    · simp [Tab.set, hv] at hx
    · simp only [Tab.set, hv, if_false, List.mem_singleton] at hx
      subst hx; exact hj
  | cons y r ih =>
    obtain ⟨i, w⟩ := y
    have hi : j < i := h (i, w) (by simp)
    have hr : Tab.above j r := fun x hx => h x (by simp [hx])
    intro x hx
    by_cases h1 : k < i
    · by_cases hv : v = d
      · rw [Tab.set, if_pos h1, if_pos hv] at hx
        rcases List.mem_cons.mp hx with rfl | hx
        · exact hi
        · exact hr x hx
      · rw [Tab.set, if_pos h1, if_neg hv] at hx
        rcases List.mem_cons.mp hx with rfl | hx
        · exact hj
        · rcases List.mem_cons.mp hx with rfl | hx
          · exact hi
          · exact hr x hx
    · by_cases h2 : k = i
      · subst h2
        by_cases hv : v = d
        · rw [Tab.set, if_neg h1, if_pos rfl, if_pos hv] at hx
          exact hr x hx
        · rw [Tab.set, if_neg h1, if_pos rfl, if_neg hv] at hx
          rcases List.mem_cons.mp hx with rfl | hx
          · exact hj
          · exact hr x hx
      · rw [Tab.set, if_neg h1, if_neg h2] at hx
        rcases List.mem_cons.mp hx with rfl | hx
        · exact hi
        · exact ih hr x hx

/-- A write keeps the canonical form. -/
theorem Tab.wf_set {α : Type} [DecidableEq α] (d : α) (t : Tab α) (k : Nat) (v : α) (h : Tab.wf d t = true) :
    Tab.wf d (Tab.set d t k v) = true := by
  induction t with
  | nil => by_cases hv : v = d <;> simp [Tab.set, Tab.wf, hv]
  | cons x r ih =>
    obtain ⟨j, w⟩ := x
    obtain ⟨hw, ha, hr⟩ := (Tab.wf_cons d j w r).mp h
    by_cases h1 : k < j
    · by_cases hv : v = d
      · rw [Tab.set, if_pos h1, if_pos hv]; exact h
      · rw [Tab.set, if_pos h1, if_neg hv]
        refine (Tab.wf_cons _ _ _ _).mpr ⟨hv, ?_, h⟩
        intro y hy
        rcases List.mem_cons.mp hy with rfl | hy
        · exact h1
        · exact lt_trans h1 (ha y hy)
    · by_cases h2 : k = j
      · subst h2
        by_cases hv : v = d
        · rw [Tab.set, if_neg h1, if_pos rfl, if_pos hv]; exact hr
        · rw [Tab.set, if_neg h1, if_pos rfl, if_neg hv]
          exact (Tab.wf_cons _ _ _ _).mpr ⟨hv, ha, hr⟩
      · rw [Tab.set, if_neg h1, if_neg h2]
        exact (Tab.wf_cons _ _ _ _).mpr ⟨hw, Tab.above_set d r k v j (by omega) ha, ih hr⟩

theorem Tab.wf_upd {α : Type} [DecidableEq α] (d : α) (t : Tab α) (k : Nat) (f : α → α) (h : Tab.wf d t = true) :
    Tab.wf d (Tab.upd d t k f) = true := Tab.wf_set d t k _ h

theorem Tab.get_upd_same {α : Type} [DecidableEq α] (d : α) (t : Tab α) (k : Nat) (f : α → α) (h : Tab.wf d t = true) :
    Tab.get d (Tab.upd d t k f) k = f (Tab.get d t k) := Tab.get_set_same d t k _ h

theorem Tab.get_upd_other {α : Type} [DecidableEq α] (d : α) (t : Tab α) (k : Nat) (f : α → α) (i : Nat) (hi : i ≠ k) :
    Tab.get d (Tab.upd d t k f) i = Tab.get d t i := Tab.get_set_other d t k _ i hi

/-- What a write makes current. -/
@[simp] theorem Vers.cur_write {α : Type} (d : α) (v : Vers α) (n : Nat) (f : α → α) :
    Vers.cur d (Vers.write d v n f) = f (Vers.cur d v) := by
  cases v with
  | nil => rfl
  | cons x r =>
    obtain ⟨e, y⟩ := x
    by_cases h : e = n <;> simp [Vers.write, Vers.cur, h]

end Sys2Proof
end

