-- ==== Sys2Proof/Laws/Ops.lean ====
section
/-! SUPPORT. What the shared operations can do, said once: records, counts and fault events touch telemetry and the outputs
alone; a reply touches besides the host interface and the pair's fault flag; the shapes of a meaning keep the queue and answer
a next state. -/
namespace Sys2Proof.Machine

/-- b' differs from b in telemetry, in what vectors are pending and in the outputs alone. -/
def Blk.Noted (b b' : Blk) : Prop := ∃ t m o, b' = { b with tele := t, msix := m, out := o }

theorem Blk.Noted.rfl' (b : Blk) : b.Noted b := ⟨b.tele, b.msix, b.out, rfl⟩

theorem Blk.Noted.trans {a b c : Blk} (h : a.Noted b) (k : b.Noted c) : a.Noted c := by
  obtain ⟨_, _, _, rfl⟩ := h
  obtain ⟨t', m', o', rfl⟩ := k
  exact ⟨t', m', o', rfl⟩

theorem Blk.Noted.tele (b : Blk) (t : Tele) : b.Noted { b with tele := t } := ⟨t, b.msix, b.out, rfl⟩

theorem Blk.noted_emits (b : Blk) (l : List Output) : b.Noted (b.emits l) := ⟨b.tele, _, _, rfl⟩

theorem Blk.noted_emit (b : Blk) (o : Output) : b.Noted (b.emit o) := b.noted_emits [o]

/-- A fold of steps each of which only notes. -/
theorem Blk.noted_foldl {α : Type} (f : Blk → α → Blk) (h : ∀ b x, Blk.Noted b (f b x)) (l : List α) (b : Blk) :
    b.Noted (l.foldl f b) := by
  induction l generalizing b with
  | nil => exact .rfl' b
  | cons x r ih => exact (h b x).trans (ih (f b x))

theorem Blk.noted_ventAppend (b : Blk) (n : RecIn) : b.Noted (b.ventAppend n) := ⟨_, _, _, rfl⟩

theorem Blk.noted_flushLost (n : Nat) (b : Blk) : b.Noted (Blk.flushLost n b) := by
  induction n generalizing b with
  | zero => exact .rfl' b
  | succ n ih =>
    simp only [Blk.flushLost]
    split
    · exact .rfl' b
    · split
      · exact ((Blk.Noted.tele b _).trans (Blk.noted_ventAppend _ _)).trans (ih _)
      · exact .rfl' b

theorem Blk.noted_ventRoom (b : Blk) (n : RecIn) : b.Noted (b.ventRoom n) := by
  simp only [Blk.ventRoom]
  split
  · exact (Blk.noted_flushLost 128 b).trans (Blk.noted_ventAppend _ n)
  · exact (Blk.noted_flushLost 128 b).trans (Blk.Noted.tele _ _)

theorem Blk.noted_ventStore (b : Blk) (n : RecIn) : b.Noted (b.ventStore n) := by
  simp only [Blk.ventStore]
  split
  · split
    · exact ⟨_, _, _, rfl⟩
    · exact b.noted_ventRoom n
  · exact b.noted_ventRoom n

theorem Blk.noted_ventGo (f : Nat) (b : Blk) (n : RecIn) : b.Noted (Blk.ventGo f b n) := by
  induction f generalizing b n with
  | zero => exact .rfl' b
  | succ f ih =>
    simp only [Blk.ventGo]
    refine (b.noted_ventStore n).trans (Blk.noted_foldl _ ?_ _ _)
    intro a k
    split
    · exact (Blk.Noted.tele a _).trans (ih _ _)
    · exact .rfl' a

theorem Blk.noted_vent (b : Blk) (n : RecIn) : b.Noted (b.vent n) := Blk.noted_ventGo 4 b n

theorem Blk.noted_countN (b : Blk) (family counter inst n : Nat) : b.Noted (b.countN family counter inst n) := by
  simp only [Blk.countN]
  split
  · exact .rfl' b
  · split
    · exact ((Blk.Noted.tele b _).trans (Blk.Noted.tele _ _)).trans (Blk.noted_vent _ _)
    · exact Blk.Noted.tele b _

theorem Blk.noted_count (b : Blk) (family counter inst : Nat) : b.Noted (b.count family counter inst) :=
  b.noted_countN family counter inst 1

theorem Blk.noted_ventOnce (b : Blk) (mark : Nat) (n : RecIn) : b.Noted (b.ventOnce mark n) := by
  simp only [Blk.ventOnce]
  split
  · exact .rfl' b
  · exact (Blk.Noted.tele b _).trans (Blk.noted_vent _ n)

theorem Blk.noted_noteSec (b : Blk) (type object : Nat) : b.Noted (b.noteSec type object) := ⟨_, b.msix, b.out, rfl⟩

theorem Blk.noted_staleDiscard (b : Blk) (island : Nat) : b.Noted (b.staleDiscard island) :=
  (b.noted_count 0xC4 1 island).trans (Blk.noted_noteSec _ _ _)

/-- A fault event besides tells the pair's digest of its record. -/
theorem Blk.faultEvent_eq (b : Blk) (kind index : Nat) :
    ∃ t m o, b.faultEvent kind index = { b with tele := t, msix := m, out := o, pair := { b.pair with faulted := true } } := by
  obtain ⟨t, m, o, h⟩ := (Blk.noted_count { b with
      tele := { b.tele with sources := Tab.set {} b.tele.sources (sourceKey kind index) _ }
      pair := { b.pair with faulted := true } } 0xCE 0 (sourceKey kind index)).trans (Blk.noted_vent _ _)
  exact ⟨t, m, o, h⟩

theorem Blk.checkFail_eq (b : Blk) (island : Nat) :
    ∃ t m o, b.checkFail island = { b with tele := t, msix := m, out := o, pair := { b.pair with faulted := true } } := by
  obtain ⟨t, m, o, h⟩ := b.noted_count 0xC4 0 island
  obtain ⟨t', m', o', h'⟩ := Blk.faultEvent_eq (b.count 0xC4 0 island) 0x02 island
  refine ⟨t', m', o', ?_⟩
  rw [Blk.checkFail, h', h]

theorem Blk.noted_countReply (b : Blk) (tenant : Nat) (st : Status) : b.Noted (b.countReply tenant st) := by
  simp only [Blk.countReply]
  split
  · exact b.noted_count _ _ _
  · split
    · exact (b.noted_count _ _ _).trans (Blk.noted_count _ _ _ _)
    · exact b.noted_count _ _ _

theorem Blk.noted_noteDenied (b : Blk) (tenant opcode : Nat) (st : Status) : b.Noted (b.noteDenied tenant opcode st) := by
  simp only [Blk.noteDenied]
  split
  · exact b.noted_ventOnce _ _
  · exact .rfl' b

theorem Blk.Noted.clk_eq {b b' : Blk} (h : b.Noted b') : b'.clk = b.clk := by
  obtain ⟨_, _, _, rfl⟩ := h; rfl

theorem Blk.Noted.sys_eq {b b' : Blk} (h : b.Noted b') : b'.sys = b.sys := by
  obtain ⟨_, _, _, rfl⟩ := h; rfl

theorem Blk.Noted.host_eq {b b' : Blk} (h : b.Noted b') : b'.host = b.host := by
  obtain ⟨_, _, _, rfl⟩ := h; rfl

theorem Blk.Noted.trees_eq {b b' : Blk} (h : b.Noted b') : b'.trees = b.trees := by
  obtain ⟨_, _, _, rfl⟩ := h; rfl

theorem Blk.Noted.terms_eq {b b' : Blk} (h : b.Noted b') : b'.terms = b.terms := by
  obtain ⟨_, _, _, rfl⟩ := h; rfl

theorem Blk.Noted.gey_eq {b b' : Blk} (h : b.Noted b') : b'.gey = b.gey := by
  obtain ⟨_, _, _, rfl⟩ := h; rfl

theorem Blk.Noted.sw_eq {b b' : Blk} (h : b.Noted b') : b'.sw = b.sw := by
  obtain ⟨_, _, _, rfl⟩ := h; rfl

theorem Blk.Noted.tim_eq {b b' : Blk} (h : b.Noted b') : b'.tim = b.tim := by
  obtain ⟨_, _, _, rfl⟩ := h; rfl

theorem Blk.Noted.cls_eq {b b' : Blk} (h : b.Noted b') : b'.cls = b.cls := by
  obtain ⟨_, _, _, rfl⟩ := h; rfl

theorem Blk.Noted.dir_eq {b b' : Blk} (h : b.Noted b') : b'.dir = b.dir := by
  obtain ⟨_, _, _, rfl⟩ := h; rfl

theorem Blk.Noted.cip_eq {b b' : Blk} (h : b.Noted b') : b'.cip = b.cip := by
  obtain ⟨_, _, _, rfl⟩ := h; rfl

theorem Blk.Noted.tum_eq {b b' : Blk} (h : b.Noted b') : b'.tum = b.tum := by
  obtain ⟨_, _, _, rfl⟩ := h; rfl

theorem Blk.Noted.pair_eq {b b' : Blk} (h : b.Noted b') : b'.pair = b.pair := by
  obtain ⟨_, _, _, rfl⟩ := h; rfl

theorem Blk.Noted.free_eq {b b' : Blk} (h : b.Noted b') : b'.free = b.free := by
  obtain ⟨_, _, _, rfl⟩ := h; rfl


/-! `Blk.vent` -/
@[simp] theorem Blk.vent_clk (b : Blk) (n : RecIn) : (b.vent n).clk = b.clk :=
  (b.noted_vent n).clk_eq
@[simp] theorem Blk.vent_sys (b : Blk) (n : RecIn) : (b.vent n).sys = b.sys :=
  (b.noted_vent n).sys_eq
@[simp] theorem Blk.vent_host (b : Blk) (n : RecIn) : (b.vent n).host = b.host :=
  (b.noted_vent n).host_eq
@[simp] theorem Blk.vent_trees (b : Blk) (n : RecIn) : (b.vent n).trees = b.trees :=
  (b.noted_vent n).trees_eq
@[simp] theorem Blk.vent_terms (b : Blk) (n : RecIn) : (b.vent n).terms = b.terms :=
  (b.noted_vent n).terms_eq
@[simp] theorem Blk.vent_gey (b : Blk) (n : RecIn) : (b.vent n).gey = b.gey :=
  (b.noted_vent n).gey_eq
@[simp] theorem Blk.vent_sw (b : Blk) (n : RecIn) : (b.vent n).sw = b.sw :=
  (b.noted_vent n).sw_eq
@[simp] theorem Blk.vent_tim (b : Blk) (n : RecIn) : (b.vent n).tim = b.tim :=
  (b.noted_vent n).tim_eq
@[simp] theorem Blk.vent_cls (b : Blk) (n : RecIn) : (b.vent n).cls = b.cls :=
  (b.noted_vent n).cls_eq
@[simp] theorem Blk.vent_dir (b : Blk) (n : RecIn) : (b.vent n).dir = b.dir :=
  (b.noted_vent n).dir_eq
@[simp] theorem Blk.vent_cip (b : Blk) (n : RecIn) : (b.vent n).cip = b.cip :=
  (b.noted_vent n).cip_eq
@[simp] theorem Blk.vent_tum (b : Blk) (n : RecIn) : (b.vent n).tum = b.tum :=
  (b.noted_vent n).tum_eq
@[simp] theorem Blk.vent_pair (b : Blk) (n : RecIn) : (b.vent n).pair = b.pair :=
  (b.noted_vent n).pair_eq
@[simp] theorem Blk.vent_free (b : Blk) (n : RecIn) : (b.vent n).free = b.free :=
  (b.noted_vent n).free_eq

/-! `Blk.countN` -/
@[simp] theorem Blk.countN_clk (b : Blk) (family counter inst n : Nat) : (b.countN family counter inst n).clk = b.clk :=
  (b.noted_countN family counter inst n).clk_eq
@[simp] theorem Blk.countN_sys (b : Blk) (family counter inst n : Nat) : (b.countN family counter inst n).sys = b.sys :=
  (b.noted_countN family counter inst n).sys_eq
@[simp] theorem Blk.countN_host (b : Blk) (family counter inst n : Nat) : (b.countN family counter inst n).host = b.host :=
  (b.noted_countN family counter inst n).host_eq
@[simp] theorem Blk.countN_trees (b : Blk) (family counter inst n : Nat) : (b.countN family counter inst n).trees = b.trees :=
  (b.noted_countN family counter inst n).trees_eq
@[simp] theorem Blk.countN_terms (b : Blk) (family counter inst n : Nat) : (b.countN family counter inst n).terms = b.terms :=
  (b.noted_countN family counter inst n).terms_eq
@[simp] theorem Blk.countN_gey (b : Blk) (family counter inst n : Nat) : (b.countN family counter inst n).gey = b.gey :=
  (b.noted_countN family counter inst n).gey_eq
@[simp] theorem Blk.countN_sw (b : Blk) (family counter inst n : Nat) : (b.countN family counter inst n).sw = b.sw :=
  (b.noted_countN family counter inst n).sw_eq
@[simp] theorem Blk.countN_tim (b : Blk) (family counter inst n : Nat) : (b.countN family counter inst n).tim = b.tim :=
  (b.noted_countN family counter inst n).tim_eq
@[simp] theorem Blk.countN_cls (b : Blk) (family counter inst n : Nat) : (b.countN family counter inst n).cls = b.cls :=
  (b.noted_countN family counter inst n).cls_eq
@[simp] theorem Blk.countN_dir (b : Blk) (family counter inst n : Nat) : (b.countN family counter inst n).dir = b.dir :=
  (b.noted_countN family counter inst n).dir_eq
@[simp] theorem Blk.countN_cip (b : Blk) (family counter inst n : Nat) : (b.countN family counter inst n).cip = b.cip :=
  (b.noted_countN family counter inst n).cip_eq
@[simp] theorem Blk.countN_tum (b : Blk) (family counter inst n : Nat) : (b.countN family counter inst n).tum = b.tum :=
  (b.noted_countN family counter inst n).tum_eq
@[simp] theorem Blk.countN_pair (b : Blk) (family counter inst n : Nat) : (b.countN family counter inst n).pair = b.pair :=
  (b.noted_countN family counter inst n).pair_eq
@[simp] theorem Blk.countN_free (b : Blk) (family counter inst n : Nat) : (b.countN family counter inst n).free = b.free :=
  (b.noted_countN family counter inst n).free_eq

/-! `Blk.count` -/
@[simp] theorem Blk.count_clk (b : Blk) (family counter inst : Nat) : (b.count family counter inst).clk = b.clk :=
  (b.noted_count family counter inst).clk_eq
@[simp] theorem Blk.count_sys (b : Blk) (family counter inst : Nat) : (b.count family counter inst).sys = b.sys :=
  (b.noted_count family counter inst).sys_eq
@[simp] theorem Blk.count_host (b : Blk) (family counter inst : Nat) : (b.count family counter inst).host = b.host :=
  (b.noted_count family counter inst).host_eq
@[simp] theorem Blk.count_trees (b : Blk) (family counter inst : Nat) : (b.count family counter inst).trees = b.trees :=
  (b.noted_count family counter inst).trees_eq
@[simp] theorem Blk.count_terms (b : Blk) (family counter inst : Nat) : (b.count family counter inst).terms = b.terms :=
  (b.noted_count family counter inst).terms_eq
@[simp] theorem Blk.count_gey (b : Blk) (family counter inst : Nat) : (b.count family counter inst).gey = b.gey :=
  (b.noted_count family counter inst).gey_eq
@[simp] theorem Blk.count_sw (b : Blk) (family counter inst : Nat) : (b.count family counter inst).sw = b.sw :=
  (b.noted_count family counter inst).sw_eq
@[simp] theorem Blk.count_tim (b : Blk) (family counter inst : Nat) : (b.count family counter inst).tim = b.tim :=
  (b.noted_count family counter inst).tim_eq
@[simp] theorem Blk.count_cls (b : Blk) (family counter inst : Nat) : (b.count family counter inst).cls = b.cls :=
  (b.noted_count family counter inst).cls_eq
@[simp] theorem Blk.count_dir (b : Blk) (family counter inst : Nat) : (b.count family counter inst).dir = b.dir :=
  (b.noted_count family counter inst).dir_eq
@[simp] theorem Blk.count_cip (b : Blk) (family counter inst : Nat) : (b.count family counter inst).cip = b.cip :=
  (b.noted_count family counter inst).cip_eq
@[simp] theorem Blk.count_tum (b : Blk) (family counter inst : Nat) : (b.count family counter inst).tum = b.tum :=
  (b.noted_count family counter inst).tum_eq
@[simp] theorem Blk.count_pair (b : Blk) (family counter inst : Nat) : (b.count family counter inst).pair = b.pair :=
  (b.noted_count family counter inst).pair_eq
@[simp] theorem Blk.count_free (b : Blk) (family counter inst : Nat) : (b.count family counter inst).free = b.free :=
  (b.noted_count family counter inst).free_eq

/-! `Blk.ventOnce` -/
@[simp] theorem Blk.ventOnce_clk (b : Blk) (mark : Nat) (n : RecIn) : (b.ventOnce mark n).clk = b.clk :=
  (b.noted_ventOnce mark n).clk_eq
@[simp] theorem Blk.ventOnce_sys (b : Blk) (mark : Nat) (n : RecIn) : (b.ventOnce mark n).sys = b.sys :=
  (b.noted_ventOnce mark n).sys_eq
@[simp] theorem Blk.ventOnce_host (b : Blk) (mark : Nat) (n : RecIn) : (b.ventOnce mark n).host = b.host :=
  (b.noted_ventOnce mark n).host_eq
@[simp] theorem Blk.ventOnce_trees (b : Blk) (mark : Nat) (n : RecIn) : (b.ventOnce mark n).trees = b.trees :=
  (b.noted_ventOnce mark n).trees_eq
@[simp] theorem Blk.ventOnce_terms (b : Blk) (mark : Nat) (n : RecIn) : (b.ventOnce mark n).terms = b.terms :=
  (b.noted_ventOnce mark n).terms_eq
@[simp] theorem Blk.ventOnce_gey (b : Blk) (mark : Nat) (n : RecIn) : (b.ventOnce mark n).gey = b.gey :=
  (b.noted_ventOnce mark n).gey_eq
@[simp] theorem Blk.ventOnce_sw (b : Blk) (mark : Nat) (n : RecIn) : (b.ventOnce mark n).sw = b.sw :=
  (b.noted_ventOnce mark n).sw_eq
@[simp] theorem Blk.ventOnce_tim (b : Blk) (mark : Nat) (n : RecIn) : (b.ventOnce mark n).tim = b.tim :=
  (b.noted_ventOnce mark n).tim_eq
@[simp] theorem Blk.ventOnce_cls (b : Blk) (mark : Nat) (n : RecIn) : (b.ventOnce mark n).cls = b.cls :=
  (b.noted_ventOnce mark n).cls_eq
@[simp] theorem Blk.ventOnce_dir (b : Blk) (mark : Nat) (n : RecIn) : (b.ventOnce mark n).dir = b.dir :=
  (b.noted_ventOnce mark n).dir_eq
@[simp] theorem Blk.ventOnce_cip (b : Blk) (mark : Nat) (n : RecIn) : (b.ventOnce mark n).cip = b.cip :=
  (b.noted_ventOnce mark n).cip_eq
@[simp] theorem Blk.ventOnce_tum (b : Blk) (mark : Nat) (n : RecIn) : (b.ventOnce mark n).tum = b.tum :=
  (b.noted_ventOnce mark n).tum_eq
@[simp] theorem Blk.ventOnce_pair (b : Blk) (mark : Nat) (n : RecIn) : (b.ventOnce mark n).pair = b.pair :=
  (b.noted_ventOnce mark n).pair_eq
@[simp] theorem Blk.ventOnce_free (b : Blk) (mark : Nat) (n : RecIn) : (b.ventOnce mark n).free = b.free :=
  (b.noted_ventOnce mark n).free_eq

/-! `Blk.noteSec` -/
@[simp] theorem Blk.noteSec_clk (b : Blk) (type object : Nat) : (b.noteSec type object).clk = b.clk :=
  (b.noted_noteSec type object).clk_eq
@[simp] theorem Blk.noteSec_sys (b : Blk) (type object : Nat) : (b.noteSec type object).sys = b.sys :=
  (b.noted_noteSec type object).sys_eq
@[simp] theorem Blk.noteSec_host (b : Blk) (type object : Nat) : (b.noteSec type object).host = b.host :=
  (b.noted_noteSec type object).host_eq
@[simp] theorem Blk.noteSec_trees (b : Blk) (type object : Nat) : (b.noteSec type object).trees = b.trees :=
  (b.noted_noteSec type object).trees_eq
@[simp] theorem Blk.noteSec_terms (b : Blk) (type object : Nat) : (b.noteSec type object).terms = b.terms :=
  (b.noted_noteSec type object).terms_eq
@[simp] theorem Blk.noteSec_gey (b : Blk) (type object : Nat) : (b.noteSec type object).gey = b.gey :=
  (b.noted_noteSec type object).gey_eq
@[simp] theorem Blk.noteSec_sw (b : Blk) (type object : Nat) : (b.noteSec type object).sw = b.sw :=
  (b.noted_noteSec type object).sw_eq
@[simp] theorem Blk.noteSec_tim (b : Blk) (type object : Nat) : (b.noteSec type object).tim = b.tim :=
  (b.noted_noteSec type object).tim_eq
@[simp] theorem Blk.noteSec_cls (b : Blk) (type object : Nat) : (b.noteSec type object).cls = b.cls :=
  (b.noted_noteSec type object).cls_eq
@[simp] theorem Blk.noteSec_dir (b : Blk) (type object : Nat) : (b.noteSec type object).dir = b.dir :=
  (b.noted_noteSec type object).dir_eq
@[simp] theorem Blk.noteSec_cip (b : Blk) (type object : Nat) : (b.noteSec type object).cip = b.cip :=
  (b.noted_noteSec type object).cip_eq
@[simp] theorem Blk.noteSec_tum (b : Blk) (type object : Nat) : (b.noteSec type object).tum = b.tum :=
  (b.noted_noteSec type object).tum_eq
@[simp] theorem Blk.noteSec_pair (b : Blk) (type object : Nat) : (b.noteSec type object).pair = b.pair :=
  (b.noted_noteSec type object).pair_eq
@[simp] theorem Blk.noteSec_free (b : Blk) (type object : Nat) : (b.noteSec type object).free = b.free :=
  (b.noted_noteSec type object).free_eq

/-! `Blk.staleDiscard` -/
@[simp] theorem Blk.staleDiscard_clk (b : Blk) (island : Nat) : (b.staleDiscard island).clk = b.clk :=
  (b.noted_staleDiscard island).clk_eq
@[simp] theorem Blk.staleDiscard_sys (b : Blk) (island : Nat) : (b.staleDiscard island).sys = b.sys :=
  (b.noted_staleDiscard island).sys_eq
@[simp] theorem Blk.staleDiscard_host (b : Blk) (island : Nat) : (b.staleDiscard island).host = b.host :=
  (b.noted_staleDiscard island).host_eq
@[simp] theorem Blk.staleDiscard_trees (b : Blk) (island : Nat) : (b.staleDiscard island).trees = b.trees :=
  (b.noted_staleDiscard island).trees_eq
@[simp] theorem Blk.staleDiscard_terms (b : Blk) (island : Nat) : (b.staleDiscard island).terms = b.terms :=
  (b.noted_staleDiscard island).terms_eq
@[simp] theorem Blk.staleDiscard_gey (b : Blk) (island : Nat) : (b.staleDiscard island).gey = b.gey :=
  (b.noted_staleDiscard island).gey_eq
@[simp] theorem Blk.staleDiscard_sw (b : Blk) (island : Nat) : (b.staleDiscard island).sw = b.sw :=
  (b.noted_staleDiscard island).sw_eq
@[simp] theorem Blk.staleDiscard_tim (b : Blk) (island : Nat) : (b.staleDiscard island).tim = b.tim :=
  (b.noted_staleDiscard island).tim_eq
@[simp] theorem Blk.staleDiscard_cls (b : Blk) (island : Nat) : (b.staleDiscard island).cls = b.cls :=
  (b.noted_staleDiscard island).cls_eq
@[simp] theorem Blk.staleDiscard_dir (b : Blk) (island : Nat) : (b.staleDiscard island).dir = b.dir :=
  (b.noted_staleDiscard island).dir_eq
@[simp] theorem Blk.staleDiscard_cip (b : Blk) (island : Nat) : (b.staleDiscard island).cip = b.cip :=
  (b.noted_staleDiscard island).cip_eq
@[simp] theorem Blk.staleDiscard_tum (b : Blk) (island : Nat) : (b.staleDiscard island).tum = b.tum :=
  (b.noted_staleDiscard island).tum_eq
@[simp] theorem Blk.staleDiscard_pair (b : Blk) (island : Nat) : (b.staleDiscard island).pair = b.pair :=
  (b.noted_staleDiscard island).pair_eq
@[simp] theorem Blk.staleDiscard_free (b : Blk) (island : Nat) : (b.staleDiscard island).free = b.free :=
  (b.noted_staleDiscard island).free_eq

/-! `Blk.countReply` -/
@[simp] theorem Blk.countReply_clk (b : Blk) (tenant : Nat) (st : Status) : (b.countReply tenant st).clk = b.clk :=
  (b.noted_countReply tenant st).clk_eq
@[simp] theorem Blk.countReply_sys (b : Blk) (tenant : Nat) (st : Status) : (b.countReply tenant st).sys = b.sys :=
  (b.noted_countReply tenant st).sys_eq
@[simp] theorem Blk.countReply_host (b : Blk) (tenant : Nat) (st : Status) : (b.countReply tenant st).host = b.host :=
  (b.noted_countReply tenant st).host_eq
@[simp] theorem Blk.countReply_trees (b : Blk) (tenant : Nat) (st : Status) : (b.countReply tenant st).trees = b.trees :=
  (b.noted_countReply tenant st).trees_eq
@[simp] theorem Blk.countReply_terms (b : Blk) (tenant : Nat) (st : Status) : (b.countReply tenant st).terms = b.terms :=
  (b.noted_countReply tenant st).terms_eq
@[simp] theorem Blk.countReply_gey (b : Blk) (tenant : Nat) (st : Status) : (b.countReply tenant st).gey = b.gey :=
  (b.noted_countReply tenant st).gey_eq
@[simp] theorem Blk.countReply_sw (b : Blk) (tenant : Nat) (st : Status) : (b.countReply tenant st).sw = b.sw :=
  (b.noted_countReply tenant st).sw_eq
@[simp] theorem Blk.countReply_tim (b : Blk) (tenant : Nat) (st : Status) : (b.countReply tenant st).tim = b.tim :=
  (b.noted_countReply tenant st).tim_eq
@[simp] theorem Blk.countReply_cls (b : Blk) (tenant : Nat) (st : Status) : (b.countReply tenant st).cls = b.cls :=
  (b.noted_countReply tenant st).cls_eq
@[simp] theorem Blk.countReply_dir (b : Blk) (tenant : Nat) (st : Status) : (b.countReply tenant st).dir = b.dir :=
  (b.noted_countReply tenant st).dir_eq
@[simp] theorem Blk.countReply_cip (b : Blk) (tenant : Nat) (st : Status) : (b.countReply tenant st).cip = b.cip :=
  (b.noted_countReply tenant st).cip_eq
@[simp] theorem Blk.countReply_tum (b : Blk) (tenant : Nat) (st : Status) : (b.countReply tenant st).tum = b.tum :=
  (b.noted_countReply tenant st).tum_eq
@[simp] theorem Blk.countReply_pair (b : Blk) (tenant : Nat) (st : Status) : (b.countReply tenant st).pair = b.pair :=
  (b.noted_countReply tenant st).pair_eq
@[simp] theorem Blk.countReply_free (b : Blk) (tenant : Nat) (st : Status) : (b.countReply tenant st).free = b.free :=
  (b.noted_countReply tenant st).free_eq

/-! `Blk.noteDenied` -/
@[simp] theorem Blk.noteDenied_clk (b : Blk) (tenant opcode : Nat) (st : Status) : (b.noteDenied tenant opcode st).clk = b.clk :=
  (b.noted_noteDenied tenant opcode st).clk_eq
@[simp] theorem Blk.noteDenied_sys (b : Blk) (tenant opcode : Nat) (st : Status) : (b.noteDenied tenant opcode st).sys = b.sys :=
  (b.noted_noteDenied tenant opcode st).sys_eq
@[simp] theorem Blk.noteDenied_host (b : Blk) (tenant opcode : Nat) (st : Status) : (b.noteDenied tenant opcode st).host = b.host :=
  (b.noted_noteDenied tenant opcode st).host_eq
@[simp] theorem Blk.noteDenied_trees (b : Blk) (tenant opcode : Nat) (st : Status) : (b.noteDenied tenant opcode st).trees = b.trees :=
  (b.noted_noteDenied tenant opcode st).trees_eq
@[simp] theorem Blk.noteDenied_terms (b : Blk) (tenant opcode : Nat) (st : Status) : (b.noteDenied tenant opcode st).terms = b.terms :=
  (b.noted_noteDenied tenant opcode st).terms_eq
@[simp] theorem Blk.noteDenied_gey (b : Blk) (tenant opcode : Nat) (st : Status) : (b.noteDenied tenant opcode st).gey = b.gey :=
  (b.noted_noteDenied tenant opcode st).gey_eq
@[simp] theorem Blk.noteDenied_sw (b : Blk) (tenant opcode : Nat) (st : Status) : (b.noteDenied tenant opcode st).sw = b.sw :=
  (b.noted_noteDenied tenant opcode st).sw_eq
@[simp] theorem Blk.noteDenied_tim (b : Blk) (tenant opcode : Nat) (st : Status) : (b.noteDenied tenant opcode st).tim = b.tim :=
  (b.noted_noteDenied tenant opcode st).tim_eq
@[simp] theorem Blk.noteDenied_cls (b : Blk) (tenant opcode : Nat) (st : Status) : (b.noteDenied tenant opcode st).cls = b.cls :=
  (b.noted_noteDenied tenant opcode st).cls_eq
@[simp] theorem Blk.noteDenied_dir (b : Blk) (tenant opcode : Nat) (st : Status) : (b.noteDenied tenant opcode st).dir = b.dir :=
  (b.noted_noteDenied tenant opcode st).dir_eq
@[simp] theorem Blk.noteDenied_cip (b : Blk) (tenant opcode : Nat) (st : Status) : (b.noteDenied tenant opcode st).cip = b.cip :=
  (b.noted_noteDenied tenant opcode st).cip_eq
@[simp] theorem Blk.noteDenied_tum (b : Blk) (tenant opcode : Nat) (st : Status) : (b.noteDenied tenant opcode st).tum = b.tum :=
  (b.noted_noteDenied tenant opcode st).tum_eq
@[simp] theorem Blk.noteDenied_pair (b : Blk) (tenant opcode : Nat) (st : Status) : (b.noteDenied tenant opcode st).pair = b.pair :=
  (b.noted_noteDenied tenant opcode st).pair_eq
@[simp] theorem Blk.noteDenied_free (b : Blk) (tenant opcode : Nat) (st : Status) : (b.noteDenied tenant opcode st).free = b.free :=
  (b.noted_noteDenied tenant opcode st).free_eq

/-! `Blk.faultEvent` -/
@[simp] theorem Blk.faultEvent_clk (b : Blk) (kind index : Nat) : (b.faultEvent kind index).clk = b.clk := by
  obtain ⟨_, _, _, h⟩ := b.faultEvent_eq kind index; rw [h]
@[simp] theorem Blk.faultEvent_sys (b : Blk) (kind index : Nat) : (b.faultEvent kind index).sys = b.sys := by
  obtain ⟨_, _, _, h⟩ := b.faultEvent_eq kind index; rw [h]
@[simp] theorem Blk.faultEvent_host (b : Blk) (kind index : Nat) : (b.faultEvent kind index).host = b.host := by
  obtain ⟨_, _, _, h⟩ := b.faultEvent_eq kind index; rw [h]
@[simp] theorem Blk.faultEvent_trees (b : Blk) (kind index : Nat) : (b.faultEvent kind index).trees = b.trees := by
  obtain ⟨_, _, _, h⟩ := b.faultEvent_eq kind index; rw [h]
@[simp] theorem Blk.faultEvent_terms (b : Blk) (kind index : Nat) : (b.faultEvent kind index).terms = b.terms := by
  obtain ⟨_, _, _, h⟩ := b.faultEvent_eq kind index; rw [h]
@[simp] theorem Blk.faultEvent_gey (b : Blk) (kind index : Nat) : (b.faultEvent kind index).gey = b.gey := by
  obtain ⟨_, _, _, h⟩ := b.faultEvent_eq kind index; rw [h]
@[simp] theorem Blk.faultEvent_sw (b : Blk) (kind index : Nat) : (b.faultEvent kind index).sw = b.sw := by
  obtain ⟨_, _, _, h⟩ := b.faultEvent_eq kind index; rw [h]
@[simp] theorem Blk.faultEvent_tim (b : Blk) (kind index : Nat) : (b.faultEvent kind index).tim = b.tim := by
  obtain ⟨_, _, _, h⟩ := b.faultEvent_eq kind index; rw [h]
@[simp] theorem Blk.faultEvent_cls (b : Blk) (kind index : Nat) : (b.faultEvent kind index).cls = b.cls := by
  obtain ⟨_, _, _, h⟩ := b.faultEvent_eq kind index; rw [h]
@[simp] theorem Blk.faultEvent_dir (b : Blk) (kind index : Nat) : (b.faultEvent kind index).dir = b.dir := by
  obtain ⟨_, _, _, h⟩ := b.faultEvent_eq kind index; rw [h]
@[simp] theorem Blk.faultEvent_cip (b : Blk) (kind index : Nat) : (b.faultEvent kind index).cip = b.cip := by
  obtain ⟨_, _, _, h⟩ := b.faultEvent_eq kind index; rw [h]
@[simp] theorem Blk.faultEvent_tum (b : Blk) (kind index : Nat) : (b.faultEvent kind index).tum = b.tum := by
  obtain ⟨_, _, _, h⟩ := b.faultEvent_eq kind index; rw [h]
@[simp] theorem Blk.faultEvent_pair (b : Blk) (kind index : Nat) :
    (b.faultEvent kind index).pair = { b.pair with faulted := true } := by
  obtain ⟨_, _, _, h⟩ := b.faultEvent_eq kind index; rw [h]
@[simp] theorem Blk.faultEvent_free (b : Blk) (kind index : Nat) : (b.faultEvent kind index).free = b.free := by
  obtain ⟨_, _, _, h⟩ := b.faultEvent_eq kind index; rw [h]

/-! `Blk.checkFail` -/
@[simp] theorem Blk.checkFail_clk (b : Blk) (island : Nat) : (b.checkFail island).clk = b.clk := by
  obtain ⟨_, _, _, h⟩ := b.checkFail_eq island; rw [h]
@[simp] theorem Blk.checkFail_sys (b : Blk) (island : Nat) : (b.checkFail island).sys = b.sys := by
  obtain ⟨_, _, _, h⟩ := b.checkFail_eq island; rw [h]
@[simp] theorem Blk.checkFail_host (b : Blk) (island : Nat) : (b.checkFail island).host = b.host := by
  obtain ⟨_, _, _, h⟩ := b.checkFail_eq island; rw [h]
@[simp] theorem Blk.checkFail_trees (b : Blk) (island : Nat) : (b.checkFail island).trees = b.trees := by
  obtain ⟨_, _, _, h⟩ := b.checkFail_eq island; rw [h]
@[simp] theorem Blk.checkFail_terms (b : Blk) (island : Nat) : (b.checkFail island).terms = b.terms := by
  obtain ⟨_, _, _, h⟩ := b.checkFail_eq island; rw [h]
@[simp] theorem Blk.checkFail_gey (b : Blk) (island : Nat) : (b.checkFail island).gey = b.gey := by
  obtain ⟨_, _, _, h⟩ := b.checkFail_eq island; rw [h]
@[simp] theorem Blk.checkFail_sw (b : Blk) (island : Nat) : (b.checkFail island).sw = b.sw := by
  obtain ⟨_, _, _, h⟩ := b.checkFail_eq island; rw [h]
@[simp] theorem Blk.checkFail_tim (b : Blk) (island : Nat) : (b.checkFail island).tim = b.tim := by
  obtain ⟨_, _, _, h⟩ := b.checkFail_eq island; rw [h]
@[simp] theorem Blk.checkFail_cls (b : Blk) (island : Nat) : (b.checkFail island).cls = b.cls := by
  obtain ⟨_, _, _, h⟩ := b.checkFail_eq island; rw [h]
@[simp] theorem Blk.checkFail_dir (b : Blk) (island : Nat) : (b.checkFail island).dir = b.dir := by
  obtain ⟨_, _, _, h⟩ := b.checkFail_eq island; rw [h]
@[simp] theorem Blk.checkFail_cip (b : Blk) (island : Nat) : (b.checkFail island).cip = b.cip := by
  obtain ⟨_, _, _, h⟩ := b.checkFail_eq island; rw [h]
@[simp] theorem Blk.checkFail_tum (b : Blk) (island : Nat) : (b.checkFail island).tum = b.tum := by
  obtain ⟨_, _, _, h⟩ := b.checkFail_eq island; rw [h]
@[simp] theorem Blk.checkFail_pair (b : Blk) (island : Nat) :
    (b.checkFail island).pair = { b.pair with faulted := true } := by
  obtain ⟨_, _, _, h⟩ := b.checkFail_eq island; rw [h]
@[simp] theorem Blk.checkFail_free (b : Blk) (island : Nat) : (b.checkFail island).free = b.free := by
  obtain ⟨_, _, _, h⟩ := b.checkFail_eq island; rw [h]

/-! ### A reply (R46, R56, R59) -/

/-- The block after the counts and the record of a reply. -/
def Blk.replied (b : Blk) (opcode : Nat) (c : Cmd) (r : Res) : Blk :=
  (b.countReply c.tenant r.st).noteDenied c.tenant opcode r.st

theorem Blk.noted_replied (b : Blk) (opcode : Nat) (c : Cmd) (r : Res) : b.Noted (b.replied opcode c r) :=
  (b.noted_countReply c.tenant r.st).trans (Blk.noted_noteDenied _ _ _ _)

/-- Where a reply goes. -/
def HostIf.take (h : HostIf) (c : Cmd) (rep : Reply) : HostIf :=
  if c.partner ∨ c.mute then h
  else if c.ring = 8 then { h with sb := { h.sb with reply := some (rep.slot false) } }
  else { h with replies := h.replies ++ [rep] }

/-- All that completing a command does. -/
theorem Blk.answer_eq (b : Blk) (opcode : Nat) (c : Cmd) (r : Res) (applied changeSet done : Nat) :
    b.answer opcode c r applied changeSet done =
      { b.replied opcode c r with
        pair := if r.st = .fault then { b.pair with faulted := true } else b.pair
        host := b.host.take c (mkReply opcode c r applied changeSet done) } := by
  have hh := (b.noted_replied opcode c r).host_eq
  have hp := (b.noted_replied opcode c r).pair_eq
  generalize hb : b.replied opcode c r = b1 at hh hp
  simp only [Blk.answer]
  rw [show (b.countReply c.tenant r.st).noteDenied c.tenant opcode r.st = b1 from hb, ← hh, ← hp]
  unfold HostIf.take
  split_ifs <;> rfl

@[simp] theorem Blk.answer_clk (b : Blk) (opcode : Nat) (c : Cmd) (r : Res) (n m k : Nat) :
    (b.answer opcode c r n m k).clk = b.clk := by
  rw [Blk.answer_eq]; exact (b.noted_replied opcode c r).clk_eq
@[simp] theorem Blk.answer_sys (b : Blk) (opcode : Nat) (c : Cmd) (r : Res) (n m k : Nat) :
    (b.answer opcode c r n m k).sys = b.sys := by
  rw [Blk.answer_eq]; exact (b.noted_replied opcode c r).sys_eq
@[simp] theorem Blk.answer_trees (b : Blk) (opcode : Nat) (c : Cmd) (r : Res) (n m k : Nat) :
    (b.answer opcode c r n m k).trees = b.trees := by
  rw [Blk.answer_eq]; exact (b.noted_replied opcode c r).trees_eq
@[simp] theorem Blk.answer_terms (b : Blk) (opcode : Nat) (c : Cmd) (r : Res) (n m k : Nat) :
    (b.answer opcode c r n m k).terms = b.terms := by
  rw [Blk.answer_eq]; exact (b.noted_replied opcode c r).terms_eq
@[simp] theorem Blk.answer_gey (b : Blk) (opcode : Nat) (c : Cmd) (r : Res) (n m k : Nat) :
    (b.answer opcode c r n m k).gey = b.gey := by
  rw [Blk.answer_eq]; exact (b.noted_replied opcode c r).gey_eq
@[simp] theorem Blk.answer_sw (b : Blk) (opcode : Nat) (c : Cmd) (r : Res) (n m k : Nat) :
    (b.answer opcode c r n m k).sw = b.sw := by
  rw [Blk.answer_eq]; exact (b.noted_replied opcode c r).sw_eq
@[simp] theorem Blk.answer_tim (b : Blk) (opcode : Nat) (c : Cmd) (r : Res) (n m k : Nat) :
    (b.answer opcode c r n m k).tim = b.tim := by
  rw [Blk.answer_eq]; exact (b.noted_replied opcode c r).tim_eq
@[simp] theorem Blk.answer_cls (b : Blk) (opcode : Nat) (c : Cmd) (r : Res) (n m k : Nat) :
    (b.answer opcode c r n m k).cls = b.cls := by
  rw [Blk.answer_eq]; exact (b.noted_replied opcode c r).cls_eq
@[simp] theorem Blk.answer_dir (b : Blk) (opcode : Nat) (c : Cmd) (r : Res) (n m k : Nat) :
    (b.answer opcode c r n m k).dir = b.dir := by
  rw [Blk.answer_eq]; exact (b.noted_replied opcode c r).dir_eq
@[simp] theorem Blk.answer_cip (b : Blk) (opcode : Nat) (c : Cmd) (r : Res) (n m k : Nat) :
    (b.answer opcode c r n m k).cip = b.cip := by
  rw [Blk.answer_eq]; exact (b.noted_replied opcode c r).cip_eq
@[simp] theorem Blk.answer_tum (b : Blk) (opcode : Nat) (c : Cmd) (r : Res) (n m k : Nat) :
    (b.answer opcode c r n m k).tum = b.tum := by
  rw [Blk.answer_eq]; exact (b.noted_replied opcode c r).tum_eq
@[simp] theorem Blk.answer_free (b : Blk) (opcode : Nat) (c : Cmd) (r : Res) (n m k : Nat) :
    (b.answer opcode c r n m k).free = b.free := by
  rw [Blk.answer_eq]; exact (b.noted_replied opcode c r).free_eq
@[simp] theorem Blk.answer_host (b : Blk) (opcode : Nat) (c : Cmd) (r : Res) (n m k : Nat) :
    (b.answer opcode c r n m k).host = b.host.take c (mkReply opcode c r n m k) := by rw [Blk.answer_eq]

/-! ### The shapes of a meaning -/

/-- A meaning of any shape answers the next state with the queue as it was. -/
theorem State.run_eq (s : State) (f : Blk → Blk) : s.run f = .next { s with blk := f s.blk } := rfl

theorem State.unit_eq (s : State) (f : Blk → Blk) : s.unit f = .next { s with blk := s.blk.within (f s.blk) } := rfl

/-- A service row in service. -/
theorem State.svc_eq (s : State) (f : Blk → Blk) (h : s.blk.sys.phase = .service) :
    s.svc f = .next { s with blk := s.blk.within (f s.blk) } := by simp [State.svc, State.run, h]

/-- A service row in any other phase. -/
theorem State.svc_out (s : State) (f : Blk → Blk) (h : s.blk.sys.phase ≠ .service) : s.svc f = .next s := by
  simp [State.svc, State.run, h]

theorem State.alive_eq (s : State) (f : Blk → Blk) (h : s.blk.sys.phase.paced = true) :
    s.alive f = .next { s with blk := s.blk.within (f s.blk) } := by simp [State.alive, State.run, h]

theorem State.alive_out (s : State) (f : Blk → Blk) (h : s.blk.sys.phase.paced = false) : s.alive f = .next s := by
  simp [State.alive, State.run, h]

theorem State.opcode_eq (s : State) (o : Op) (c : Cmd) (f : Cmd → Blk → Blk × Res) :
    s.opcode o c f = .next { s with blk := s.blk.within (s.blk.runOp o c f) } := rfl

/-- What only notes leaves a unit's frame alone. -/
theorem Blk.within_noted {b b' : Blk} (h : b.Noted b') : b.within b' = b' := by
  obtain ⟨_, _, _, rfl⟩ := h; rfl

/-- An effect that leaves the clock and the device registers as they were is all of the outcome. -/
theorem Blk.within_same (b after : Blk) (hc : after.clk = b.clk) (hs : after.sys = b.sys) : b.within after = after := by
  unfold Blk.within Blk.timed
  rw [← hc, ← hs]

/-! ### An opcode command (R31, R55 to R58) -/

/-- A command that passes its static checks. -/
theorem Blk.runOp_accepted (b : Blk) (o : Op) (c : Cmd) (f : Cmd → Blk → Blk × Res)
    (hp : b.sys.phase = .service ∨ b.sys.phase = .dormant) (h : b.acceptCheck o c = none) :
    b.runOp o c f = b.applyOp o c f b.clk.epoch := by simp [Blk.runOp, hp, h]

/-- A command that does not. -/
theorem Blk.runOp_rejected (b : Blk) (o : Op) (c : Cmd) (f : Cmd → Blk → Blk × Res) (st : Status) (d : Nat)
    (hp : b.sys.phase = .service ∨ b.sys.phase = .dormant) (h : b.acceptCheck o c = some (st, d)) :
    b.runOp o c f = b.answer o.code c (o.rejection c st d) b.clk.epoch 0 b.doneTime := by simp [Blk.runOp, hp, h]

/-- In any other phase nothing is taken. -/
theorem Blk.runOp_out (b : Blk) (o : Op) (c : Cmd) (f : Cmd → Blk → Blk × Res)
    (hp : ¬(b.sys.phase = .service ∨ b.sys.phase = .dormant)) : b.runOp o c f = b := by simp [Blk.runOp, hp]

/-- An application that succeeds. -/
theorem Blk.applyOp_ok (b : Blk) (o : Op) (c : Cmd) (f : Cmd → Blk → Blk × Res) (n : Nat) (h : (f c b).2.st = .ok) :
    b.applyOp o c f n = (f c b).1.answer o.code c (f c b).2 b.clk.epoch (n % 2 ^ 32) (f c b).1.doneTime := by
  simp [Blk.applyOp, whole, h]

/-- An application that fails, but for a parity fault, changes nothing (R55). -/
theorem Blk.applyOp_failed (b : Blk) (o : Op) (c : Cmd) (f : Cmd → Blk → Blk × Res) (n : Nat)
    (h : (f c b).2.st ≠ .ok) (h' : (f c b).2.st ≠ .fault) :
    b.applyOp o c f n = b.answer o.code c (f c b).2 b.clk.epoch (n % 2 ^ 32) b.doneTime := by
  simp [Blk.applyOp, whole, h, h']

end Sys2Proof.Machine
end

