-- ==== Sys2Proof/Laws/Vent.lean ====
section
/-! SUPPORT. What counts and records touch inside the health island: the counters, the Vent with its SEQ and its losses, and the
outputs. -/
namespace Sys2Proof.Machine

/-- b' differs from b in counters, the Vent, pending vectors and the outputs alone. -/
def Blk.Logged (b b' : Blk) : Prop :=
  ∃ c v n l m o, b' = { b with tele := { b.tele with ctrs := c, vent := v, seq := n, losses := l }, msix := m, out := o }

theorem Blk.Logged.rfl' (b : Blk) : b.Logged b := ⟨b.tele.ctrs, b.tele.vent, b.tele.seq, b.tele.losses, b.msix, b.out, rfl⟩

theorem Blk.Logged.trans {a b c : Blk} (h : a.Logged b) (k : b.Logged c) : a.Logged c := by
  obtain ⟨_, _, _, _, _, _, rfl⟩ := h
  obtain ⟨c', v', n', l', m', o', rfl⟩ := k
  exact ⟨c', v', n', l', m', o', rfl⟩

theorem Blk.logged_bump (b : Blk) (key n : Nat) : b.Logged { b with tele := (b.tele.bump key n).1 } :=
  ⟨_, b.tele.vent, b.tele.seq, b.tele.losses, b.msix, b.out, rfl⟩

theorem Blk.logged_ventAppend (b : Blk) (n : RecIn) : b.Logged (b.ventAppend n) := ⟨_, _, _, b.tele.losses, _, _, rfl⟩

theorem Blk.logged_flushLost (n : Nat) (b : Blk) : b.Logged (Blk.flushLost n b) := by
  induction n generalizing b with
  | zero => exact .rfl' b
  | succ n ih =>
    simp only [Blk.flushLost]
    split
    · exact .rfl' b
    · split
      · rename_i r _ _
        have h : b.Logged { b with tele := { b.tele with losses := r } } :=
          ⟨b.tele.ctrs, b.tele.vent, b.tele.seq, r, b.msix, b.out, rfl⟩
        exact (h.trans (Blk.logged_ventAppend _ _)).trans (ih _)
      · exact .rfl' b

theorem Blk.logged_ventRoom (b : Blk) (n : RecIn) : b.Logged (b.ventRoom n) := by
  simp only [Blk.ventRoom]
  split
  · exact (Blk.logged_flushLost 128 b).trans (Blk.logged_ventAppend _ n)
  · exact (Blk.logged_flushLost 128 b).trans ⟨_, _, _, _, _, _, rfl⟩

theorem Blk.logged_ventStore (b : Blk) (n : RecIn) : b.Logged (b.ventStore n) := by
  simp only [Blk.ventStore]
  split
  · split
    · exact ⟨_, _, b.tele.seq, b.tele.losses, _, _, rfl⟩
    · exact b.logged_ventRoom n
  · exact b.logged_ventRoom n

theorem Blk.logged_foldl {α : Type} (f : Blk → α → Blk) (h : ∀ b x, Blk.Logged b (f b x)) (l : List α) (b : Blk) :
    b.Logged (l.foldl f b) := by
  induction l generalizing b with
  | nil => exact .rfl' b
  | cons x r ih => exact (h b x).trans (ih (f b x))

theorem Blk.logged_ventGo (f : Nat) (b : Blk) (n : RecIn) : b.Logged (Blk.ventGo f b n) := by
  induction f generalizing b n with
  | zero => exact .rfl' b
  | succ f ih =>
    simp only [Blk.ventGo]
    refine (b.logged_ventStore n).trans (Blk.logged_foldl _ ?_ _ _)
    intro a k
    split
    · exact (a.logged_bump _ _).trans (ih _ _)
    · exact .rfl' a

/-- A record. -/
theorem Blk.logged_vent (b : Blk) (n : RecIn) : b.Logged (b.vent n) := b.logged_ventGo 4 n

/-- A count. -/
theorem Blk.logged_countN (b : Blk) (family counter inst n : Nat) : b.Logged (b.countN family counter inst n) := by
  simp only [Blk.countN]
  split
  · exact .rfl' b
  · split
    · exact ((b.logged_bump _ _).trans (Blk.logged_bump _ _ _)).trans (Blk.logged_vent _ _)
    · exact b.logged_bump _ _

theorem Blk.logged_count (b : Blk) (family counter inst : Nat) : b.Logged (b.count family counter inst) :=
  b.logged_countN family counter inst 1

theorem Blk.Logged.sources_eq {b b' : Blk} (h : b.Logged b') : b'.tele.sources = b.tele.sources := by
  obtain ⟨_, _, _, _, _, _, rfl⟩ := h; rfl

/-- A counter below the top counts. -/
theorem Ctr.bump_low (c : Ctr) (n : Nat) (h : c.val + n < allOnes) :
    c.bump n = ({ c with val := c.val + n, total := c.total + n }, false) := by
  simp [Ctr.bump, Nat.not_le.mpr h]

/-- A counter that reaches the top stays there. -/
theorem Ctr.bump_high (c : Ctr) (n : Nat) (h : allOnes ≤ c.val + n) :
    c.bump n = ({ c with val := allOnes, sat := true, total := c.total + n }, n ≠ 0 && !c.sat) := by
  simp [Ctr.bump, h]

/-- A count that saturates nothing. -/
theorem Blk.countN_quiet (b : Blk) (family counter inst n : Nat) (hn : n ≠ 0)
    (h : ((Tab.get {} b.tele.ctrs (ctrKey family counter inst)).bump n).2 = false) :
    b.countN family counter inst n = { b with tele := (b.tele.bump (ctrKey family counter inst) n).1 } := by
  simp [Blk.countN, hn, Tele.bump, h]

/-- A count that saturates its counter. -/
theorem Blk.countN_sat (b : Blk) (family counter inst n : Nat) (hn : n ≠ 0)
    (h : ((Tab.get {} b.tele.ctrs (ctrKey family counter inst)).bump n).2 = true) :
    b.countN family counter inst n
      = ({ b with tele := ((b.tele.bump (ctrKey family counter inst) n).1.bump (ctrKey 0xC0 2 0) 1).1 }).vent
          (satRec (ctrKey family counter inst)) := by
  simp [Blk.countN, hn, Tele.bump, h]

end Sys2Proof.Machine
end

