-- ==== Sys2Proof/Laws/Frames.lean ====
section
/-! SUPPORT. The frame of what answers commands: acceptance, a reply, the sideband's held submission and the entry into Dormant
touch the host interface, telemetry, the outputs, the pair unit and the free-value count alone, with what they name besides. -/
namespace Sys2Proof.Machine

/-- b' differs from b in the host interface, telemetry, pending vectors, the outputs, the pair unit and the count of free values alone. -/
def Blk.Spoken (b b' : Blk) : Prop := ∃ h t m o p n, b' = { b with host := h, tele := t, msix := m, out := o, pair := p, free := n }

theorem Blk.Spoken.rfl' (b : Blk) : b.Spoken b := ⟨b.host, b.tele, b.msix, b.out, b.pair, b.free, rfl⟩

theorem Blk.Spoken.trans {a b c : Blk} (h : a.Spoken b) (k : b.Spoken c) : a.Spoken c := by
  obtain ⟨_, _, _, _, _, _, rfl⟩ := h
  obtain ⟨h', t', m', o', p', n', rfl⟩ := k
  exact ⟨h', t', m', o', p', n', rfl⟩

theorem Blk.Noted.spoken {b b' : Blk} (h : b.Noted b') : b.Spoken b' := by
  obtain ⟨t, m, o, rfl⟩ := h
  exact ⟨b.host, t, m, o, b.pair, b.free, rfl⟩

theorem Blk.spoken_answer (b : Blk) (code : Nat) (c : Cmd) (r : Res) (n m k : Nat) : b.Spoken (b.answer code c r n m k) := by
  rw [Blk.answer_eq]
  obtain ⟨t, m, o, h⟩ := b.noted_replied code c r
  rw [h]
  exact ⟨_, _, _, _, _, b.free, rfl⟩

theorem Blk.spoken_host (b : Blk) (h : HostIf) : b.Spoken { b with host := h } := ⟨h, b.tele, b.msix, b.out, b.pair, b.free, rfl⟩

theorem Blk.spoken_pair (b : Blk) (f : Pair → Pair) : b.Spoken (b.setPair f) := ⟨b.host, b.tele, b.msix, b.out, _, b.free, rfl⟩

theorem Blk.spoken_emits (b : Blk) (l : List Output) : b.Spoken (b.emits l) := ⟨b.host, b.tele, _, _, b.pair, b.free, rfl⟩

theorem Blk.spoken_draw (b : Blk) : b.Spoken b.draw := ⟨b.host, b.tele, b.msix, b.out, b.pair, _, rfl⟩

theorem Blk.spoken_foldl {α : Type} (f : Blk → α → Blk) (h : ∀ b x, Blk.Spoken b (f b x)) (l : List α) (b : Blk) :
    b.Spoken (l.foldl f b) := by
  induction l generalizing b with
  | nil => exact .rfl' b
  | cons x r ih => exact (h b x).trans (ih (f b x))

theorem Blk.spoken_emit (b : Blk) (o : Output) : b.Spoken (b.emit o) := b.spoken_emits [o]

theorem Blk.spoken_vent (b : Blk) (n : RecIn) : b.Spoken (b.vent n) := (b.noted_vent n).spoken

theorem Blk.spoken_count (b : Blk) (family counter inst : Nat) : b.Spoken (b.count family counter inst) :=
  (b.noted_count family counter inst).spoken

theorem Blk.spoken_sendLink (b : Blk) (kind : Nat) (l : List Byte) : b.Spoken (b.sendLink kind l) := by
  unfold Blk.sendLink
  exact ((b.spoken_pair (fun p => { p with txSeq := _ })).trans (Blk.spoken_emit _ _)).trans (Blk.spoken_count _ _ _ _)

theorem Blk.spoken_take (b : Blk) (r : OpRow) (e : Nat) (i : Instr) : b.Spoken (b.take r e i) := by
  have h : b.Spoken ((b.stageAt e i).count 0xC5 0 r.cmd.tenant) := (b.spoken_host _).trans (Blk.spoken_count _ _ _ _)
  unfold Blk.take
  dsimp only
  split
  · unfold Blk.forward
    exact (h.trans (Blk.spoken_sendLink _ _ _)).trans (Blk.spoken_pair _ _)
  · exact h

/-- Acceptance. -/
theorem Blk.spoken_accept (b : Blk) (code : Nat) (c : Cmd) : b.Spoken (b.accept code c) := by
  unfold Blk.accept
  split
  · exact b.spoken_answer _ _ _ _ _ _
  · split
    · exact .rfl' b
    · split
      · exact b.spoken_answer _ _ _ _ _ _
      · split
        · exact b.spoken_answer _ _ _ _ _ _
        · dsimp only
          split_ifs
          · exact b.spoken_take _ _ _
          · exact b.spoken_take _ _ _
          · exact b.spoken_answer _ _ _ _ _ _

theorem Blk.spoken_setSb (b : Blk) (f : Sideband → Sideband) : b.Spoken (b.setSb f) := b.spoken_host _

theorem Blk.spoken_sbAccept (b : Blk) (l : List Byte) : b.Spoken (b.sbAccept l) :=
  b.spoken_draw.trans (Blk.spoken_accept _ _ _)

/-- The release of a held submission. -/
theorem Blk.spoken_sbRelease (b : Blk) : b.Spoken b.sbRelease := by
  unfold Blk.sbRelease
  split
  · exact .rfl' b
  · exact (b.spoken_setSb _).trans (Blk.spoken_sbAccept _ _)

theorem Blk.sbRelease_none (b : Blk) (h : b.host.sb.held = none) : b.sbRelease = b := by simp [Blk.sbRelease, h]

theorem Blk.spoken_failStaged (b : Blk) (set : Nat) (i : Instr) : b.Spoken (b.failStaged set i) := by
  unfold Blk.failStaged
  split
  · exact .rfl' b
  · exact b.spoken_answer _ _ _ _ _ _

theorem Blk.spoken_failSet (b : Blk) (x : Nat × List Instr) : b.Spoken (x.2.foldl (fun b i => b.failStaged x.1 i) b) :=
  Blk.spoken_foldl (fun b i => Blk.failStaged b x.1 i) (fun b i => b.spoken_failStaged x.1 i) x.2 b

/-- The replies of every staged command at the entry into Dormant. -/
theorem Blk.spoken_failAll (l : List (Nat × List Instr)) (b : Blk) :
    b.Spoken (l.foldl (fun b x => x.2.foldl (fun b i => b.failStaged x.1 i) b) b) := by
  induction l generalizing b with
  | nil => exact .rfl' b
  | cons x r ih => rw [List.foldl_cons]; exact (b.spoken_failSet x).trans (ih _)

theorem Blk.Spoken.sys_eq {b b' : Blk} (h : b.Spoken b') : b'.sys = b.sys := by
  obtain ⟨_, _, _, _, _, _, rfl⟩ := h; rfl

theorem Blk.Spoken.clk_eq {b b' : Blk} (h : b.Spoken b') : b'.clk = b.clk := by
  obtain ⟨_, _, _, _, _, _, rfl⟩ := h; rfl

theorem HostIf.take_held (h : HostIf) (c : Cmd) (r : Reply) : (h.take c r).sb.held = h.sb.held := by
  unfold HostIf.take; split_ifs <;> rfl

theorem Blk.failStaged_held (b : Blk) (set : Nat) (i : Instr) : (b.failStaged set i).host.sb.held = b.host.sb.held := by
  unfold Blk.failStaged
  split
  · rfl
  · rw [Blk.answer_host, HostIf.take_held]

theorem Blk.failAll_held (l : List (Nat × List Instr)) (b : Blk) :
    (l.foldl (fun b x => x.2.foldl (fun b i => b.failStaged x.1 i) b) b).host.sb.held = b.host.sb.held := by
  have h (n : Nat) (l : List Instr) (b : Blk) : (l.foldl (fun b i => b.failStaged n i) b).host.sb.held = b.host.sb.held := by
    induction l generalizing b with
    | nil => rfl
    | cons i r ih => rw [List.foldl_cons, ih, Blk.failStaged_held]
  induction l generalizing b with
  | nil => rfl
  | cons x r ih => rw [List.foldl_cons, ih, h]

/-- The registers at the entry into Dormant. -/
def Blk.dormantSys (b : Blk) (cause : Nat) : Blk :=
  { b with
    sys := { b.sys with
      phase := .dormant, cause := cause, dormantEpoch := b.clk.epoch, dormantNext := none, fwStaged := b.sys.fwWriting,
      fwWriting := none, fwVersion := 0, fwReady := false, txOn := 0, refresh2x := 0 },
    clk := { b.clk with healthPaced := !b.sys.refTree } }

/-- The same, with its record and its vector. -/
def Blk.dormantNoted (b : Blk) (cause : Nat) : Blk :=
  ((b.dormantSys cause).vent { type := 0x0D02, object := cause }).emit (.msix 0 9)

/-- The same, with every staged command answered. -/
def Blk.dormantTold (b : Blk) (cause : Nat) : Blk :=
  let b := b.dormantNoted cause
  (b.host.deferred ++ b.host.sets).foldl (fun b x => x.2.foldl (fun b i => b.failStaged x.1 i) b) b

/-- The block at the entry into Dormant, before a held submission is released. -/
def Blk.dormantBase (b : Blk) (cause : Nat) : Blk :=
  let b := b.dormantTold cause
  { b with host := { b.host with sets := [], deferred := [] } }.unitsReset

theorem Blk.enterDormant_base (b : Blk) (cause : Nat) (hp : b.sys.phase.inDormant = false) (hc : cause / 2 ^ 56 ≠ 3) :
    b.enterDormant cause = (b.dormantBase cause).sbRelease := by
  unfold Blk.enterDormant
  rw [if_neg (by simp [hp])]
  exact if_neg hc

theorem Blk.spoken_dormantTold (b : Blk) (cause : Nat) : (b.dormantSys cause).Spoken (b.dormantTold cause) :=
  ((Blk.spoken_vent _ _).trans (Blk.spoken_emit _ _)).trans (Blk.spoken_failAll _ _)

theorem Blk.dormantTold_held (b : Blk) (cause : Nat) : (b.dormantTold cause).host.sb.held = b.host.sb.held := by
  unfold Blk.dormantTold
  rw [Blk.failAll_held]
  show (((b.dormantSys cause).vent _).host).sb.held = _
  rw [Blk.vent_host]; rfl

/-- What the entry into Dormant leaves (R500, R504): nothing staged, no light, the cause, and the sequencer on the local
oscillator where the tree reference is lost. -/
theorem Blk.enterDormant_spec (b : Blk) (cause : Nat) (hp : b.sys.phase.inDormant = false) (hc : cause / 2 ^ 56 ≠ 3) :
    (b.enterDormant cause).sys = { b.sys with
        phase := .dormant, cause := cause, dormantEpoch := b.clk.epoch, dormantNext := none, fwStaged := b.sys.fwWriting,
        fwWriting := none, fwVersion := 0, fwReady := false, txOn := 0, refresh2x := 0 }
    ∧ (b.enterDormant cause).clk = { b.clk with healthPaced := !b.sys.refTree }
    ∧ (b.host.sb.held = none → (b.enterDormant cause).host.sets = [] ∧ (b.enterDormant cause).host.deferred = []) := by
  rw [Blk.enterDormant_base b cause hp hc]
  have k := (b.dormantBase cause).spoken_sbRelease
  have h := b.spoken_dormantTold cause
  rw [k.sys_eq, k.clk_eq]
  refine ⟨h.sys_eq, h.clk_eq, fun hh => ?_⟩
  have e : (b.dormantBase cause).host.sb.held = none := (b.dormantTold_held cause).trans hh
  rw [Blk.sbRelease_none _ e]
  exact ⟨rfl, rfl⟩

theorem Blk.Logged.ventExt_eq {b b' : Blk} (h : b.Logged b') : b'.tele.ventExt = b.tele.ventExt := by
  obtain ⟨_, _, _, _, _, _, rfl⟩ := h; rfl

/-- What the end of a warm start that passed leaves (R503). -/
theorem Blk.leaveDormant_spec (b : Blk) (us : Nat) :
    (b.leaveDormant us).sys = { b.sys with
      phase := .service, cause := 0, startKind := 2, startEpoch := b.clk.epoch + 1, fwVersion := b.sys.fwStaged.getD 0,
      fwReady := b.sys.fwStaged.isSome, fwStaged := none }
    ∧ (b.leaveDormant us).clk = { b.clk with fc := 8 * (b.clk.epoch + 1) }
    ∧ (b.leaveDormant us).host = { b.host with owners := [(0, {})] }
    ∧ (b.leaveDormant us).sw = { rings := b.sw.rings }
    ∧ (b.leaveDormant us).gey.cfg = [(0, {})] ∧ (b.leaveDormant us).dir.ctxs = []
    ∧ (b.leaveDormant us).tele.ventExt = b.tele.ventExt := by
  refine ⟨?_, ?_, ?_, ?_, ?_, ?_, ?_⟩
  · unfold Blk.leaveDormant; simp only [Blk.vent_sys]; split <;> rfl
  · unfold Blk.leaveDormant; simp only [Blk.vent_clk]; split <;> rfl
  · unfold Blk.leaveDormant; simp only [Blk.vent_host]; split <;> rfl
  · unfold Blk.leaveDormant; simp only [Blk.vent_sw]; split <;> rfl
  · unfold Blk.leaveDormant; simp only [Blk.vent_gey]; split <;> rfl
  · unfold Blk.leaveDormant; simp only [Blk.vent_dir]; split <;> rfl
  · unfold Blk.leaveDormant; rw [(Blk.logged_vent _ _).ventExt_eq]; dsimp only; split <;> rfl

end Sys2Proof.Machine
end

