-- ==== Sys2Proof/Laws/Resync.lean ====
section
/-! SUPPORT. What a page changes: an item has a page, and a page with nothing to replay leaves what it installed. -/
namespace Sys2Proof.Machine

theorem itemPages_pos (item : Nat) : 0 < itemPages item := by unfold itemPages; split <;> [decide; (split <;> omega)]

@[simp] theorem Blk.takeDisc_self (b : Blk) (t : Nat) : b.takeDisc b t = b := by simp [Blk.takeDisc]

theorem foldl_takeDisc_self (b : Blk) (l : List Nat) : l.foldl (fun x t => x.takeDisc b t) b = b := by
  induction l with
  | nil => rfl
  | cons t l ih => simpa using ih

/-- Of an item with no layout, taking what the page itself installed changes nothing. -/
theorem Blk.takePage_self (b : Blk) (p : Page) (h : p.item ≤ 4) (h0 : 1 ≤ p.item) : b.takePage p b = b := by
  have : p.item = 1 ∨ p.item = 2 ∨ p.item = 3 ∨ p.item = 4 := by omega
  rcases this with h | h | h | h <;> simp [Blk.takePage, h, foldl_takeDisc_self]

/-- An empty log replays nothing. -/
theorem Blk.replay_nil (b : Blk) (p : Page) (slot : Nat) (h : b.pair.log = []) : b.replay p slot = (b, true) := by
  simp [Blk.replay, h]

end Sys2Proof.Machine
end

