-- ==== Sys2Proof/Laws/Shape.lean ====
section
/-! SUPPORT. The shape of every meaning: which of the operations of Machine/Ops.lean it is, so that a proof over all commands
needs four cases and not one for each row. -/
namespace Sys2Proof.Machine

/-- What a command's meaning is: a unit that acts in every phase, in service alone, or in service and Dormant; or one of the
start-up and clock commands, which are shaped by themselves. -/
inductive Shape (i : Instr) (s : State) : Prop where
  | unit (f : Blk → Blk) (h : exec i s = s.unit f) (hm : (movesPhase i || movesFrame i) = false) (hs : serviceRow i = false)
  | svc (f : Blk → Blk) (h : exec i s = s.svc f) (hm : (movesPhase i || movesFrame i) = false) (hs : outsideService i = false)
  | alive (f : Blk → Blk) (h : exec i s = s.alive f) (hm : (movesPhase i || movesFrame i) = false) (hs : serviceRow i = false)
  | raw (h : (movesPhase i || movesFrame i) = true)

/-- Every command has one of the shapes. -/
theorem shape (i : Instr) (s : State) : Shape i s := by
  cases i with
  | powerOn => exact .raw rfl
  | pinReset lowNs => exact .raw rfl
  | resetRelease straps => exact .raw rfl
  | selftestTestDone test failed => exact .raw rfl
  | railUndervoltage rail => exact .raw rfl
  | undervoltageRelease straps => exact .raw rfl
  | perst => exact .unit _ (by rw [show exec (.perst) s = execPerst s from rfl, execPerst]) rfl rfl
  | pcieHotReset => exact .unit _ (by rw [show exec (.pcieHotReset) s = execPcieHotReset s from rfl, execPcieHotReset]) rfl rfl
  | pcieFlr fn => exact .unit _ (by rw [show exec (.pcieFlr fn) s = execPcieFlr fn s from rfl, execPcieFlr]) rfl rfl
  | pcieConfigRequest fn sinceResetUs sincePerstUs => exact .unit _ (by rw [show exec (.pcieConfigRequest fn sinceResetUs sincePerstUs) s = execPcieConfigRequest fn sinceResetUs sincePerstUs s from rfl, execPcieConfigRequest]) rfl rfl
  | refclkLoss ref => exact .raw rfl
  | refclkReturn ref => exact .unit _ (by rw [show exec (.refclkReturn ref) s = execRefclkReturn ref s from rfl, execRefclkReturn]) rfl rfl
  | hbmTempHigh stack => exact .svc _ (by rw [show exec (.hbmTempHigh stack) s = execHbmTempHigh stack s from rfl, execHbmTempHigh]) rfl rfl
  | hbmTempNormal stack => exact .svc _ (by rw [show exec (.hbmTempNormal stack) s = execHbmTempNormal stack s from rfl, execHbmTempNormal]) rfl rfl
  | thermTrip => exact .unit _ (by rw [show exec (.thermTrip) s = execThermTrip s from rfl, execThermTrip]) rfl rfl
  | testPortReset => exact .unit _ (by rw [show exec (.testPortReset) s = execTestPortReset s from rfl, execTestPortReset]) rfl rfl
  | extest boundary => exact .unit _ (by rw [show exec (.extest boundary) s = execExtest boundary s from rfl, execExtest]) rfl rfl
  | registerWrite fn offset value width => exact .unit _ (by rw [show exec (.registerWrite fn offset value width) s = execRegisterWrite fn offset value width s from rfl, execRegisterWrite]) rfl rfl
  | ringEnable fn ring value => exact .unit _ (by rw [show exec (.ringEnable fn ring value) s = execRingEnable fn ring value s from rfl, execRingEnable]) rfl rfl
  | ringDisable fn ring value => exact .unit _ (by rw [show exec (.ringDisable fn ring value) s = execRingDisable fn ring value s from rfl, execRingDisable]) rfl rfl
  | ringSizeSet fn ring value => exact .unit _ (by rw [show exec (.ringSizeSet fn ring value) s = execRingSizeSet fn ring value s from rfl, execRingSizeSet]) rfl rfl
  | ringOverrunClear fn ring value => exact .unit _ (by rw [show exec (.ringOverrunClear fn ring value) s = execRingOverrunClear fn ring value s from rfl, execRingOverrunClear]) rfl rfl
  | cmdDoorbell fn ring prod => exact .unit _ (by rw [show exec (.cmdDoorbell fn ring prod) s = execCmdDoorbell fn ring prod s from rfl, execCmdDoorbell]) rfl rfl
  | replyDoorbell fn ring cons => exact .unit _ (by rw [show exec (.replyDoorbell fn ring cons) s = execReplyDoorbell fn ring cons s from rfl, execReplyDoorbell]) rfl rfl
  | commandFetch fn ring slot ext => exact .unit _ (by rw [show exec (.commandFetch fn ring slot ext) s = execCommandFetch fn ring slot ext s from rfl, execCommandFetch]) rfl rfl
  | replyWrite fn ring sameWindow => exact .unit _ (by rw [show exec (.replyWrite fn ring sameWindow) s = execReplyWrite fn ring sameWindow s from rfl, execReplyWrite]) rfl rfl
  | sbSubmit count bytes pecOk => exact .unit _ (by rw [show exec (.sbSubmit count bytes pecOk) s = execSbSubmit count bytes pecOk s from rfl, execSbSubmit]) rfl rfl
  | sbReply => exact .unit _ (by rw [show exec (.sbReply) s = execSbReply s from rfl, execSbReply]) rfl rfl
  | sbStatus => exact .unit _ (by rw [show exec (.sbStatus) s = execSbStatus s from rfl, execSbStatus]) rfl rfl
  | sbInvalidWrite code write => exact .unit _ (by rw [show exec (.sbInvalidWrite code write) s = execSbInvalidWrite code write s from rfl, execSbInvalidWrite]) rfl rfl
  | sbInvalidRead code block => exact .unit _ (by rw [show exec (.sbInvalidRead code block) s = execSbInvalidRead code block s from rfl, execSbInvalidRead]) rfl rfl
  | smbusTimeout => exact .unit _ (by rw [show exec (.smbusTimeout) s = execSmbusTimeout s from rfl, execSmbusTimeout]) rfl rfl
  | changeSetClose => exact .alive _ (by rw [show exec (.changeSetClose) s = execChangeSetClose s from rfl, execChangeSetClose]) rfl rfl
  | prepare => exact .alive _ (by rw [show exec (.prepare) s = execPrepare s from rfl, execPrepare]) rfl rfl
  | prepareDeadline missing => exact .alive _ (by rw [show exec (.prepareDeadline missing) s = execPrepareDeadline missing s from rfl, execPrepareDeadline]) rfl rfl
  | epochCommit => exact .raw rfl
  | commitAckDeadline missing => exact .alive _ (by rw [show exec (.commitAckDeadline missing) s = execCommitAckDeadline missing s from rfl, execCommitAckDeadline]) rfl rfl
  | warmStartComplete failed us => exact .raw rfl
  | downstreamFrame facts => exact .raw rfl
  | phaseEndMarker tree uf phase => exact .svc _ (by rw [show exec (.phaseEndMarker tree uf phase) s = execPhaseEndMarker tree uf phase s from rfl, execPhaseEndMarker]) rfl rfl
  | upstreamBurst burst => exact .svc _ (by rw [show exec (.upstreamBurst burst) s = execUpstreamBurst burst s from rfl, execUpstreamBurst]) rfl rfl
  | delimiterWindowClose tree uf start => exact .svc _ (by rw [show exec (.delimiterWindowClose tree uf start) s = execDelimiterWindowClose tree uf start s from rfl, execDelimiterWindowClose]) rfl rfl
  | probeDetection tree windows => exact .svc _ (by rw [show exec (.probeDetection tree windows) s = execProbeDetection tree windows s from rfl, execProbeDetection]) rfl rfl
  | defectChange tree object code => exact .svc _ (by rw [show exec (.defectChange tree object code) s = execDefectChange tree object code s from rfl, execDefectChange]) rfl rfl
  | aisPeriodEnd flow up => exact .svc _ (by rw [show exec (.aisPeriodEnd flow up) s = execAisPeriodEnd flow up s from rfl, execAisPeriodEnd]) rfl rfl
  | rangingTimeout tree index => exact .svc _ (by rw [show exec (.rangingTimeout tree index) s = execRangingTimeout tree index s from rfl, execRangingTimeout]) rfl rfl
  | heldTimeout tree index => exact .svc _ (by rw [show exec (.heldTimeout tree index) s = execHeldTimeout tree index s from rfl, execHeldTimeout]) rfl rfl
  | activateTimeout tree index => exact .svc _ (by rw [show exec (.activateTimeout tree index) s = execActivateTimeout tree index s from rfl, execActivateTimeout]) rfl rfl
  | driftEpoch tree index => exact .svc _ (by rw [show exec (.driftEpoch tree index) s = execDriftEpoch tree index s from rfl, execDriftEpoch]) rfl rfl
  | rerangeFail tree index => exact .svc _ (by rw [show exec (.rerangeFail tree index) s = execRerangeFail tree index s from rfl, execRerangeFail]) rfl rfl
  | skewAcquired tree bursts => exact .svc _ (by rw [show exec (.skewAcquired tree bursts) s = execSkewAcquired tree bursts s from rfl, execSkewAcquired]) rfl rfl
  | skewTrack tree sum count => exact .svc _ (by rw [show exec (.skewTrack tree sum count) s = execSkewTrack tree sum count s from rfl, execSkewTrack]) rfl rfl
  | protectHoldOffExpiry tree => exact .svc _ (by rw [show exec (.protectHoldOffExpiry tree) s = execProtectHoldOffExpiry tree s from rfl, execProtectHoldOffExpiry]) rfl rfl
  | protectTxWaitExpiry tree => exact .svc _ (by rw [show exec (.protectTxWaitExpiry tree) s = execProtectTxWaitExpiry tree s from rfl, execProtectTxWaitExpiry]) rfl rfl
  | protectWtrExpiry tree => exact .svc _ (by rw [show exec (.protectWtrExpiry tree) s = execProtectWtrExpiry tree s from rfl, execProtectWtrExpiry]) rfl rfl
  | placementSlot => exact .svc _ (by rw [show exec (.placementSlot) s = execPlacementSlot s from rfl, execPlacementSlot]) rfl rfl
  | shareComputation => exact .svc _ (by rw [show exec (.shareComputation) s = execShareComputation s from rfl, execShareComputation]) rfl rfl
  | lateMarkerArrival tree uf phase => exact .svc _ (by rw [show exec (.lateMarkerArrival tree uf phase) s = execLateMarkerArrival tree uf phase s from rfl, execLateMarkerArrival]) rfl rfl
  | bankBatch uf phase upsets => exact .svc _ (by rw [show exec (.bankBatch uf phase upsets) s = execBankBatch uf phase upsets s from rfl, execBankBatch]) rfl rfl
  | bankMarkerDeadline uf phase upsets => exact .svc _ (by rw [show exec (.bankMarkerDeadline uf phase upsets) s = execBankMarkerDeadline uf phase upsets s from rfl, execBankMarkerDeadline]) rfl rfl
  | lateEndpointMessage tree uf phase flow sdu => exact .svc _ (by rw [show exec (.lateEndpointMessage tree uf phase flow sdu) s = execLateEndpointMessage tree uf phase flow sdu s from rfl, execLateEndpointMessage]) rfl rfl
  | downstreamEndpointMessage upsets => exact .svc _ (by rw [show exec (.downstreamEndpointMessage upsets) s = execDownstreamEndpointMessage upsets s from rfl, execDownstreamEndpointMessage]) rfl rfl
  | outageRecordClose terminal tenant kind => exact .svc _ (by rw [show exec (.outageRecordClose terminal tenant kind) s = execOutageRecordClose terminal tenant kind s from rfl, execOutageRecordClose]) rfl rfl
  | outageRecordDeliver => exact .svc _ (by rw [show exec (.outageRecordDeliver) s = execOutageRecordDeliver s from rfl, execOutageRecordDeliver]) rfl rfl
  | uplinkFrameRx sub bytes bad room toa => exact .svc _ (by rw [show exec (.uplinkFrameRx sub bytes bad room toa) s = execUplinkFrameRx sub bytes bad room toa s from rfl, execUplinkFrameRx]) rfl rfl
  | pauseRx sub frame => exact .svc _ (by rw [show exec (.pauseRx sub frame) s = execPauseRx sub frame s from rfl, execPauseRx]) rfl rfl
  | subPortLinkDown sub => exact .svc _ (by rw [show exec (.subPortLinkDown sub) s = execSubPortLinkDown sub s from rfl, execSubPortLinkDown]) rfl rfl
  | subPortLinkUp sub => exact .svc _ (by rw [show exec (.subPortLinkUp sub) s = execSubPortLinkUp sub s from rfl, execSubPortLinkUp]) rfl rfl
  | parserPass pass checkFail => exact .svc _ (by rw [show exec (.parserPass pass checkFail) s = execParserPass pass checkFail s from rfl, execParserPass]) rfl rfl
  | recirculationPass pass => exact .svc _ (by rw [show exec (.recirculationPass pass) s = execRecirculationPass pass s from rfl, execRecirculationPass]) rfl rfl
  | tableParityScan faults => exact .svc _ (by rw [show exec (.tableParityScan faults) s = execTableParityScan faults s from rfl, execTableParityScan]) rfl rfl
  | egressDequeue port corrected checkFail => exact .svc _ (by rw [show exec (.egressDequeue port corrected checkFail) s = execEgressDequeue port corrected checkFail s from rfl, execEgressDequeue]) rfl rfl
  | frameFoundBadLate queue pos why => exact .svc _ (by rw [show exec (.frameFoundBadLate queue pos why) s = execFrameFoundBadLate queue pos why s from rfl, execFrameFoundBadLate]) rfl rfl
  | frerSequencePoint uf phase => exact .svc _ (by rw [show exec (.frerSequencePoint uf phase) s = execFrerSequencePoint uf phase s from rfl, execFrerSequencePoint]) rfl rfl
  | hostDelivery reads => exact .svc _ (by rw [show exec (.hostDelivery reads) s = execHostDelivery reads s from rfl, execHostDelivery]) rfl rfl
  | rxRingPoll tenant word1 => exact .svc _ (by rw [show exec (.rxRingPoll tenant word1) s = execRxRingPoll tenant word1 s from rfl, execRxRingPoll]) rfl rfl
  | leaseReadbackComplete key => exact .svc _ (by rw [show exec (.leaseReadbackComplete key) s = execLeaseReadbackComplete key s from rfl, execLeaseReadbackComplete]) rfl rfl
  | keyCacheRefill flow slot => exact .svc _ (by rw [show exec (.keyCacheRefill flow slot) s = execKeyCacheRefill flow slot s from rfl, execKeyCacheRefill]) rfl rfl
  | ptpMessageRx => exact .svc _ (by rw [show exec (.ptpMessageRx) s = execPtpMessageRx s from rfl, execPtpMessageRx]) rfl rfl
  | ptpMessageTx sub kind depart => exact .svc _ (by rw [show exec (.ptpMessageTx sub kind depart) s = execPtpMessageTx sub kind depart s from rfl, execPtpMessageTx]) rfl rfl
  | ppsInEdge edge => exact .svc _ (by rw [show exec (.ppsInEdge edge) s = execPpsInEdge edge s from rfl, execPpsInEdge]) rfl rfl
  | ppsOutPulse => exact .svc _ (by rw [show exec (.ppsOutPulse) s = execPpsOutPulse s from rfl, execPpsOutPulse]) rfl rfl
  | sourceTimeout => exact .svc _ (by rw [show exec (.sourceTimeout) s = execSourceTimeout s from rfl, execSourceTimeout]) rfl rfl
  | hoValidExpiry => exact .svc _ (by rw [show exec (.hoValidExpiry) s = execHoValidExpiry s from rfl, execHoValidExpiry]) rfl rfl
  | esmcRx sub ql ppb => exact .svc _ (by rw [show exec (.esmcRx sub ql ppb) s = execEsmcRx sub ql ppb s from rfl, execEsmcRx]) rfl rfl
  | synceSourceLoss entry why => exact .svc _ (by rw [show exec (.synceSourceLoss entry why) s = execSynceSourceLoss entry why s from rfl, execSynceSourceLoss]) rfl rfl
  | synceWtrExpiry entry => exact .svc _ (by rw [show exec (.synceWtrExpiry entry) s = execSynceWtrExpiry entry s from rfl, execSynceWtrExpiry]) rfl rfl
  | esmcTx => exact .svc _ (by rw [show exec (.esmcTx) s = execEsmcTx s from rfl, execEsmcTx]) rfl rfl
  | todWriteStandard tree => exact .svc _ (by rw [show exec (.todWriteStandard tree) s = execTodWriteStandard tree s from rfl, execTodWriteStandard]) rfl rfl
  | helloTx => exact .svc _ (by rw [show exec (.helloTx) s = execHelloTx s from rfl, execHelloTx, State.pairRow]) rfl rfl
  | helloRx frame => exact .svc _ (by rw [show exec (.helloRx frame) s = execHelloRx frame s from rfl, execHelloRx, State.pairRow]) rfl rfl
  | linkFrameRx frame => exact .svc _ (by rw [show exec (.linkFrameRx frame) s = execLinkFrameRx frame s from rfl, execLinkFrameRx, State.pairRow]) rfl rfl
  | watchdogToggle => exact .svc _ (by rw [show exec (.watchdogToggle) s = execWatchdogToggle s from rfl, execWatchdogToggle, State.pairRow]) rfl rfl
  | watchdogSilence => exact .svc _ (by rw [show exec (.watchdogSilence) s = execWatchdogSilence s from rfl, execWatchdogSilence, State.pairRow]) rfl rfl
  | linkSilence => exact .svc _ (by rw [show exec (.linkSilence) s = execLinkSilence s from rfl, execLinkSilence, State.pairRow]) rfl rfl
  | agreedItemDeadline item arg => exact .svc _ (by rw [show exec (.agreedItemDeadline item arg) s = execAgreedItemDeadline item arg s from rfl, execAgreedItemDeadline, State.pairRow]) rfl rfl
  | joinHandshake hello mac kek => exact .raw rfl
  | handshakeRetry => exact .svc _ (by rw [show exec (.handshakeRetry) s = execHandshakeRetry s from rfl, execHandshakeRetry, State.pairRow]) rfl rfl
  | batchRx batch => exact .svc _ (by rw [show exec (.batchRx batch) s = execBatchRx batch s from rfl, execBatchRx, State.pairRow]) rfl rfl
  | constraintRx epoch budget => exact .svc _ (by rw [show exec (.constraintRx epoch budget) s = execConstraintRx epoch budget s from rfl, execConstraintRx, State.pairRow]) rfl rfl
  | recipeRx recipe => exact .svc _ (by rw [show exec (.recipeRx recipe) s = execRecipeRx recipe s from rfl, execRecipeRx, State.pairRow]) rfl rfl
  | timeFrameRx time => exact .svc _ (by rw [show exec (.timeFrameRx time) s = execTimeFrameRx time s from rfl, execTimeFrameRx, State.pairRow]) rfl rfl
  | leaseFrameRx key leaseEnd => exact .svc _ (by rw [show exec (.leaseFrameRx key leaseEnd) s = execLeaseFrameRx key leaseEnd s from rfl, execLeaseFrameRx, State.pairRow]) rfl rfl
  | acceptListRx accepts => exact .svc _ (by rw [show exec (.acceptListRx accepts) s = execAcceptListRx accepts s from rfl, execAcceptListRx, State.pairRow]) rfl rfl
  | commandFrameRx cmd => exact .svc _ (by rw [show exec (.commandFrameRx cmd) s = execCommandFrameRx cmd s from rfl, execCommandFrameRx, State.pairRow]) rfl rfl
  | dnEndpointRx uf phase messages => exact .svc _ (by rw [show exec (.dnEndpointRx uf phase messages) s = execDnEndpointRx uf phase messages s from rfl, execDnEndpointRx, State.pairRow]) rfl rfl
  | mapFrameRx tree uf entries => exact .svc _ (by rw [show exec (.mapFrameRx tree uf entries) s = execMapFrameRx tree uf entries s from rfl, execMapFrameRx, State.pairRow]) rfl rfl
  | digestRx epoch digest faulted => exact .svc _ (by rw [show exec (.digestRx epoch digest faulted) s = execDigestRx epoch digest faulted s from rfl, execDigestRx, State.pairRow]) rfl rfl
  | pageSend => exact .svc _ (by rw [show exec (.pageSend) s = execPageSend s from rfl, execPageSend, State.pairRow]) rfl rfl
  | pageRx page => exact .svc _ (by rw [show exec (.pageRx page) s = execPageRx page s from rfl, execPageRx, State.pairRow]) rfl rfl
  | pageReqRx item pages => exact .svc _ (by rw [show exec (.pageReqRx item pages) s = execPageReqRx item pages s from rfl, execPageReqRx, State.pairRow]) rfl rfl
  | gridAlign tree offsets => exact .svc _ (by rw [show exec (.gridAlign tree offsets) s = execGridAlign tree offsets s from rfl, execGridAlign, State.pairRow]) rfl rfl
  | joinPoint j => exact .svc _ (by rw [show exec (.joinPoint j) s = execJoinPoint j s from rfl, execJoinPoint, State.pairRow]) rfl rfl
  | wtrExpiry => exact .svc _ (by rw [show exec (.wtrExpiry) s = execWtrExpiry s from rfl, execWtrExpiry, State.pairRow]) rfl rfl
  | fwVersionMismatch => exact .svc _ (by rw [show exec (.fwVersionMismatch) s = execFwVersionMismatch s from rfl, execFwVersionMismatch, State.pairRow]) rfl rfl
  | handlerJob engine cipherWait memoryWait outputWait => exact .svc _ (by rw [show exec (.handlerJob engine cipherWait memoryWait outputWait) s = execHandlerJob engine cipherWait memoryWait outputWait s from rfl, execHandlerJob]) rfl rfl
  | jobWriteBack cluster => exact .svc _ (by rw [show exec (.jobWriteBack cluster) s = execJobWriteBack cluster s from rfl, execJobWriteBack]) rfl rfl
  | engineFault engine cycles why => exact .svc _ (by rw [show exec (.engineFault engine cycles why) s = execEngineFault engine cycles why s from rfl, execEngineFault]) rfl rfl
  | managementJob tree => exact .svc _ (by rw [show exec (.managementJob tree) s = execManagementJob tree s from rfl, execManagementJob]) rfl rfl
  | mgmtMessageRx terminal checkFail => exact .svc _ (by rw [show exec (.mgmtMessageRx terminal checkFail) s = execMgmtMessageRx terminal checkFail s from rfl, execMgmtMessageRx]) rfl rfl
  | mgmtRetry tree terminal => exact .svc _ (by rw [show exec (.mgmtRetry tree terminal) s = execMgmtRetry tree terminal s from rfl, execMgmtRetry]) rfl rfl
  | outageJob => exact .svc _ (by rw [show exec (.outageJob) s = execOutageJob s from rfl, execOutageJob]) rfl rfl
  | reportClose tenant cls key => exact .svc _ (by rw [show exec (.reportClose tenant cls key) s = execReportClose tenant cls key s from rfl, execReportClose]) rfl rfl
  | reportDeliver => exact .svc _ (by rw [show exec (.reportDeliver) s = execReportDeliver s from rfl, execReportDeliver]) rfl rfl
  | hbmCopyComplete pchannel => exact .alive _ (by rw [show exec (.hbmCopyComplete pchannel) s = execHbmCopyComplete pchannel s from rfl, execHbmCopyComplete]) rfl rfl
  | retestComplete kind index failed => exact .alive _ (by rw [show exec (.retestComplete kind index failed) s = execRetestComplete kind index failed s from rfl, execRetestComplete]) rfl rfl
  | capsQuery c => exact .unit _ (by rw [show exec (.capsQuery c) s = execCapsQuery c s from rfl, execCapsQuery, State.opcode]) rfl rfl
  | epochRead c => exact .unit _ (by rw [show exec (.epochRead c) s = execEpochRead c s from rfl, execEpochRead, State.opcode]) rfl rfl
  | nop c => exact .unit _ (by rw [show exec (.nop c) s = execNop c s from rfl, execNop, State.opcode]) rfl rfl
  | tenantAssign c => exact .unit _ (by rw [show exec (.tenantAssign c) s = execTenantAssign c s from rfl, execTenantAssign, State.opcode]) rfl rfl
  | tenantQuery c => exact .unit _ (by rw [show exec (.tenantQuery c) s = execTenantQuery c s from rfl, execTenantQuery, State.opcode]) rfl rfl
  | treeConfig c => exact .unit _ (by rw [show exec (.treeConfig c) s = execTreeConfig c s from rfl, execTreeConfig, State.opcode]) rfl rfl
  | defectConfig c => exact .unit _ (by rw [show exec (.defectConfig c) s = execDefectConfig c s from rfl, execDefectConfig, State.opcode]) rfl rfl
  | treeStatus c => exact .unit _ (by rw [show exec (.treeStatus c) s = execTreeStatus c s from rfl, execTreeStatus, State.opcode]) rfl rfl
  | circuitAisConfig c => exact .unit _ (by rw [show exec (.circuitAisConfig c) s = execCircuitAisConfig c s from rfl, execCircuitAisConfig, State.opcode]) rfl rfl
  | treeSetMode c => exact .unit _ (by rw [show exec (.treeSetMode c) s = execTreeSetMode c s from rfl, execTreeSetMode, State.opcode]) rfl rfl
  | treeProtectConfig c => exact .unit _ (by rw [show exec (.treeProtectConfig c) s = execTreeProtectConfig c s from rfl, execTreeProtectConfig, State.opcode]) rfl rfl
  | discoveryConfig c => exact .unit _ (by rw [show exec (.discoveryConfig c) s = execDiscoveryConfig c s from rfl, execDiscoveryConfig, State.opcode]) rfl rfl
  | terminalActivate c => exact .unit _ (by rw [show exec (.terminalActivate c) s = execTerminalActivate c s from rfl, execTerminalActivate, State.opcode]) rfl rfl
  | terminalDeactivate c => exact .unit _ (by rw [show exec (.terminalDeactivate c) s = execTerminalDeactivate c s from rfl, execTerminalDeactivate, State.opcode]) rfl rfl
  | rangeRead c => exact .unit _ (by rw [show exec (.rangeRead c) s = execRangeRead c s from rfl, execRangeRead, State.opcode]) rfl rfl
  | skewConfig c => exact .unit _ (by rw [show exec (.skewConfig c) s = execSkewConfig c s from rfl, execSkewConfig, State.opcode]) rfl rfl
  | gqConfig c => exact .unit _ (by rw [show exec (.gqConfig c) s = execGqConfig c s from rfl, execGqConfig, State.opcode]) rfl rfl
  | gqConfigTree c => exact .unit _ (by rw [show exec (.gqConfigTree c) s = execGqConfigTree c s from rfl, execGqConfigTree, State.opcode]) rfl rfl
  | gqConfigDevice c => exact .unit _ (by rw [show exec (.gqConfigDevice c) s = execGqConfigDevice c s from rfl, execGqConfigDevice, State.opcode]) rfl rfl
  | gqRead c => exact .unit _ (by rw [show exec (.gqRead c) s = execGqRead c s from rfl, execGqRead, State.opcode]) rfl rfl
  | circuitReserve c => exact .unit _ (by rw [show exec (.circuitReserve c) s = execCircuitReserve c s from rfl, execCircuitReserve, State.opcode]) rfl rfl
  | circuitRelease c => exact .unit _ (by rw [show exec (.circuitRelease c) s = execCircuitRelease c s from rfl, execCircuitRelease, State.opcode]) rfl rfl
  | accountRead c => exact .unit _ (by rw [show exec (.accountRead c) s = execAccountRead c s from rfl, execAccountRead, State.opcode]) rfl rfl
  | epWrite c => exact .unit _ (by rw [show exec (.epWrite c) s = execEpWrite c s from rfl, execEpWrite, State.opcode]) rfl rfl
  | epRead c => exact .unit _ (by rw [show exec (.epRead c) s = execEpRead c s from rfl, execEpRead, State.opcode]) rfl rfl
  | epBind c => exact .unit _ (by rw [show exec (.epBind c) s = execEpBind c s from rfl, execEpBind, State.opcode]) rfl rfl
  | epUnbind c => exact .unit _ (by rw [show exec (.epUnbind c) s = execEpUnbind c s from rfl, execEpUnbind, State.opcode]) rfl rfl
  | agingConfig c => exact .unit _ (by rw [show exec (.agingConfig c) s = execAgingConfig c s from rfl, execAgingConfig, State.opcode]) rfl rfl
  | outageConfig c => exact .unit _ (by rw [show exec (.outageConfig c) s = execOutageConfig c s from rfl, execOutageConfig, State.opcode]) rfl rfl
  | flowWrite c => exact .unit _ (by rw [show exec (.flowWrite c) s = execFlowWrite c s from rfl, execFlowWrite, State.opcode]) rfl rfl
  | flowRead c => exact .unit _ (by rw [show exec (.flowRead c) s = execFlowRead c s from rfl, execFlowRead, State.opcode]) rfl rfl
  | parseNodeWrite c => exact .unit _ (by rw [show exec (.parseNodeWrite c) s = execParseNodeWrite c s from rfl, execParseNodeWrite, State.opcode]) rfl rfl
  | parseNodeRead c => exact .unit _ (by rw [show exec (.parseNodeRead c) s = execParseNodeRead c s from rfl, execParseNodeRead, State.opcode]) rfl rfl
  | ruleWrite c => exact .unit _ (by rw [show exec (.ruleWrite c) s = execRuleWrite c s from rfl, execRuleWrite, State.opcode]) rfl rfl
  | ruleRead c => exact .unit _ (by rw [show exec (.ruleRead c) s = execRuleRead c s from rfl, execRuleRead, State.opcode]) rfl rfl
  | hashConfig c => exact .unit _ (by rw [show exec (.hashConfig c) s = execHashConfig c s from rfl, execHashConfig, State.opcode]) rfl rfl
  | indirectionWrite c => exact .unit _ (by rw [show exec (.indirectionWrite c) s = execIndirectionWrite c s from rfl, execIndirectionWrite, State.opcode]) rfl rfl
  | exceptionConfig c => exact .unit _ (by rw [show exec (.exceptionConfig c) s = execExceptionConfig c s from rfl, execExceptionConfig, State.opcode]) rfl rfl
  | portConfigPort c => exact .unit _ (by rw [show exec (.portConfigPort c) s = execPortConfigPort c s from rfl, execPortConfigPort, State.opcode]) rfl rfl
  | portConfigSubPort c => exact .unit _ (by rw [show exec (.portConfigSubPort c) s = execPortConfigSubPort c s from rfl, execPortConfigSubPort, State.opcode]) rfl rfl
  | portConfigHost c => exact .unit _ (by rw [show exec (.portConfigHost c) s = execPortConfigHost c s from rfl, execPortConfigHost, State.opcode]) rfl rfl
  | queueConfig c => exact .unit _ (by rw [show exec (.queueConfig c) s = execQueueConfig c s from rfl, execQueueConfig, State.opcode]) rfl rfl
  | thresholdConfig c => exact .unit _ (by rw [show exec (.thresholdConfig c) s = execThresholdConfig c s from rfl, execThresholdConfig, State.opcode]) rfl rfl
  | carrierMap c => exact .unit _ (by rw [show exec (.carrierMap c) s = execCarrierMap c s from rfl, execCarrierMap, State.opcode]) rfl rfl
  | carrierMapGroup c => exact .unit _ (by rw [show exec (.carrierMapGroup c) s = execCarrierMapGroup c s from rfl, execCarrierMapGroup, State.opcode]) rfl rfl
  | mirrorConfigPort c => exact .unit _ (by rw [show exec (.mirrorConfigPort c) s = execMirrorConfigPort c s from rfl, execMirrorConfigPort, State.opcode]) rfl rfl
  | mirrorConfigEncap c => exact .unit _ (by rw [show exec (.mirrorConfigEncap c) s = execMirrorConfigEncap c s from rfl, execMirrorConfigEncap, State.opcode]) rfl rfl
  | sampleConfig c => exact .unit _ (by rw [show exec (.sampleConfig c) s = execSampleConfig c s from rfl, execSampleConfig, State.opcode]) rfl rfl
  | frerConfig c => exact .unit _ (by rw [show exec (.frerConfig c) s = execFrerConfig c s from rfl, execFrerConfig, State.opcode]) rfl rfl
  | frameInject c => exact .unit _ (by rw [show exec (.frameInject c) s = execFrameInject c s from rfl, execFrameInject, State.opcode]) rfl rfl
  | keyLoadEndpoint c => exact .unit _ (by rw [show exec (.keyLoadEndpoint c) s = execKeyLoadEndpoint c s from rfl, execKeyLoadEndpoint, State.opcode]) rfl rfl
  | keyLoadCarrier c => exact .unit _ (by rw [show exec (.keyLoadCarrier c) s = execKeyLoadCarrier c s from rfl, execKeyLoadCarrier, State.opcode]) rfl rfl
  | keyLoadTenant c => exact .unit _ (by rw [show exec (.keyLoadTenant c) s = execKeyLoadTenant c s from rfl, execKeyLoadTenant, State.opcode]) rfl rfl
  | keyRetire c => exact .unit _ (by rw [show exec (.keyRetire c) s = execKeyRetire c s from rfl, execKeyRetire, State.opcode]) rfl rfl
  | carrierCipher c => exact .unit _ (by rw [show exec (.carrierCipher c) s = execCarrierCipher c s from rfl, execCarrierCipher, State.opcode]) rfl rfl
  | nonceQuery c => exact .unit _ (by rw [show exec (.nonceQuery c) s = execNonceQuery c s from rfl, execNonceQuery, State.opcode]) rfl rfl
  | checkConfig c => exact .unit _ (by rw [show exec (.checkConfig c) s = execCheckConfig c s from rfl, execCheckConfig, State.opcode]) rfl rfl
  | checkSave c => exact .unit _ (by rw [show exec (.checkSave c) s = execCheckSave c s from rfl, execCheckSave, State.opcode]) rfl rfl
  | checkRestore c => exact .unit _ (by rw [show exec (.checkRestore c) s = execCheckRestore c s from rfl, execCheckRestore, State.opcode]) rfl rfl
  | timeConfigDevice c => exact .unit _ (by rw [show exec (.timeConfigDevice c) s = execTimeConfigDevice c s from rfl, execTimeConfigDevice, State.opcode]) rfl rfl
  | timeConfigTree c => exact .unit _ (by rw [show exec (.timeConfigTree c) s = execTimeConfigTree c s from rfl, execTimeConfigTree, State.opcode]) rfl rfl
  | ptpPortConfig c => exact .unit _ (by rw [show exec (.ptpPortConfig c) s = execPtpPortConfig c s from rfl, execPtpPortConfig, State.opcode]) rfl rfl
  | stepTime c => exact .unit _ (by rw [show exec (.stepTime c) s = execStepTime c s from rfl, execStepTime, State.opcode]) rfl rfl
  | timeRead c => exact .unit _ (by rw [show exec (.timeRead c) s = execTimeRead c s from rfl, execTimeRead, State.opcode]) rfl rfl
  | ppsConfig c => exact .unit _ (by rw [show exec (.ppsConfig c) s = execPpsConfig c s from rfl, execPpsConfig, State.opcode]) rfl rfl
  | synceConfig c => exact .unit _ (by rw [show exec (.synceConfig c) s = execSynceConfig c s from rfl, execSynceConfig, State.opcode]) rfl rfl
  | pairConfig c => exact .unit _ (by rw [show exec (.pairConfig c) s = execPairConfig c s from rfl, execPairConfig, State.opcode]) rfl rfl
  | pairStatus c => exact .unit _ (by rw [show exec (.pairStatus c) s = execPairStatus c s from rfl, execPairStatus, State.opcode]) rfl rfl
  | roleSwap c => exact .unit _ (by rw [show exec (.roleSwap c) s = execRoleSwap c s from rfl, execRoleSwap, State.opcode]) rfl rfl
  | roleLock c => exact .unit _ (by rw [show exec (.roleLock c) s = execRoleLock c s from rfl, execRoleLock, State.opcode]) rfl rfl
  | roleUnlock c => exact .unit _ (by rw [show exec (.roleUnlock c) s = execRoleUnlock c s from rfl, execRoleUnlock, State.opcode]) rfl rfl
  | roleLeave c => exact .unit _ (by rw [show exec (.roleLeave c) s = execRoleLeave c s from rfl, execRoleLeave, State.opcode]) rfl rfl
  | roleRestoreNow c => exact .unit _ (by rw [show exec (.roleRestoreNow c) s = execRoleRestoreNow c s from rfl, execRoleRestoreNow, State.opcode]) rfl rfl
  | resyncStart c => exact .unit _ (by rw [show exec (.resyncStart c) s = execResyncStart c s from rfl, execResyncStart, State.opcode]) rfl rfl
  | wtrConfig c => exact .unit _ (by rw [show exec (.wtrConfig c) s = execWtrConfig c s from rfl, execWtrConfig, State.opcode]) rfl rfl
  | handlerWrite c => exact .unit _ (by rw [show exec (.handlerWrite c) s = execHandlerWrite c s from rfl, execHandlerWrite, State.opcode]) rfl rfl
  | handlerRead c => exact .unit _ (by rw [show exec (.handlerRead c) s = execHandlerRead c s from rfl, execHandlerRead, State.opcode]) rfl rfl
  | mgmtConfigTree c => exact .unit _ (by rw [show exec (.mgmtConfigTree c) s = execMgmtConfigTree c s from rfl, execMgmtConfigTree, State.opcode]) rfl rfl
  | mgmtConfigSend c => exact .unit _ (by rw [show exec (.mgmtConfigSend c) s = execMgmtConfigSend c s from rfl, execMgmtConfigSend, State.opcode]) rfl rfl
  | engineStatus c => exact .unit _ (by rw [show exec (.engineStatus c) s = execEngineStatus c s from rfl, execEngineStatus, State.opcode]) rfl rfl
  | engineCounterRead c => exact .unit _ (by rw [show exec (.engineCounterRead c) s = execEngineCounterRead c s from rfl, execEngineCounterRead, State.opcode]) rfl rfl
  | counterRead c => exact .unit _ (by rw [show exec (.counterRead c) s = execCounterRead c s from rfl, execCounterRead, State.opcode]) rfl rfl
  | counterClear c => exact .unit _ (by rw [show exec (.counterClear c) s = execCounterClear c s from rfl, execCounterClear, State.opcode]) rfl rfl
  | binRead c => exact .unit _ (by rw [show exec (.binRead c) s = execBinRead c s from rfl, execBinRead, State.opcode]) rfl rfl
  | ventRead c => exact .unit _ (by rw [show exec (.ventRead c) s = execVentRead c s from rfl, execVentRead, State.opcode]) rfl rfl
  | ventExtend c => exact .unit _ (by rw [show exec (.ventExtend c) s = execVentExtend c s from rfl, execVentExtend, State.opcode]) rfl rfl
  | faultConfigSource c => exact .unit _ (by rw [show exec (.faultConfigSource c) s = execFaultConfigSource c s from rfl, execFaultConfigSource, State.opcode]) rfl rfl
  | faultConfigWear c => exact .unit _ (by rw [show exec (.faultConfigWear c) s = execFaultConfigWear c s from rfl, execFaultConfigWear, State.opcode]) rfl rfl
  | unitRetest c => exact .unit _ (by rw [show exec (.unitRetest c) s = execUnitRetest c s from rfl, execUnitRetest, State.opcode]) rfl rfl
  | wearRead c => exact .unit _ (by rw [show exec (.wearRead c) s = execWearRead c s from rfl, execWearRead, State.opcode]) rfl rfl
  | deviceStatus c => exact .unit _ (by rw [show exec (.deviceStatus c) s = execDeviceStatus c s from rfl, execDeviceStatus, State.opcode]) rfl rfl
  | selftestRun c => exact .raw rfl
  | fwLoad c => exact .unit _ (by rw [show exec (.fwLoad c) s = execFwLoad c s from rfl, execFwLoad, State.opcode]) rfl rfl
  | powerDown => exact .raw rfl
  | fwImageWritten => exact .svc _ (by rw [show exec (.fwImageWritten) s = execFwImageWritten s from rfl, execFwImageWritten]) rfl rfl

/-- An opcode command's meaning: its row's checks and its row's application. -/
theorem opcode_shape (i : Instr) (r : OpRow) (s : State) (h : opRow s.blk.sys.part i = some r) (hm : movesPhase i = false) :
    exec i s = s.opcode r.op r.cmd r.apply := by
  cases i with
  | powerOn => cases h
  | pinReset _ => cases h
  | resetRelease _ => cases h
  | selftestTestDone _ _ => cases h
  | railUndervoltage _ => cases h
  | undervoltageRelease _ => cases h
  | perst => cases h
  | pcieHotReset => cases h
  | pcieFlr _ => cases h
  | pcieConfigRequest _ _ _ => cases h
  | refclkLoss _ => cases h
  | refclkReturn _ => cases h
  | hbmTempHigh _ => cases h
  | hbmTempNormal _ => cases h
  | thermTrip => cases h
  | testPortReset => cases h
  | extest _ => cases h
  | registerWrite _ _ _ _ => cases h
  | ringEnable _ _ _ => cases h
  | ringDisable _ _ _ => cases h
  | ringSizeSet _ _ _ => cases h
  | ringOverrunClear _ _ _ => cases h
  | cmdDoorbell _ _ _ => cases h
  | replyDoorbell _ _ _ => cases h
  | commandFetch _ _ _ _ => cases h
  | replyWrite _ _ _ => cases h
  | sbSubmit _ _ _ => cases h
  | sbReply => cases h
  | sbStatus => cases h
  | sbInvalidWrite _ _ => cases h
  | sbInvalidRead _ _ => cases h
  | smbusTimeout => cases h
  | changeSetClose => cases h
  | prepare => cases h
  | prepareDeadline _ => cases h
  | epochCommit => cases h
  | commitAckDeadline _ => cases h
  | warmStartComplete _ _ => cases h
  | downstreamFrame _ => cases h
  | phaseEndMarker _ _ _ => cases h
  | upstreamBurst _ => cases h
  | delimiterWindowClose _ _ _ => cases h
  | probeDetection _ _ => cases h
  | defectChange _ _ _ => cases h
  | aisPeriodEnd _ _ => cases h
  | rangingTimeout _ _ => cases h
  | heldTimeout _ _ => cases h
  | activateTimeout _ _ => cases h
  | driftEpoch _ _ => cases h
  | rerangeFail _ _ => cases h
  | skewAcquired _ _ => cases h
  | skewTrack _ _ _ => cases h
  | protectHoldOffExpiry _ => cases h
  | protectTxWaitExpiry _ => cases h
  | protectWtrExpiry _ => cases h
  | placementSlot => cases h
  | shareComputation => cases h
  | lateMarkerArrival _ _ _ => cases h
  | bankBatch _ _ _ => cases h
  | bankMarkerDeadline _ _ _ => cases h
  | lateEndpointMessage _ _ _ _ _ => cases h
  | downstreamEndpointMessage _ => cases h
  | outageRecordClose _ _ _ => cases h
  | outageRecordDeliver => cases h
  | uplinkFrameRx _ _ _ _ _ => cases h
  | pauseRx _ _ => cases h
  | subPortLinkDown _ => cases h
  | subPortLinkUp _ => cases h
  | parserPass _ _ => cases h
  | recirculationPass _ => cases h
  | tableParityScan _ => cases h
  | egressDequeue _ _ _ => cases h
  | frameFoundBadLate _ _ _ => cases h
  | frerSequencePoint _ _ => cases h
  | hostDelivery _ => cases h
  | rxRingPoll _ _ => cases h
  | leaseReadbackComplete _ => cases h
  | keyCacheRefill _ _ => cases h
  | ptpMessageRx => cases h
  | ptpMessageTx _ _ _ => cases h
  | ppsInEdge _ => cases h
  | ppsOutPulse => cases h
  | sourceTimeout => cases h
  | hoValidExpiry => cases h
  | esmcRx _ _ _ => cases h
  | synceSourceLoss _ _ => cases h
  | synceWtrExpiry _ => cases h
  | esmcTx => cases h
  | todWriteStandard _ => cases h
  | helloTx => cases h
  | helloRx _ => cases h
  | linkFrameRx _ => cases h
  | watchdogToggle => cases h
  | watchdogSilence => cases h
  | linkSilence => cases h
  | agreedItemDeadline _ _ => cases h
  | joinHandshake _ _ _ => cases h
  | handshakeRetry => cases h
  | batchRx _ => cases h
  | constraintRx _ _ => cases h
  | recipeRx _ => cases h
  | timeFrameRx _ => cases h
  | leaseFrameRx _ _ => cases h
  | acceptListRx _ => cases h
  | commandFrameRx _ => cases h
  | dnEndpointRx _ _ _ => cases h
  | mapFrameRx _ _ _ => cases h
  | digestRx _ _ _ => cases h
  | pageSend => cases h
  | pageRx _ => cases h
  | pageReqRx _ _ => cases h
  | gridAlign _ _ => cases h
  | joinPoint _ => cases h
  | wtrExpiry => cases h
  | fwVersionMismatch => cases h
  | handlerJob _ _ _ _ => cases h
  | jobWriteBack _ => cases h
  | engineFault _ _ _ => cases h
  | managementJob _ => cases h
  | mgmtMessageRx _ _ => cases h
  | mgmtRetry _ _ => cases h
  | outageJob => cases h
  | reportClose _ _ _ => cases h
  | reportDeliver => cases h
  | hbmCopyComplete _ => cases h
  | retestComplete _ _ _ => cases h
  | capsQuery c => cases h; rw [show exec (.capsQuery c) s = execCapsQuery c s from rfl, execCapsQuery]
  | epochRead c => cases h; rw [show exec (.epochRead c) s = execEpochRead c s from rfl, execEpochRead]
  | nop c => cases h; rw [show exec (.nop c) s = execNop c s from rfl, execNop]
  | tenantAssign c => cases h; rw [show exec (.tenantAssign c) s = execTenantAssign c s from rfl, execTenantAssign]
  | tenantQuery c => cases h; rw [show exec (.tenantQuery c) s = execTenantQuery c s from rfl, execTenantQuery]
  | treeConfig c => cases h; rw [show exec (.treeConfig c) s = execTreeConfig c s from rfl, execTreeConfig]
  | defectConfig c => cases h; rw [show exec (.defectConfig c) s = execDefectConfig c s from rfl, execDefectConfig]
  | treeStatus c => cases h; rw [show exec (.treeStatus c) s = execTreeStatus c s from rfl, execTreeStatus]
  | circuitAisConfig c => cases h; rw [show exec (.circuitAisConfig c) s = execCircuitAisConfig c s from rfl, execCircuitAisConfig]
  | treeSetMode c => cases h; rw [show exec (.treeSetMode c) s = execTreeSetMode c s from rfl, execTreeSetMode]
  | treeProtectConfig c => cases h; rw [show exec (.treeProtectConfig c) s = execTreeProtectConfig c s from rfl, execTreeProtectConfig]
  | discoveryConfig c => cases h; rw [show exec (.discoveryConfig c) s = execDiscoveryConfig c s from rfl, execDiscoveryConfig]
  | terminalActivate c => cases h; rw [show exec (.terminalActivate c) s = execTerminalActivate c s from rfl, execTerminalActivate]
  | terminalDeactivate c => cases h; rw [show exec (.terminalDeactivate c) s = execTerminalDeactivate c s from rfl, execTerminalDeactivate]
  | rangeRead c => cases h; rw [show exec (.rangeRead c) s = execRangeRead c s from rfl, execRangeRead]
  | skewConfig c => cases h; rw [show exec (.skewConfig c) s = execSkewConfig c s from rfl, execSkewConfig]
  | gqConfig c => cases h; rw [show exec (.gqConfig c) s = execGqConfig c s from rfl, execGqConfig]
  | gqConfigTree c => cases h; rw [show exec (.gqConfigTree c) s = execGqConfigTree c s from rfl, execGqConfigTree]
  | gqConfigDevice c => cases h; rw [show exec (.gqConfigDevice c) s = execGqConfigDevice c s from rfl, execGqConfigDevice]
  | gqRead c => cases h; rw [show exec (.gqRead c) s = execGqRead c s from rfl, execGqRead]
  | circuitReserve c => cases h; rw [show exec (.circuitReserve c) s = execCircuitReserve c s from rfl, execCircuitReserve]
  | circuitRelease c => cases h; rw [show exec (.circuitRelease c) s = execCircuitRelease c s from rfl, execCircuitRelease]
  | accountRead c => cases h; rw [show exec (.accountRead c) s = execAccountRead c s from rfl, execAccountRead]
  | epWrite c => cases h; rw [show exec (.epWrite c) s = execEpWrite c s from rfl, execEpWrite]
  | epRead c => cases h; rw [show exec (.epRead c) s = execEpRead c s from rfl, execEpRead]
  | epBind c => cases h; rw [show exec (.epBind c) s = execEpBind c s from rfl, execEpBind]
  | epUnbind c => cases h; rw [show exec (.epUnbind c) s = execEpUnbind c s from rfl, execEpUnbind]
  | agingConfig c => cases h; rw [show exec (.agingConfig c) s = execAgingConfig c s from rfl, execAgingConfig]
  | outageConfig c => cases h; rw [show exec (.outageConfig c) s = execOutageConfig c s from rfl, execOutageConfig]
  | flowWrite c => cases h; rw [show exec (.flowWrite c) s = execFlowWrite c s from rfl, execFlowWrite]
  | flowRead c => cases h; rw [show exec (.flowRead c) s = execFlowRead c s from rfl, execFlowRead]
  | parseNodeWrite c => cases h; rw [show exec (.parseNodeWrite c) s = execParseNodeWrite c s from rfl, execParseNodeWrite]
  | parseNodeRead c => cases h; rw [show exec (.parseNodeRead c) s = execParseNodeRead c s from rfl, execParseNodeRead]
  | ruleWrite c => cases h; rw [show exec (.ruleWrite c) s = execRuleWrite c s from rfl, execRuleWrite]
  | ruleRead c => cases h; rw [show exec (.ruleRead c) s = execRuleRead c s from rfl, execRuleRead]
  | hashConfig c => cases h; rw [show exec (.hashConfig c) s = execHashConfig c s from rfl, execHashConfig]
  | indirectionWrite c => cases h; rw [show exec (.indirectionWrite c) s = execIndirectionWrite c s from rfl, execIndirectionWrite]
  | exceptionConfig c => cases h; rw [show exec (.exceptionConfig c) s = execExceptionConfig c s from rfl, execExceptionConfig]
  | portConfigPort c => cases h; rw [show exec (.portConfigPort c) s = execPortConfigPort c s from rfl, execPortConfigPort]
  | portConfigSubPort c => cases h; rw [show exec (.portConfigSubPort c) s = execPortConfigSubPort c s from rfl, execPortConfigSubPort]
  | portConfigHost c => cases h; rw [show exec (.portConfigHost c) s = execPortConfigHost c s from rfl, execPortConfigHost]
  | queueConfig c => cases h; rw [show exec (.queueConfig c) s = execQueueConfig c s from rfl, execQueueConfig]
  | thresholdConfig c => cases h; rw [show exec (.thresholdConfig c) s = execThresholdConfig c s from rfl, execThresholdConfig]
  | carrierMap c => cases h; rw [show exec (.carrierMap c) s = execCarrierMap c s from rfl, execCarrierMap]
  | carrierMapGroup c => cases h; rw [show exec (.carrierMapGroup c) s = execCarrierMapGroup c s from rfl, execCarrierMapGroup]
  | mirrorConfigPort c => cases h; rw [show exec (.mirrorConfigPort c) s = execMirrorConfigPort c s from rfl, execMirrorConfigPort]
  | mirrorConfigEncap c => cases h; rw [show exec (.mirrorConfigEncap c) s = execMirrorConfigEncap c s from rfl, execMirrorConfigEncap]
  | sampleConfig c => cases h; rw [show exec (.sampleConfig c) s = execSampleConfig c s from rfl, execSampleConfig]
  | frerConfig c => cases h; rw [show exec (.frerConfig c) s = execFrerConfig c s from rfl, execFrerConfig]
  | frameInject c => cases h; rw [show exec (.frameInject c) s = execFrameInject c s from rfl, execFrameInject]
  | keyLoadEndpoint c => cases h; rw [show exec (.keyLoadEndpoint c) s = execKeyLoadEndpoint c s from rfl, execKeyLoadEndpoint]
  | keyLoadCarrier c => cases h; rw [show exec (.keyLoadCarrier c) s = execKeyLoadCarrier c s from rfl, execKeyLoadCarrier]
  | keyLoadTenant c => cases h; rw [show exec (.keyLoadTenant c) s = execKeyLoadTenant c s from rfl, execKeyLoadTenant]
  | keyRetire c => cases h; rw [show exec (.keyRetire c) s = execKeyRetire c s from rfl, execKeyRetire]
  | carrierCipher c => cases h; rw [show exec (.carrierCipher c) s = execCarrierCipher c s from rfl, execCarrierCipher]
  | nonceQuery c => cases h; rw [show exec (.nonceQuery c) s = execNonceQuery c s from rfl, execNonceQuery]
  | checkConfig c => cases h; rw [show exec (.checkConfig c) s = execCheckConfig c s from rfl, execCheckConfig]
  | checkSave c => cases h; rw [show exec (.checkSave c) s = execCheckSave c s from rfl, execCheckSave]
  | checkRestore c => cases h; rw [show exec (.checkRestore c) s = execCheckRestore c s from rfl, execCheckRestore]
  | timeConfigDevice c => cases h; rw [show exec (.timeConfigDevice c) s = execTimeConfigDevice c s from rfl, execTimeConfigDevice]
  | timeConfigTree c => cases h; rw [show exec (.timeConfigTree c) s = execTimeConfigTree c s from rfl, execTimeConfigTree]
  | ptpPortConfig c => cases h; rw [show exec (.ptpPortConfig c) s = execPtpPortConfig c s from rfl, execPtpPortConfig]
  | stepTime c => cases h; rw [show exec (.stepTime c) s = execStepTime c s from rfl, execStepTime]
  | timeRead c => cases h; rw [show exec (.timeRead c) s = execTimeRead c s from rfl, execTimeRead]
  | ppsConfig c => cases h; rw [show exec (.ppsConfig c) s = execPpsConfig c s from rfl, execPpsConfig]
  | synceConfig c => cases h; rw [show exec (.synceConfig c) s = execSynceConfig c s from rfl, execSynceConfig]
  | pairConfig c => cases h; rw [show exec (.pairConfig c) s = execPairConfig c s from rfl, execPairConfig]
  | pairStatus c => cases h; rw [show exec (.pairStatus c) s = execPairStatus c s from rfl, execPairStatus]
  | roleSwap c => cases h; rw [show exec (.roleSwap c) s = execRoleSwap c s from rfl, execRoleSwap]
  | roleLock c => cases h; rw [show exec (.roleLock c) s = execRoleLock c s from rfl, execRoleLock]
  | roleUnlock c => cases h; rw [show exec (.roleUnlock c) s = execRoleUnlock c s from rfl, execRoleUnlock]
  | roleLeave c => cases h; rw [show exec (.roleLeave c) s = execRoleLeave c s from rfl, execRoleLeave]
  | roleRestoreNow c => cases h; rw [show exec (.roleRestoreNow c) s = execRoleRestoreNow c s from rfl, execRoleRestoreNow]
  | resyncStart c => cases h; rw [show exec (.resyncStart c) s = execResyncStart c s from rfl, execResyncStart]
  | wtrConfig c => cases h; rw [show exec (.wtrConfig c) s = execWtrConfig c s from rfl, execWtrConfig]
  | handlerWrite c => cases h; rw [show exec (.handlerWrite c) s = execHandlerWrite c s from rfl, execHandlerWrite]
  | handlerRead c => cases h; rw [show exec (.handlerRead c) s = execHandlerRead c s from rfl, execHandlerRead]
  | mgmtConfigTree c => cases h; rw [show exec (.mgmtConfigTree c) s = execMgmtConfigTree c s from rfl, execMgmtConfigTree]
  | mgmtConfigSend c => cases h; rw [show exec (.mgmtConfigSend c) s = execMgmtConfigSend c s from rfl, execMgmtConfigSend]
  | engineStatus c => cases h; rw [show exec (.engineStatus c) s = execEngineStatus c s from rfl, execEngineStatus]
  | engineCounterRead c => cases h; rw [show exec (.engineCounterRead c) s = execEngineCounterRead c s from rfl, execEngineCounterRead]
  | counterRead c => cases h; rw [show exec (.counterRead c) s = execCounterRead c s from rfl, execCounterRead]
  | counterClear c => cases h; rw [show exec (.counterClear c) s = execCounterClear c s from rfl, execCounterClear]
  | binRead c => cases h; rw [show exec (.binRead c) s = execBinRead c s from rfl, execBinRead]
  | ventRead c => cases h; rw [show exec (.ventRead c) s = execVentRead c s from rfl, execVentRead]
  | ventExtend c => cases h; rw [show exec (.ventExtend c) s = execVentExtend c s from rfl, execVentExtend]
  | faultConfigSource c => cases h; rw [show exec (.faultConfigSource c) s = execFaultConfigSource c s from rfl, execFaultConfigSource]
  | faultConfigWear c => cases h; rw [show exec (.faultConfigWear c) s = execFaultConfigWear c s from rfl, execFaultConfigWear]
  | unitRetest c => cases h; rw [show exec (.unitRetest c) s = execUnitRetest c s from rfl, execUnitRetest]
  | wearRead c => cases h; rw [show exec (.wearRead c) s = execWearRead c s from rfl, execWearRead]
  | deviceStatus c => cases h; rw [show exec (.deviceStatus c) s = execDeviceStatus c s from rfl, execDeviceStatus]
  | selftestRun c => cases hm
  | fwLoad c => cases h; rw [show exec (.fwLoad c) s = execFwLoad c s from rfl, execFwLoad]
  | powerDown => cases h
  | fwImageWritten => cases h

/-- SELFTEST_RUN besides may change the phase. -/
theorem selftestRun_shape (c : Cmd) (s : State) :
    exec (.selftestRun c) s = s.run (fun b => b.timed (b.runOp Op.selftestRun c applySelftestRun)) := rfl

end Sys2Proof.Machine
end

