-- ==== Sys2Proof/Tests/Slice0.lean ====
section
/-! SUPPORT. Small tests: terms that each check of WellFormed refuses; for every obligation with hypotheses, concrete states
and operands that meet them; and worked values of the manual. Each is one command on a small state. -/

namespace Sys2Proof.Tests
open Sys2Proof Sys2Proof.Machine

set_option Elab.async false

/-! ### Builders -/

/-- The block of the state after reset, in service. -/
def svB : Blk := { State.reset.blk with sys := { State.reset.blk.sys with phase := .service } }

/-- A state in service with the block changed by f. -/
def on (f : Blk → Blk) : State := { State.reset with blk := f svB }

def onSys (f : Sys → Sys) : State := on (fun b => { b with sys := f b.sys })
def onHost (f : HostIf → HostIf) : State := on (fun b => { b with host := f b.host })
def onTele (f : Tele → Tele) : State := on (fun b => { b with tele := f b.tele })
def onGey (f : Geyser → Geyser) : State := on (fun b => { b with gey := f b.gey })
def onSw (f : Switch → Switch) : State := on (fun b => { b with sw := f b.sw })
def onTim (f : Tim → Tim) : State := on (fun b => { b with tim := f b.tim })
def onCls (f : Classify → Classify) : State := on (fun b => { b with cls := f b.cls })
def onDir (f : Directory → Directory) : State := on (fun b => { b with dir := f b.dir })
def onCip (f : CipherUnit → CipherUnit) : State := on (fun b => { b with cip := f b.cip })
def onTum (f : Tumbler → Tumbler) : State := on (fun b => { b with tum := f b.tum })
def onPair (f : Pair → Pair) : State := on (fun b => { b with pair := f b.pair })

/-- Tree 0 changed by f. -/
def onTree (f : Tree → Tree) : State := on (fun b => b.updTree 0 f)

/-- In service, nothing configured. -/
def sv : State := on id

/-- A state in the given phase of life. -/
def inPhase (p : Phase) : State := on (fun b => { b with sys := { b.sys with phase := p } })

/-- A payload: each value at its lowest bit, word k from bit 64k on. -/
def at_ (l : List (Nat × Nat)) : Nat := l.foldl (fun a x => a + x.1 * 2 ^ x.2) 0

/-- A command of a tenant to a unit with n bytes of inline payload. -/
def by_ (tenant unit n : Nat) (l : List (Nat × Nat)) : Cmd := {
  tenant := tenant, ring := 0, pos := 0, tag := 0, legacy := false, asap := true, irq := false, unit := unit, epoch := 0,
  extAddr := 0, extLen := 0, inlineLen := n, inl := at_ l, ext := [], partner := false }

/-- A command of tenant 0. -/
def op (unit n : Nat) (l : List (Nat × Nat)) : Cmd := by_ 0 unit n l

/-- A command with extended input, or room for an extended result, of n bytes. -/
def wide (n : Nat) (l : List Byte) (c : Cmd) : Cmd := { c with extAddr := 4096, extLen := n, ext := l }

/-- A command of a row that passes acceptance on the state in service and whose application succeeds. -/
def completes (i : Instr) (s : State) : Bool :=
  match opRow s.blk.sys.part i with
  | some r => decide (s.blk.sys.phase = .service) && decide (s.blk.acceptCheck r.op r.cmd = none)
      && decide ((r.apply r.cmd s.blk).2.st = .ok) && !movesPhase i
  | none => false

/-- The state that a command leads to. -/
def after (i : Instr) (s : State) : Option State :=
  match exec i s with
  | .next t => some t
  | _ => none

/-! ### WellFormed refuses -/

theorem test_wf_function : Instr.wf (.pcieFlr 65) = false := by decide
theorem test_wf_ring : Instr.wf (.ringEnable 0 8 0) = false := by decide
theorem test_wf_slot : Instr.wf (.commandFetch 0 0 [] []) = false := by decide
theorem test_wf_tenant : Instr.wf (.rxRingPoll 65 0) = false := by decide
theorem test_wf_tree : Instr.wf (.todWriteStandard 64) = false := by decide
theorem test_wf_index : Instr.wf (.heldTimeout 0 512) = false := by decide
theorem test_wf_phase : Instr.wf (.bankBatch 0 8 []) = false := by decide
theorem test_wf_flow : Instr.wf (.aisPeriodEnd 4194304 true) = false := by decide
theorem test_wf_key : Instr.wf (.leaseReadbackComplete 33554432) = false := by decide
theorem test_wf_sub : Instr.wf (.subPortLinkUp 48) = false := by decide
theorem test_wf_island : Instr.wf (.prepareDeadline [102]) = false := by decide
theorem test_wf_test_row : Instr.wf (.selftestTestDone 5 [12416]) = false := by decide
theorem test_wf_test_code : Instr.wf (.selftestTestDone 20 []) = false := by decide
theorem test_wf_warm_test : Instr.wf (.warmStartComplete [(0, 0)] 0) = false := by decide
theorem test_wf_burst :
    Instr.wf (.upstreamBurst { tree := 0, uf := 0, start := 0, searchBits := 2, bitsLen := 1, firstBit := 0, toa := 0, bytes := [] })
      = false := by decide
theorem test_wf_pause : Instr.wf (.pauseRx 0 { pfc := true, classes := 1, quanta := [0] }) = false := by decide
theorem test_wf_upset_hbm : Instr.wf (.downstreamEndpointMessage [.hbm true 0 8 0 false]) = false := by decide
theorem test_wf_upset_cipher : Instr.wf (.downstreamFrame ⟨[.cipher 0 4 true false], 0⟩) = false := by decide
theorem test_wf_upset_check : Instr.wf (.bankMarkerDeadline 0 0 [.checkCfg 8192]) = false := by decide
theorem test_wf_correlation : Instr.wf (.probeDetection 0 [{ window := 64, samples := [] }]) = false := by decide
theorem test_wf_hello :
    Instr.wf (.helloRx ⟨{ state := 1, part := 0, rev := 0, fwVersion := 0, wave := true, pref := true, enable := true, epoch := 1, fc := 7 }, []⟩)
      = false := by decide
theorem test_wf_mac :
    Instr.wf (.joinHandshake { state := 1, part := 0, rev := 0, fwVersion := 0, wave := true, pref := true, enable := true, epoch := 0, fc := 7 }
      [0] []) = false := by decide
theorem test_wf_link_lane :
    Instr.wf (.linkFrameRx { kind := 1, cls := 0, seq := 0, epoch := 0, crcOk := true, lane := some 4 }) = false := by decide
theorem test_wf_batch :
    Instr.wf (.batchRx { uf := 0, phase := 0, trees := [{ tree := 64, reports := [], ends := [], views := [], probes := [], quiets := [] }] })
      = false := by decide
theorem test_wf_recipe :
    Instr.wf (.recipeRx { tree := 0, frame := 0, entries := [
      { carrier := 65536, len := 0, first := true, fin := 0, sduLen := 0, sduCrc := 0 }] }) = false := by decide
theorem test_wf_cmd_payload : Instr.wf (.nop (op 0 0 [(1, 768)])) = false := by decide +kernel
theorem test_wf_cmd_ext : Instr.wf (.nop (wide 0 [0] (op 0 0 []))) = false := by decide +kernel
theorem test_wf_cmd_tenant : Instr.wf (.nop (by_ 65 0 0 [])) = false := by decide +kernel
theorem test_wf_register_width : Instr.wf (.registerWrite 0 0 0 2) = false := by decide
theorem test_wf_sideband_count : Instr.wf (.sbSubmit 256 [] true) = false := by decide
theorem test_wf_defect_code : Instr.wf (.defectChange 0 0 8) = false := by decide
theorem test_wf_outage_kind : Instr.wf (.outageRecordClose 0 0 6) = false := by decide
theorem test_wf_side : Instr.wf (.parserPass ⟨2, false⟩ false) = false := by decide
theorem test_wf_port : Instr.wf (.egressDequeue 115 0 false) = false := by decide
theorem test_wf_engine : Instr.wf (.engineFault 272 0 .overrun) = false := by decide
theorem test_wf_cluster : Instr.wf (.jobWriteBack 16) = false := by decide
theorem test_wf_class : Instr.wf (.reportClose 0 128 0) = false := by decide
theorem test_wf_channel : Instr.wf (.hbmCopyComplete 68) = false := by decide
theorem test_wf_kind : Instr.wf (.retestComplete 11 0 none) = false := by decide
theorem test_wf_page : Instr.wf (.pageReqRx 7 []) = false := by decide
theorem test_wf_stack : Instr.wf (.hbmTempHigh 2) = false := by decide
theorem test_wf_quality : Instr.wf (.esmcRx 0 256 0) = false := by decide
theorem test_wf_cache_slot : Instr.wf (.keyCacheRefill 0 4) = false := by decide
theorem test_wf_accepts : Instr.wf (.nop (op 0 0 [])) = true := by decide +kernel

/-! ### The queue, the clock and the phases of life -/

/-- The end of the last frame of epoch 0. -/
def atBoundary : State := on (fun b => { b with clk := { b.clk with fc := 8 } })

/-- A step of a safe state whose queue holds one command. -/
def oneWaits : State := { State.reset with pending := [.nop (op 0 0 [])] }

theorem test_safe_step : oneWaits.Safe ∧ ∃ t, step oneWaits = .next t := by
  unfold State.Safe
  exact ⟨by decide +kernel, _, rfl⟩

theorem test_commit_service : atBoundary.blk.sys.phase = .service ∧ atBoundary.blk.clk.fc = 8 * (atBoundary.blk.clk.epoch + 1) := by
  decide
theorem test_commit_early : sv.blk.sys.phase = .service ∧ sv.blk.clk.fc ≠ 8 * (sv.blk.clk.epoch + 1) := by decide
theorem test_commit_dormant :
    (inPhase .dormant).blk.sys.phase = .dormant ∧ (inPhase .warmStart).blk.sys.phase = .warmStart
    ∧ (inPhase .selfTest).blk.sys.phase = .selfTest ∧ (inPhase .unpowered).blk.sys.phase = .unpowered := by decide

/-- EPOCH_COMMIT in service begins epoch 1 at frame 8 (R17). -/
theorem test_commit_epoch :
    (match exec .epochCommit atBoundary with | .next t => (t.blk.clk.epoch, t.blk.clk.fc) | _ => (0, 0)) = (1, 8) := by decide +kernel

/-- Held in reset with a rail low. -/
def railLow : State := on (fun b => { b with sys := { b.sys with phase := .reset, railLow := true } })

theorem test_release : State.reset.blk.sys.phase = .reset ∧ State.reset.blk.sys.railLow = false := by decide
theorem test_supply_returns : railLow.blk.sys.phase = .reset ∧ railLow.blk.sys.railLow = true := by decide
theorem test_straps_stay : releases .perst = false ∧ ∃ t, exec .perst State.reset = .next t := by exact ⟨rfl, _, rfl⟩
theorem test_phase_stays : movesPhase .placementSlot = false ∧ ∃ t, exec .placementSlot sv = .next t := by
  exact ⟨rfl, _, rfl⟩
theorem test_clock_stays : movesEpoch .prepare = false ∧ movesFrame .prepare = false ∧ ∃ t, exec .prepare State.reset = .next t := by
  exact ⟨rfl, rfl, _, rfl⟩
theorem test_service_rows : serviceRow .placementSlot = true ∧ (inPhase .dormant).blk.sys.phase ≠ .service := by decide +kernel
theorem test_opcodes_wait :
    isOpcode (.nop (op 0 0 [])) = true ∧ (inPhase .selfTest).blk.sys.phase ≠ .service
    ∧ (inPhase .selfTest).blk.sys.phase ≠ .dormant := by decide +kernel

/-! ### Acceptance, replies and layouts -/

theorem test_index_other : 0x0006 ∉ opcodeIndex.map Prod.fst := by decide +kernel
theorem test_index_last : (0x0D02, Perm.o, true) ∈ opcodeIndex := by decide +kernel

/-- NOP of tenant 0. -/
def nop0 : Cmd := op 0 0 []

theorem test_completes_nop : completes (.nop nop0) sv = true := by decide +kernel
theorem test_rejected :
    opRow .bvh6400 (.treeConfig nop0) = some ⟨Op.treeConfig, nop0, applyTreeConfig⟩
    ∧ sv.blk.acceptCheck Op.treeConfig nop0 = some (.badParam, 0) := by
  exact ⟨rfl, by decide +kernel⟩

/-- CIRCUIT_RELEASE of a reservation that is not held fails at application. -/
theorem test_failed :
    sv.Takes Op.circuitRelease (op 0x5000 8 [])
    ∧ (applyCircuitRelease (op 0x5000 8 []) sv.blk).2.st = .badParam := by
  unfold State.Takes; decide +kernel

/-- Endpoint 0 has a context whose parity fault is not yet found. -/
def faulty : State := on (fun b => { b with dir := { b.dir with faults := [(0, 1)] } })

/-- EP_UNBIND of endpoint 0. -/
def epUnbind0 : Cmd := op 0x6000 8 [(1, 26)]

theorem test_fault_reply :
    faulty.Takes Op.epUnbind epUnbind0 ∧ (applyEpUnbind epUnbind0 faulty.blk).2.st = .fault := by
  unfold State.Takes; decide +kernel

theorem test_reply_cases :
    nop0.partner = false ∧ nop0.mute = false ∧ nop0.ring < 8 ∧ { nop0 with ring := 8 }.ring = 8
    ∧ { nop0 with partner := true }.partner = true := by decide
theorem test_reply_status : ({ st := Status.late } : Res).st ≠ .ok ∧ ({ st := Status.late } : Res).st ≠ .denied := by decide

theorem test_accept_dormant :
    (inPhase .dormant).blk.sys.phase = .dormant ∧ Op.nop.dormant = false ∧ Op.capsQuery.dormant = true := by decide
theorem test_accept_fields : nop0.badHeader = none ∧ Op.treeConfig.firstBad 1 nop0 = some 0
    ∧ { nop0 with badHeader := some 3 }.badHeader = some 3 ∧ Op.nop.firstBad 1 nop0 = none := by decide +kernel
theorem test_accept_absent :
    Op.treeConfig.firstBad 1 (op 0x1020 8 [(2, 59)]) = none
    ∧ Op.treeConfig.absentUnit .bvh6432 (op 0x1020 8 [(2, 59)]) = some 1
    ∧ Op.treeConfig.absentUnit .bvh6400 (op 0x103F 8 [(2, 59)]) = none := by decide +kernel
theorem test_accept_permission : Op.treeConfig.perm = .o ∧ (by_ 5 0 0 []).tenant ≠ 0 ∧ Op.nop.perm ≠ .o := by decide

/-- A command with every header field set. -/
def fullHeader : Cmd := {
  tenant := 7, ring := 3, pos := 9, tag := 65535, legacy := false, asap := true, irq := true, unit := 0xFFFF,
  epoch := 18446744073709551615, extAddr := 18446744073709551615, extLen := 3, inlineLen := 96, inl := 5, ext := [1, 2, 3],
  partner := false }

theorem test_slot_round_trip :
    fullHeader.ext.length ≤ fullHeader.extLen ∧ fullHeader.inl < 2 ^ 64 ∧ fullHeader.badHeader = none
    ∧ parseNative 7 3 9 (fullHeader.slot 0x0D02) [1, 2, 3] false = (0x0D02, fullHeader) := by decide +kernel

/-- A reply with every field of its header at its largest. -/
def fullReply : Reply := {
  fn := 0, ring := 0, pos := 4294967295, tag := 65535, opcode := 65535, status := 255, detail := 255, trunc := true,
  applied := 18446744073709551615, changeSet := 4294967295, inl := List.replicate 32 255, ext := [], extAddr := 0, irq := false,
  legacy := false, done := 0 }

theorem test_reply_slot : fullReply.inl.length ≤ 32 ∧ (fullReply.slot true).length = 64 := by decide +kernel

theorem test_vent_record :
    ({ type := 0xFFFF, tenant := 127, island := 127, rep := 262143, seq := 0, first := 0, last := 0, object := 0, detail := 0,
       w6 := 0, w7 := 0 } : Rec).rep < 2 ^ 18 := by decide

theorem test_status4 : status4 Status.busy.code = 1 ∧ Status.busy ≠ .ok ∧ Status.busy ≠ .dormant := by decide

/-! ### Versions, counters, the Vent and fault sources -/

theorem test_version_stays :
    (3 : Nat) ≤ 7 ∧ Vers.at 0 (Vers.write 0 [(3, 5)] 7 (· + 1)) 6 = 5 ∧ Vers.at 0 (Vers.write 0 [(3, 5)] 7 (· + 1)) 7 = 6 := by
  decide +kernel
/-- The manual's example: a version current for epochs 100 to 250 is retired at the start of epoch 254 (R29). -/
theorem test_version_retires :
    ((100, 1) ∈ Vers.retire 253 [(251, 2), (100, 1)]) ∧ ((100, 1) ∉ Vers.retire 254 [(251, 2), (100, 1)]) := by decide +kernel

/-- A counter two short of its end. -/
def nearlyFull (sat : Bool) : State :=
  onTele (fun t => { t with ctrs := [(ctrKey 0x11 0 0, { val := 2 ^ 64 - 2, sat := sat, total := 0 })] })

theorem test_counter_counts :
    0 < 1 ∧ Tab.wf {} svB.tele.ctrs = true ∧ (Tab.get {} svB.tele.ctrs (ctrKey 0x11 0 0)).val + 1 < 2 ^ 64 - 1 := by decide +kernel
theorem test_counter_saturates :
    Tab.wf {} (nearlyFull false).blk.tele.ctrs = true
    ∧ 2 ^ 64 - 1 ≤ (Tab.get {} (nearlyFull false).blk.tele.ctrs (ctrKey 0x11 0 0)).val + 1
    ∧ (Tab.get {} (nearlyFull false).blk.tele.ctrs (ctrKey 0x11 0 0)).sat = false := by decide +kernel
theorem test_counter_stays :
    2 ^ 64 - 1 ≤ (Tab.get {} (nearlyFull true).blk.tele.ctrs (ctrKey 0x11 0 0)).val + 1
    ∧ (Tab.get {} (nearlyFull true).blk.tele.ctrs (ctrKey 0x11 0 0)).sat = true := by decide +kernel

/-- A record of epoch 0. -/
def rec0 : Rec := {
  type := 0x0100, tenant := 0x7F, island := 0, rep := 1, seq := 0, first := 0, last := 0, object := 0, detail := 1, w6 := 0, w7 := 0 }

/-- The Vent holds one record. -/
def oneRecord : State := onTele (fun t => { t with vent := [rec0], seq := 1 })

/-- The Vent on die is full. -/
def fullVent : State := onTele (fun t => { t with vent := List.replicate 4096 rec0, seq := 4096 })

theorem test_vent_merge :
    oneRecord.blk.tele.vent = [] ++ [rec0] ∧ rec0.same { type := 0x0100, island := 0, detail := 1 } = true := by decide +kernel
theorem test_vent_append :
    rec0.same { type := 0x0100, island := 1, detail := 1 } = false ∧ oneRecord.blk.tele.losses = []
    ∧ oneRecord.blk.tele.vent.length < oneRecord.blk.tele.capacity := by decide +kernel
theorem test_vent_full :
    fullVent.blk.tele.vent.getLast? = some rec0 ∧ fullVent.blk.tele.losses = []
    ∧ fullVent.blk.tele.capacity ≤ fullVent.blk.tele.vent.length := by decide +kernel

theorem test_fault_window : Tab.wf {} svB.tele.sources = true := by decide
/-- Sixteen events of one source within W × 1,000 epochs are permanent for N of 16 or less (R477). -/
theorem test_fault_dooms :
    (Tab.get {} (((List.range 16).foldl (fun (b : Blk) _ => b.faultEvent 0x01 3) svB).tele.sources) (sourceKey 0x01 3)).doomed = true := by
  decide +kernel

/-! ### Resets, self-test and references -/

theorem test_reset_pin : 2000 ≤ 2000 ∧ 1999 < 2000 ∧ sv.blk.sys.phase ≠ .unpowered ∧ Rail.core ≠ .aon := by decide

/-- Self-test with only the given tests to come. -/
def testing (l : List Nat) : State := onSys (fun x => { x with phase := .selfTest, tests := l })

theorem test_selftest_plain :
    (testing [6, 0x12]).blk.testDue 6 = true ∧ (testing [6, 0x12]).blk.testFails 6 [] = []
    ∧ (testing [6, 0x12]).blk.sys.tests.erase 6 ≠ [] := by decide +kernel
theorem test_selftest_pcie :
    (testing [4, 0x12]).blk.testDue 4 = true ∧ (testing [4, 0x12]).blk.testFails 4 [] = []
    ∧ (testing [4, 0x12]).blk.sys.tests.erase 4 ≠ [] := by decide +kernel
theorem test_selftest_key :
    (testing [0x12, 0x13]).blk.testDue 0x13 = true ∧ (testing [0x12, 0x13]).blk.testFails 0x13 [] = []
    ∧ (testing [0x12, 0x13]).blk.sys.tests.erase 0x13 ≠ [] := by decide +kernel
theorem test_selftest_first :
    (testing (coldTests .bvh6400)).blk.testDue 1 = true ∧ (testing (coldTests .bvh6400)).blk.testFails 1 [] = []
    ∧ (testing (coldTests .bvh6400)).blk.sys.tests.erase 1 ≠ [] := by decide +kernel
theorem test_selftest_last :
    (testing [0x12]).blk.sys.tests = [0x12] ∧ (testing [0x12]).blk.sys.refTree = true
    ∧ (testing [0x12]).blk.host.sb.held = none := by decide +kernel
theorem test_selftest_fails :
    (testing [2, 3]).blk.testDue 2 = true ∧ (testing [0x12]).blk.testDue 0x12 = true := by decide +kernel

theorem test_reference_loss : sv.blk.sys.phase = .service ∧ Tab.wf {} sv.blk.tele.sources = true ∧ sv.blk.host.sb.held = none
    ∧ (∀ i, 71 ≤ i → i ≤ 76 → sv.blk.tele.islandRetired i = false) := by
  refine ⟨rfl, rfl, rfl, ?_⟩
  intro i h1 h2
  have : i = 71 ∨ i = 72 ∨ i = 73 ∨ i = 74 ∨ i = 75 ∨ i = 76 := by omega
  rcases this with h | h | h | h | h | h <;> subst h <;> decide +kernel
theorem test_reference_phases :
    (testing []).blk.sys.phase = .selfTest ∧ State.reset.blk.sys.phase = .reset ∧ (inPhase .dormant).blk.sys.phase = .dormant := by
  decide
theorem test_hbm_stacks : (0 : Nat) < 2 ∧ (1 : Nat) < 2 ∧ sv.blk.sys.phase = .service := by decide

/-- The end of a warm start, with an image staged. -/
def warm : State := onSys (fun x => { x with phase := .warmStart, fwStaged := some 7 })

theorem test_warm_passes :
    warm.blk.sys.phase = .warmStart ∧ warm.blk.sys.refTree = true ∧ warm.blk.sys.refUplink = true ∧ warm.blk.host.sb.held = none := by
  decide

/-- One unit of a kind in the given role. -/
def unitIn (kind index : Nat) (r : Role) : State :=
  onTele (fun t => { t with sources := [(sourceKey kind index, { role := r })] })

theorem test_copy_ends : (unitIn 6 3 .copying).blk.tele.role 6 3 = .copying ∧ (unitIn 6 3 .copying).blk.sys.phase.paced = true := by
  decide +kernel
theorem test_retest_passes :
    (unitIn 9 5 .testing).blk.tele.role 9 5 = .testing ∧ (unitIn 9 5 .testing).blk.retestFault 9 5 none = none
    ∧ (unitIn 8 0 .testing).blk.tele.role 8 0 = .testing ∧ (unitIn 1 3 .testing).blk.tele.role 1 3 = .testing := by decide +kernel
theorem test_retest_fails : (unitIn 9 5 .testing).blk.tele.role 9 5 = .testing ∧ 0x0C ∈ retestTests 9 5 := by decide +kernel

/-- An image is being written. -/
def writing : State := onSys (fun x => { x with fwWriting := some 9 })

theorem test_image_written : writing.blk.sys.phase = .service ∧ writing.blk.sys.fwWriting = some 9 := by decide

/-! ### PCIe, BAR0, rings, replies, the sideband and the tokens -/

/-- PCIe is up, with ring 0 of function 0 as given. -/
def pcie (r : Ring) : State :=
  on (fun b => { b with sys := { b.sys with pcieUp := true }, host := { b.host with rings := Tab.set {} [] 0 r } })

theorem test_pcie_resets :
    (pcie {}).blk.pcie = true ∧ (pcie {}).blk.sys.refPcie = true ∧ sv.blk.pcie = false ∧ Tab.wf {} (pcie {}).blk.sw.rings = true := by
  decide +kernel

/-- A RING_CTRL value. -/
def ctrl (en ov : Bool) (size : Nat) : W64 := BitVec.ofNat 64 (b2n en * 2 ^ 63 + b2n ov * 2 ^ 61 + size)

theorem test_ring_enable :
    let r := Tab.get {} (pcie {}).blk.host.rings 0
    r.enable = false ∧ r.owed = 0 ∧ bit (ctrl true false 6).toNat 63 = true ∧ 6 ≤ bits (ctrl true false 6).toNat 4 0
    ∧ bits (ctrl true false 16).toNat 4 0 ≤ 16 ∧ bits (ctrl true false 5).toNat 4 0 < 6
    ∧ 16 < bits (ctrl true false 17).toNat 4 0 := by decide +kernel
theorem test_ring_enabled :
    let r := Tab.get {} (pcie { enable := true, overrun := true, size := 6 }).blk.host.rings 0
    r.enable = true ∧ bit (ctrl false false 6).toNat 63 = false ∧ bit (ctrl true true 6).toNat 63 = true
    ∧ bit (ctrl true true 6).toNat 61 = true := by decide +kernel
theorem test_ring_disabled_clear :
    let r := Tab.get {} (pcie { overrun := true }).blk.host.rings 0
    r.enable = false ∧ r.owed = 0 ∧ bit (ctrl false true 6).toNat 63 = false ∧ bit (ctrl false true 6).toNat 61 = true := by
  decide +kernel

/-- A ring of 64 slots, ready, with one command in it. -/
def ready : Ring := { enable := true, size := 6, cmdProd := 1 }

theorem test_doorbell :
    let r := Tab.get {} (pcie ready).blk.host.rings 0
    (64#32 - r.cmdCons).toNat ≤ 2 ^ r.size ∧ 2 ^ r.size < (65#32 - r.cmdCons).toNat ∧ r.halted = false ∧ r.enable = true := by
  decide +kernel
theorem test_bases_idle :
    (Tab.get {} (pcie {}).blk.host.rings 0).owed = 0 ∧ (Tab.get {} (pcie { owed := 1 }).blk.host.rings 0).owed ≠ 0 := by
  decide +kernel

/-- The bytes of a command slot: NOP with ASAP, an undefined opcode, and NOP for an epoch that has closed. -/
def slotOfCmd (code : Nat) (c : Cmd) : List Byte := (c.slot code).take 128

/-- Rings 0 and 9 hold a command, and it was ring 0's turn. -/
def twoReady : State :=
  on (fun b => { b with host := { b.host with turn := 0, rings := Tab.set {} (Tab.set {} [] 9 ready) 0 ready } })

theorem test_fetch_ready :
    (Tab.get {} (pcie ready).blk.host.rings 0).ready = true ∧ (pcie ready).blk.pcie = true
    ∧ (Tab.get {} (pcie {}).blk.host.rings 0).ready = false ∧ (pcie ready).blk.nextRing = some 0
    ∧ (pcie ready).blk.sys.straps.compat = false := by decide +kernel
theorem test_fetch_turn :
    twoReady.blk.nextRing = some 9 ∧ Tab.wf {} twoReady.blk.host.rings = true ∧ twoReady.blk.host.turn = 0
    ∧ (Tab.get {} twoReady.blk.host.rings 9).ready = true ∧ (Tab.get {} twoReady.blk.host.rings 0).ready = true
    ∧ (∀ x ∈ (pcie ready).blk.host.rings, x.2.ready = true → x.1 = 0)
    ∧ (∃ x ∈ (pcie ready).blk.host.rings, x.2.ready = true) := by decide +kernel
theorem test_fetch_stages :
    let b := (pcie ready).blk
    let x := b.parseSlot 0 0 0 (slotOfCmd 2 nop0) []
    instrOf x.1 x.2 = some (.epochRead x.2) ∧ b.acceptCheck Op.epochRead x.2 = none ∧ x.2.asap = true
    ∧ b.setFull (max x.2.epoch b.openEpoch) x.2.tenant = 0 ∧ b.forwards = false := by decide +kernel
theorem test_fetch_unknown :
    let x := (pcie ready).blk.parseSlot 0 0 0 (slotOfCmd 6 nop0) []
    instrOf x.1 x.2 = none := by decide +kernel
theorem test_fetch_late :
    let b := { (pcie ready).blk with clk := { (pcie ready).blk.clk with epoch := 1, fc := 8 } }
    let x := b.parseSlot 0 0 0 (slotOfCmd 2 { nop0 with asap := false, epoch := 1 }) []
    instrOf x.1 x.2 = some (.epochRead x.2) ∧ b.acceptCheck Op.epochRead x.2 = none ∧ x.2.epoch < b.openEpoch
    ∧ x.2.asap = false := by decide +kernel

/-- A reply waits for ring 0 of function 0. -/
def owing : State :=
  on (fun b => { b with
    sys := { b.sys with pcieUp := true },
    host := { b.host with
      rings := Tab.set {} [] 0 { enable := true, size := 6, owed := 1 },
      replies := [{ fullReply with pos := 0, done := 0 }] } })

theorem test_reply_ready :
    owing.blk.pcie = true ∧ owing.blk.nextReply 0 0 = some { fullReply with pos := 0, done := 0 } ∧ fullReply.legacy = false
    ∧ owing.blk.sys.straps.compat = false ∧ (pcie ready).blk.nextReply 0 0 = none := by decide +kernel

/-- The sideband as given, with SMBus working. -/
def sideband (x : Sideband) : State := onHost (fun h => { h with sb := x })

theorem test_sideband_free :
    (sideband {}).blk.smbus = true ∧ (sideband {}).blk.host.sb.outstanding = false ∧ (sideband {}).blk.host.sb.reply = none
    ∧ (sideband {}).blk.sys.phase = .service := by decide +kernel
theorem test_sideband_held :
    (sideband { outstanding := true }).blk.host.sb.outstanding = true
    ∧ (sideband { reply := some [1] }).blk.host.sb.reply = some [1] := by decide +kernel
theorem test_sideband_in_test :
    (testing [6]).blk.smbus = true ∧ (testing [6]).blk.sys.phase.busy = true ∧ (testing [6]).blk.host.sb.outstanding = false := by
  decide +kernel

/-- One frame before the boundary, with the clock's state as given. -/
def nearBoundary (f : Clk → Clk) : State := on (fun b => { b with clk := f { b.clk with fc := 7 } })

theorem test_close :
    (nearBoundary id).blk.clk.closed = false ∧ 8 * ((nearBoundary id).blk.clk.epoch + 1) ≤ (nearBoundary id).blk.clk.fc + 1
    ∧ (nearBoundary id).blk.pair.staged = [] ∧ sv.blk.clk.fc + 1 < 8 * (sv.blk.clk.epoch + 1) := by decide +kernel
theorem test_prepare :
    (nearBoundary (fun c => { c with closed := true })).blk.clk.closed = true
    ∧ (nearBoundary (fun c => { c with closed := true })).blk.sys.phase.paced = true := by decide +kernel
theorem test_prepare_deadline :
    let b := (nearBoundary (fun c => { c with prepared := true })).blk
    b.clk.prepared = true ∧ b.tokenIslands [] = [] ∧ b.tokenIslands [70] = [70] ∧ b.sys.phase.paced = true := by decide +kernel

/-! ### The tree line -/

/-- A standing grant of tree 0, terminal 5, at START 12,504 of upstream frame 3. -/
def grant0 : Grant := {
  tree := 0, term := 5, qclass := 0, start := 12504, length := 260, kind := 0, tag := 0, uf := 3, mapFrame := 1,
  allowance := 1000, clearance := 0, purpose := .standing }

/-- Frame 4 of epoch 0: tree 0 receives, and the grant is open. -/
def granted : State :=
  on (fun b => { (b.updTree 0 (fun x => { x with rxOn := true })) with
    clk := { b.clk with fc := 4 }, gey := { b.gey with grants := [grant0] } })

theorem test_burst_expected :
    granted.blk.grantAt 0 3 12504 = some grant0 ∧ granted.blk.receives 0 = true ∧ granted.blk.expects grant0 = true
    ∧ grant0.discovery = false ∧ (granted.blk.term (gid 0 5)).lob = false ∧ (granted.blk.tree 0).mode = .native := by decide +kernel

/-- A burst of that grant: the delimiter as predicted, and the given bytes after it. -/
def burst0 (l : List Byte) : RxBurst := {
  tree := 0, uf := 3, start := 12504, searchBits := delimiter, bitsLen := 64, firstBit := 0, toa := 0, bytes := l }

/-- The header of a burst of that grant, with its CRC-16 (R110). -/
def header0 : List Byte :=
  let w := pack [(5, 119), (0, 117), (0, 105), (1, 64)]
  toBe (w / 65536) 14 ++ toBe (crc16 (toBe (w / 65536) 14)) 2

/-- The bytes after the delimiter: header and 19 bytes of 0 as one shortened codeword, scrambled (R87, R88, R110). -/
def goodBytes : List Byte := ([
  2, 129, 104, 126, 0, 20, 87, 29, 1, 109, 223, 248, 20, 6, 18, 24, 104, 104, 135, 244, 86, 89, 112, 173, 201, 37, 235,
  135, 0, 21, 111, 126, 1, 124, 41, 39, 60, 144, 221, 242, 26, 194, 50, 189, 20, 136, 11, 209, 211, 150, 142, 168, 197,
  207, 194, 51, 105, 252, 41, 223] : List Nat).map (BitVec.ofNat 8)

theorem test_burst_none : findDelimiter 0 64 0 grant0.window = none := by decide +kernel
theorem test_burst_delimiter : findDelimiter (burst0 []).searchBits 64 0 grant0.window = some 0 := by decide +kernel
theorem test_burst_bad : (decodeBurst (burstSeed 0 5 3) (burstBytes grant0.length [])).usable.length < 16 := by decide +kernel
theorem test_burst_good :
    let d := decodeBurst (burstSeed 0 5 3) (burstBytes grant0.length goodBytes)
    16 ≤ d.usable.length ∧ headerCheck grant0 true d.usable = (true, true) := by decide +kernel

theorem test_frame_tick :
    sv.blk.sys.phase = .service ∧ sv.blk.clk.fc / 8 = sv.blk.clk.epoch ∧ atBoundary.blk.clk.fc / 8 ≠ atBoundary.blk.clk.epoch := by
  decide
theorem test_frame_dark :
    (nearBoundary id).blk.clk.fc / 8 = (nearBoundary id).blk.clk.epoch ∧ (nearBoundary id).blk.joined = false
    ∧ (nearBoundary id).blk.feeding = false ∧ (nearBoundary id).blk.clk.fc % 8 ≠ 0
    ∧ ∀ t < Part.trees .bvh6400, ((nearBoundary id).blk.tree t).txOn = false := by decide +kernel
theorem test_phase_marker :
    (0 : Nat) < Part.trees .bvh6400 ∧ ((nearBoundary id).blk.tree 0).stopped = false ∧ ((nearBoundary id).blk.tree 0).rxOn = false
    ∧ (6 : Nat) < 7 ∧ 3 < (nearBoundary id).blk.clk.fc ∧ (nearBoundary id).blk.gey.parts = []
    ∧ (0, slotOf 3 6) ∉ (nearBoundary id).blk.dir.markers ∧ (nearBoundary id).blk.gey.consume ≤ slotOf 3 6
    ∧ (nearBoundary id).blk.dir.next ≤ slotOf 3 6 := by decide +kernel

theorem test_defect_sets :
    let x := (onTree (fun y => { y with losRun := 4 })).blk.tree 0
    x.los = false ∧ x.defects.losSet ≤ x.losRun ∧ x.protect.scheme = 0 ∧ (sv.blk.tree 0).losRun < (sv.blk.tree 0).defects.losSet := by
  decide +kernel
theorem test_defect_clears :
    let b := (onTree (fun y => { y with los := true, losOk := 2 })).blk
    (b.tree 0).los = true ∧ (b.tree 0).defects.losClr ≤ (b.tree 0).losOk ∧ (b.tree 0).hidden = [] ∧ Tab.wf {} b.trees = true := by
  decide +kernel

/-- Terminal 5 of tree 0 as given. -/
def onTerm (f : Term → Term) : State := on (fun b => b.updTerm (gid 0 5) f)

theorem test_defect_burst :
    let b := (onTerm (fun y => { y with lobRun := 4, state := .held })).blk
    (b.term (gid 0 5)).lob = false ∧ (b.tree 0).defects.lobSet ≤ (b.term (gid 0 5)).lobRun ∧ (b.tree 0).los = false
    ∧ (b.term (gid 0 5)).dg = false ∧ (b.term (gid 0 5)).state ≠ .active
    ∧ (sv.blk.term (gid 0 5)).lobRun < (sv.blk.tree 0).defects.lobSet := by decide +kernel

/-- A direction of a circuit, with an SDU saved, whose period ends with phase 7; an SDU came in it, or none. -/
def direction0 (came : Bool) : CircuitDir := {
  saved := some ([1, 2, 3, 4, 5, 6], none), due := 7, arrived := if came then [7] else [] }

/-- A circuit of carrier 5 of tree 0. -/
def circuit0 (up down : CircuitDir) : Circuit := {
  dir := 3, periodLog2 := 0, offset := 4, aisSet := 1, aisClr := 1, up := up, dn := down }

/-- In frame 7, tree 0 with that circuit. -/
def circuits0 (c : Circuit) : State :=
  on (fun b => { (b.updTree 0 (fun y => { y with circuits := [(5, some c)] })) with clk := { b.clk with fc := 7 } })

theorem test_circuit_period :
    let c := circuit0 (direction0 false) (direction0 true)
    let b := (circuits0 c).blk
    Tab.get none (b.tree (flowTree 5)).circuits (5 % 65536) = some c ∧ bit c.dir 0 = true ∧ bit c.dir 1 = true
    ∧ c.width (b.tree (flowTree 5)).mode = 1 ∧ c.up.due / 8 < b.clk.fc ∧ c.up.arrivedNow 1 = false ∧ c.dn.arrivedNow 1 = true
    ∧ c.up.saved = some ([1, 2, 3, 4, 5, 6], none) ∧ ({} : CircuitDir).saved = none
    ∧ sv.blk.clk.fc ≤ c.up.due / 8 ∧ c.up.due % 2 ^ 3 = 2 ^ 3 - 1 := by decide +kernel

/-! ### Ranging and protection -/

/-- At frame 8,000 of epoch 1,000, terminal 5 of tree 0 as given. -/
def later (f : Term → Term) : State :=
  on (fun b => { (b.updTerm (gid 0 5) f) with clk := { b.clk with epoch := 1000, fc := 8000 } })

theorem test_ranging_times_out :
    let x := (later (fun y => { y with state := .held, rangeMiss := 3 })).blk.term (gid 0 5)
    x.state = .held ∧ 3 ≤ x.rangeMiss ∧ x.heldFrom + 1000 ≤ (later id).blk.clk.epoch := by decide +kernel
theorem test_activate_times_out :
    let x := (later (fun y => { y with state := .activating, actSent := 3, actFrame := 7992 })).blk.term (gid 0 5)
    x.state = .activating ∧ 3 ≤ x.actSent ∧ x.actFrame + 8 ≤ (later id).blk.clk.fc := by decide +kernel
theorem test_rerange_times_out :
    let x := (later (fun y => { y with state := .active, reranging := true })).blk.term (gid 0 5)
    x.state = .active ∧ x.reranging = true ∧ x.rerangeSlow = false ∧ x.rerangeFrom + 1000 ≤ (later id).blk.clk.epoch
    ∧ (sv.blk.term (gid 0 5)).state = .free := by decide +kernel

/-- A discovery cycle that began at frame 128 has just ended on tree 0. -/
def discovering : State :=
  on (fun b => { (b.updTree 0 (fun x => { x with txOn := true, rxOn := true, disc := [(0, { every := 1 })] })) with
    clk := { b.clk with epoch := 24, fc := 192 } })

theorem test_cycle_ends :
    let b := discovering.blk
    (0 : Nat) < Part.trees b.sys.part ∧ (b.tree 0).mode = .native ∧ (b.tree 0).txOn = true ∧ (b.tree 0).rxOn = true
    ∧ (b.tree 0).cycleEnded b.clk.fc = some (128, { every := 1 }) ∧ (b.tree 0).lastCycle < 128 ∧ b.pair.reference = true
    ∧ b.joined = false ∧ b.feeding = false := by
  decide +kernel

/-- What the correlator makes of a probe of code 3 at an RTD of r bits in all 64 micro-windows (R165). -/
def probeAt (r : Nat) : List Correlation :=
  (List.range 64).map (fun j => { window := j, code := 3, delay := r % frameBits, value := probeSign (j + 8 - r / frameBits) })

theorem test_probe_found :
    probeFind { every := 1 } (probeAt (ceilDiv (rtdLo 0) 40 * 40 + 40000)) = ([(3, ceilDiv (rtdLo 0) 40 * 40 + 40000)], 0)
    ∧ 1 ≤ ({ every := 1 } : DiscCfg).maxAck := by decide +kernel

theorem test_drift_small :
    let b := (later (fun y => { y with state := .active, muSum := 7, muCount := 2 })).blk
    let x := b.term (gid 0 5)
    x.state = .active ∧ x.muCount ≠ 0 ∧ b.clk.fc = 8 * b.clk.epoch ∧ x.eqdApply = none ∧ x.muSum.natAbs < 4 * x.muCount := by
  decide +kernel
theorem test_drift_large :
    let x := (later (fun y => { y with state := .active, muSum := -8, muCount := 2 })).blk.term (gid 0 5)
    4 * x.muCount ≤ x.muSum.natAbs ∧ x.muCount ≠ 0 := by decide +kernel

/-- Chip B of a joined pair, with tree 0's skew as given. -/
def chipB (f : Tree → Tree) : State :=
  on (fun b => { (b.updTree 0 f) with
    sys := { b.sys with straps := { b.sys.straps with pairWave := true } }, pair := { b.pair with role := .standby } })

/-- The light of a burst, with its delimiter d bits after the prediction, that chip A accepted as predicted. -/
def search0 (d : Int) : SkewSearch := { bits := delimiter, len := 64, first := d, ref := 0 }

theorem test_skew_acquired :
    let b := (chipB (fun y => { y with rxOn := true, skewState := .acquiring })).blk
    b.chipB = true ∧ (b.tree 0).skewState = .acquiring ∧ (b.tree 0).rxOn = true
    ∧ (((List.replicate 64 (search0 1492992)).filterMap (b.tree 0).skew.finds).take 64).length = 64
    ∧ (((List.replicate 64 (search0 1492993)).filterMap (b.tree 0).skew.finds).take 64).length < 64
    ∧ sv.blk.chipB = false := by decide +kernel
theorem test_skew_tracked :
    let b := (chipB (fun y => { y with rxOn := true, skewState := .tracking })).blk
    b.chipB = true ∧ (b.tree 0).skewState = .tracking ∧ 2 * 3 ≤ (-6 : Int).natAbs ∧ (5 : Int).natAbs < 2 * 3 := by decide +kernel

/-- At frame 8,000, tree 0 under protection SCHEME 1 as given. -/
def protect (f : Tree → Tree) : State :=
  on (fun b => { (b.updTree 0 (fun x => f { x with protect := { x.protect with scheme := 1, holdOff := 100, revert := true } })) with
    clk := { b.clk with epoch := 1000, fc := 8000 }, pair := { b.pair with wtr := 1 } })

theorem test_hold_off :
    let b := (protect (fun y => { y with los := true, holdFrom := some 7200 })).blk
    let x := b.tree 0
    x.protect.scheme ≠ 0 ∧ x.protect.force = 0 ∧ x.transmits = true ∧ x.los = true ∧ b.otherLos 0 = false
    ∧ x.holdFrom = some 7200 ∧ 7200 + 8 * x.protect.holdOff ≤ b.clk.fc ∧ b.clk.fc < 7201 + 8 * x.protect.holdOff := by decide +kernel
theorem test_tx_wait :
    let b := (protect (fun y => { y with waitFrom := some 7000 })).blk
    (b.tree 0).waitFrom = some 7000 ∧ 10 * 7000 + 8 * (b.tree 0).protect.txWait ≤ 10 * b.clk.fc := by decide +kernel
theorem test_tx_waits :
    let b := (protect (fun y => { y with waitFrom := some 8000 })).blk
    (b.tree 0).waitFrom = some 8000 ∧ 10 * b.clk.fc < 10 * 8000 + 8 * (b.tree 0).protect.txWait := by decide +kernel
theorem test_wait_to_restore :
    let b := (protect (fun y => { y with transmits := false })).blk
    let x := b.tree 0
    x.protect.scheme = 1 ∧ x.protect.revert = true ∧ x.protect.force = 0 ∧ x.protect.prefer = 0 ∧ x.transmits = false
    ∧ x.los = false ∧ x.clearSince + 8000 * b.pair.wtr ≤ b.clk.fc ∧ (sv.blk.tree 0).protect.scheme = 0 := by decide +kernel

/-! ### Geyser and the directory -/

/-- Epoch 1 has begun and Geyser's snapshot of it is taken. -/
def epoch1 (f : Geyser → Geyser) : State :=
  on (fun b => { b with clk := { b.clk with epoch := 1, fc := 8 }, gey := f { b.gey with snapEpoch := 1 } })

theorem test_slot_due :
    (onGey (fun g => { g with slot := (0, 7) })).blk.gey.slot.1 ≤ sv.blk.clk.fc ∧ sv.blk.clk.fc < sv.blk.gey.slot.1 := by
  decide +kernel

/-- Slot (0, 1) comes next. -/
def slot1 : State := onGey (fun g => { g with slot := (0, 1) })

theorem test_slot_nothing :
    dueBefore slot1.blk.clk.fc 1 ≤ slot1.blk.gey.consume ∧ slot1.blk.gey.slot = (0, 1) ∧ slot1.blk.gey.queues = []
    ∧ ∀ t, (slot1.blk.treeFor t slot1.blk.clk.fc).rxOn = false := by
  exact ⟨by decide +kernel, rfl, rfl, fun t => rfl⟩
theorem test_slot_unlit :
    let s := on (fun b => { b with
      pair := { b.pair with role := .isolated }, gey := { b.gey with slot := (0, 1), queues := [(3, { credit := 5 })] } })
    s.blk.places s.blk.clk.fc = false ∧ dueBefore s.blk.clk.fc 1 ≤ s.blk.gey.consume ∧ s.blk.gey.slot.1 = s.blk.clk.fc
    ∧ Tab.wf {} s.blk.gey.queues = true := by decide +kernel
theorem test_share_set :
    (epoch1 id).blk.gey.snapEpoch = (epoch1 id).blk.clk.epoch ∧ (epoch1 id).blk.gey.shareEpoch < (epoch1 id).blk.clk.epoch
    ∧ (epoch1 (fun g => { g with shareEpoch := 1 })).blk.clk.epoch ≤ (epoch1 (fun g => { g with shareEpoch := 1 })).blk.gey.shareEpoch := by
  decide +kernel
theorem test_late_marker :
    8 * 2 + 3 < (onGey (fun g => { g with consume := 20 })).blk.gey.consume ∧ sv.blk.gey.consume ≤ 8 * 2 + 3 := by decide +kernel

/-- Every tree has marked the end of phase (0, 0), and the given messages wait. -/
def marked (l : List UpMsg) : State :=
  onDir (fun d => { d with markers := (List.range 64).map (fun t => (t, 0)), inbox := l })

/-- An endpoint message of 16 bytes of header. -/
def message0 : UpMsg := {
  sdu := 16 :: List.replicate 15 0, flow := 0, terminal := 0, stamp := 0, toa := 0, gen := 0, order := [0, 0, 0, 0, 0] }

theorem test_batch_empty :
    let b := (marked []).blk
    b.unmarked 0 = [] ∧ b.batchOf 0 = [] ∧ b.dir.next ≤ 0 ∧ 0 < b.dir.bound ∧ b.dir.point = b.clk.epoch ∧ b.dir.inbox = []
    ∧ b.queue endpointQueue = [] ∧ b.joined = false ∧ b.pair.role ≠ .joining ∧ b.feeding = false ∧ b.dir.held = [] := by
  decide +kernel
theorem test_batch_message :
    let b := (marked [message0]).blk
    b.unmarked 0 = [] ∧ b.batchOf 0 = [message0] ∧ stale message0.stamp b.clk.epoch = false ∧ b.laneless message0 = false
    ∧ (∀ m ∈ b.dir.inbox, orderSlot m.order < b.dir.next ∨ 0 ≤ orderSlot m.order)
    ∧ ∀ f ∈ ((marked [message0]).blk.setQueue endpointQueue [{ data := [], input := 0, stamp := 0, order := [0, 1] }]).queue endpointQueue,
        orderSlot f.order < b.dir.next ∨ 0 < orderSlot f.order := by decide +kernel
theorem test_batch_unmarked :
    sv.blk.unmarked 0 ≠ [] ∧ sv.blk.dir.inbox = [] ∧ 0 < sv.blk.dir.bound ∧ sv.blk.dir.point = sv.blk.clk.epoch
    ∧ 8 * 0 + 0 < (onDir (fun d => { d with next := 1 })).blk.dir.next := by decide +kernel
theorem test_late_message :
    (2, 8 * 1 + 0) ∈ (onDir (fun d => { d with late := [(2, 8)] })).blk.dir.late
    ∧ 8 < (onDir (fun d => { d with next := 9 })).blk.dir.next ∧ (2, 8) ∉ (onDir (fun d => { d with next := 9 })).blk.dir.markers
    ∧ (2, 8 * 1 + 0) ∉ sv.blk.dir.late ∧ ¬ 8 < sv.blk.dir.next ∧ 16 ≤ message0.sdu.length ∧ ([] : List Byte).length < 16 := by
  decide +kernel

/-- A frame from the uplink of epoch 0. -/
def frame0 : Frame := { data := List.replicate 60 0, input := 64, stamp := 0 }

/-- A downstream message to endpoint 0 waits, at epoch e, with the endpoint's context as given. -/
def downstream (e : Nat) (l : List Byte) (c : Ctx) : State :=
  on (fun b => { b with
    clk := { b.clk with epoch := e, fc := 8 * e },
    dir := { b.dir with
      ctxs := Tab.set {} [] 0 c,
      dnWait := [{ frame := frame0, data := l, payload := 0, exc0 := 0, excTag := 0, owner := 0 }] } })

theorem test_downstream_stale : stale frame0.stamp (downstream 4 [] {}).blk.clk.epoch = true
    ∧ stale frame0.stamp (downstream 3 [] {}).blk.clk.epoch = false ∧ (downstream 3 [] {}).blk.joined = false := by decide +kernel
theorem test_downstream_unbound :
    let l : List Byte := 16 :: List.replicate 15 0
    let b := (downstream 0 l {}).blk
    16 + bits (beNat (l.take 16)) 78 71 ≤ l.length ∧ bits (beNat (l.take 16)) 127 124 = 1 ∧ bits (beNat (l.take 16)) 123 120 ≤ 3
    ∧ b.readCtx 0 = (b, some {}) ∧ ({} : Ctx).valid = false := by decide +kernel

/-- A bound context without protection. -/
def boundCtx : Ctx := { valid := true, bound := true }

theorem test_downstream_sealed :
    let b := (downstream 0 (16 :: List.replicate 15 0) boundCtx).blk
    b.readCtx 0 = (b, some boundCtx) ∧ boundCtx.prot = 0 ∧ boundCtx.keySpent = false ∧ 16 + 0 + checkWidth boundCtx.poly ≤ 256
    ∧ (b.drawEp 0).2 = some 0 := by decide +kernel

/-- An outage record of terminal 7, tenant 3, kind 3, due at epoch e. -/
def record0 (e : Nat) : OutRec := {
  kind := 3, tenant := 3, terminal := 7, entries := [], first := 0, last := 0, closeAt := e, cluster := 7 }

theorem test_outage_close :
    (onDir (fun d => { d with open_ := [record0 0] })).blk.dir.open_.find? (fun r => r.terminal == 7 && r.tenant == 3 && r.kind == 3)
      = some (record0 0)
    ∧ (record0 0).closeAt ≤ sv.blk.dir.point ∧ sv.blk.dir.point < (record0 1).closeAt ∧ sv.blk.dir.events = [] := by decide +kernel

/-- The frame that delivers a closed record. -/
def recordFrame : Frame := {
  data := (record0 0).bytes 0, fcsLen := 0, input := 113, tenant := 3, stamp := 0, source := recIsland 7 }

theorem test_outage_deliver :
    (sv.blk.admitFlag (hostQueue 3 1) recordFrame).2 = true
    ∧ (onDir (fun d => { d with closed := [record0 0] })).blk.dir.closed = [record0 0] ∧ sv.blk.dir.closed = [] := by decide +kernel
/-- A notice queue takes nothing when it holds all the cells of the Caldera. -/
theorem test_outage_lost :
    ((on (fun b => b.setQueue (hostQueue 3 1) [{ recordFrame with fcsLen := 10 ^ 12 }])).blk.admitFlag (hostQueue 3 1) recordFrame).2
      = false := by decide +kernel

/-! ### Uplink ports, outputs, parsers and the cipher engine -/

/-- Sub-port 0 is up, changed by f. -/
def portUp (f : SubPort → SubPort) : State :=
  onSw (fun w => { w with subs := Tab.set {} w.subs 0 (f { enable := true, up := true }) })

/-- A frame of 64 bytes with its FCS. -/
def goodFrame : List Byte := List.replicate 60 0 ++ fcs (List.replicate 60 0)

theorem test_uplink_frame :
    let b := (portUp id).blk
    b.subUp 0 = true ∧ goodFrame.length ≤ (b.sub 0).maxFrame ∧ fcsGood goodFrame = true
    ∧ b.takesPtp 0 (goodFrame.take (goodFrame.length - 4)) = false ∧ (b.sub 0).fc = 0 ∧ (b.sub 0).ct = false
    ∧ fcsGood (List.replicate 64 0) = false ∧ sv.blk.subUp 0 = false := by decide +kernel

/-- A PTP message to 01-1B-19-00-00-00, with its FCS. -/
def ptpFrame0 : List Byte :=
  let l : List Byte := toBe 0x011B19000000 6 ++ List.replicate 6 0 ++ toBe 0x88F7 2 ++ List.replicate 46 0
  l ++ fcs l

theorem test_uplink_ptp :
    let b := { (portUp id).blk with tim := { (portUp id).blk.tim with cfg := [(0, { ports := Tab.set {} [] 0 { role := 1 } })] } }
    ptpFrame0.length ≤ (b.sub 0).maxFrame ∧ fcsGood ptpFrame0 = true
    ∧ b.takesPtp 0 (ptpFrame0.take (ptpFrame0.length - 4)) = true ∧ b.subUp 0 = true := by decide +kernel
theorem test_link_up :
    let b := (portUp (fun p => { p with up := false })).blk
    b.subFormed 0 = true ∧ (b.sub 0).enable = true ∧ b.tele.islandRetired (71 + 0 / 8) = false ∧ (sv.blk.sub 0).enable = false := by
  decide +kernel
theorem test_link_down : Tab.wf [] (portUp id).blk.sw.queues = true ∧ (portUp id).blk.subUp 0 = true := by decide +kernel
theorem test_pause_classes :
    ({ pfc := true, classes := 0x81, quanta := [5, 0, 0, 0, 0, 0, 0, 0] } : PauseFrame).classes.getLsbD 0 = true := by decide

/-- The given queue holds one frame, at epoch e. -/
def queued (e queue : Nat) (f : Frame) : State :=
  on (fun b => { b.setQueue queue [f] with clk := { b.clk with epoch := e, fc := 8 * e } })

theorem test_dequeue_single :
    stale frame0.stamp (queued 0 fumaroleQueue frame0).blk.clk.epoch = false ∧ frame0.bad = false
    ∧ (queued 0 fumaroleQueue frame0).blk.queue fumaroleQueue = [frame0]
    ∧ (queued 0 endpointQueue frame0).blk.queue endpointQueue = [frame0] := by decide +kernel
theorem test_dequeue_class :
    (5 : Nat) < 112 ∧ (queued 0 (classQueue 5 7) frame0).blk.nextClass 5 = ((queued 0 (classQueue 5 7) frame0).blk, some 7)
    ∧ (queued 0 (classQueue 5 7) frame0).blk.queue (classQueue 5 7) = [frame0]
    ∧ (queued 0 (classQueue 64 7) frame0).blk.nextClass 64 = ((queued 0 (classQueue 64 7) frame0).blk, some 7) := by decide +kernel
theorem test_dequeue_strict :
    let b := (queued 0 (classQueue 5 7) frame0).blk
    b.classReady 5 7 = true ∧ (b.swCfg.queueSet (classQueue 5 7)).weighted = false := by decide +kernel
theorem test_dequeue_stale :
    stale frame0.stamp (queued 4 fumaroleQueue frame0).blk.clk.epoch = true
    ∧ (queued 4 fumaroleQueue frame0).blk.queue fumaroleQueue = [frame0] := by decide +kernel
theorem test_bad_late :
    512 ≤ fumaroleQueue ∧ ((queued 0 fumaroleQueue { frame0 with bad := true }).blk.queue fumaroleQueue)[0]?
      = some { frame0 with bad := true } := by decide +kernel
/-- Row and cell of an error beyond the first cell of a frame of two cells, at the head of a sub-port's queue. -/
theorem test_cell_lost :
    let f := { frame0 with data := List.replicate 600 0 }
    ((queued 0 (classQueue 64 0) f).blk.queue (classQueue 64 0))[0]? = some f ∧ 1 < f.cells ∧ f.cells ≤ 9
    ∧ 512 ≤ classQueue 64 0 ∧ classQueue 64 0 < 896 := by decide +kernel

/-- A stream frame of tree 2, stream 9, waits for its sequence point at phase (0, 0). -/
def streamFrame : Frame := { data := [], input := 2, stamp := 0, stream := 9, order := [0, 0, 2, 0, 0] }

/-- Every tree has marked phase (0, 0), the stream frame waits, and the given markers are late. -/
def sequencing (late : List (Nat × Nat)) : State :=
  on (fun b => { b with
    dir := { b.dir with markers := (List.range 64).map (fun t => (t, 0)), late := late },
    sw := { b.sw with seqWait := [streamFrame], streams := Tab.set {} [] 9 { enable := true } } })

theorem test_sequence_point :
    let b := (sequencing []).blk
    b.joined = false ∧ b.unmarked (8 * 0 + 0) = [] ∧ b.sw.seqWait = [streamFrame] ∧ streamFrame.input < 64
    ∧ orderSlot streamFrame.order ≤ 8 * 0 + 0 ∧ b.partLate 2 (orderSlot streamFrame.order) = false
    ∧ (Tab.get {} b.sw.streams 9).enable = true ∧ (Tab.get {} b.sw.streams 9).dup = false
    ∧ (sequencing [(2, 0)]).blk.partLate 2 (orderSlot streamFrame.order) = true ∧ streamFrame.stream ≠ 0 := by decide +kernel

/-- A notice waits for tenant 0, whose receive ring is as given. -/
def hostWaits (r : RxRing) : State :=
  on (fun b => { b with sw := { b.sw with rings := Tab.set {} [] 0 r } }.setQueue (hostQueue 0 1) [recordFrame])

/-- The tenant whose turn it is. -/
def turnOf (b : Blk) : (Nat × Tab Nat) × Option Nat :=
  drr 65 id (fun k => (b.ring k).weight * 256) b.hostHead b.sw.hostTurn b.sw.hostDeficit

theorem test_host_ring_off :
    let b := (hostWaits {}).blk
    (turnOf b).2 = some 0 ∧ b.hostKind 0 = some 1 ∧ b.queue (hostQueue 0 1) = [recordFrame] ∧ (b.ring 0).enable = false
    ∧ stale recordFrame.stamp b.clk.epoch = false ∧ recordFrame.bad = false := by decide +kernel
theorem test_host_ring_on :
    let b := (hostWaits { enable := true }).blk
    (turnOf b).2 = some 0 ∧ (b.ring 0).enable = true ∧ (0x800000000000#64).getLsbD 47 = true
    ∧ [((0 : Nat), (4096#64), (0x800000000000#64))].find? (fun d => d.1 == 0) = some (0, 4096#64, 0x800000000000#64) := by
  decide +kernel
theorem test_host_idle : ∀ k < 65, sv.blk.hostHead k = none := by decide +kernel
theorem test_ring_poll :
    ((hostWaits { enable := true, stalled := true }).blk.ring 0).stalled = true ∧ (0#64).getLsbD 47 = false := by decide +kernel

/-- One frame waits for the tree-side parser, at epoch e. -/
def parsing (e : Nat) : State :=
  on (fun b => { b with
    clk := { b.clk with epoch := e, fc := 8 * e }, cls := { b.cls with wait := Tab.set [] [] 0 [frame0] } })

theorem test_parser :
    Tab.get [] (parsing 0).blk.cls.wait 0 = [frame0] ∧ Tab.get [] (parsing 0).blk.cls.recirc 0 = []
    ∧ stale frame0.stamp (parsing 4).blk.clk.epoch = true ∧ stale frame0.stamp (parsing 0).blk.clk.epoch = false
    ∧ Tab.get [] sv.blk.cls.wait 0 = [] ∧ Tab.get [] sv.blk.cls.recirc 0 = [] := by decide +kernel

/-- Every frame from the tree side goes to carrier 40, the carrier of a group. -/
def grouping : State :=
  on (fun b => { b with
    cls := { b.cls with cfg := [(0, { rules := [(0, { w0 := 2 ^ 63 + 3 * 2 ^ 59 + 40 * 2 ^ 37 })] })] },
    sw := { b.sw with cfg := [(0, { carriers := Tab.set {} [] 40 { purpose := 4 } })] } })

theorem test_parser_holds :
    let r := grouping.blk.pass 0 0 (Tab.get 0 (grouping.blk.ownersAt 0).carrier frame0.flow) 0 frame0 frame0.data
    let d : Decided := { side := 0, passNo := 0, frame := frame0, data := frame0.data, out := r.2, spent := true }
    r.1.holdsInput d = true ∧ r.1.holdsInput { d with passNo := 1 } = true ∧ r.1.holdsInput { d with spent := false } = false := by
  decide +kernel

/-- A second pass that waits. -/
def again : Recirc := { frame := frame0, data := frame0.data, node := 0, tenant := 0, mirror := false, sample := false, tenantSample := false }

theorem test_recirculation :
    Tab.get [] (onCls (fun c => { c with recirc := Tab.set [] [] 0 [again] })).blk.cls.recirc 0 = [again]
    ∧ again.mirror = false ∧ again.sample = false ∧ again.tenantSample = false := by decide +kernel
theorem test_table_parity :
    sv.blk.clsCfg.faults.contains (68, 1, 0) = false
    ∧ (onCls (fun c => { c with cfg := [(0, { faults := [(68, 1, 0)] })] })).blk.clsCfg.faults.contains (68, 1, 0) = true := by
  decide +kernel

/-- A lease of endpoint 3 is being read back. -/
def leasing (r : PairRole) : State :=
  on (fun b => { b with
    cip := { b.cip with leases := Tab.set {} [] 3 { pending := some 1048576 } }, pair := { b.pair with role := r } })

theorem test_lease :
    ((leasing .solo).blk.lease 3).pending = some 1048576 ∧ (leasing .solo).blk.joined = false
    ∧ (leasing .active).blk.pair.role = .active ∧ (sv.blk.lease 3).pending = none := by decide +kernel

/-- The vector of RFC 3394, 4.3: a 128-bit key wrapped under a 256-bit one. -/
def wrapped0 : List Byte := ([0x64, 0xE8, 0xC3, 0xF9, 0xCE, 0x0F, 0x5B, 0xA2, 0x63, 0xE9, 0x77, 0x79, 0x05, 0x81, 0x8A, 0x2A,
  0x93, 0xC8, 0x19, 0x1E, 0x7D, 0x6E, 0x8A, 0xE7] : List Nat).map (BitVec.ofNat 8)

/-- Slot 1 of carrier 0 of tree 0 holds a wrapped key, under the key-encryption key of that vector. -/
def stored (w : List Byte) : State :=
  onCip (fun c => { c with
    kek := .adopted 0x000102030405060708090A0B0C0D0E0F101112131415161718191A1B1C1D1E1F,
    carriers := Tab.set {} [] 0 {
      slots := Tab.set none [] 1 (some { wrapped := w, key256 := false, gen := 0 }), cache := Tab.set [] [] 1 [7] } })

theorem test_cache_refill :
    Tab.get none ((stored wrapped0).blk.carrier 0).slots 1 = some { wrapped := wrapped0, key256 := false, gen := 0 }
    ∧ Tab.get [] ((stored wrapped0).blk.carrier 0).cache 1 ≠ [] ∧ (stored wrapped0).blk.cip.upsets = []
    ∧ Tab.get [] (sv.blk.carrier 0).cache 1 = [] := by decide +kernel
theorem test_key_unwraps : ((stored wrapped0).blk.unwrap wrapped0).isSome = true := by decide +kernel
theorem test_key_fails : (stored []).blk.unwrap [] = none := by decide +kernel

/-! ### The time unit -/

/-- The time unit under the given configuration, changed by f. -/
def timed (cfg : TimeCfg) (f : Tim → Tim) : State := onTim (fun t => f { t with cfg := [(0, cfg)] })

theorem test_pulse_out :
    (timed { outEn := true } (fun t => { t with valid := true })).blk.timeCfg.outEn = true
    ∧ (timed { outEn := true } id).blk.timeCfg.squelch = true ∧ (timed { outEn := true } id).blk.tim.valid = false
    ∧ sv.blk.timeCfg.outEn = false ∧ sv.blk.hasTime = true := by decide +kernel
theorem test_source_lost :
    let b := fun x => (timed { src := 1 } (fun t => { t with servo := x })).blk
    (b .locked).timeCfg.src ≠ 0 ∧ (b .locked).tim.servo = .locked ∧ (b .acquiring).tim.servo = .acquiring
    ∧ (b .holdover).tim.servo = .holdover ∧ sv.blk.timeCfg.src = 0 := by decide +kernel
theorem test_valid_ends :
    let b := (on (fun b => { b with
      clk := { b.clk with epoch := 1000000, fc := 8000000 },
      tim := { b.tim with leftLocked := some 0, servo := .holdover, valid := true } })).blk
    b.tim.leftLocked = some 0 ∧ b.tim.servo = .holdover ∧ 0 + 8000 * b.timeCfg.hoValid < b.clk.fc + 8
    ∧ (atBoundary.blk.clk.fc ≤ 0 + 8000 * atBoundary.blk.timeCfg.hoValid) := by decide +kernel
theorem test_edge_first :
    let b := (timed { inEn := true, src := 2 } id).blk
    b.timeCfg.inEn = true ∧ b.tim.lastPulse = none ∧ b.timeCfg.src = 2 ∧ sv.blk.timeCfg.inEn = false := by decide +kernel
theorem test_edge_next :
    let second : Int := 65536000000000
    let b := (timed { inEn := true } (fun t => { t with lastPulse := some 0 })).blk
    b.tim.lastPulse = some 0 ∧ b.timeCfg.src ≠ 2 ∧ 9 * second ≤ 10 * (second - 0) ∧ 10 * (second - 0) ≤ 11 * second
    ∧ 10 * (second / 2 - 0) < 9 * second ∧ 11 * second < 10 * (2 * second - 0) := by decide +kernel

/-- A PTP message of type 0 (Sync), version 2, of the given domain and flags. -/
def sync0 (domain flags : Nat) : List Byte :=
  ([0, 2, 0, 44, domain, 0, flags, 0] : List Nat).map (BitVec.ofNat 8) ++ List.replicate 36 0

theorem test_ptp_message :
    let m := sync0 24 0
    let b := (onTim (fun t => { t with ptpIn := [{ sub := 0, bytes := m, toa := 0, stamp := 0 }] })).blk
    let domain := (Vers.at {} b.tim.cfg (stampAt 0 b.clk.epoch)).domain
    b.tim.ptpIn = [{ sub := 0, bytes := m, toa := 0, stamp := 0 }] ∧ stale 0 b.clk.epoch = false ∧ stale 0 4 = true
    ∧ field m 4 1 = domain ∧ field m 1 1 % 16 = 2 ∧ field m 0 1 % 16 = 0 ∧ bit (field m 6 1) 1 = false
    ∧ field (sync0 25 0) 4 1 ≠ domain ∧ sv.blk.tim.ptpIn = [] := by decide +kernel

/-- Sub-port 0 is up, with a PTP role. -/
def ptpPort : State :=
  on (fun b => { b with sw := { b.sw with subs := Tab.set {} [] 0 { enable := true, up := true } },
                        tim := { b.tim with cfg := [(0, { ports := Tab.set {} [] 0 { role := 1 } })] } })

theorem test_ptp_sent :
    (Tab.get {} ptpPort.blk.timeCfg.ports 0).role ≠ 0 ∧ ptpPort.blk.subUp 0 = true ∧ ptpPort.blk.hasTime = true
    ∧ ptpPort.blk.timeCfg.profile = 0 ∧ (Tab.get {} ptpPort.blk.tim.ports 0).sends 0 0 = false := by decide +kernel

/-- That port in a state of its protocol, with a request to answer, under a profile. -/
def ptpAsked (profile state : Nat) (asked : Option (Nat × Nat × Int × Int)) : State :=
  on (fun _ => { ptpPort.blk with tim := { ptpPort.blk.tim with
    cfg := [(0, { profile := profile, ports := Tab.set {} [] 0 { role := 1 } })],
    ports := Tab.set {} [] 0 { state := state, asked := asked } } })

theorem test_ptp_asked :
    (Tab.get {} (ptpAsked 0 3 (some (1, 9, 5, 0))).blk.tim.ports 0).state = 3
    ∧ (Tab.get {} (ptpAsked 0 3 (some (1, 9, 5, 0))).blk.tim.ports 0).asked = some (1, 9, 5, 0)
    ∧ (Tab.get {} (ptpAsked 0 2 none).blk.tim.ports 0).state = 2 ∧ (ptpAsked 1 0 (some (2, 9, 5, 0))).blk.timeCfg.profile = 1
    ∧ (Tab.get {} (ptpAsked 1 0 (some (2, 9, 5, 0))).blk.tim.ports 0).asked = some (2, 9, 5, 0)
    ∧ (Tab.get {} (ptpAsked 1 0 (some (2, 9, 5, 0))).blk.timeCfg.ports 0).role ≠ 0 := by decide +kernel
theorem test_time_written :
    let b := (on (fun b => { (b.updTree 0 (fun x => { x with mode := .xgs })).updTerm (gid 0 5) (fun x => { x with state := .active }) with
      tim := { b.tim with valid := true } })).blk
    0 < Part.trees b.sys.part ∧ (b.tree 0).mode ≠ .native ∧ b.tim.valid = true ∧ (b.term (gid 0 5)).state = .active
    ∧ b.leaves (.todWrite (gid 0 5) 160 0) = true := by decide +kernel
theorem test_esmc_sent :
    let b := (on (fun b => { ptpPort.blk with tim := { b.tim with cfg := [(0, { txFollow := true })], selected := some 1 } })).blk
    b.timeCfg.txFollow = true ∧ b.tim.selected = some 1 ∧ b.subUp 0 = true ∧ b.leaves (.esmc 0 15) = true
    ∧ b.leaves (.esmc 0 eecQl) = true ∧ sv.blk.timeCfg.txFollow = false ∧ sv.blk.tim.selected = none := by decide +kernel

/-- Four SyncE sources on sub-ports 0, 8, 16 and 24. -/
def synce (f : Tim → Tim) : State := timed { sources := [(0, true), (8, true), (16, true), (24, true)] } f

theorem test_esmc_received :
    let b := (synce id).blk
    b.timeCfg.sources.length = 4 ∧ b.timeCfg.sources[1]? = some (8, true)
    ∧ ∀ j < 4, j ≠ 1 → (b.timeCfg.sources.getD j (0, false)).1 ≠ 8 := by decide +kernel
theorem test_synce_lost :
    (sv.blk.syncBest = sv.blk.tim.selected)
    ∧ (onTim (fun t => { t with selected := some 1 })).blk.syncBest ≠ (onTim (fun t => { t with selected := some 1 })).blk.tim.selected := by
  decide +kernel

/-! ### The pair unit -/

/-- The pair unit in a role, changed by f. -/
def pair (r : PairRole) (f : Pair → Pair) : State := onPair (fun p => f { p with role := r, enable := true, linkUp := true })

/-- A HELLO of a partner with the other straps. -/
def hello0 : Hello := {
  state := 1, part := Part.code .bvh6400, rev := State.reset.blk.sys.rev, fwVersion := 0, wave := true, pref := true, enable := true,
  epoch := 0, fc := 0 }

theorem test_hello :
    let b := (pair .alone id).blk
    b.hasPair = true ∧ 3 ≤ b.laneCount ∧ b.pair.linkUp = true ∧ hello0.wave ≠ b.wave ∧ hello0.pref ≠ b.pref
    ∧ b.joined = false ∧ b.pair.role ≠ .isolated ∧ (pair .active id).blk.joined = true
    ∧ { hello0 with wave := false }.wave = b.wave := by decide +kernel
theorem test_hello_isolated :
    let b := (pair .isolated id).blk
    b.pair.role = .isolated ∧ b.pair.auto = true ∧ b.pair.strapBad = false ∧ b.tele.retired 0x08 0 = false := by decide +kernel
/-- With two lanes retired the link is down. -/
theorem test_link_lanes :
    (onTele (fun t => { t with sources := [(sourceKey 7 0, { role := .retired }), (sourceKey 7 1, { role := .retired })] })).blk.laneCount < 3 := by
  decide +kernel
theorem test_link_frame :
    let f : LinkFrame := { kind := 4, cls := 1, seq := 0, epoch := 0, crcOk := true, lane := none }
    let b := (pair .active id).blk
    f.lane = none ∧ f.crcOk = true ∧ 1 ≤ f.kind ∧ f.kind ≤ 14 ∧ f.seq = Tab.get 0 b.pair.rxSeq (f.cls % 4)
    ∧ Tab.get 0 b.pair.rxSeq (f.cls % 4) < 2 ∧ Tab.get 0 b.pair.retries (f.cls % 4) < 3 := by decide +kernel
theorem test_watchdog :
    sv.blk.pair.wdGood = true ∧ (pair .active (fun p => { p with wdGood := false })).blk.pair.wdGood = false
    ∧ (pair .active id).blk.pair.wdNoted = false ∧ (pair .active (fun p => { p with wdNoted := true })).blk.pair.wdNoted = true
    ∧ sv.blk.pair.enable = false ∧ (pair .active (fun p => { p with linkUp := false })).blk.pair.linkUp = false := by decide +kernel
theorem test_link_silence :
    (pair .active id).blk.pair.role = .active ∧ (pair .standby (fun p => { p with wdIn := true })).blk.pair.wdIn = true
    ∧ (pair .standby id).blk.pair.wdIn = false ∧ (pair .solo id).blk.pair.role = .solo := by decide +kernel
theorem test_item_missing :
    (pair .active id).blk.itemMissing 1 0 = true
    ∧ (pair .standby (fun p => { p with wdIn := true })).blk.itemMissing 1 0 = true ∧ sv.blk.itemMissing 1 0 = false := by decide +kernel
theorem test_handshake_refused :
    let b := (pair .alone id).blk
    b.pair.linkUp = true ∧ b.pair.agreed = false ∧ b.pair.strapBad = false ∧ b.tele.retired 0x08 0 = false ∧ b.pair.role = .alone
    ∧ b.handshakeFault { hello0 with part := 0 } [] = some 1 ∧ b.handshakeFault { hello0 with pref := false } [] = some 2
    ∧ b.handshakeFault { hello0 with enable := false } [] = some 3 ∧ b.pair.enable = true := by decide +kernel
/-- The CMAC that belongs to a HELLO passes, whatever its content's byte string is. -/
theorem test_handshake_passes :
    (pair .alone id).blk.handshakeFault { hello0 with state := 5 }
      (cmac (toLe (pair .alone id).blk.pair.secret.toNat 32) (Config.helloBytes (Hello.nums { hello0 with state := 5 }))) = none := by
  unfold Blk.handshakeFault
  rw [if_neg (by decide +kernel), if_neg (by decide +kernel), if_neg (by decide +kernel), if_neg (fun h => h rfl)]
theorem test_restore :
    let b := (pair .standby (fun p => { p with wtrEnd := some 0 })).blk
    b.pair.wtrEnd = some 0 ∧ b.joined = true ∧ 0 ≤ b.clk.epoch ∧ b.pair.lockout = false ∧ sv.blk.pair.wtrEnd = none := by decide +kernel
theorem test_versions_differ :
    (pair .standby (fun p => { p with fwDiffer := 2 })).blk.joined = true
    ∧ 2 ≤ (pair .standby (fun p => { p with fwDiffer := 2 })).blk.pair.fwDiffer ∧ sv.blk.pair.fwDiffer < 2 := by decide +kernel

/-! ### What the chips agree on -/

/-- The part of a batch for tree 3. -/
def part0 : BatchTree := { tree := 3, reports := [], ends := [], views := [{ index := 2, state := 4, lob := false, dg := false }], probes := [], quiets := [] }

/-- The other chip of a joined pair, which follows the reference chip. -/
def follower : State := pair .standby (fun p => { p with reference := false })

theorem test_batch_followed :
    follower.blk.follows = true ∧ follower.blk.followsBatch 2 = true ∧ sv.blk.followsBatch 2 = false ∧ part0.ends = [] ∧ part0.probes = [] ∧ part0.quiets = [] ∧ (∀ v ∈ part0.views, v.lob = false)
    ∧ follower.blk.gey.consume ≤ slotOf 2 0 ∧ sv.blk.follows = false ∧ follower.blk.clk.fc ≤ 3 := by decide +kernel
theorem test_time_followed :
    follower.blk.joined = true ∧ follower.blk.pair.reference = false ∧ 3 % 8 ≠ 0 ∧ follower.blk.pair.role = .standby
    ∧ sv.blk.pair.role ≠ .standby ∧ follower.blk.dir.next ≤ slotOf 0 0 := by decide +kernel
theorem test_forwarded :
    let p := parseNative 0 0 0 (slotOfCmd 2 nop0) [] true
    instrOf p.1 p.2 = some (.epochRead p.2) ∧ follower.blk.forwards = true ∧ follower.blk.openEpoch ≤ 1 ∧ sv.blk.forwards = false := by
  decide +kernel
theorem test_digests :
    let b := (pair .active (fun p => { p with mine := [(5, List.replicate 8 1, false)] })).blk
    b.joined = true ∧ (∀ x ∈ b.pair.mine, x.1 ≠ 6) ∧ b.pair.mine = [(5, List.replicate 8 1, false)] ∧ b.pair.theirs = []
    ∧ (∀ d < 8, (List.replicate 8 1).getD d 0 = ((List.replicate 8 (1#64)).map BitVec.toNat).getD d 0) := by decide +kernel
theorem test_shadow_map :
    let b := (pair .joining id).blk
    let g := b.shadowGrant 0 4 0x8000
    b.grantAt 0 4 g.start = none ∧ g.forQueue = false ∧ b.pair.role = .joining := by decide +kernel

/-- A chip that feeds a newcomer, changed by f. -/
def feeder (f : Pair → Pair) : State := pair .alone (fun p => f { p with agreed := true })

theorem test_page_send :
    (feeder (fun p => { p with sending := some (1, 0) })).blk.feeding = true ∧ sv.blk.feeding = false
    ∧ (feeder (fun p => { p with sending := some (1, 0) })).blk.pair.sending = some (1, 0) ∧ 0 < itemPages 1 :=
  ⟨by decide +kernel, by decide +kernel, rfl, itemPages_pos 1⟩
theorem test_join_named :
    let b := (on (fun b => { (feeder id).blk with clk := { b.clk with epoch := 2, fc := 16 } })).blk
    b.feeding = true ∧ b.pair.sending = none ∧ b.pair.joinAt = none ∧ b.pair.shadowFrom + 2 ≤ b.clk.epoch := by decide +kernel
theorem test_page_received :
    let b := (pair .joining (fun p => { p with agreed := true })).blk
    0 < itemPages 1 ∧ b.pair.role = .joining ∧ b.pair.agreed = true ∧ crc64 0 [1, 2] = crc64 0 [1, 2] ∧ (1, 0) ∉ b.pair.installed
    ∧ b.pair.log = [] ∧ crc64 0 [1, 2] + 1 ≠ crc64 0 [1, 2] ∧ (∀ y ∈ b.pair.badPages, y.1 ≠ (6, 0)) ∧ 0 < itemPages 6 :=
  ⟨itemPages_pos 1, by decide +kernel⟩
theorem test_grid :
    let b := (on (fun b => { ((feeder id).blk.updTree 0 (fun x => { x with rxOn := true })) with
      sys := { b.sys with straps := { b.sys.straps with pairWave := true } } })).blk
    (b.tree 0).mode = .native ∧ (b.tree 0).rxOn = true ∧ (List.replicate 64 (256 : Int)).length = 64 ∧ b.feeding = true
    ∧ b.sys.straps.pairWave = true ∧ (b.tree 0).shifting = false ∧ 2 < (median (List.replicate 64 (256 : Int))).natAbs
    ∧ (median (List.replicate 64 (256 : Int))).natAbs ≤ 256 := by decide +kernel
theorem test_join_point :
    (on (fun b => { (feeder (fun p => { p with joinAt := some 2 })).blk with gey := { b.gey with snapEpoch := 2 } })).blk.pair.joinAt = some 2
    ∧ (on (fun b => { (feeder (fun p => { p with joinAt := some 2 })).blk with gey := { b.gey with snapEpoch := 2 } })).blk.feeding = true
    ∧ (feeder id).blk.pair.shadowFrom + 2 ≤ 2 := by decide +kernel

/-! ### The Tumbler engines -/

/-- A job of endpoint 0 under handler class 3. -/
def job0 : Job := { endpoint := 0, tenant := 0, svc := 3, stamp := 0, toa := 0, gen := 0, msg := [], len := 0, mkind := 0, info := 0, order := [] }

/-- Firmware runs, the job waits, and handler 3 is one END step. -/
def engines (fw : Bool) (h : Tab (List Nat)) (j : Job) : State :=
  on (fun b => { b with sys := { b.sys with fwReady := fw }, tum := { b.tum with jobs := [j], handlers := [(0, h)] } })

/-- A valid handler of one step 0x00. -/
def endHandler : Tab (List Nat) := [(3, (2 ^ 63 + 2 ^ 56) :: List.replicate 64 0)]

theorem test_job_runs :
    let b := (engines true endHandler job0).blk
    0 < 272 ∧ b.tele.role 0x09 0 = .serving ∧ b.sys.fwWriting = none ∧ b.nextJob (0 / 17) = some job0
    ∧ (handlerHead (handlerOf (Vers.at [] b.tum.handlers 0) 3)).valid = true ∧ (stepOf (handlerOf (Vers.at [] b.tum.handlers 0) 3) 0).op = 0
    ∧ (handlerHead (handlerOf (Vers.at [] (engines true [] job0).blk.tum.handlers 0) 3)).valid = false
    ∧ (engines false [] job0).blk.sys.fwReady = false ∧ (engines false [] job0).blk.nextJob 0 = some job0
    ∧ stale job0.stamp b.clk.epoch = false ∧ stale job0.stamp 4 = true ∧ job0.reruns = 0 := by decide +kernel
theorem test_engine_idle : (unitIn 9 0 .retired).blk.tele.role 0x09 0 ≠ .serving ∧ sv.blk.nextJob (0 / 17) = none ∧ sv.blk.tum.jobs = [] := by
  decide +kernel

/-- How that job ended: failed or not. -/
def ended0 (fail : Nat) : JobEnd := { fail := fail, failAction := false, outs := [], counts := [], handler := 5, cycles := 33, engine := 0 }

theorem test_job_ended :
    let b := (engines true endHandler { job0 with result := some (ended0 0) }).blk
    b.tum.jobs = [{ job0 with result := some (ended0 0) }] ∧ (ended0 0).outs = [] ∧ (ended0 0).counts = [] ∧ (ended0 0).fail = 0
    ∧ (ended0 8).fail ≠ 0 ∧ (ended0 8).failAction = false ∧ job0.oneSided = false ∧ b.dir.latent = [] ∧ Tab.get 0 b.dir.faults 0 = 0 := by
  decide +kernel
theorem test_engine_fault :
    let b := (engines true endHandler job0).blk
    EngineFault.registers ≠ .overrun ∧ job0.reruns < 3 ∧ b.nextJob (0 / 17) = some job0
    ∧ (handlerHead (handlerOf (Vers.at [] b.tum.handlers 0) 3)).worst + 64 < 65 := by decide +kernel
theorem test_outage_job :
    (onDir (fun d => { d with events := [{ kind := 3, tenant := 0, terminal := 0, endpoint := 0, stamp := 0, cluster := 0 }] })).blk.dir.events
      = [{ kind := 3, tenant := 0, terminal := 0, endpoint := 0, stamp := 0, cluster := 0 }]
    ∧ sv.blk.dir.events = [] ∧ sv.blk.sys.fwWriting = none ∧ sv.blk.sys.fwReady = false ∧ (engines true [] job0).blk.sys.fwReady = true := by
  decide +kernel

/-- A report of tenant 2, class 3, key 9, due at epoch e. -/
def report0 (e : Nat) : Report := { tenant := 2, svc := 3, key := 9, cluster := 0, first := 0, closeAt := e, entries := [], blocks := [] }

theorem test_report_close :
    (onTum (fun t => { t with reports := [report0 0] })).blk.tum.reports.find? (fun r => r.tenant == 2 && r.svc == 3 && r.key == 9)
      = some (report0 0)
    ∧ (report0 0).closeAt ≤ sv.blk.dir.point ∧ sv.blk.dir.point < (report0 1).closeAt ∧ sv.blk.tum.jobs = [] := by decide +kernel

/-- The service frame of a closed report of that kind. -/
def reportFrame (b : Blk) (r : Report) : Frame :=
  let h : ServiceHead := { kind := 3, tenant := r.tenant, svc := r.svc, key := r.key, count := r.entries.length, seq := r.seq, stamp := r.first }
  { data := h.bytes 0 ++ r.entries.flatten, fcsLen := 0, input := 113, tenant := r.tenant, stamp := b.clk.epoch }

theorem test_report_deliver :
    (onTum (fun t => { t with closed := [report0 0] })).blk.tum.closed = [report0 0] ∧ sv.blk.tum.closed = []
    ∧ (sv.blk.admitFlag (hostQueue 2 3) (reportFrame sv.blk (report0 0))).2 = true
    ∧ ((on (fun b => b.setQueue (hostQueue 2 3) [{ recordFrame with fcsLen := 10 ^ 12 }])).blk.admitFlag (hostQueue 2 3)
        (reportFrame sv.blk (report0 0))).2 = false := by decide +kernel

/-- Terminal management of tree 0 is enabled, with the transactions of terminal 5 as given. -/
def managed (mode : Mode) (l : List Trans) : State :=
  on (fun b => { (b.updTree 0 (fun x => { x with mode := mode })) with
    clk := { b.clk with epoch := 1000, fc := 8000 }, sys := { b.sys with fwReady := true },
    tum := { b.tum with
      mgmt := Tab.set {} [] 0 { enable := true }, trans := Tab.set [] [] (gid 0 5) l, sends := [(gid 0 5, [1, 2], 0)] } })

theorem test_management_send :
    let b := (managed .native []).blk
    (b.mgmt 0).enable = true ∧ b.sys.fwWriting = none ∧ (∀ g ∈ b.tum.uploads, g / 512 ≠ 0) ∧ b.sys.fwReady = true
    ∧ b.tum.sends.find? (fun x => x.1 / 512 == 0) = some (gid 0 5, [1, 2], 0) ∧ (sv.blk.mgmt 0).enable = false
    ∧ sv.blk.tum.sends.find? (fun x => x.1 / 512 == 0) = none := by decide +kernel

/-- A message of terminal 5, with its check, answers a transaction that waits. -/
def answering (msg : List Byte) : State :=
  let b := (managed .native [{ tci := 0x0102, msg := [], sent := 0, left := 1 }]).blk
  { State.reset with blk := { b with tum := { b.tum with mgmtIn := [(gid 0 5, msg ++ b.mgmtCheck (gid 0 5) msg, 1000)] } } }

theorem test_management_reply :
    let b := (answering [1, 2, 3]).blk
    let sdu := [1, 2, 3] ++ b.mgmtCheck (gid 0 5) [1, 2, 3]
    b.tum.mgmtIn.find? (fun x => x.1 == gid 0 5) = some (gid 0 5, sdu, 1000) ∧ stale 1000 b.clk.epoch = false
    ∧ stale 0 b.clk.epoch = true ∧ (b.mgmt (gid 0 5 / 512)).enable = true ∧ b.sys.fwReady = true
    ∧ sdu.take (sdu.length - 4) = [1, 2, 3] ∧ sdu.drop (sdu.length - 4) = b.mgmtCheck (gid 0 5) [1, 2, 3]
    ∧ (Tab.get [] b.tum.trans (gid 0 5)).find? (fun x => x.tci == beNat (([1, 2, 3] : List Byte).take 2))
        = some { tci := 0x0102, msg := [], sent := 0, left := 1 }
    ∧ (Tab.get [] b.tum.trans (gid 0 5)).find? (fun x => x.tci == beNat (([9, 2, 3] : List Byte).take 2)) = none := by decide +kernel
theorem test_management_check :
    ([0, 0, 0, 0, 0] : List Byte).drop 1 ≠ (answering []).blk.mgmtCheck (gid 0 5) [0] ∧ (sv.blk.mgmt 0).enable = false
    ∧ sv.blk.tum.mgmtIn = [] := by decide +kernel
theorem test_management_retry :
    let x : Trans := { tci := 7, msg := [], sent := 0, left := 0 }
    let b := (managed .native [x]).blk
    Tab.get [] b.tum.trans (gid 0 5) = [x] ∧ x.sent + (b.mgmtRetries 0).2 ≤ b.clk.epoch ∧ x.left = 0 ∧ { x with left := 1 }.left ≠ 0
    ∧ (b.mgmt 0).enable = true ∧ b.sys.fwReady = true ∧ b.tum.mgmtIn = [] := by decide +kernel

/-! ### The opcode commands, on small commands that their units take -/

/-- A state in service on which a command of an opcode row passes acceptance. -/
def takes (o : Op) (c : Cmd) (s : State) : Bool :=
  decide (s.blk.sys.phase = .service) && decide (s.blk.acceptCheck o c = none)

theorem takes_iff (o : Op) (c : Cmd) (s : State) : takes o c s = true ↔ s.Takes o c := by simp [takes, State.Takes]

theorem test_read_plain :
    takes Op.nop (op 0 0 []) sv = true ∧ takes Op.epochRead (op 0 0 []) sv = true ∧ takes Op.capsQuery (op 0 0 []) sv = true
    ∧ takes Op.deviceStatus (op 0 0 []) sv = true ∧ takes Op.treeStatus (op 0x101F 0 []) sv = true
    ∧ takes Op.rangeRead (op 0x1005 0 []) sv = true ∧ takes Op.timeRead (op 0xA000 0 []) sv = true
    ∧ takes Op.pairStatus (op 0xB000 0 []) sv = true ∧ takes Op.engineStatus (op 0xC001 0 []) sv = true := by decide +kernel
theorem test_read_ranges :
    takes (Op.tenantQuery sv.blk.sys.part) (wide 2 [] (op 0 12 [(3, 56), (2, 64)])) sv = true
    ∧ takes Op.accountRead (wide 64 [] (op 0x5000 8 [(17, 58)])) sv = true
    ∧ takes Op.wearRead (wide 64 [] (op 0xD000 8 [(3, 57), (2, 50)])) sv = true := by decide +kernel
theorem test_read_engine_counters :
    let c := wide 64 [] (by_ 5 0xC000 8 [(5, 57), (2, 50), (1, 42)])
    takes Op.engineCounterRead c sv = true ∧ c.tenant = c.f 0 63 57 := by decide +kernel
theorem test_read_counters :
    let c := wide 16 [] (op 0xD000 16 [(0xC0, 56), (1, 40), (1, 96)])
    let d := wide 64 [] (op 0xD000 16 [(0xC0, 56), (1, 40), (1, 96), (1, 80)])
    takes Op.counterRead c sv = true ∧ sv.blk.ctrRefused (ctrIn c) c.tenant = none
    ∧ takes Op.binRead d sv = true ∧ sv.blk.ctrRefused (ctrIn d) d.tenant = none := by decide +kernel
theorem test_read_snapshots :
    let g := wide 32 [] (op 0x5000 16 [(8, 111), (1, 93)])
    let p := wide 64 [] (op 0x7001 16 [(1, 113)])
    let r := wide 128 [] (op 0x7001 16 [(32768, 112), (1, 103)])
    let h := wide 520 [] (op 0xC000 16 [(20, 121), (1, 113)])
    takes Op.gqRead g sv = true ∧ takes Op.parseNodeRead p sv = true ∧ takes Op.ruleRead r sv = true ∧ takes Op.handlerRead h sv = true
    ∧ g.word 0 = 0 ∧ p.word 0 = 0 ∧ r.word 0 = 0 ∧ h.word 0 = 0 := by decide +kernel

/-- At epoch 5, where Geyser, the tables and the handlers keep a version of epoch 3. -/
def kept : State :=
  on (fun b => { b with
    clk := { b.clk with epoch := 5, fc := 40 }, gey := { b.gey with cfg := [(4, {}), (0, {})] },
    cls := { b.cls with cfg := [(4, {}), (0, {})] }, tum := { b.tum with handlers := [(4, []), (0, [])] } })

theorem test_read_earlier :
    let g := wide 32 [] (op 0x5000 16 [(3, 0), (8, 111), (1, 93)])
    let p := wide 64 [] (op 0x7001 16 [(3, 0), (1, 113)])
    let r := wide 128 [] (op 0x7001 16 [(3, 0), (32768, 112), (1, 103)])
    let h := wide 520 [] (op 0xC000 16 [(3, 0), (20, 121), (1, 113)])
    takes Op.gqRead g kept = true ∧ takes Op.parseNodeRead p kept = true ∧ takes Op.ruleRead r kept = true
    ∧ takes Op.handlerRead h kept = true ∧ (Vers.kept kept.blk.gey.cfg 3).isSome = true
    ∧ (Vers.kept kept.blk.cls.cfg 3).isSome = true ∧ (Vers.kept kept.blk.tum.handlers 3).isSome = true := by decide +kernel
theorem test_read_tables :
    let e := wide 256 [] (op 0x6000 8 [(1, 26)])
    takes Op.epRead e sv = true ∧ mayAct e.tenant (sv.blk.endpointOwner (epRange e).1) = true
    ∧ takes Op.checkSave (wide 16 [] e) sv = true
    ∧ takes Op.flowRead (wide 64 [] (op 0x1011 8 [(1114178, 42), (1, 29)])) sv = true
    ∧ sv.blk.flowsOwned (wide 64 [] (op 0x1011 8 [(1114178, 42), (1, 29)])) = true
    ∧ takes Op.nonceQuery (op 0x9000 16 []) sv = true ∧ takes Op.nonceQuery (op 0x9000 16 [(1, 62)]) sv = true
    ∧ sv.blk.dir.latent = [] ∧ sv.blk.dir.faults = [] ∧ sv.blk.dir.flowFaults = [] := by decide +kernel
theorem test_read_vent :
    let c := wide 64 [] (op 0xD000 16 [(2, 0), (1, 112)])
    let d := wide 64 [] (op 0xD000 16 [(2, 0), (1, 112), (1, 111)])
    takes Op.ventRead c sv = true ∧ c.b 1 47 = false ∧ takes Op.ventRead d sv = true ∧ d.b 1 47 = true ∧ sv.blk.tele.losses = [] := by
  decide +kernel

theorem test_tree_config :
    let c := op 0x1005 8 [(6, 59), (1, 63)]
    let x := (sv.blk.tree 5)
    takes Op.treeConfig c sv = true ∧ x.txOn = false ∧ x.rxOn = false ∧ sv.blk.treeConfigBad c = none ∧ Tab.wf {} sv.blk.trees = true
    ∧ takes Op.treeConfig (op 0x1005 8 [(2, 59)]) sv = true ∧ (op 0x1005 8 [(2, 59)]).f 0 61 59 < leadMin x.discNow.reachMax := by decide +kernel
theorem test_tree_receiver_off :
    let s := onTree (fun x => { x with rxOn := true })
    let c := op 0x1000 8 [(6, 59)]
    takes Op.treeConfig c s = true ∧ (s.blk.tree 0).rxOn = true ∧ c.b 0 62 = false ∧ s.blk.treeConfigBad c = none
    ∧ Tab.wf {} s.blk.terms = true := by decide +kernel
theorem test_defect_config :
    takes Op.defectConfig (op 0x1011 8 [(3, 60), (2, 56), (4, 52), (6, 48), (4, 44), (2, 40), (3, 36), (8, 30), (4, 26), (8, 20)]) sv
      = true := by decide +kernel
theorem test_circuit_ais :
    let c := op 0x1000 8 [(7, 42), (3, 40), (1, 37), (2, 25), (2, 19)]
    takes Op.circuitAisConfig (op 0x1000 8 [(7, 42)]) sv = true ∧ takes Op.circuitAisConfig c sv = true ∧ c.f 0 41 40 ≠ 0
    ∧ (sv.blk.tree (flowTree 7)).mode = .native ∧ Tab.get none (sv.blk.tree 0).circuits 7 = none
    ∧ (sv.blk.tree 0).circuits.length < 256 := by decide +kernel
theorem test_circuit_ais_more :
    let c := op 0x1000 8 [(5, 42), (3, 40), (1, 37), (2, 25), (2, 19)]
    let k := circuit0 (direction0 false) (direction0 true)
    let full := onTree (fun x => { x with circuits := (List.range 256).map (fun i => (i + 6, some k)) })
    takes Op.circuitAisConfig c (circuits0 k) = true ∧ Tab.get none ((circuits0 k).blk.tree 0).circuits 5 = some k
    ∧ takes Op.circuitAisConfig c full = true ∧ Tab.get none (full.blk.tree 0).circuits 5 = none
    ∧ 256 ≤ (full.blk.tree 0).circuits.length
    ∧ takes Op.circuitAisConfig c (onTree (fun x => { x with mode := .xgs })) = true ∧ c.f 0 39 37 < 3
    ∧ ((onTree (fun x => { x with mode := .xgs })).blk.tree 0).mode ≠ .native := by decide +kernel
theorem test_tree_set_mode :
    let x := sv.blk.tree 5
    takes Op.treeSetMode (op 0x1005 8 [(1, 62)]) sv = true ∧ x.txOn = false ∧ x.rxOn = false
    ∧ (∀ i < 512, (sv.blk.term (gid 5 i)).state ≠ .active) ∧ (∀ q ∈ sv.blk.geyCfg.standing 5, 4 ≤ q.2.lbLog2)
    ∧ Tab.wf {} sv.blk.trees = true ∧ Tab.wf {} sv.blk.terms = true
    ∧ takes Op.treeSetMode (op 0x1000 8 []) (onTree (fun x => { x with txOn := true })) = true
    ∧ ((onTree (fun x => { x with txOn := true })).blk.tree 0).txOn = true
    ∧ Tab.wf {} (onTree (fun x => { x with txOn := true })).blk.trees = true := by decide +kernel
theorem test_tree_protect :
    let c := op 0x1000 8 [(1, 54), (5, 47), (3, 40)]
    let s := onTree (fun x => { x with mode := .fiftyG })
    takes Op.treeProtectConfig c s = true ∧ (s.blk.tree 0).mode ≠ .native ∧ c.f 0 63 62 = 0
    ∧ takes Op.treeProtectConfig c sv = true ∧ (sv.blk.tree 0).mode = .native := by decide +kernel
theorem test_tree_protect_schemes :
    let c := op 0x1000 8 [(1, 62), (1, 54), (5, 47), (3, 40)]
    let d := op 0x1000 8 [(2, 62), (1, 56), (1, 54), (5, 47), (3, 40)]
    let s := fun (r : PairRole) (m : Mode) => on (fun b =>
      { ((b.updTree 0 (fun x => { x with mode := .fiftyG })).updTree 1 (fun x => { x with mode := m })) with
        pair := { b.pair with enable := true, linkUp := true, role := r } })
    takes Op.treeProtectConfig c (s .active .native) = true ∧ c.f 0 63 62 = 1 ∧ (s .active .native).blk.joined = true
    ∧ takes Op.treeProtectConfig c (s .solo .native) = true ∧ (s .solo .native).blk.joined = false
    ∧ takes Op.treeProtectConfig d (s .solo .fiftyG) = true ∧ d.f 0 63 62 = 2
    ∧ ((s .solo .fiftyG).blk.tree (d.f 0 61 56)).mode = .fiftyG ∧ ((s .solo .native).blk.tree (d.f 0 61 56)).mode ≠ .fiftyG
    ∧ takes Op.treeProtectConfig d (s .solo .native) = true := by decide +kernel
theorem test_discovery_config :
    let c := op 0x1009 8 [(192, 29), (180, 21), (36, 13), (4, 10), (1, 9)]
    let x := sv.blk.tree 9
    takes Op.discoveryConfig c sv = true ∧ leadMin (c.f 0 40 29) ≤ x.mapLead ∧ x.mode = .native
    ∧ leadMin 0 ≤ x.mapLead := by decide +kernel
theorem test_discovery_lead :
    let s := on (fun b => b.updTree 9 (fun x => { x with mapLead := 0 }))
    let c := op 0x1009 8 [(192, 29), (180, 21), (36, 13), (4, 10), (1, 9)]
    takes Op.discoveryConfig c s = true ∧ (s.blk.tree 9).mapLead < leadMin (c.f 0 40 29) := by decide +kernel
theorem test_terminal_activate :
    let c := op 0x1012 16 [(4780944838407237377, 0)]
    takes Op.terminalActivate c sv = true ∧ (∀ k < 512, (sv.blk.term (gid 18 k)).serial ≠ c.word 0)
    ∧ (sv.blk.term (gid 18 (c.f 1 63 55))).state = .free := by decide +kernel
theorem test_terminal_again :
    let s := on (fun b => b.updTerm (gid 18 0) (fun x => { x with state := .provisioned, serial := 4780944838407237377 }))
    let c := op 0x1012 16 [(4780944838407237377, 0)]
    takes Op.terminalActivate c s = true ∧ (s.blk.term (gid 18 (c.f 1 63 55))).state = .provisioned
    ∧ (s.blk.term (gid 18 0)).serial = c.word 0 ∧ (∀ k < 512, (s.blk.term (gid 18 k)).serial = c.word 0 → k = c.f 1 63 55) := by
  decide +kernel
theorem test_terminal_held :
    let s := on (fun b => b.updTerm (gid 18 3) (fun x => { x with state := .held, serial := 4780944838407237377 }))
    let c := op 0x1012 16 [(4780944838407237377, 0)]
    takes Op.terminalActivate c s = true ∧ s.blk.findSerial 18 (c.word 0) [.held] = some 3
    ∧ (s.blk.term (gid 18 0)).state = .free ∧ (∀ k < 512, (s.blk.term (gid 18 k)).serial = c.word 0 → k = 3) := by decide +kernel
theorem test_terminal_deactivate :
    let s := onTerm (fun x => { x with state := .active })
    let c := op 0x1000 8 [(5, 55), (1, 54)]
    takes Op.terminalDeactivate c s = true ∧ (s.blk.term (gid 0 5)).state ≠ .free ∧ Tab.wf {} s.blk.terms = true
    ∧ takes Op.terminalDeactivate c sv = true ∧ (sv.blk.term (gid 0 5)).state = .free := by decide +kernel
theorem test_skew_config : takes Op.skewConfig (op 0x1000 8 [(8, 21), (4, 16), (1, 6)]) sv = true := by decide +kernel

theorem test_gq_config :
    let c := op 0x5000 24 [(35635, 45), (1, 44), (8, 1), (4, 84), (10, 176)]
    let q := c.f 0 61 45
    let cfg : GeyCfg := { sv.blk.geyCfg with queues := Tab.set none sv.blk.geyCfg.queues q (some (queueCfgOf c)) }
    takes Op.gqConfig c sv = true ∧ q % 4 = 3 ∧ c.tenant = 0 ∧ sv.blk.geyOk cfg (queueTree q) = true
    ∧ takes Op.gqConfig { c with tenant := 2 } sv = true ∧ sv.blk.queueOwner q ≠ 2 := by decide +kernel
/-- Queue 35635 has an owner, its caps bound, and the caps are kept. -/
theorem test_gq_config_owner :
    let s := on (fun b => { b with
      host := { b.host with owners := [(0, { queue := Tab.set 0 [] 35635 2 })] },
      gey := { b.gey with cfg := [(0, { queues := Tab.set none [] 35635 (some {
        enable := true, lbLog2 := 0, ar := 0, weight := 8, maxRate := 5, maxBurst := 0, minGrant := 4, weightCap := 10, rateCap := 9 }) })] } })
    let c := by_ 2 0x5000 24 [(35635, 45), (1, 44), (9, 1), (6, 104), (4, 84), (10, 176), (9, 152)]
    let old := s.blk.geyCfg.queue 35635
    takes Op.gqConfig c s = true ∧ s.blk.queueOwner 35635 = 2
    ∧ queueCfgOf c = { old with weight := (queueCfgOf c).weight, maxRate := (queueCfgOf c).maxRate }
    ∧ (queueCfgOf c).weight ≤ old.weightCap ∧ (queueCfgOf c).maxRate ≠ 0 ∧ (queueCfgOf c).maxRate ≤ old.rateCap := by decide +kernel
theorem test_gq_no_space :
    let c := op 0x5000 24 [(2, 45), (1, 44), (16777215, 17), (8, 1), (4, 84), (10, 176)]
    let q := c.f 0 61 45
    let cfg : GeyCfg := { sv.blk.geyCfg with queues := Tab.set none sv.blk.geyCfg.queues q (some (queueCfgOf c)) }
    takes Op.gqConfig c sv = true ∧ c.tenant = 0 ∧ q % 4 = 2 ∧ sv.blk.geyOk cfg (queueTree q) = false := by decide +kernel
theorem test_gq_config_tree :
    let c := op 0x5000 8 [(1, 62), (5, 56), (928, 46), (81, 34), (1024, 22)]
    let cfg : GeyCfg := { sv.blk.geyCfg with trees := Tab.set {} sv.blk.geyCfg.trees 5 { planEff := 928, entryReserve := 81, poolMax := 1024 } }
    takes Op.gqConfigTree c sv = true ∧ c.tenant = 0 ∧ sv.blk.reserves cfg ≤ 32768 ∧ sv.blk.geyOk cfg 5 = true
    ∧ takes Op.gqConfigDevice (op 0x5000 8 [(2, 62), (192, 53), (9, 33)]) sv = true := by decide +kernel
theorem test_circuit_reserve :
    let c := op 0x5000 16 [(7, 50), (34940, 33), (490, 7), (20000, 111)]
    let q := c.f 0 49 33
    let cfg : GeyCfg := { sv.blk.geyCfg with resv := Tab.set none sv.blk.geyCfg.resv 7 (some {
      queue := q, periodLog2 := 0, phaseOff := 0, length := 490, rpt := false, offset := 20000 }) }
    let x := sv.blk.tree (queueTree q)
    takes Op.circuitReserve c sv = true ∧ c.b 1 46 = false ∧ c.f 1 63 47 = 20000 ∧ x.mode = .native
    ∧ Tab.get none sv.blk.geyCfg.resv 7 = none ∧ sv.blk.geyCfg.treeResv (queueTree q) = []
    ∧ offsetFree (phaseLen x.mode) (guardLen + 490) [] 20000 = true ∧ (cfg.treeResv (queueTree q)).length ≤ 512 ∧ cfg.resv.length ≤ 16384
    ∧ cfg.limitsOk x.mode (queueTree q) x.mapLead x.discNow.winPhase = true := by decide +kernel

/-- Reservation 7 exists. -/
def reserved : State := on (fun b => { b with gey := { b.gey with cfg := [(0, { resv := Tab.set none [] 7 (some {
  queue := 34940, periodLog2 := 0, phaseOff := 0, length := 490, rpt := false, offset := 20000 }) })] } })

/-- ANY: the place is the highest that is free. -/
theorem test_circuit_any :
    let c := op 0x5000 16 [(8, 50), (34940, 33), (490, 7), (1, 110)]
    let r := (reserved.blk.geyCfg.treeResv (queueTree 34940)).map Prod.snd
    takes Op.circuitReserve c reserved = true ∧ c.b 1 46 = true ∧ Tab.get none reserved.blk.geyCfg.resv 8 = none
    ∧ highestOffset (phaseLen .native) (guardLen + c.f 0 23 7) r = some (phaseLen .native - guardLen - 490) := by decide +kernel
/-- The same place again, in every phase: nothing fits there. -/
theorem test_circuit_no_place :
    let c := op 0x5000 16 [(8, 50), (34940, 33), (490, 7), (20000, 111)]
    let r := (reserved.blk.geyCfg.treeResv (queueTree 34940)).filter (fun r => patternsMeet (c.f 0 32 30) (c.f 0 29 24) r.2.periodLog2 r.2.phaseOff)
    takes Op.circuitReserve c reserved = true ∧ c.b 1 46 = false ∧ c.f 1 63 47 = 20000
    ∧ offsetFree (phaseLen .native) (guardLen + c.f 0 23 7) (r.map Prod.snd) 20000 = false := by decide +kernel
/-- A phase that its reservations fill has no room for a window. -/
theorem test_circuit_no_room :
    let c := op 0x5000 16 [(7, 50), (34940, 33), (84000, 7), (12504, 111)]
    let cfg : GeyCfg := { sv.blk.geyCfg with resv := Tab.set none sv.blk.geyCfg.resv 7 (some {
      queue := 34940, periodLog2 := 0, phaseOff := 0, length := 84000, rpt := false, offset := 12504 }) }
    let x := sv.blk.tree (queueTree 34940)
    takes Op.circuitReserve c sv = true ∧ offsetFree (phaseLen x.mode) (guardLen + 84000) [] 12504 = true
    ∧ cfg.limitsOk x.mode (queueTree 34940) x.mapLead x.discNow.winPhase = false := by decide +kernel
theorem test_circuit_release :
    (Tab.get none reserved.blk.geyCfg.resv 7).isSome = true
    ∧ takes Op.circuitReserve (op 0x5000 16 [(7, 50), (34940, 33), (490, 7), (20000, 111)]) reserved = true
    ∧ takes Op.circuitRelease (op 0x5000 8 [(7, 50)]) reserved = true
    ∧ takes Op.circuitRelease (op 0x5000 8 [(7, 50)]) sv = true ∧ Tab.get none sv.blk.geyCfg.resv 7 = none := by decide +kernel

/-- 256 bytes of a context that is VALID and nothing else. -/
def validCtx : List Byte := List.replicate 7 0 ++ [0x80] ++ List.replicate 248 0

theorem test_ep_write :
    let c := wide 256 validCtx (op 0x6000 8 [(1, 26), (1, 25), (1, 24)])
    let d := wide 256 validCtx (op 0x6000 8 [(1, 26), (1, 24)])
    takes Op.epWrite c sv = true ∧ c.b 0 25 = true ∧ takes Op.epWrite d sv = true ∧ d.b 0 25 = false
    ∧ mayAct c.tenant (sv.blk.endpointOwner (epRange c).1) = true ∧ sv.blk.pair.unsyncedFrom = none ∧ Tab.wf {} sv.blk.dir.ctxs = true
    ∧ sv.blk.dir.latent = [] ∧ sv.blk.dir.faults = [] ∧ sv.blk.dir.flowFaults = [] := by decide +kernel

/-- Endpoint 9 is valid, and carrier 40 of tree 0 carries messages. -/
def bindable : State :=
  on (fun b => { b with
    dir := { b.dir with ctxs := Tab.set {} [] 9 { valid := true } },
    sw := { b.sw with cfg := [(0, { carriers := Tab.set {} [] 40 { purpose := 2 } })] } })

theorem test_ep_bind :
    let c := op 0x6000 8 [(9, 39), (5, 24), (40, 8), (1, 7)]
    let d := op 0x6000 8 [(8, 39), (5, 24), (40, 8), (1, 7)]
    takes Op.epBind c bindable = true ∧ (Tab.get {} bindable.blk.dir.ctxs 9).valid = true
    ∧ (Tab.get {} bindable.blk.swCfg.carriers (5 / 512 * 65536 + 40)).purpose = 2 ∧ Tab.wf {} bindable.blk.dir.ctxs = true
    ∧ takes Op.epBind d bindable = true ∧ (Tab.get {} bindable.blk.dir.ctxs 8).valid = false ∧ bindable.blk.dir.latent = []
    ∧ takes Op.epUnbind (op 0x6000 8 [(1, 26)]) bindable = true := by decide +kernel
theorem test_aging_and_outage :
    takes Op.agingConfig (op 0x6000 8 [(1000, 32)]) sv = true ∧ takes Op.outageConfig (op 0x6000 8 [(1, 63), (100, 46)]) sv = true
    ∧ (op 0x6000 8 [(1000, 32)]).f 0 63 32 ≠ sv.blk.dir.ageT ∧ sv.blk.dir.ages.Pairwise (fun x y => y.1 < x.1)
    ∧ (onDir (fun d => { d with ages := [(0, 1000)] })).blk.dir.ageT = 1000
    ∧ sv.blk.dir.outEnable = false ∧ sv.blk.dir.events = [] ∧ takes Op.outageConfig (op 0x6000 8 [(100, 46)]) (onDir (fun d => { d with outEnable := true })) = true
    := by decide +kernel
theorem test_flow_write :
    let c := wide 64 (List.replicate 64 0) (op 0x1011 8 [(1114178, 42), (1, 29)])
    takes Op.flowWrite c sv = true ∧ c.b 0 28 = false ∧ sv.blk.flowsOwned c = true ∧ Tab.wf {} sv.blk.dir.flows = true
    ∧ takes Op.flowWrite { c with inl := c.inl + 2 ^ 28 } sv = true ∧ (sv.blk.cipherNow 1114178).mode = 0
    ∧ ((onCip (fun x => { x with cfg := [(0, Tab.set {} [] 1114178 { mode := 1, slot := 1 })] })).blk.cipherNow 1114178).mode ≠ 0 := by
  decide +kernel

theorem test_parse_node_write :
    let c := wide 64 (List.replicate 64 0) (op 0x7001 8 [(1, 49)])
    takes Op.parseNodeWrite c sv = true ∧ Tab.wf [] (sv.blk.clsCfg.side (sideOf c)).nodes = true := by decide +kernel
theorem test_rule_write :
    let c := wide 128 (List.replicate 128 0) (op 0x7001 8 [(32768, 48), (1, 39)])
    takes Op.ruleWrite c sv = true ∧ mayAct c.tenant (sv.blk.ruleOwner 32768) = true ∧ Tab.wf {} sv.blk.clsCfg.rules = true
    ∧ takes Op.ruleWrite { c with tenant := 3 } sv = true ∧ mayAct 3 (sv.blk.ruleOwner 32768) = false
    ∧ ruleDenied sv.blk 3 (ruleOf c.ext 0) = false := by decide +kernel
theorem test_hash_config :
    let c := op 0x7001 16 [(3, 60), (1082331758592, 12), (305419896, 96)]
    takes Op.hashConfig c sv = true ∧ Tab.wf {} (sv.blk.clsCfg.side (sideOf c)).hashes = true := by decide +kernel
theorem test_indirection_write :
    let c := wide 4 [0x80, 0x80, 0x80, 0x61] (op 0x7001 8 [(5, 58), (21, 49), (1, 39)])
    takes Op.indirectionWrite c sv = true ∧ Tab.wf 0 (sv.blk.clsCfg.side (sideOf c)).ind = true
    ∧ takes Op.exceptionConfig (op 0x7000 8 [(2, 39), (1, 31)]) sv = true := by decide +kernel
theorem test_port_config :
    takes Op.portConfigPort (op 0x2008 8 [(1, 60)]) sv = true ∧ Tab.get 0 sv.blk.sw.modes 1 ≠ 1
    ∧ takes Op.portConfigPort (op 0x2008 8 []) sv = true ∧ Tab.get 0 sv.blk.sw.modes 1 = 0
    ∧ Tab.wf 0 sv.blk.sw.modes = true ∧ Tab.wf {} sv.blk.sw.subs = true := by decide +kernel
theorem test_sub_port_config :
    takes Op.portConfigSubPort (op 0x2000 8 [(1, 62), (1, 61), (9216, 46)]) sv = true ∧ sv.blk.subFormed 0 = true
    ∧ takes Op.portConfigSubPort (op 0x2000 8 [(1, 62), (9216, 46)]) sv = true
    ∧ takes Op.portConfigSubPort (op 0x2001 8 [(1, 62), (9216, 46)]) sv = true ∧ sv.blk.subFormed 1 = false := by decide +kernel
theorem test_host_ring_config :
    takes Op.portConfigHost (op 0xE000 16 [(2, 62), (1, 54), (6, 49), (1, 41), (805306368, 64)]) sv = true ∧ Tab.wf {} sv.blk.sw.rings = true
    := by decide +kernel
theorem test_queue_config :
    takes Op.queueConfig (op 0x8000 8 [(3, 56), (1, 52), (4, 44)]) sv = true ∧ sv.blk.portBad 3 (fieldAt 0 56) = none
    ∧ takes Op.thresholdConfig (op 0x8000 8 [(6, 60), (10, 56)]) sv = true
    ∧ takes Op.mirrorConfigPort (op 0x3000 8 [(3, 55), (1, 54)]) sv = true
    ∧ takes Op.mirrorConfigEncap (op 0x3000 24 [(1, 63), (1, 62)]) sv = true
    ∧ takes Op.sampleConfig (op 0x8000 8 [(3, 56), (5, 31)]) sv = true := by decide +kernel
theorem test_carrier_map :
    takes Op.carrierMap (op 0x1000 8 [(256, 41), (2, 38)]) sv = true ∧ sv.blk.standardBars 256 2 = false
    ∧ takes Op.carrierMap (op 0x1000 8 [(256, 41), (2, 38)]) (onTree (fun x => { x with mode := .xgs })) = true
    ∧ (onTree (fun x => { x with mode := .xgs })).blk.standardBars 256 2 = true := by decide +kernel

/-- Carrier 40 of tree 0 carries Ethernet. -/
def ethernet : State := onSw (fun w => { w with cfg := [(0, { carriers := Tab.set {} [] 40 { purpose := 1 } })] })

theorem test_carrier_group :
    let c := wide 4 [40, 0, 0, 0] (op 0x8000 8 [(1, 63), (2, 53), (1, 46)])
    let d := wide 4 [40, 0, 0, 0] (op 0x8000 8 [(1, 63), (2, 53), (1, 46)])
    takes Op.carrierMapGroup c ethernet = true ∧ leNat ((c.ext.drop 0).take 4) = 40
    ∧ (Tab.get {} ethernet.blk.swCfg.carriers 40).purpose = 1
    ∧ takes Op.carrierMapGroup d sv = true ∧ (Tab.get {} sv.blk.swCfg.carriers 40).purpose ≠ 1 := by decide +kernel
theorem test_frer_config :
    takes Op.frerConfig (op 0x8000 8 [(1, 52), (1, 51), (1, 50), (8, 44)]) sv = true ∧ sv.blk.subFormed 8 = true
    ∧ takes Op.frerConfig (op 0x8000 8 [(1, 52)]) sv = true := by decide +kernel
theorem test_frame_inject :
    let c := wide 60 (List.replicate 60 0) (op 0x8000 8 [(60, 22)])
    takes Op.frameInject c sv = true ∧ c.f 0 63 61 = 0 ∧ sv.blk.subFormed 0 = true
    ∧ takes Op.frameInject { c with inl := at_ [(3, 61), (60, 22)] } sv = true
    ∧ takes Op.frameInject { c with inl := at_ [(5, 61), (60, 22)] } sv = true
    ∧ takes Op.frameInject { c with tenant := 4 } sv = true := by decide +kernel

/-- A key of ones, at word 5. -/
def key5 : Nat × Nat := (2 ^ 256 - 1, 320)

theorem test_key_load_endpoint :
    let c := op 0x9000 80 [(1, 61), (3, 29), (9, 103), (1048576, 128), (8, 192), key5]
    let d := op 0x9000 80 [(1, 61), (1, 60), (3, 29), (9, 103), (1048576, 128), (8, 192), key5]
    takes Op.keyLoadEndpoint c bindable = true ∧ c.b 0 60 = false ∧ mayAct c.tenant (bindable.blk.endpointOwner 9) = true
    ∧ (Tab.get {} bindable.blk.dir.ctxs 9).valid = true ∧ bindable.blk.dir.latent = [] ∧ bindable.blk.dir.faults = []
    ∧ takes Op.keyLoadEndpoint d bindable = true ∧ bindable.blk.loadedKey d = none ∧ (bindable.blk.loadOp d 0 9).2 = true
    ∧ (bindable.blk.loadedKey c).isSome = true ∧ (Tab.get {} bindable.blk.dir.ctxs 8).valid = false := by decide +kernel
/-- An unwrap that mismatches twice, under a load key. -/
theorem test_key_load_mismatch :
    let d := op 0x9000 80 [(1, 61), (1, 60), (3, 29), (9, 103), (1048576, 128), (8, 192), key5]
    let s := on (fun _ => { bindable.blk with cip := { bindable.blk.cip with
      loadKeys := Tab.set [] [] 0 [1], upsets := [(9, 0, true, true)] } })
    takes Op.keyLoadEndpoint d s = true ∧ (s.blk.loadOp d (cipherOfEp 9) 9).2 = false := by decide +kernel
theorem test_key_load_carrier :
    let c := op 0x9000 80 [(1, 62), (1, 61), (1, 27), (40, 106), key5]
    takes Op.keyLoadCarrier c ethernet = true ∧ c.b 0 60 = false ∧ ethernet.blk.slotActive 40 1 = false
    ∧ mayAct c.tenant (ethernet.blk.carrierOwner 40) = true ∧ (ethernet.blk.tree 0).mode = .native
    ∧ (ethernet.blk.loadOp c 0 40).2 = true ∧ (ethernet.blk.loadedKey c).isSome = true ∧ ethernet.blk.cip.upsets = []
    ∧ takes Op.keyLoadCarrier c (onTree (fun x => { x with mode := .xgs })) = true
    ∧ ((onTree (fun x => { x with mode := .xgs })).blk.tree 0).mode ≠ .native
    ∧ (onTree (fun x => { x with mode := .xgs })).blk.slotActive 40 1 = false := by decide +kernel

/-- Carrier 40 is ciphered under its slot 1. -/
def ciphered : State := { ethernet with blk := { ethernet.blk with
  cip := { ethernet.blk.cip with cfg := [(0, Tab.set {} [] 40 { mode := 1, slot := 1 })] } } }

theorem test_key_load_active :
    takes Op.keyLoadCarrier (op 0x9000 80 [(1, 62), (1, 61), (1, 27), (40, 106), key5]) ciphered = true
    ∧ ciphered.blk.slotActive 40 1 = true := by decide +kernel
theorem test_key_load_tenant :
    let c := op 0x9000 80 [(2, 62), (1, 61), (6, 121), key5]
    takes Op.keyLoadTenant c sv = true ∧ c.tenant = 0 ∧ c.b 0 60 = false ∧ (sv.blk.loadOp c 0 (c.f 1 63 57)).2 = true
    ∧ (sv.blk.loadedKey c).isSome = true
    ∧ takes Op.keyLoadTenant { c with tenant := 6 } sv = true := by decide +kernel
theorem test_key_retire :
    let c := op 0x9000 16 [(1, 62), (1, 60), (40, 106)]
    takes Op.keyRetire (op 0x9000 16 []) sv = true ∧ takes Op.keyRetire c ethernet = true ∧ c.f 0 63 62 ≠ 0
    ∧ ethernet.blk.slotActive 40 1 = false ∧ takes Op.keyRetire c ciphered = true ∧ ciphered.blk.slotActive 40 1 = true := by
  decide +kernel
theorem test_carrier_cipher :
    let c := op 0x9000 24 [(40, 42)]
    takes Op.carrierCipher c ethernet = true ∧ (Tab.get {} ethernet.blk.swCfg.carriers 40).purpose = 1 ∧ c.f 0 41 40 = 0
    ∧ c.word 1 = 0 ∧ c.word 2 = 0 ∧ Tab.get none (ethernet.blk.carrier 40).slots 0 = none
    ∧ takes Op.carrierCipher { c with tenant := 3 } ethernet = true ∧ mayAct 3 (ethernet.blk.carrierOwner 40) = false := by decide +kernel

/-- Slot 1 of carrier 40 holds a key. -/
def keyed : State := { ethernet with blk := { ethernet.blk with cip := { ethernet.blk.cip with
  carriers := Tab.set {} [] 40 { slots := Tab.set none [] 1 (some { wrapped := wrapped0, key256 := false, gen := 3 }) } } } }

theorem test_carrier_cipher_on :
    let c := op 0x9000 24 [(40, 42), (1, 40), (1, 38), (1048576, 64), (8, 128)]
    takes Op.carrierCipher c keyed = true ∧ c.f 0 39 38 = 1
    ∧ Tab.get none (keyed.blk.carrier 40).slots 1 = some { wrapped := wrapped0, key256 := false, gen := 3 }
    ∧ (keyed.blk.carrier 40).spent = [] ∧ (keyed.blk.cipherNow 40).mode = 0 ∧ c.word 1 = 2 ^ 20 ∧ c.word 2 = 8
    ∧ ((cipheredOn (Vers.cur [] keyed.blk.cip.cfg) 0).filter (· != 40)).length < 1024 := by decide +kernel
/-- Carrier 40 is ciphered under slot 1, of a tree in the given mode, where slot 1 is spent or not. -/
def switching (m : Mode) (spent : List Nat) : State :=
  on (fun _ => { (keyed.blk.updTree 0 (fun x => { x with mode := m })).updCarrier 40 (fun k => { k with spent := spent }) with
    cip := { ((keyed.blk.updCarrier 40 (fun k => { k with spent := spent })).cip) with
      cfg := [(0, Tab.set {} [] 40 { mode := 1, slot := 1 })] } })

theorem test_carrier_cipher_switch :
    let c := op 0x9000 24 [(40, 42), (1, 40), (1, 38)]
    let s := switching .native []
    takes Op.carrierCipher c s = true ∧ (s.blk.tree 0).mode = .native ∧ c.f 0 41 40 ≠ 0 ∧ c.f 0 39 38 = 1
    ∧ Tab.get none (s.blk.carrier 40).slots 1 = some { wrapped := wrapped0, key256 := false, gen := 3 }
    ∧ (s.blk.carrier 40).spent = [] ∧ (s.blk.cipherNow 40).mode ≠ 0 ∧ c.word 1 = 0 ∧ c.word 2 = 0
    ∧ takes Op.carrierCipher c (switching .native [1]) = true ∧ 1 ∈ ((switching .native [1]).blk.carrier 40).spent
    ∧ (Tab.get none ((switching .native [1]).blk.carrier 40).slots 1).isSome = true
    ∧ (Tab.get {} s.blk.swCfg.carriers 40).purpose = 1 := by decide +kernel
theorem test_carrier_cipher_standard :
    let c := op 0x9000 24 [(40, 42), (1, 40)]
    let s := switching .xgs []
    takes Op.carrierCipher c s = true ∧ (s.blk.tree 0).mode ≠ .native ∧ c.f 0 41 40 ≠ 2 ∧ c.f 0 39 38 = 0
    ∧ ((cipheredOn (Vers.cur [] s.blk.cip.cfg) 0).filter (· != 40)).length < 1024
    ∧ (Tab.get {} s.blk.swCfg.carriers 40).purpose = 1 := by decide +kernel
theorem test_check_config :
    let c := op 0x6000 8 [(16, 36), (3, 34)]
    takes Op.checkConfig c sv = true ∧ mayAct c.tenant (Tab.get 0 sv.blk.owners.block 0) = true
    ∧ takes Op.checkConfig { c with tenant := 3 } sv = true ∧ mayAct 3 (Tab.get 0 sv.blk.owners.block 0) = false := by decide +kernel
theorem test_check_restore :
    let c := wide 64 (List.replicate 16 0) (op 0x6000 8 [(1, 26)])
    takes Op.checkRestore c sv = true ∧ (epRange c).2 = 1 ∧ (Tab.get {} sv.blk.dir.ctxs 0).poly = bits (leWord c.ext 1) 46 44
    ∧ leWord c.ext 0 < 256 ^ checkWidth (Tab.get {} sv.blk.dir.ctxs 0).poly ∧ Tab.wf {} sv.blk.dir.ctxs = true := by decide +kernel

theorem test_time_config :
    let c := op 0xA000 8 [(1, 61), (24, 52), (1, 42), (1, 30), (1, 7)]
    let d := op 0xA000 8 [(1, 60), (254, 52), (1, 42), (1, 30), (1, 7)]
    let s := timed { src := 1 } id
    takes Op.timeConfigDevice c s = true ∧ c.f 0 60 60 = s.blk.timeCfg.profile ∧ c.f 0 62 61 = s.blk.timeCfg.src
    ∧ c.f 0 62 61 ≠ 0 ∧ takes Op.timeConfigDevice c sv = true ∧ c.f 0 62 61 ≠ sv.blk.timeCfg.src
    ∧ sv.blk.timeCfg.ports.any (fun p => p.2.role != 0) = false
    ∧ takes Op.timeConfigDevice d ptpPort = true ∧ d.f 0 60 60 ≠ ptpPort.blk.timeCfg.profile
    ∧ ptpPort.blk.timeCfg.ports.any (fun p => p.2.role != 0) = true
    ∧ takes Op.timeConfigTree (op 0xA000 8 [(1, 63), (4, 57), (3, 43)]) sv = true := by decide +kernel
theorem test_ptp_port_config :
    takes Op.ptpPortConfig (op 0x2001 8 [(1, 62), (1, 54)]) sv = true ∧ sv.blk.subFormed 1 = false
    ∧ takes Op.ptpPortConfig (op 0x2000 8 [(1, 62), (1, 54)]) sv = true ∧ sv.blk.subFormed 0 = true ∧ sv.blk.timeCfg.profile = 0
    ∧ takes Op.ptpPortConfig (op 0x2000 8 [(1, 62)]) sv = true ∧ (op 0x2000 8 [(1, 62)]).f 0 61 54 = 0
    ∧ (sv.blk.timeCfg.ports.filter (fun p => p.1 != 0 && p.2.role != 0)).length < 16 ∧ Tab.wf {} sv.blk.timeCfg.ports = true := by
  decide +kernel
theorem test_ptp_port_full :
    let s := on (fun b => { b with
      sw := { b.sw with modes := (List.range 3).foldl (fun t i => Tab.set 0 t i 2) [] },
      tim := { b.tim with cfg := [(0, { ports := (List.range 16).foldl (fun t i => Tab.set {} t (i + 1) { role := 1 }) [] })] } })
    takes Op.ptpPortConfig (op 0x2000 8 [(1, 62), (1, 54)]) s = true ∧ s.blk.subFormed 0 = true
    ∧ 16 ≤ (s.blk.timeCfg.ports.filter (fun p => p.1 != 0 && p.2.role != 0)).length := by decide +kernel
theorem test_step_time :
    takes Op.stepTime (op 0xA000 24 [(5, 64), (7, 160)]) sv = true
    ∧ takes Op.stepTime (op 0xA000 24 [(1, 62), (5, 64)]) sv = true
    ∧ 0 ≤ (sv.blk.tim.tod : Int) + signed ((op 0xA000 24 [(1, 62), (5, 64)]).word 1) 64 * 65536
    ∧ takes Op.stepTime (op 0xA000 24 [(2, 62)]) sv = true ∧ sv.blk.tim.sampled = none := by decide +kernel
theorem test_step_time_edges :
    let c := op 0xA000 24 [(1, 62), (2 ^ 64 - 1, 64)]
    let s := onTim (fun t => { t with sampled := some (-5), tod := 5 })
    takes Op.stepTime c sv = true ∧ (sv.blk.tim.tod : Int) + signed (c.word 1) 64 * 65536 + c.f 2 31 16 < 0
    ∧ takes Op.stepTime (op 0xA000 24 [(2, 62)]) s = true ∧ s.blk.tim.sampled = some (-5) ∧ 0 ≤ (s.blk.tim.tod : Int) + (-5) := by
  decide +kernel
theorem test_pps_config : takes Op.ppsConfig (op 0xA000 8 [(1, 63), (1, 40)]) sv = true := by decide +kernel
theorem test_synce_config :
    let c := op 0xA000 8 [(1, 57), (8, 51), (1, 50), (3, 30)]
    takes Op.synceConfig c sv = true ∧ (∀ x ∈ syncSources c, x.2 = true → sv.blk.subFormed x.1 = true) := by decide +kernel
theorem test_pair_config :
    let c := op 0xB000 40 [(1, 63), (90, 64)]
    takes Op.pairConfig c sv = true ∧ c.b 0 63 = true ∧ sv.blk.pair.role = .solo
    ∧ takes Op.pairConfig c (pair .alone id) = true ∧ (pair .alone id).blk.pair.role = .alone
    ∧ takes Op.pairConfig (op 0xB000 40 [(90, 64)]) (pair .alone id) = true
    ∧ takes Op.pairConfig (op 0xB000 40 [(90, 64)]) (pair .active id) = true ∧ (pair .active id).blk.pair.role = .active := by
  decide +kernel
theorem test_role_requests :
    let s := pair .active id
    s.blk.joined = true ∧ s.blk.pair.lockout = false ∧ takes (Op.roleRequest 0) (op 0xB000 8 []) s = true
    ∧ (pair .active (fun p => { p with lockout := true })).blk.pair.lockout = true
    ∧ takes (Op.roleRequest 0) (op 0xB000 8 []) (pair .active (fun p => { p with lockout := true })) = true
    ∧ takes (Op.roleRequest 1) (op 0xB000 8 [(1, 61)]) s = true ∧ takes (Op.roleRequest 2) (op 0xB000 8 [(2, 61)]) s = true
    ∧ takes (Op.roleRequest 3) (op 0xB000 8 [(3, 61)]) s = true ∧ takes (Op.roleRequest 4) (op 0xB000 8 [(4, 61)]) s = true
    ∧ s.blk.pair.wtrEnd = none ∧ (pair .standby (fun p => { p with wtrEnd := some 9 })).blk.pair.wtrEnd ≠ none
    ∧ takes (Op.roleRequest 4) (op 0xB000 8 [(4, 61)]) (pair .standby (fun p => { p with wtrEnd := some 9 })) = true
    ∧ takes (Op.roleRequest 2) (op 0xB000 8 [(2, 61)]) sv = true ∧ sv.blk.joined = false := by decide +kernel
theorem test_role_more :
    let c := { op 0xB000 8 [(3, 61)] with partner := true }
    takes (Op.roleRequest 3) c (pair .active id) = true ∧ c.partner = true
    ∧ (pair .standby (fun p => { p with wtrEnd := some 9 })).blk.prefWaits = false ∧ (pair .active id).blk.prefWaits = true
    ∧ takes (Op.roleRequest 0) (op 0xB000 8 []) sv = true ∧ takes (Op.roleRequest 1) (op 0xB000 8 [(1, 61)]) sv = true
    ∧ takes (Op.roleRequest 3) (op 0xB000 8 [(3, 61)]) sv = true ∧ takes (Op.roleRequest 4) (op 0xB000 8 [(4, 61)]) sv = true := by
  decide +kernel
theorem test_resync_start :
    takes Op.resyncStart (op 0xB000 0 []) (pair .isolated id) = true ∧ (pair .isolated id).blk.pair.role = .isolated
    ∧ (pair .isolated id).blk.pair.linkUp = true ∧ takes Op.resyncStart (op 0xB000 0 []) sv = true ∧ sv.blk.pair.role ≠ .isolated
    ∧ (pair .isolated (fun p => { p with linkUp := false })).blk.pair.linkUp = false
    ∧ takes Op.wtrConfig (op 0xB000 8 [(1, 63), (10, 51)]) sv = true := by decide +kernel
theorem test_handler_write :
    let c := wide 520 (List.replicate 520 0) (op 0xC000 8 [(20, 57), (1, 49)])
    takes Op.handlerWrite c sv = true ∧ Tab.wf resetHandler (Vers.cur [] sv.blk.tum.handlers) = true := by decide +kernel
theorem test_mgmt_config :
    let c := op 0x1000 8 [(1, 62), (1, 58), (2, 51)]
    takes Op.mgmtConfigTree c sv = true ∧ (sv.blk.tree 0).mode = .native ∧ c.f 0 60 58 = 1 ∧ c.f 0 54 51 = 2
    ∧ takes Op.mgmtConfigTree c (onTree (fun x => { x with mode := .xgs })) = true := by decide +kernel
theorem test_mgmt_send :
    let s := fun (m : Nat) => on (fun b => { b.updTerm (gid 0 5) (fun x => { x with state := .active }) with
      sw := { b.sw with cfg := [(0, { carriers := Tab.set {} [] 5 { purpose := 3 } })] },
      tum := { b.tum with mgmt := Tab.set {} [] 0 { maxOut := m } } })
    let c := fun (tci : Nat) => wide 8 (List.replicate 8 0) (op 0x1000 8 [(1, 63), (5, 54), (tci, 38)])
    takes Op.mgmtConfigSend (c 0) (s 1) = true ∧ takes Op.mgmtConfigSend (c 7) (s 1) = true
    ∧ takes Op.mgmtConfigSend (c 7) (s 0) = true ∧ ((s 1).blk.term (gid 0 5)).state = .active
    ∧ (Tab.get {} (s 1).blk.swCfg.carriers 5).purpose = 3 ∧ (s 1).blk.mgmtFull (gid 0 5) (c 7).ext = false
    ∧ (s 0).blk.mgmtFull (gid 0 5) (c 7).ext = true
    ∧ takes Op.mgmtConfigSend (c 7) sv = true ∧ (sv.blk.term (gid 0 5)).state ≠ .active := by decide +kernel

theorem test_tenant_assign :
    let c := op 0 12 [(2, 56), (3, 48), (22, 0), (1, 64)]
    takes (Op.tenantAssign sv.blk.sys.part) c sv = true
    ∧ takes (Op.tenantAssign sv.blk.sys.part) (op 0 12 [(3, 56), (3, 48), (22, 0), (1, 64)]) sv = true
    ∧ (op 0 12 [(3, 56), (3, 48), (22, 0), (1, 64)]).f 0 63 56 = 3
    ∧ sv.blk.dir.open_ = [] ∧ sv.blk.dir.events = [] ∧ sv.blk.tum.reports = [] ∧ Tab.wf 0 sv.blk.owners.carrier = true ∧ Tab.wf 0 sv.blk.owners.queue = true
    ∧ Tab.wf 0 sv.blk.owners.block = true ∧ Tab.wf 0 sv.blk.owners.rules = true := by decide +kernel
theorem test_counter_clear :
    let c := wide 16 [] (op 0xD000 16 [(0xC0, 56), (1, 40), (1, 96)])
    let d := wide 16 [] (op 0xD000 16 [(0x76, 56), (1, 40), (65, 8), (1, 96)])
    takes Op.counterClear c sv = true ∧ sv.blk.ctrRefused (ctrIn c) c.tenant = none ∧ takes Op.counterClear d sv = true
    ∧ (ctrIn d).allowed d.tenant = true ∧ sv.blk.portsUnformed (ctrIn d) = true ∧ Tab.wf {} sv.blk.tele.ctrs = true
    ∧ (ctrIn c).entries c = 1 ∧ sv.blk.noRead (ctrIn c) c.tenant ((ctrIn c).nth 0).1 = false
    ∧ takes Op.counterClear { c with tenant := 9 } sv = true ∧ (ctrIn c).allowed 9 = false := by decide +kernel
theorem test_vent_extend :
    takes Op.ventExtend (op 0xD000 16 []) sv = true ∧ sv.blk.tele.losses = []
    ∧ takes Op.ventExtend (op 0xD000 16 [(4096, 0), (1, 127), (12, 122)]) sv = true := by decide +kernel
theorem test_fault_config :
    takes Op.faultConfigSource (op 0xD000 8 [(4, 56), (1, 32), (2, 27)]) sv = true
    ∧ takes Op.faultConfigWear (op 0xD000 8 [(1000, 46)]) sv = true := by decide +kernel
theorem test_unit_retest :
    let c := op 0xD000 8 [(4, 56)]
    let s := on (fun b => b.setRole 4 0 .retired)
    takes Op.unitRetest c s = true ∧ s.blk.tele.role 4 0 = .retired ∧ takes Op.unitRetest c sv = true
    ∧ sv.blk.tele.role 4 0 ≠ .retired ∧ sv.blk.tele.role 4 0 ≠ .testing := by decide +kernel
theorem test_selftest_run :
    takes Op.selftestRun (op 0 8 [(1, 63)]) sv = true ∧ sv.blk.sys.forced = false ∧ (op 0 8 [(1, 63)]).b 0 63 = true ∧ takes Op.selftestRun (op 0 8 []) sv = true
    ∧ (inPhase .dormant).blk.sys.phase = .dormant ∧ (inPhase .dormant).blk.acceptCheck Op.selftestRun (op 0 8 []) = none := by
  decide +kernel

/-- A firmware image of eight bytes of code, zeros, and a signature of zeros. -/
def image0 : List Byte :=
  wordsLe ([0x4E505457 * 2 ^ 32 + 7, 8 * 2 ^ 32 + crc32c (List.replicate 8 0), 2 ^ 48 + 7 * 2 ^ 45] ++ List.replicate 5 0)
  ++ List.replicate 72 0

theorem fwLoad_bad (p : Part) (c : Cmd) (h : fwReason p c = 0) : (Op.fwLoad p).bad c = [] := by simp [Op.fwLoad, h]

/-- An image whose signature the public key verifies passes the checks; the key is the hardware's own (log 12). -/
theorem image0_passes (h : Config.signatureVerifies (image0.take 72) ((image0.drop 72).take 64) = true) :
    (Op.fwLoad .bvh6400).bad (wide 136 image0 (op 0 0 [])) = [] := by
  refine fwLoad_bad _ _ ?_
  have h1 : leWord image0 0 / 2 ^ 32 = 0x4E505457 := by decide +kernel
  have h2 : leWord image0 1 / 2 ^ 32 = 8 := by decide +kernel
  have h3 : crc32c ((image0.drop 64).take 8) = leWord image0 1 % 2 ^ 32 := by decide +kernel
  have h4 : bit (leWord image0 2) (45 + Part.maskBit .bvh6400) = true := by decide +kernel
  have h5 : ¬ cmdIfVersion < bits (leWord image0 2) 63 48 := by decide +kernel
  have h6 : extRoom (wide 136 image0 (op 0 0 [])) = 136 := by decide +kernel
  have h7 : (wide 136 image0 (op 0 0 [])).ext = image0 := rfl
  unfold fwReason
  simp only [h1, h2, h3, h4, h5, h6, h7, h]
  simp

/-- Such an image is taken in service and in Dormant. -/
theorem test_fw_load (h : Config.signatureVerifies (image0.take 72) ((image0.drop 72).take 64) = true) :
    sv.Takes (Op.fwLoad sv.blk.sys.part) (wide 136 image0 (op 0 0 []))
    ∧ (inPhase .dormant).blk.sys.phase = .dormant
    ∧ (inPhase .dormant).blk.acceptCheck (Op.fwLoad .bvh6400) (wide 136 image0 (op 0 0 [])) = none := by
  have hb := image0_passes h
  refine ⟨⟨by decide +kernel, ?_⟩, by decide +kernel, ?_⟩
  · rw [show sv.blk.sys.part = .bvh6400 from rfl, Blk.acceptCheck, Op.firstBad, hb]
    decide +kernel
  · rw [Blk.acceptCheck, Op.firstBad, hb]
    decide +kernel

end Sys2Proof.Tests
end

/-! PROOFS. What a command does to the clock and to the part, said once for every command; and when the frame of a unit's effect
(`Blk.within`) leaves that effect whole. -/
namespace Sys2Proof.Machine

/-! ### Effects that lie inside a unit's frame -/

/-- b' agrees with b in all that `Blk.within` holds: CUR_EPOCH, the frame counter, the part, the straps and the phase. -/
structure Blk.Inside (b b' : Blk) : Prop where
  epoch : b'.clk.epoch = b.clk.epoch
  fc : b'.clk.fc = b.clk.fc
  part : b'.sys.part = b.sys.part
  rev : b'.sys.rev = b.sys.rev
  straps : b'.sys.straps = b.sys.straps
  phase : b'.sys.phase = b.sys.phase

theorem Blk.Inside.rfl' (b : Blk) : b.Inside b := ⟨rfl, rfl, rfl, rfl, rfl, rfl⟩

theorem Blk.Inside.trans {a b c : Blk} (h : a.Inside b) (k : b.Inside c) : a.Inside c :=
  ⟨k.epoch.trans h.epoch, k.fc.trans h.fc, k.part.trans h.part, k.rev.trans h.rev, k.straps.trans h.straps,
    k.phase.trans h.phase⟩

/-- What touches neither the clock nor the device registers lies inside the frame. -/
theorem Blk.Inside.of_eq {b b' : Blk} (hc : b'.clk = b.clk) (hs : b'.sys = b.sys) : b.Inside b' := by
  constructor <;> simp only [hc, hs]

theorem Blk.Noted.inside {b b' : Blk} (h : b.Noted b') : b.Inside b' := .of_eq h.clk_eq h.sys_eq

theorem Blk.inside_faultEvent (b : Blk) (kind index : Nat) : b.Inside (b.faultEvent kind index) :=
  .of_eq (b.faultEvent_clk kind index) (b.faultEvent_sys kind index)

theorem Blk.inside_foldl {α : Type} (f : Blk → α → Blk) (h : ∀ b x, Blk.Inside b (f b x)) (l : List α) (b : Blk) :
    b.Inside (l.foldl f b) := by
  induction l generalizing b with
  | nil => exact .rfl' b
  | cons x r ih => exact (h b x).trans (ih (f b x))

/-- The frame leaves an effect that lies inside it whole. -/
theorem Blk.Inside.within_eq {b after : Blk} (h : b.Inside after) : b.within after = after := by
  unfold Blk.within Blk.timed
  rw [← h.epoch, ← h.fc, ← h.part, ← h.rev, ← h.straps, ← h.phase]

/-- A unit whose effect lies inside its frame. -/
theorem State.unit_to {s : State} {f : Blk → Blk} (b : Blk) (hf : f s.blk = b) (hin : s.blk.Inside b) :
    s.unit f = .next (s.put b) := by
  subst hf
  rw [State.unit_eq, hin.within_eq, State.put]

/-- A service row in service, whose effect lies inside its frame. -/
theorem State.svc_to {s : State} {f : Blk → Blk} (b : Blk) (h : s.blk.sys.phase = .service) (hf : f s.blk = b)
    (hin : s.blk.Inside b) : s.svc f = .next (s.put b) := by
  subst hf
  rw [State.svc_eq s f h, hin.within_eq, State.put]

/-- A row of the epoch sequencer while it runs, whose effect lies inside its frame. -/
theorem State.alive_to {s : State} {f : Blk → Blk} (b : Blk) (h : s.blk.sys.phase.paced = true) (hf : f s.blk = b)
    (hin : s.blk.Inside b) : s.alive f = .next (s.put b) := by
  subst hf
  rw [State.alive_eq s f h, hin.within_eq, State.put]

/-- A unit that finds nothing to do. -/
theorem State.unit_idle {s : State} {f : Blk → Blk} (hf : f s.blk = s.blk) : s.unit f = .next s :=
  State.unit_to s.blk hf (.rfl' _)

/-- A service row that finds nothing to do, in any phase. -/
theorem State.svc_idle {s : State} {f : Blk → Blk} (hf : f s.blk = s.blk) : s.svc f = .next s := by
  by_cases h : s.blk.sys.phase = .service
  · exact State.svc_to s.blk h hf (.rfl' _)
  · exact State.svc_out s f h

/-- A row of the epoch sequencer that finds nothing to do, in any phase. -/
theorem State.alive_idle {s : State} {f : Blk → Blk} (hf : f s.blk = s.blk) : s.alive f = .next s := by
  by_cases h : s.blk.sys.phase.paced = true
  · exact State.alive_to s.blk h hf (.rfl' _)
  · exact State.alive_out s f (by simpa using h)

/-! ### What a command does to the clock (R17, R19, R419, R491, R503) -/

/-- The ways in which a command can leave the epoch number and the frame counter. -/
inductive ClockMove (i : Instr) (b b' : Blk) : Prop where
  /-- Neither moves. -/
  | stays (he : b'.clk.epoch = b.clk.epoch) (hf : b'.clk.fc = b.clk.fc)
  /-- A start from cold. -/
  | cold (hi : movesEpoch i = true) (he : b'.clk.epoch = 0) (hf : b'.clk.fc = 0)
  /-- The boundary. -/
  | boundary (hi : movesEpoch i = true) (he : b'.clk.epoch = b.clk.epoch + 1) (hf : b'.clk.fc = 8 * (b.clk.epoch + 1))
  /-- A frame tick within the epoch. -/
  | tick (hi : movesFrame i = true) (hin : b.clk.fc / 8 = b.clk.epoch) (he : b'.clk.epoch = b.clk.epoch)
      (hf : b'.clk.fc = b.clk.fc + 1)
  /-- The end of a warm start: the counter stands at the epoch's end. -/
  | warm (hi : movesFrame i = true) (he : b'.clk.epoch = b.clk.epoch) (hf : b'.clk.fc = 8 * (b.clk.epoch + 1))
  /-- The partner's numbers. -/
  | adopted (hello : Sys2Proof.Hello) (mac kek : List Byte) (hi : i = .joinHandshake hello mac kek)
      (he : b'.clk.epoch = hello.epoch) (hf : b'.clk.fc = hello.fc)

/-- What every command does to the clock and the part. -/
structure Paces (i : Instr) (b b' : Blk) : Prop where
  clock : ClockMove i b b'
  part : b'.sys.part = b.sys.part
  rev : b'.sys.rev = b.sys.rev

theorem Paces.same (i : Instr) (b : Blk) : Paces i b b := ⟨.stays rfl rfl, rfl, rfl⟩

theorem Paces.timed (i : Instr) (b after : Blk) : Paces i b (b.timed after) := ⟨.stays rfl rfl, rfl, rfl⟩

theorem Paces.within (i : Instr) (b after : Blk) : Paces i b (b.within after) := ⟨.stays rfl rfl, rfl, rfl⟩

theorem Paces.cold (i : Instr) (b : Blk) (phase : Phase) (kind : Nat) (hi : movesEpoch i = true) :
    Paces i b (b.cold phase kind) := ⟨.cold hi rfl rfl, rfl, rfl⟩

theorem Paces.boundary (i : Instr) (b after : Blk) (hi : movesEpoch i = true) :
    Paces i b ((b.timed after).at (b.clk.epoch + 1) (8 * (b.clk.epoch + 1))) := ⟨.boundary hi rfl rfl, rfl, rfl⟩

/-- The commands that are neither a unit's nor a token of the sequencer. -/
theorem raw_cases (i : Instr) (h : (movesPhase i || movesFrame i) = true) :
    i = .powerOn ∨ i = .powerDown ∨ (∃ n, i = .pinReset n) ∨ (∃ x, i = .resetRelease x) ∨ (∃ x, i = .undervoltageRelease x)
    ∨ (∃ r, i = .railUndervoltage r) ∨ (∃ t l, i = .selftestTestDone t l) ∨ (∃ l n, i = .warmStartComplete l n)
    ∨ (∃ r, i = .refclkLoss r) ∨ i = .epochCommit ∨ (∃ c, i = .selftestRun c) ∨ (∃ x, i = .downstreamFrame x)
    ∨ (∃ h m k, i = .joinHandshake h m k) := by
  cases i <;> simp_all [movesPhase, movesFrame, movesEpoch]

theorem powerOn_paces (s : State) : ∃ b, exec .powerOn s = .next (s.put b) ∧ Paces .powerOn s.blk b :=
  ⟨_, rfl, .cold rfl rfl rfl, rfl, rfl⟩

theorem powerDown_paces (s : State) : ∃ b, exec .powerDown s = .next (s.put b) ∧ Paces .powerDown s.blk b :=
  ⟨_, rfl, .cold _ _ _ _ rfl⟩

theorem pinReset_paces (n : Nat) (s : State) : ∃ b, exec (.pinReset n) s = .next (s.put b) ∧ Paces (.pinReset n) s.blk b := by
  refine ⟨_, rfl, ?_⟩
  dsimp only
  split
  · exact .same _ _
  · exact .cold _ _ _ _ rfl

theorem resetRelease_paces (x : Straps) (s : State) :
    ∃ b, exec (.resetRelease x) s = .next (s.put b) ∧ Paces (.resetRelease x) s.blk b := by
  refine ⟨_, rfl, ?_⟩
  dsimp only
  split
  · exact ⟨.stays rfl rfl, rfl, rfl⟩
  · exact .same _ _

theorem undervoltageRelease_paces (x : Straps) (s : State) :
    ∃ b, exec (.undervoltageRelease x) s = .next (s.put b) ∧ Paces (.undervoltageRelease x) s.blk b := by
  refine ⟨_, rfl, ?_⟩
  dsimp only
  split
  · exact ⟨.stays rfl rfl, rfl, rfl⟩
  · exact .same _ _

theorem railUndervoltage_paces (r : Rail) (s : State) :
    ∃ b, exec (.railUndervoltage r) s = .next (s.put b) ∧ Paces (.railUndervoltage r) s.blk b := by
  refine ⟨_, rfl, ?_⟩
  dsimp only
  split
  · exact .same _ _
  · exact ⟨.cold rfl rfl rfl, rfl, rfl⟩

theorem selftestTestDone_paces (t : Nat) (l : List Nat) (s : State) :
    ∃ b, exec (.selftestTestDone t l) s = .next (s.put b) ∧ Paces (.selftestTestDone t l) s.blk b := by
  refine ⟨_, rfl, ?_⟩
  dsimp only
  split
  · exact .same _ _
  · split
    · exact .cold _ _ _ _ rfl
    · exact .timed _ _ _

theorem warmStartComplete_paces (l : List (Nat × Nat)) (n : Nat) (s : State) :
    ∃ b, exec (.warmStartComplete l n) s = .next (s.put b) ∧ Paces (.warmStartComplete l n) s.blk b := by
  refine ⟨_, rfl, ?_⟩
  dsimp only
  split
  · split
    · exact ⟨.warm rfl rfl rfl, rfl, rfl⟩
    · exact ⟨.stays rfl rfl, rfl, rfl⟩
  · exact .same _ _

theorem epochCommit_paces (s : State) : ∃ b, exec .epochCommit s = .next (s.put b) ∧ Paces .epochCommit s.blk b := by
  refine ⟨_, rfl, ?_⟩
  dsimp only
  split
  · split
    · exact .boundary _ _ _ rfl
    · exact .same _ _
  · split
    · exact .boundary _ _ _ rfl
    · exact .same _ _

theorem downstreamFrame_paces (x : TickFacts) (s : State) :
    ∃ b, exec (.downstreamFrame x) s = .next (s.put b) ∧ Paces (.downstreamFrame x) s.blk b := by
  refine ⟨_, rfl, ?_⟩
  dsimp only
  split
  next h => exact ⟨.tick rfl h.2 rfl rfl, rfl, rfl⟩
  next => exact .same _ _

theorem joinHandshake_paces (x : Sys2Proof.Hello) (mac kek : List Byte) (s : State) :
    ∃ b, exec (.joinHandshake x mac kek) s = .next (s.put b) ∧ Paces (.joinHandshake x mac kek) s.blk b := by
  refine ⟨_, rfl, ?_⟩
  dsimp only
  split
  · split
    · exact ⟨.adopted x mac kek rfl rfl rfl, rfl, rfl⟩
    · exact .within _ _ _
  · exact .same _ _

/-- Every command answers a next state with the queue as it was, and moves the clock in one of the ways of `ClockMove`. -/
theorem exec_paces (i : Instr) (s : State) : ∃ b, exec i s = .next (s.put b) ∧ Paces i s.blk b := by
  cases shape i s with
  | unit f h => exact ⟨_, h.trans (State.unit_eq s f), .within _ _ _⟩
  | svc f h =>
    by_cases hp : s.blk.sys.phase = .service
    · exact ⟨_, h.trans (State.svc_eq s f hp), .within _ _ _⟩
    · exact ⟨_, h.trans (State.svc_out s f hp), .same _ _⟩
  | alive f h =>
    by_cases hp : s.blk.sys.phase.paced = true
    · exact ⟨_, h.trans (State.alive_eq s f hp), .within _ _ _⟩
    · exact ⟨_, h.trans (State.alive_out s f (by simpa using hp)), .same _ _⟩
  | raw h =>
    rcases raw_cases i h with rfl | rfl | ⟨n, rfl⟩ | ⟨x, rfl⟩ | ⟨x, rfl⟩ | ⟨r, rfl⟩ | ⟨t, l, rfl⟩ | ⟨l, n, rfl⟩ | ⟨r, rfl⟩ | rfl |
      ⟨c, rfl⟩ | ⟨x, rfl⟩ | ⟨x, mac, kek, rfl⟩
    · exact powerOn_paces s
    · exact powerDown_paces s
    · exact pinReset_paces n s
    · exact resetRelease_paces x s
    · exact undervoltageRelease_paces x s
    · exact railUndervoltage_paces r s
    · exact selftestTestDone_paces t l s
    · exact warmStartComplete_paces l n s
    · exact ⟨_, rfl, .timed _ _ _⟩
    · exact epochCommit_paces s
    · exact ⟨_, selftestRun_shape c s, .timed _ _ _⟩
    · exact downstreamFrame_paces x s
    · exact joinHandshake_paces x mac kek s

theorem exec_next_paces {i : Instr} {s t : State} (h : exec i s = .next t) : t.pending = s.pending ∧ Paces i s.blk t.blk := by
  obtain ⟨b, hb, hp⟩ := exec_paces i s
  obtain rfl : s.put b = t := by simpa using hb.symm.trans h
  exact ⟨rfl, hp⟩

/-! ### The clock numbers agree (R17, R20) -/

theorem Blk.clockOk_iff (b : Blk) : b.clockOk = true ↔ 8 * b.clk.epoch ≤ b.clk.fc ∧ b.clk.fc ≤ 8 * b.clk.epoch + 8 := by
  simp [Blk.clockOk]

/-- A handshake that is well formed brings numbers that agree. -/
theorem Hello.clock_of_wf {x : Sys2Proof.Hello} {mac kek : List Byte} (h : (Instr.joinHandshake x mac kek).wf = true) :
    8 * x.epoch ≤ x.fc ∧ x.fc ≤ 8 * x.epoch + 8 := by
  simp only [Instr.wf, Sys2Proof.Hello.wf, Bool.and_eq_true, decide_eq_true_eq] at h
  omega

/-- A well-formed command keeps the clock numbers in agreement. -/
theorem ClockMove.clockOk {i : Instr} {b b' : Blk} (h : ClockMove i b b') (hw : i.wf = true) (hb : b.clockOk = true) :
    b'.clockOk = true := by
  rw [Blk.clockOk_iff] at hb ⊢
  cases h with
  | stays he hf => rwa [he, hf]
  | cold _ he hf => rw [he, hf]; omega
  | boundary _ he hf => rw [he, hf]; omega
  | tick _ hin he hf => rw [he, hf]; omega
  | warm _ he hf => rw [he, hf]; omega
  | adopted x mac kek hi he hf =>
    subst hi
    rw [he, hf]
    exact Hello.clock_of_wf hw

theorem step_nil (b : Blk) : step { blk := b, pending := [] } = .next { blk := b, pending := [] } := rfl

theorem step_cons (c : Instr) (rest : List Instr) (b : Blk) :
    step { blk := b, pending := c :: rest } = exec c { blk := b, pending := rest } := rfl

/-- Settles O6, from what every command does to the clock. -/
theorem everyStepKeepsSafe : Obligations.EveryStepKeepsSafe := by
  unfold Obligations.EveryStepKeepsSafe
  rintro ⟨b, pending⟩ t ⟨hb, hq⟩ h
  cases pending with
  | nil =>
    rw [step_nil] at h
    cases h
    exact ⟨hb, hq⟩
  | cons c rest =>
    rw [step_cons] at h
    obtain ⟨hpend, hmove⟩ := exec_next_paces h
    obtain ⟨hc, hrest⟩ : c.wf = true ∧ rest.all Instr.wf = true := by simpa using hq
    exact ⟨hmove.clock.clockOk hc hb, hpend ▸ hrest⟩

theorem movesFrame_of_movesEpoch {i : Instr} (h : movesEpoch i = true) : movesFrame i = true := by
  unfold movesFrame
  split
  · rfl
  · rfl
  · exact h

/-- The epoch number moves by the commands of `movesEpoch` alone. -/
theorem ClockMove.epoch_eq {i : Instr} {b b' : Blk} (h : ClockMove i b b') (hi : movesEpoch i = false) :
    b'.clk.epoch = b.clk.epoch := by
  cases h with
  | stays he _ => exact he
  | cold hc => simp [hc] at hi
  | boundary hc => simp [hc] at hi
  | tick _ _ he => exact he
  | warm _ he => exact he
  | adopted x mac kek hj => subst hj; cases hi

/-- The frame counter moves by the commands of `movesFrame` alone. -/
theorem ClockMove.fc_eq {i : Instr} {b b' : Blk} (h : ClockMove i b b') (hi : movesFrame i = false) :
    b'.clk.fc = b.clk.fc := by
  cases h with
  | stays _ hf => exact hf
  | cold hc => simp [movesFrame_of_movesEpoch hc] at hi
  | boundary hc => simp [movesFrame_of_movesEpoch hc] at hi
  | tick hc => simp [hc] at hi
  | warm hc => simp [hc] at hi
  | adopted x mac kek hj => subst hj; cases hi

/-- Settles O7: the commands that move the clock are those that `movesEpoch` and `movesFrame` name. -/
theorem onlyTheClockMovesTheClock : Obligations.OnlyTheClockMovesTheClock := by
  unfold Obligations.OnlyTheClockMovesTheClock
  intro i s t h
  obtain ⟨-, hclock, hpart, hrev⟩ := exec_next_paces h
  exact ⟨hclock.epoch_eq, hclock.fc_eq, hpart, hrev⟩

/-! ### EPOCH_COMMIT (R17, R19, R501) -/

theorem epochCommit_service (s : State) (hp : s.blk.sys.phase = .service) (hf : s.blk.clk.fc = 8 * (s.blk.clk.epoch + 1)) :
    exec .epochCommit s = .next (s.put ((s.blk.timed (s.blk.commitService (s.blk.clk.epoch + 1))).at (s.blk.clk.epoch + 1)
      (8 * (s.blk.clk.epoch + 1)))) := by
  rw [show exec .epochCommit s = execEpochCommit s from rfl, execEpochCommit, State.run_eq, if_pos hp, if_pos hf, State.put]

theorem epochCommit_early (s : State) (hp : s.blk.sys.phase = .service) (hf : s.blk.clk.fc ≠ 8 * (s.blk.clk.epoch + 1)) :
    exec .epochCommit s = .next s := by
  rw [show exec .epochCommit s = execEpochCommit s from rfl, execEpochCommit, State.run_eq, if_pos hp, if_neg hf]

theorem epochCommit_dormant (s : State) (hp : s.blk.sys.phase ≠ .service) (hpaced : s.blk.sys.phase.paced = true) :
    exec .epochCommit s = .next (s.put ((s.blk.timed (s.blk.commitDormant (s.blk.clk.epoch + 1))).at (s.blk.clk.epoch + 1)
      (8 * (s.blk.clk.epoch + 1)))) := by
  rw [show exec .epochCommit s = execEpochCommit s from rfl, execEpochCommit, State.run_eq, if_neg hp, if_pos hpaced, State.put]

theorem epochCommit_unpaced (s : State) (hp : s.blk.sys.phase ≠ .service) (hpaced : s.blk.sys.phase.paced = false) :
    exec .epochCommit s = .next s := by
  rw [show exec .epochCommit s = execEpochCommit s from rfl, execEpochCommit, State.run_eq, if_neg hp, if_neg (by simp [hpaced])]

/-- Settles O8: `Blk.at` sets both numbers whatever else the boundary does. -/
theorem commitBeginsTheNextEpoch : Obligations.CommitBeginsTheNextEpoch := by
  unfold Obligations.CommitBeginsTheNextEpoch
  refine ⟨fun s hp hf => ?_, fun s hp => ?_, epochCommit_early, fun s hp => ?_⟩
  · exact ⟨_, epochCommit_service s hp hf, rfl, rfl, hf.symm⟩
  · have hd : s.blk.sys.phase ≠ .service ∧ s.blk.sys.phase.paced = true := by
      rcases hp with hp | hp <;> simp [hp, Phase.paced]
    exact ⟨_, epochCommit_dormant s hd.1 hd.2, rfl, rfl, rfl⟩
  · have hd : s.blk.sys.phase ≠ .service ∧ s.blk.sys.phase.paced = false := by
      rcases hp with hp | hp | hp <;> simp [hp, Phase.paced]
    exact epochCommit_unpaced s hd.1 hd.2

/-- Settles O1. -/
theorem stepRunsTheFrontCommand : Obligations.StepRunsTheFrontCommand := step_cons

/-- Settles O2. -/
theorem emptyQueueIdles : Obligations.EmptyQueueIdles := step_nil

/-- Settles O5: both clock numbers are 0 and nothing waits. -/
theorem resetIsSafe : Obligations.ResetIsSafe := ⟨rfl, rfl⟩

end Sys2Proof.Machine

/-! PROOFS. Opcode commands that complete, versions, the fetch of a command, the tokens, frames and the markers of phases. -/
namespace Sys2Proof

/-! ### Versions (R24, R26, R29) -/

theorem Vers.at_of_le {α : Type} (d : α) (e : Nat) (x : α) (v : Vers α) (n : Nat) (h : e ≤ n) : Vers.at d ((e, x) :: v) n = x := by
  cases v with
  | nil => rfl
  | cons y r => simp [Vers.at, h]

/-- A later version is passed over for an epoch before it. -/
theorem Vers.at_of_lt {α : Type} (d : α) (e : Nat) (x : α) (y : Nat × α) (v : Vers α) (n : Nat) (h : n < e) :
    Vers.at d ((e, x) :: y :: v) n = Vers.at d (y :: v) n := by
  simp [Vers.at, Nat.not_le.mpr h]

/-- A write at the epoch that began the current version changes that version. -/
theorem Vers.write_same {α : Type} (d : α) (e : Nat) (x : α) (v : Vers α) (f : α → α) :
    Vers.write d ((e, x) :: v) e f = (e, f x) :: v := by simp [Vers.write]

/-- A write at a later epoch begins a version. -/
theorem Vers.write_later {α : Type} (d : α) (e : Nat) (x : α) (v : Vers α) (n : Nat) (f : α → α) (h : e < n) :
    Vers.write d ((e, x) :: v) n f = (n, f x) :: (e, x) :: v := by simp [Vers.write, Nat.ne_of_lt h]

theorem Vers.cur_retire {α : Type} (d : α) (m : Nat) (x : Nat × α) (v : Vers α) :
    Vers.cur d (Vers.retire m (x :: v)) = x.2 := by
  cases v with
  | nil => rfl
  | cons y r =>
    simp only [Vers.retire]
    split <;> rfl

/-- Two versions at a boundary: the older one goes once the newer began three epochs before. -/
theorem Vers.mem_retire_pair {α : Type} (m : Nat) (x y : Nat × α) :
    y ∈ Vers.retire m [x, y] ↔ m < x.1 + 3 ∨ y = x := by
  simp only [Vers.retire]
  split
  next h => simp [Nat.not_lt.mpr h]
  next h => simp [Nat.not_le.mp h]

/-- Settles O22, by the place that a write takes in the list of versions. -/
theorem versionsKeepEarlierEpochs : Obligations.VersionsKeepEarlierEpochs := by
  unfold Obligations.VersionsKeepEarlierEpochs
  intro α d v f e x n hen
  refine ⟨fun m hm => ?_, fun m hlt hm => ?_, fun m => Vers.cur_retire d m (e, x) v, fun m k y hv he => ?_⟩
  · rcases Nat.eq_or_lt_of_le hen with rfl | hlt
    · rw [Vers.write_same, Vers.at_of_le d e (f x) v m hm]
    · rw [Vers.write_later d e x v n f hlt, Vers.at_of_le d n (f x) _ m hm]
  · rw [Vers.write_later d e x v n f hlt, Vers.at_of_lt d n (f x) (e, x) v m hm]
  · subst hv
    rw [Vers.mem_retire_pair, show e - 1 + 4 = e + 3 by omega]

/-! ### Sparse tables as lists -/

theorem Tab.get_of_mem {α : Type} [DecidableEq α] (d : α) (t : Tab α) (k : Nat) (v : α) (hw : Tab.wf d t = true)
    (h : (k, v) ∈ t) : Tab.get d t k = v := by
  induction t with
  | nil => cases h
  | cons x r ih =>
    obtain ⟨j, w⟩ := x
    obtain ⟨-, ha, hr⟩ := (Tab.wf_cons d j w r).mp hw
    rcases List.mem_cons.mp h with heq | hmem
    · cases heq; simp [Tab.get]
    · rw [Tab.get, if_neg (Nat.ne_of_lt (ha _ hmem)), ih hr hmem]

/-- What reads otherwise than the default is listed. -/
theorem Tab.mem_of_get_ne {α : Type} (d : α) (t : Tab α) (k : Nat) (h : Tab.get d t k ≠ d) : (k, Tab.get d t k) ∈ t := by
  induction t with
  | nil => exact absurd rfl h
  | cons x r ih =>
    obtain ⟨j, w⟩ := x
    by_cases hj : j = k
    · subst hj; simp [Tab.get]
    · simp only [Tab.get, if_neg hj] at h ⊢
      exact List.mem_cons_of_mem _ (ih h)

/-- The keys of a canonical table rise. -/
theorem Tab.keys_rise {α : Type} [DecidableEq α] (d : α) (t : Tab α) (h : Tab.wf d t = true) :
    (t.map Prod.fst).Pairwise (· < ·) := by
  induction t with
  | nil => exact .nil
  | cons x r ih =>
    obtain ⟨-, ha, hr⟩ := (Tab.wf_cons d x.1 x.2 r).mp h
    refine List.pairwise_cons.mpr ⟨fun k hk => ?_, ih hr⟩
    obtain ⟨y, hy, rfl⟩ := List.mem_map.mp hk
    exact ha y hy

end Sys2Proof

namespace Sys2Proof.Machine

/-! ### An opcode command that completes (R31, R55, R56) -/

/-- Settles O14: an opcode row's meaning is its checks and its application, both of which pass. -/
theorem opcodeCommandCompletes : Obligations.OpcodeCommandCompletes := by
  unfold Obligations.OpcodeCommandCompletes
  rintro i r s hrow ⟨hphase, hcheck⟩ hm hok
  rw [opcode_shape i r s hrow hm, State.opcode_eq, Blk.runOp_accepted _ _ _ _ (.inl hphase) hcheck,
    Blk.applyOp_ok _ _ _ _ _ hok]
  rfl

/-! ### The turn of the rings (R45) -/

/-- The keys of the rings that give a command. -/
def Blk.readyKeys (b : Blk) : List Nat := (b.host.rings.filter (fun x => x.2.ready)).map Prod.fst

theorem Blk.nextRing_eq (b : Blk) :
    b.nextRing = (b.readyKeys.find? (fun k => decide (b.host.turn < k))).or b.readyKeys.head? := rfl

theorem Blk.mem_readyKeys (b : Blk) (k : Nat) : k ∈ b.readyKeys ↔ ∃ x ∈ b.host.rings, x.2.ready = true ∧ x.1 = k := by
  simp [Blk.readyKeys, and_assoc]

/-- Where every ring that is ready is one ring, its turn has come. -/
theorem Blk.nextRing_only (b : Blk) (j : Nat) (hall : ∀ x ∈ b.host.rings, x.2.ready = true → x.1 = j)
    (hex : ∃ x ∈ b.host.rings, x.2.ready = true) : b.nextRing = some j := by
  have hkeys : ∀ k ∈ b.readyKeys, k = j := by
    intro k hk
    obtain ⟨x, hx, hr, rfl⟩ := (b.mem_readyKeys k).mp hk
    exact hall x hx hr
  obtain ⟨x, hx, hr⟩ := hex
  have hmem : x.1 ∈ b.readyKeys := (b.mem_readyKeys _).mpr ⟨x, hx, hr, rfl⟩
  rw [Blk.nextRing_eq]
  cases hf : b.readyKeys.find? (fun k => decide (b.host.turn < k)) with
  | some k => simpa using hkeys k (List.mem_of_find?_eq_some hf)
  | none =>
    cases hl : b.readyKeys with
    | nil => simp [hl] at hmem
    | cons k r => simpa using hkeys k (by simp [hl])

theorem Blk.mem_of_nextRing (b : Blk) (k : Nat) (h : b.nextRing = some k) : k ∈ b.readyKeys := by
  rw [Blk.nextRing_eq, Option.or_eq_some_iff] at h
  rcases h with h | ⟨-, h⟩
  · exact List.mem_of_find?_eq_some h
  · exact List.mem_of_head? h

/-- A ring that is ready and comes after the last one served is not passed over. -/
theorem Blk.nextRing_least (b : Blk) (hw : Tab.wf {} b.host.rings = true) (k j : Nat) (h : b.nextRing = some k)
    (hj : j ∈ b.readyKeys) (ht : b.host.turn < j) : b.host.turn < k ∧ k ≤ j := by
  have hsorted : b.readyKeys.Pairwise (· < ·) :=
    (Tab.keys_rise {} b.host.rings hw).sublist (List.filter_sublist.map Prod.fst)
  rw [Blk.nextRing_eq, Option.or_eq_some_iff] at h
  rcases h with h | ⟨hnone, -⟩
  · obtain ⟨hk, before, after, hsplit, hskip⟩ := List.find?_eq_some_iff_append.mp h
    refine ⟨by simpa using hk, ?_⟩
    rw [hsplit] at hj hsorted
    rcases List.mem_append.mp hj with hj | hj
    · exact absurd ht (by simpa using hskip j hj)
    · rcases List.mem_cons.mp hj with rfl | hj
      · exact le_rfl
      · exact ((List.pairwise_cons.mp (List.pairwise_append.mp hsorted).2.1).1 j hj).le
  · exact absurd ht (by simpa using List.find?_eq_none.mp hnone j hj)

/-- A ring that reads as ready is one of those that are. -/
theorem Blk.mem_readyKeys_of_get (b : Blk) (j : Nat) (h : (Tab.get {} b.host.rings j).ready = true) : j ∈ b.readyKeys := by
  have hne : Tab.get {} b.host.rings j ≠ ({} : Ring) := by
    intro he
    rw [he] at h
    exact absurd h (by decide)
  exact (b.mem_readyKeys j).mpr ⟨_, Tab.mem_of_get_ne _ _ _ hne, h, rfl⟩

/-- The ring whose turn it is is ready. -/
theorem Blk.ready_of_nextRing (b : Blk) (hw : Tab.wf {} b.host.rings = true) (k : Nat) (h : b.nextRing = some k) :
    (Tab.get {} b.host.rings k).ready = true := by
  obtain ⟨x, hx, hr, rfl⟩ := (b.mem_readyKeys k).mp (b.mem_of_nextRing k h)
  rwa [Tab.get_of_mem {} b.host.rings x.1 x.2 hw hx]

/-! ### Acceptance (R31, R44, R57) -/

theorem Blk.Spoken.inside {b b' : Blk} (h : b.Spoken b') : b.Inside b' := .of_eq h.clk_eq h.sys_eq

theorem Blk.accept_unknown (b : Blk) (code : Nat) (c : Cmd) (h : instrOf code c = none) :
    b.accept code c = b.answer code c { st := .unknownOp } b.clk.epoch 0 b.doneTime := by
  simp [Blk.accept, h, Res.err]

section
variable {b : Blk} {code : Nat} {c : Cmd} {i : Instr} {row : OpRow} (hi : instrOf code c = some i)
  (hrow : opRow b.sys.part i = some row) (hcmd : row.cmd = c) (hcheck : b.acceptCheck row.op c = none)
include hi hrow hcmd hcheck

theorem Blk.accept_late (he : c.epoch < b.openEpoch) (ha : c.asap = false) :
    b.accept code c = b.answer code c { st := .late } b.clk.epoch 0 b.doneTime := by
  subst hcmd
  simp [Blk.accept, hi, hrow, hcheck, he, ha, Res.err]

/-- A command that passes its checks goes into its change set, and stays on this chip where none forwards. -/
theorem Blk.accept_staged (he : c.epoch ≥ b.openEpoch ∨ c.asap = true)
    (hroom : b.setFull (max c.epoch b.openEpoch) c.tenant = 0) (hf : b.forwards = false) :
    b.accept code c = (b.stageAt (max c.epoch b.openEpoch) i).count 0xC5 0 c.tenant := by
  subst hcmd
  have hopen : ¬(row.cmd.epoch < b.openEpoch ∧ row.cmd.asap = false) := by
    rcases he with he | he
    · exact fun h => absurd h.1 (Nat.not_lt.mpr he)
    · simp [he]
  have hstay : ((b.stageAt (max row.cmd.epoch b.openEpoch) i).count 0xC5 0 row.cmd.tenant).forwards = false := by
    rw [← hf]
    simp only [Blk.forwards, Blk.joined, Blk.feeding, Blk.count_pair]
    rfl
  simp [Blk.accept, hi, hrow, hcheck, hopen, hroom, Blk.take, hstay]

end

/-! ### The fetch (R42, R44, R45, R77, R496) -/

/-- The block once the slot at CMD_CONS of a ring has been read: CMD_CONS has moved, a reply is owed, the turn is the ring's. -/
def Blk.fetched (b : Blk) (fn ring : Nat) : Blk :=
  let r := b.cmdRing (fn * 8 + ring)
  Blk.emit { b with host := { b.host with
      turn := fn * 8 + ring,
      rings := Tab.set {} b.host.rings (fn * 8 + ring) { r with cmdCons := r.cmdCons + 1, owed := r.owed + 1 } } }
    (.hostRead fn (r.cmdBase + r.cmdCons.toNat % 2 ^ r.size * b.slotSize) b.slotSize)

theorem Blk.spoken_fetched (b : Blk) (fn ring : Nat) : b.Spoken (b.fetched fn ring) :=
  (b.spoken_host _).trans (Blk.spoken_emit _ _)

/-- The command that a fetched slot holds. -/
def Blk.fetchedCmd (b : Blk) (fn ring : Nat) (slot ext : List Byte) : Nat × Cmd :=
  b.parseSlot fn ring (b.cmdRing (fn * 8 + ring)).cmdCons.toNat (slot.take b.slotSize) ext

/-- A ring whose turn it is has its command read and judged. -/
theorem commandFetch_ready (fn ring : Nat) (slot ext : List Byte) (s : State)
    (hphase : s.blk.sys.phase = .service ∨ s.blk.sys.phase = .dormant) (hpcie : s.blk.pcie = true) (hfn : fn ≤ 64)
    (hring : ring < 8) (hready : (s.blk.cmdRing (fn * 8 + ring)).ready = true)
    (hturn : s.blk.nextRing = some (fn * 8 + ring)) :
    exec (.commandFetch fn ring slot ext) s = .next (s.put ((s.blk.fetched fn ring).accept
      (s.blk.fetchedCmd fn ring slot ext).1 (s.blk.fetchedCmd fn ring slot ext).2)) := by
  refine State.unit_to _ (if_pos ?_) ((s.blk.spoken_fetched fn ring).trans (Blk.spoken_accept _ _ _)).inside
  rcases hphase with h | h <;> simp [h, hpcie, ringThere, hfn, hring, hready, hturn]

/-- A ring that is not ready, or whose turn has not come, keeps its command. -/
theorem commandFetch_waits (fn ring : Nat) (slot ext : List Byte) (s : State)
    (h : (s.blk.cmdRing (fn * 8 + ring)).ready = false ∨ s.blk.nextRing ≠ some (fn * 8 + ring)) :
    exec (.commandFetch fn ring slot ext) s = .next s := by
  refine State.unit_idle (if_neg ?_)
  rcases h with h | h <;> simp [h]

/-- Settles O34: the fetch reads the slot and hands it to acceptance, whose cases are told apart. -/
theorem fetchStagesTheCommand : Obligations.FetchStagesTheCommand := by
  unfold Obligations.FetchStagesTheCommand
  refine ⟨fun fn ring slot ext s => ?_, Blk.nextRing_only, fun b k hw h => ?_⟩
  · intro k r size x b
    refine ⟨fun hphase hpcie hfn hring hready hturn => ?_, commandFetch_waits fn ring slot ext s⟩
    have hfetch := commandFetch_ready fn ring slot ext s hphase hpcie hfn hring hready hturn
    refine ⟨fun i row hi hrow hcmd hcheck he hroom hf => ?_, fun hi => ?_, fun i row hi hrow hcmd hcheck he ha => ?_⟩
    · exact hfetch.trans (congrArg (fun y => Host.Outcome.next (s.put y))
        (Blk.accept_staged (b := s.blk.fetched fn ring) hi hrow hcmd hcheck he hroom hf))
    · exact hfetch.trans (congrArg (fun y => Host.Outcome.next (s.put y)) (Blk.accept_unknown (s.blk.fetched fn ring) _ _ hi))
    · exact hfetch.trans (congrArg (fun y => Host.Outcome.next (s.put y))
        (Blk.accept_late (b := s.blk.fetched fn ring) hi hrow hcmd hcheck he ha))
  · exact ⟨b.ready_of_nextRing hw k h, fun j hj ht => b.nextRing_least hw k j h (b.mem_readyKeys_of_get j hj) ht⟩

/-! ### Change sets that close (R20, R31) -/

theorem setOf_cons (k : Nat) (l : List Instr) (r : List (Nat × List Instr)) (e : Nat) :
    setOf ((k, l) :: r) e = if k = e then l else setOf r e := by
  by_cases h : k = e <;> simp [setOf, h]

/-- Putting a list in the place of an epoch's change set leaves the other change sets. -/
theorem setOf_replace_other (sets : List (Nat × List Instr)) (n : Nat) (l : List Instr) (m : Nat) (hm : m ≠ n) :
    setOf (sets.map (fun x => if x.1 = n then (n, l) else x)) m = setOf sets m := by
  induction sets with
  | nil => rfl
  | cons x r ih =>
    obtain ⟨k, y⟩ := x
    rw [List.map_cons]
    by_cases hk : k = n
    · rw [if_pos hk, setOf_cons, setOf_cons, if_neg hm.symm, if_neg (hk ▸ hm.symm), ih]
    · rw [if_neg hk, setOf_cons, setOf_cons, ih]

theorem setOf_replace_same (sets : List (Nat × List Instr)) (n : Nat) :
    setOf (sets.map (fun x => if x.1 = n then (n, setOf sets n) else x)) n = setOf sets n := by
  suffices h : ∀ l, setOf sets n = l → setOf (sets.map (fun x => if x.1 = n then (n, l) else x)) n = l from h _ rfl
  intro l h
  induction sets with
  | nil => exact h
  | cons x r ih =>
    obtain ⟨k, y⟩ := x
    rw [setOf_cons] at h
    rw [List.map_cons]
    by_cases hk : k = n
    · rw [if_pos hk, setOf_cons, if_pos rfl]
    · rw [if_neg hk] at h
      rw [if_neg hk, setOf_cons, if_neg hk, ih h]

/-- Putting an epoch's own change set in its place leaves every change set as it was. -/
theorem setOf_replace_self (sets : List (Nat × List Instr)) (n m : Nat) :
    setOf (sets.map (fun x => if x.1 = n then (n, setOf sets n) else x)) m = setOf sets m := by
  by_cases hm : m = n
  · subst hm; exact setOf_replace_same sets m
  · exact setOf_replace_other sets n _ m hm

end Sys2Proof.Machine

/-! PROOFS. The tokens, the frame tick of a head-end that is dark, and the markers of phases. -/
namespace Sys2Proof.Machine

/-! ### The tokens (R19 to R22) -/

/-- With nothing sent to the partner that waits for its acknowledgement, no command is held back. -/
theorem Blk.unacked_of_none (b : Blk) (h : b.pair.staged = []) (n : Nat) (i : Instr) : b.unacked n i = false := by
  unfold Blk.unacked
  cases opRow b.sys.part i <;> simp [h]

/-- The block once the change set of the next epoch has closed. -/
def Blk.closedSet (b : Blk) : Blk :=
  { b with
    clk := { b.clk with closed := true },
    host := { b.host with sets := b.host.sets.map (fun x =>
      if x.1 = b.clk.epoch + 1 then (b.clk.epoch + 1, setOf b.host.sets (b.clk.epoch + 1)) else x) } }

theorem changeSetClose_closes (s : State) (hp : s.blk.sys.phase.paced = true) (hc : s.blk.clk.closed = false)
    (hn : s.blk.pair.staged = []) (hf : s.blk.sys.phase = .service → 8 * (s.blk.clk.epoch + 1) ≤ s.blk.clk.fc + 1) :
    exec .changeSetClose s = .next (s.put s.blk.closedSet) := by
  have hdue : ¬(s.blk.clk.closed = true ∨ s.blk.sys.phase = .service ∧ s.blk.clk.fc + 1 < 8 * (s.blk.clk.epoch + 1)) := by
    rintro (h | ⟨h, hlt⟩)
    · simp [hc] at h
    · exact absurd (hf h) (Nat.not_le.mpr hlt)
  rw [show exec .changeSetClose s = execChangeSetClose s from rfl, execChangeSetClose]
  refine State.alive_to _ hp ((if_neg hdue).trans ?_) ⟨rfl, rfl, rfl, rfl, rfl, rfl⟩
  have hnone : (setOf s.blk.host.sets (s.blk.clk.epoch + 1)).filter (s.blk.unacked (s.blk.clk.epoch + 1)) = [] :=
    List.filter_eq_nil_iff.mpr fun i _ => by simp [Blk.unacked_of_none s.blk hn]
  simp only [hnone, List.foldl_nil, Blk.unacked_of_none s.blk hn, Bool.not_false, List.filter_true, Blk.closedSet]

theorem changeSetClose_early (s : State) (hp : s.blk.sys.phase = .service)
    (hf : s.blk.clk.fc + 1 < 8 * (s.blk.clk.epoch + 1)) : exec .changeSetClose s = .next s := by
  rw [show exec .changeSetClose s = execChangeSetClose s from rfl, execChangeSetClose]
  exact State.alive_idle (if_pos (.inr ⟨hp, hf⟩))

theorem prepare_sent (s : State) (hp : s.blk.sys.phase.paced = true) (hc : s.blk.clk.closed = true) :
    exec .prepare s = .next (s.put { s.blk with clk := { s.blk.clk with prepared := true } }) := by
  rw [show exec .prepare s = execPrepare s from rfl, execPrepare]
  exact State.alive_to _ hp (if_pos hc) ⟨rfl, rfl, rfl, rfl, rfl, rfl⟩

/-- The count of an island that missed PREPARE, and its run, of which n boundaries have gone. -/
def Blk.missCounted (b : Blk) (i n : Nat) : Blk :=
  Blk.count { b with clk := { b.clk with missRun := Tab.set 0 b.clk.missRun i ((n + 1) % 4) } } 0xC4 2 i

theorem Blk.inside_missCounted (b : Blk) (i n : Nat) : b.Inside (b.missCounted i n) := by
  unfold Blk.missCounted
  refine Blk.Inside.trans ?_ (Blk.noted_count _ _ _ _).inside
  exact ⟨rfl, rfl, rfl, rfl, rfl, rfl⟩

/-- The fourth miss in a row is an event of the island's fault source. -/
theorem Blk.missPrepare_eq (b : Blk) (i n : Nat) (h : Tab.get 0 b.clk.missRun i = n) :
    b.missPrepare i = if n = 3 then (b.missCounted i n).faultEvent 0x01 i else b.missCounted i n := by
  subst h
  simp only [Blk.missPrepare, Blk.missCounted, Nat.reduceEqDiff]

theorem Blk.inside_missPrepare (b : Blk) (i : Nat) : b.Inside (b.missPrepare i) := by
  rw [Blk.missPrepare_eq b i _ rfl]
  split
  · exact (b.inside_missCounted i _).trans (Blk.inside_faultEvent _ _ _)
  · exact b.inside_missCounted i _

/-- The block at the deadline of PREPARE, with the islands that missed it. -/
def Blk.preparedBut (b : Blk) (miss : List Nat) : Blk :=
  { b with
    clk := { b.clk with missing := miss, missRun := b.clk.missRun.filter (fun x => miss.contains x.1) },
    pair := { b.pair with wdGood := !miss.contains 83 && !miss.contains 100 } }

theorem Blk.inside_preparedBut (b : Blk) (miss : List Nat) : b.Inside (b.preparedBut miss) := ⟨rfl, rfl, rfl, rfl, rfl, rfl⟩

theorem Blk.inside_missAll (b : Blk) (miss : List Nat) : b.Inside (miss.foldl Blk.missPrepare (b.preparedBut miss)) :=
  (b.inside_preparedBut miss).trans (Blk.inside_foldl _ Blk.inside_missPrepare _ _)

theorem prepareDeadline_none (l : List Nat) (s : State) (hp : s.blk.sys.phase.paced = true)
    (hd : s.blk.clk.prepared = true) (h : s.blk.tokenIslands l = []) :
    exec (.prepareDeadline l) s = .next (s.put (s.blk.preparedBut [])) := by
  rw [show exec (.prepareDeadline l) s = execPrepareDeadline l s from rfl, execPrepareDeadline]
  refine State.alive_to _ hp ((if_neg (by simp [hd])).trans ?_) (s.blk.inside_preparedBut [])
  simp only [h, List.foldl_nil, Blk.preparedBut]

theorem prepareDeadline_missed (l : List Nat) (s : State) (hp : s.blk.sys.phase.paced = true)
    (hd : s.blk.clk.prepared = true) (i : Nat) (r : List Nat) (h : s.blk.tokenIslands l = i :: r) :
    exec (.prepareDeadline l) s = .next (s.put (((i :: r).foldl Blk.missPrepare (s.blk.preparedBut (i :: r))).vent
      { type := 0x0001, object := s.blk.clk.epoch + 1, detail := i })) := by
  have hin := s.blk.inside_missAll (i :: r)
  rw [show exec (.prepareDeadline l) s = execPrepareDeadline l s from rfl, execPrepareDeadline]
  refine State.alive_to _ hp ((if_neg (by simp [hd])).trans ?_) (hin.trans (Blk.noted_vent _ _).inside)
  simp only [h]
  change ((i :: r).foldl Blk.missPrepare (s.blk.preparedBut (i :: r))).vent
    { type := 0x0001, object := ((i :: r).foldl Blk.missPrepare (s.blk.preparedBut (i :: r))).clk.epoch + 1, detail := i } = _
  rw [hin.epoch]

theorem commitAckDeadline_missed (l : List Nat) (s : State) (hp : s.blk.sys.phase.paced = true) :
    exec (.commitAckDeadline l) s = .next (s.put ((s.blk.tokenIslands l).foldl (fun b i => (b.count 0xC4 2 i).faultEvent 0x01 i)
      { s.blk with pair := { s.blk.pair with
        wdGood := !(s.blk.tokenIslands l).contains 83 && !(s.blk.tokenIslands l).contains 100 } })) := by
  rw [show exec (.commitAckDeadline l) s = execCommitAckDeadline l s from rfl, execCommitAckDeadline]
  refine State.alive_to _ hp rfl (Blk.Inside.trans ?_ (Blk.inside_foldl _ (fun b i => ?_) _ _))
  · exact ⟨rfl, rfl, rfl, rfl, rfl, rfl⟩
  · exact (b.noted_count _ _ _).inside.trans (Blk.inside_faultEvent _ _ _)

/-- Settles O37, token by token. -/
theorem tokensCloseAndPrepare : Obligations.TokensCloseAndPrepare := by
  unfold Obligations.TokensCloseAndPrepare
  refine ⟨fun s hp hc hn hf => ?_, changeSetClose_early, prepare_sent, fun l s hp hd => ?_, fun b i n h => ?_,
    commitAckDeadline_missed⟩
  · exact ⟨changeSetClose_closes s hp hc hn hf, fun m => setOf_replace_self _ _ m, rfl⟩
  · refine ⟨fun h => ?_, fun i r h => ?_⟩
    · rw [prepareDeadline_none l s hp hd h, h]; rfl
    · rw [prepareDeadline_missed l s hp hd i r h, h]; rfl
  · rw [Blk.missPrepare_eq b i n h]
    exact ⟨fun hn => if_pos hn, fun hn => if_neg hn⟩

/-! ### The frame tick of a dark head-end (R16, R90) -/

theorem Blk.treeFrame_dark (b : Blk) (fc : Nat) (idle : Bool) (t : Nat) (hf : b.feeding = false)
    (ht : (b.tree t).txOn = false) : b.treeFrame fc idle t = b := by
  simp [Blk.treeFrame, hf, ht]

theorem Blk.treeFrames_dark (b : Blk) (fc : Nat) (l : List Nat) (hf : b.feeding = false)
    (ht : ∀ t ∈ l, (b.tree t).txOn = false) : l.foldl (fun b t => b.treeFrame fc b.pair.idleFrame t) b = b := by
  induction l with
  | nil => rfl
  | cons t r ih =>
    rw [List.foldl_cons, Blk.treeFrame_dark b fc _ t hf (ht t (by simp))]
    exact ih (fun k hk => ht k (by simp [hk]))

theorem Blk.sendTime_alone (b : Blk) (fc : Nat) (h : b.joined = false) : b.sendTime fc = b := by
  simp [Blk.sendTime, h]

/-- What the pair unit keeps from one frame to the next. -/
def Blk.frameKept (b : Blk) : Blk :=
  { b with pair := { b.pair with
      idleFrame := false, recipes := b.pair.recipes.filter (fun r => decide (b.clk.fc < r.frame)), time := none } }

/-- Within an epoch, a head-end alone with no light on moves its time of day on and does nothing else. -/
theorem Blk.frameTick_dark (b : Blk) (hj : b.joined = false) (hf : b.feeding = false) (h8 : b.clk.fc % 8 ≠ 0)
    (ht : ∀ t < Part.trees b.sys.part, (b.tree t).txOn = false) : b.frameTick [] = b.frameKept.advanceTime 1 := by
  simp only [Blk.frameTick, Blk.plant, List.foldl_nil, Blk.sendTime_alone b _ hj]
  rw [if_neg (fun h => h8 h.1), Blk.treeFrames_dark b _ _ hf (fun t h => ht t (List.mem_range.mp h))]
  rfl

theorem Blk.advanceTime_clk (b : Blk) (n : Nat) : (b.advanceTime n).clk = b.clk := by
  induction n generalizing b with
  | zero => rfl
  | succ n ih =>
    rw [Blk.advanceTime]
    split
    · rw [ih]; rfl
    · rfl

theorem Blk.advanceTime_sys (b : Blk) (n : Nat) : (b.advanceTime n).sys = b.sys := by
  induction n generalizing b with
  | zero => rfl
  | succ n ih =>
    rw [Blk.advanceTime]
    split
    · rw [ih]; rfl
    · rfl

/-- A frame tick: the frame's effect, and the frame counter one on. -/
theorem downstreamFrame_ticks (x : TickFacts) (s : State) (hp : s.blk.sys.phase = .service)
    (hf : s.blk.clk.fc / 8 = s.blk.clk.epoch) :
    exec (.downstreamFrame x) s = .next (s.put ((s.blk.within ((s.blk.frameTick x.upsets).countN 0x74 1 70 x.corrected)).at
      s.blk.clk.epoch (s.blk.clk.fc + 1))) := by
  show execDownstreamFrame x s = _
  rw [execDownstreamFrame, State.run_eq, if_pos ⟨hp, hf⟩, State.put]

theorem downstreamFrame_waits (x : TickFacts) (s : State) (hf : s.blk.clk.fc / 8 ≠ s.blk.clk.epoch) :
    exec (.downstreamFrame x) s = .next s := by
  show execDownstreamFrame x s = _
  rw [execDownstreamFrame, State.run_eq, if_neg (fun h => hf h.2)]

theorem downstreamFrame_dark (s : State) (hp : s.blk.sys.phase = .service) (hfc : s.blk.clk.fc / 8 = s.blk.clk.epoch)
    (hj : s.blk.joined = false) (hf : s.blk.feeding = false) (h8 : s.blk.clk.fc % 8 ≠ 0)
    (ht : ∀ t < Part.trees s.blk.sys.part, (s.blk.tree t).txOn = false) :
    exec (.downstreamFrame ⟨[], 0⟩) s = .next (s.put { s.blk.frameKept.advanceTime 1 with
      clk := { s.blk.clk with fc := s.blk.clk.fc + 1 } }) := by
  have hclk : (s.blk.frameKept.advanceTime 1).clk = s.blk.clk := Blk.advanceTime_clk _ _
  have hin : s.blk.Inside (s.blk.frameKept.advanceTime 1) := .of_eq hclk (Blk.advanceTime_sys _ _)
  rw [downstreamFrame_ticks _ _ hp hfc, Blk.frameTick_dark s.blk hj hf h8 ht,
    show (s.blk.frameKept.advanceTime 1).countN 0x74 1 70 0 = s.blk.frameKept.advanceTime 1 from rfl, hin.within_eq,
    Blk.at, hclk]

/-! ### The marker of a phase (R16, R206, R207, R246) -/

/-- The close of a part of a batch touches Geyser alone. -/
theorem Blk.closePart_eq (b : Blk) (t uf phase : Nat) : ∃ g, b.closePart t uf phase = { b with gey := g } := by
  refine ⟨(b.closePart t uf phase).gey, ?_⟩
  unfold Blk.closePart
  dsimp only
  split <;> split <;> rfl

/-- Alone, with no newcomer to feed, no batch is sent. -/
theorem Blk.sendBatch_alone (b : Blk) (t slot : Nat) (items : List (List Nat)) (hj : b.joined = false)
    (hf : b.feeding = false) : b.sendBatch t slot items = b := by
  simp [Blk.sendBatch, hj, hf]

/-- The marker of a phase before the last one, where no light is received and no partner hears it. -/
theorem phaseEndMarker_closes (tree uf phase : Nat) (s : State) (hp : s.blk.sys.phase = .service)
    (htree : tree < Part.trees s.blk.sys.part) (hstop : (s.blk.tree tree).stopped = false)
    (hrx : (s.blk.tree tree).rxOn = false) (hphase : phase < 7) (huf : uf < s.blk.clk.fc)
    (hparts : ∀ p ∈ s.blk.gey.parts, (p.tree, p.uf, p.phase) ≠ (tree, uf, phase))
    (hmark : (tree, slotOf uf phase) ∉ s.blk.dir.markers) (hj : s.blk.joined = false) (hf : s.blk.feeding = false)
    (hgey : s.blk.gey.consume ≤ slotOf uf phase) (hdir : s.blk.dir.next ≤ slotOf uf phase) :
    exec (.phaseEndMarker tree uf phase) s = .next (s.put { s.blk.closePart tree uf phase with
      dir := { s.blk.dir with markers := s.blk.dir.markers ++ [(tree, slotOf uf phase)] } }) := by
  obtain ⟨g, hclose⟩ := s.blk.closePart_eq tree uf phase
  have hopen : s.blk.gey.parts.any (fun p =>
      p.tree == tree && p.uf == uf && p.phase == phase && p.marked && p.own == !s.blk.ownBatch uf) = false := by
    refine List.any_eq_false.mpr fun p hm h => hparts p hm ?_
    simp only [Bool.and_eq_true, beq_iff_eq] at h
    obtain ⟨⟨⟨⟨h1, h2⟩, h3⟩, -⟩, -⟩ := h
    rw [h1, h2, h3]
  have hnew : s.blk.marked tree (slotOf uf phase) = false := by simpa [Blk.marked] using hmark
  have hquiet (items : List (List Nat)) :
      Blk.sendBatch { s.blk with gey := g } tree (slotOf uf phase) items = { s.blk with gey := g } :=
    Blk.sendBatch_alone _ _ _ _ hj hf
  have hacts : ¬(tree ≥ Part.trees s.blk.sys.part ∨ (s.blk.tree tree).stopped = true ∨ 8 ≤ phase ∨ s.blk.clk.fc ≤ uf) := by
    simp only [hstop, Bool.false_eq_true, false_or]
    omega
  rw [show exec (.phaseEndMarker tree uf phase) s = execPhaseEndMarker tree uf phase s from rfl, execPhaseEndMarker, hclose]
  refine State.svc_to _ hp ?_ ⟨rfl, rfl, rfl, rfl, rfl, rfl⟩
  rw [if_neg hacts]
  simp only [hopen, hnew, Bool.or_self, Bool.false_eq_true, if_false, hrx, Nat.ne_of_lt hphase, hgey, if_true, hclose]
  rw [hquiet, if_pos hdir]

/-- Settles O39. -/
theorem framesAndPhasesPass : Obligations.FramesAndPhasesPass := by
  unfold Obligations.FramesAndPhasesPass
  exact ⟨fun x s hp hf => ⟨_, downstreamFrame_ticks x s hp hf, rfl, rfl, rfl⟩, downstreamFrame_waits, downstreamFrame_dark,
    phaseEndMarker_closes⟩

end Sys2Proof.Machine

/-! PROOFS. The outputs of the switch core: what a port reads, frames found bad late, the sequence point and the host port. -/
namespace Sys2Proof.Machine

/-! ### Operations of the switch core lie inside a unit's frame -/

theorem Blk.inside_setQueue (b : Blk) (q : Nat) (l : List Frame) : b.Inside (b.setQueue q l) := .of_eq rfl rfl

theorem Blk.inside_emit (b : Blk) (o : Output) : b.Inside (b.emit o) := (b.noted_emit o).inside

theorem Blk.inside_countN (b : Blk) (family counter inst n : Nat) : b.Inside (b.countN family counter inst n) :=
  (b.noted_countN family counter inst n).inside

theorem Blk.inside_count (b : Blk) (family counter inst : Nat) : b.Inside (b.count family counter inst) :=
  (b.noted_count family counter inst).inside

theorem Blk.inside_checkFail (b : Blk) (island : Nat) : b.Inside (b.checkFail island) :=
  .of_eq (b.checkFail_clk island) (b.checkFail_sys island)

theorem Blk.inside_countOut (b : Blk) (port len : Nat) : b.Inside (b.countOut port len) :=
  (b.inside_count _ _ _).trans (Blk.inside_countN _ _ _ _ _)

theorem Blk.inside_countDir (b : Blk) (ctr island tenant n : Nat) : b.Inside (b.countDir ctr island tenant n) :=
  (b.inside_countN _ _ _ _).trans (Blk.inside_countN _ _ _ _ _)

theorem Blk.inside_admitFlag (b : Blk) (q : Nat) (f : Frame) : b.Inside (b.admitFlag q f).1 := by
  unfold Blk.admitFlag
  split_ifs
  · exact b.inside_count _ _ _
  · exact b.inside_count _ _ _
  · exact b.inside_count _ _ _
  · exact b.inside_setQueue _ _

theorem Blk.inside_enqueue (b : Blk) (q : Nat) (f : Frame) : b.Inside (b.enqueue q f) := b.inside_admitFlag q f

theorem Blk.inside_mirrorCopy (b : Blk) (f : Frame) (m : MirrorOf) (copy : List Byte) : b.Inside (b.mirrorCopy f m copy) := by
  unfold Blk.mirrorCopy
  dsimp only
  split_ifs
  · exact .rfl' b
  · exact b.inside_count _ _ _
  · exact (b.inside_admitFlag _ _).trans (Blk.inside_count _ _ _ _)
  · exact (b.inside_admitFlag _ _).trans (Blk.inside_count _ _ _ _)

theorem Blk.inside_mirrorOut (b : Blk) (f : Frame) (port : Nat) (wire : List Byte) : b.Inside (b.mirrorOut f port wire) := by
  unfold Blk.mirrorOut
  dsimp only
  split
  · exact b.inside_mirrorCopy _ _ _
  · exact .rfl' b

theorem Blk.inside_toTreeTx (b : Blk) (t : Nat) (f : Frame) : b.Inside (b.toTreeTx t f) := .of_eq rfl rfl

theorem Blk.inside_sendSub (b : Blk) (n : Nat) (f : Frame) : b.Inside (b.sendSub n f) :=
  ((b.inside_countOut _ _).trans (Blk.inside_mirrorOut _ _ _ _)).trans (Blk.inside_emit _ _)

theorem Blk.inside_stompSub (b : Blk) (n : Nat) (f : Frame) (cell : Nat) : b.Inside (b.stompSub n f cell) :=
  (((b.inside_countOut _ _).trans (Blk.inside_mirrorOut _ _ _ _)).trans (Blk.inside_emit _ _)).trans (Blk.inside_count _ _ _ _)

theorem Blk.inside_toBank (b : Blk) (f : Frame) : b.Inside (b.toBank f) := by
  unfold Blk.toBank Blk.lateMessage
  split_ifs
  · exact b.inside_countDir _ _ _ _
  · exact b.inside_countDir _ _ _ _
  · exact .of_eq rfl rfl

theorem Blk.inside_loseRec (b : Blk) (tenant island : Nat) : b.Inside (b.loseRec tenant island) := by
  unfold Blk.loseRec
  refine Blk.Inside.trans ?_ (Blk.inside_countDir _ _ _ _ _)
  exact .of_eq rfl rfl

theorem Blk.inside_noRing (b : Blk) (k kind : Nat) (f : Frame) : b.Inside (b.noRing k kind f) := by
  unfold Blk.noRing
  refine (b.inside_count 0x75 2 k).trans ?_
  dsimp only
  split_ifs
  · exact Blk.inside_loseRec _ _ _
  · refine Blk.Inside.trans ?_ (Blk.inside_count _ _ _ _)
    exact .of_eq rfl rfl
  · exact .rfl' _

theorem Blk.inside_carryLost (b : Blk) (k kind : Nat) (f : Frame) : b.Inside (b.carryLost k kind f).1 := by
  unfold Blk.carryLost
  split_ifs <;> dsimp only
  · refine Blk.Inside.trans ?_ (Blk.inside_countDir _ _ _ _ _)
    exact .of_eq rfl rfl
  · exact .of_eq rfl rfl
  · exact .rfl' b

theorem Blk.inside_updRing (b : Blk) (k : Nat) (f : RxRing → RxRing) : b.Inside (b.updRing k f) := .of_eq rfl rfl

theorem Blk.inside_fillDescriptor (b : Blk) (k kind : Nat) (f : Frame) (w0 w1 : W64) :
    b.Inside (b.fillDescriptor k kind f w0 w1) := by
  have hlost := b.inside_carryLost k kind f
  unfold Blk.fillDescriptor
  dsimp only
  generalize b.carryLost k kind f = x at hlost ⊢
  have hwrite (y : Blk) (o1 o2 o3 : Output) (g : RxRing → RxRing) : y.Inside
      ((((((y.emit o1).emit o2).emit o3).updRing k g).countOut 114 f.length).count 0x75 0 k) :=
    (((((y.inside_emit o1).trans (Blk.inside_emit _ o2)).trans (Blk.inside_emit _ o3)).trans (Blk.inside_updRing _ k g)).trans
      (Blk.inside_countOut _ _ _)).trans (Blk.inside_count _ _ _ _)
  split
  · exact (hlost.trans (hwrite _ _ _ _ _)).trans (Blk.inside_count _ _ _ _)
  · exact hlost.trans (hwrite _ _ _ _ _)

theorem Blk.inside_readDescriptor (b : Blk) (k : Nat) : b.Inside (b.readDescriptor k) := b.inside_emit _

/-! ### What an output reads (R28, R299) -/

/-- A frame that is neither too old nor found bad goes on. -/
theorem Blk.dequeueCheck_good (b : Blk) (port : Nat) (f : Frame) (hs : stale f.stamp b.clk.epoch = false)
    (hb : f.bad = false) : b.dequeueCheck port f = (b, true) := by
  simp [Blk.dequeueCheck, hs, hb]

/-- A frame that is too old is discarded. -/
theorem Blk.dequeueCheck_stale (b : Blk) (port : Nat) (f : Frame) (hs : stale f.stamp b.clk.epoch = true)
    (hp : 64 ≤ port) : b.dequeueCheck port f = (b.staleDiscard 70, false) := by
  simp [Blk.dequeueCheck, hs, Nat.not_lt.mpr hp]

theorem Blk.takeHead_good (b : Blk) (q port : Nat) (f : Frame) (rest : List Frame) (hq : b.queue q = f :: rest)
    (hs : stale f.stamp b.clk.epoch = false) (hb : f.bad = false) :
    Blk.takeHead q port (b.queue q).length b = (b.setQueue q rest, some f) := by
  rw [hq, List.length_cons, Blk.takeHead, hq]
  simp only [Blk.dequeueCheck_good (b.setQueue q rest) port f hs hb, if_true]

theorem Blk.takeHead_stale (b : Blk) (q port : Nat) (f : Frame) (hq : b.queue q = [f])
    (hs : stale f.stamp b.clk.epoch = true) (hp : 64 ≤ port) :
    Blk.takeHead q port (b.queue q).length b = ((b.setQueue q []).staleDiscard 70, none) := by
  rw [hq, List.length_singleton, Blk.takeHead, hq]
  simp only [Blk.dequeueCheck_stale (b.setQueue q []) port f hs hp, Bool.false_eq_true, if_false, Blk.takeHead]

theorem Blk.takeClass_good (b : Blk) (port k n : Nat) (f : Frame) (rest : List Frame) (hk : b.nextClass port = (b, some k))
    (hq : b.queue (classQueue port k) = f :: rest) (hs : stale f.stamp b.clk.epoch = false) (hb : f.bad = false) :
    Blk.takeClass port (n + 1) b = (b.setQueue (classQueue port k) rest, some f) := by
  rw [Blk.takeClass, hk]
  simp only [hq, Blk.dequeueCheck_good (b.setQueue (classQueue port k) rest) port f hs hb, if_true]

/-- Of the numbers below n, the highest that a test takes is found first from the top. -/
theorem find?_range_reverse (p : Nat → Bool) (n k : Nat) (hk : k < n) (hp : p k = true)
    (habove : ∀ j, k < j → j < n → p j = false) : (List.range n).reverse.find? p = some k := by
  induction n with
  | zero => omega
  | succ n ih =>
    rw [List.range_succ, List.reverse_append, List.reverse_singleton, List.singleton_append]
    rcases Nat.eq_or_lt_of_le (Nat.le_of_lt_succ hk) with rfl | hlt
    · rw [List.find?_cons_of_pos hp]
    · rw [List.find?_cons_of_neg (by simp [habove n hlt n.lt_succ_self])]
      exact ih hlt fun j hj hn => habove j hj (Nat.lt_succ_of_lt hn)

/-- The highest strict class that is ready is served. -/
theorem Blk.nextClass_strict (b : Blk) (port k : Nat) (hk : k < 8) (hready : b.classReady port k = true)
    (hstrict : (b.swCfg.queueSet (classQueue port k)).weighted = false)
    (habove : ∀ j, k < j → j < 8 → b.classReady port j = false ∨ (b.swCfg.queueSet (classQueue port j)).weighted = true) :
    b.nextClass port = (b, some k) := by
  have hfind : [7, 6, 5, 4, 3, 2, 1, 0].find?
      (fun k => !(b.swCfg.queueSet (classQueue port k)).weighted && b.classReady port k) = some k := by
    refine find?_range_reverse _ 8 k hk (by simp [hready, hstrict]) fun j hj hn => ?_
    rcases habove j hj hn with h | h <;> simp [h]
  simp only [Blk.nextClass, hfind]

/-! ### EGRESS_DEQUEUE (R28, R299) -/

section
variable {f : Frame} {rest : List Frame} {s : State} (hp : s.blk.sys.phase = .service)
  (hs : stale f.stamp s.blk.clk.epoch = false) (hb : f.bad = false)
include hp hs hb

theorem egress_fumarole (hq : s.blk.queue fumaroleQueue = f :: rest) :
    exec (.egressDequeue 112 0 false) s = .next (s.put (((s.blk.setQueue fumaroleQueue rest).countOut 112 f.length).emit
      (.fumaroleFrame (f.data ++ fcs f.data)))) := by
  rw [show exec (.egressDequeue 112 0 false) s = execEgressDequeue 112 0 false s from rfl, execEgressDequeue]
  refine State.svc_to _ hp ?_
    (((s.blk.inside_setQueue _ _).trans (Blk.inside_countOut _ _ _)).trans (Blk.inside_emit _ _))
  dsimp only
  rw [if_neg (by decide), if_pos rfl, Blk.takeHead_good s.blk _ 112 f rest hq hs hb]
  rfl

theorem egress_fumarole_fails (hq : s.blk.queue fumaroleQueue = f :: rest) :
    exec (.egressDequeue 112 0 true) s = .next (s.put ((s.blk.setQueue fumaroleQueue rest).checkFail 77)) := by
  rw [show exec (.egressDequeue 112 0 true) s = execEgressDequeue 112 0 true s from rfl, execEgressDequeue]
  refine State.svc_to _ hp ?_ ((s.blk.inside_setQueue _ _).trans (Blk.inside_checkFail _ _))
  dsimp only
  rw [if_neg (by decide), if_pos rfl, Blk.takeHead_good s.blk _ 112 f rest hq hs hb]
  rfl

theorem egress_endpoint (hq : s.blk.queue endpointQueue = f :: rest) :
    exec (.egressDequeue 113 0 false) s
      = .next (s.put (((s.blk.setQueue endpointQueue rest).countOut 113 f.length).toBank f)) := by
  rw [show exec (.egressDequeue 113 0 false) s = execEgressDequeue 113 0 false s from rfl, execEgressDequeue]
  refine State.svc_to _ hp ?_
    (((s.blk.inside_setQueue _ _).trans (Blk.inside_countOut _ _ _)).trans (Blk.inside_toBank _ _))
  dsimp only
  rw [if_neg (by decide), if_neg (by decide), if_pos rfl, Blk.takeHead_good s.blk _ 113 f rest hq hs hb]
  rfl

theorem egress_tree {port k : Nat} (hport : port < 64) (hk : s.blk.nextClass port = (s.blk, some k))
    (hq : s.blk.queue (classQueue port k) = f :: rest) :
    exec (.egressDequeue port 0 false) s = .next (s.put ((((s.blk.setQueue (classQueue port k) rest).countOut port
      f.length).mirrorOut f port f.data).toTreeTx port f)) := by
  rw [show exec (.egressDequeue port 0 false) s = execEgressDequeue port 0 false s from rfl, execEgressDequeue]
  refine State.svc_to _ hp ?_ ((((s.blk.inside_setQueue _ _).trans (Blk.inside_countOut _ _ _)).trans
    (Blk.inside_mirrorOut _ _ _ _)).trans (Blk.inside_toTreeTx _ _ _))
  dsimp only
  rw [if_pos (by omega), Blk.takeClass_good s.blk port k _ f rest hk hq hs hb]
  exact (if_neg Bool.false_ne_true).trans (if_pos hport)

theorem egress_sub {port k : Nat} (hlow : 64 ≤ port) (hport : port < 112) (hk : s.blk.nextClass port = (s.blk, some k))
    (hq : s.blk.queue (classQueue port k) = f :: rest) :
    exec (.egressDequeue port 0 false) s
      = .next (s.put ((s.blk.setQueue (classQueue port k) rest).sendSub (port - 64) f)) := by
  rw [show exec (.egressDequeue port 0 false) s = execEgressDequeue port 0 false s from rfl, execEgressDequeue]
  refine State.svc_to _ hp ?_ ((s.blk.inside_setQueue _ _).trans (Blk.inside_sendSub _ _ _))
  dsimp only
  rw [if_pos hport, Blk.takeClass_good s.blk port k _ f rest hk hq hs hb]
  exact (if_neg Bool.false_ne_true).trans ((if_neg (Nat.not_lt.mpr hlow)).trans (if_pos hport))

end

theorem egress_stale {f : Frame} {s : State} (hp : s.blk.sys.phase = .service)
    (hs : stale f.stamp s.blk.clk.epoch = true) (hq : s.blk.queue fumaroleQueue = [f]) :
    exec (.egressDequeue 112 0 false) s = .next (s.put ((s.blk.setQueue fumaroleQueue []).staleDiscard 70)) := by
  rw [show exec (.egressDequeue 112 0 false) s = execEgressDequeue 112 0 false s from rfl, execEgressDequeue]
  refine State.svc_to _ hp ?_ ((s.blk.inside_setQueue _ _).trans (Blk.noted_staleDiscard _ _).inside)
  dsimp only
  rw [if_neg (by decide), if_pos rfl, Blk.takeHead_stale s.blk _ 112 f hq hs (by decide)]

/-! ### FRAME_FOUND_BAD_LATE (R306) -/

/-- The block once a frame behind the tree queues is found bad there. -/
def Blk.foundBad (b : Blk) (queue pos : Nat) (why : BadLate) (f : Frame) : Blk :=
  let c := (b.cellError why).setQueue queue ((b.queue queue).eraseIdx pos)
  match afterHead why queue with
  | some cell => if pos = 0 then c.stompSub (portOf queue - 64) f cell else c.count 0x76 4 (portOf queue)
  | none => c.count 0x76 4 (portOf queue)

theorem Blk.inside_cellError (b : Blk) (why : BadLate) : b.Inside (b.cellError why) := by
  cases why with
  | uncorrectable row cell => exact (b.inside_count _ _ _).trans (Blk.inside_faultEvent _ _ _)
  | fcs => exact .rfl' b
  | oversize => exact .rfl' b
  | noCell => exact .rfl' b

theorem Blk.inside_foundBad (b : Blk) (queue pos : Nat) (why : BadLate) (f : Frame) :
    b.Inside (b.foundBad queue pos why f) := by
  have h := (b.inside_cellError why).trans (Blk.inside_setQueue _ queue ((b.queue queue).eraseIdx pos))
  unfold Blk.foundBad
  dsimp only
  split
  · split
    · exact h.trans (Blk.inside_stompSub _ _ _ _)
    · exact h.trans (Blk.inside_count _ _ _ _)
  · exact h.trans (Blk.inside_count _ _ _ _)

section
variable {queue pos : Nat} {f : Frame} {why : BadLate} {s : State} (hq : 512 ≤ queue)
  (hf : (s.blk.queue queue)[pos]? = some f)
include hq hf

/-- Where the cause can meet the frame. -/
theorem foundBadLate_meets (hp : s.blk.sys.phase = .service) (hm : s.blk.badMeets f why = true) :
    exec (.frameFoundBadLate queue pos why) s = .next (s.put (s.blk.foundBad queue pos why f)) := by
  rw [show exec (.frameFoundBadLate queue pos why) s = execFrameFoundBadLate queue pos why s from rfl,
    execFrameFoundBadLate]
  refine State.svc_to _ hp ?_ (s.blk.inside_foundBad queue pos why f)
  simp only [Nat.not_lt.mpr hq, if_false, List.length_nil, List.range_zero, List.filter_nil, List.getElem?_nil, Nat.sub_zero,
    hf, hm, Bool.not_true, Bool.false_eq_true]
  rfl

theorem foundBadLate_misses (hm : s.blk.badMeets f why = false) : exec (.frameFoundBadLate queue pos why) s = .next s := by
  rw [show exec (.frameFoundBadLate queue pos why) s = execFrameFoundBadLate queue pos why s from rfl,
    execFrameFoundBadLate]
  refine State.svc_idle ?_
  simp only [Nat.not_lt.mpr hq, if_false, List.length_nil, List.range_zero, List.filter_nil, List.getElem?_nil, Nat.sub_zero,
    hf, hm, Bool.not_false, if_true]

end

/-- The first cell, or a frame that no sub-port is sending: the head has not left. -/
theorem Blk.foundBad_unsent (b : Blk) (queue pos row cell : Nat) (f : Frame) (h : cell = 0 ∨ 896 ≤ queue ∨ pos ≠ 0) :
    b.foundBad queue pos (.uncorrectable row cell) f
      = (((b.count 0x74 2 70).faultEvent 0x0A row).setQueue queue ((b.queue queue).eraseIdx pos)).count 0x76 4 (portOf queue) := by
  simp only [Blk.foundBad, Blk.cellError, afterHead]
  split
  next c hc =>
    split at hc
    next hhead => rw [if_neg (by omega)]
    next => cases hc
  next => rfl

/-- A later cell of the frame that a sub-port is sending. -/
theorem Blk.foundBad_sent (b : Blk) (queue row cell : Nat) (f : Frame) (hq : 512 ≤ queue) (hsub : queue < 896) (hc : 0 < cell) :
    b.foundBad queue 0 (.uncorrectable row cell) f
      = (((b.count 0x74 2 70).faultEvent 0x0A row).setQueue queue ((b.queue queue).eraseIdx 0)).stompSub (portOf queue - 64) f
        cell := by
  simp only [Blk.foundBad, Blk.cellError, afterHead, if_pos (show 0 < cell ∧ 512 ≤ queue ∧ queue < 896 from ⟨hc, hq, hsub⟩), if_true]

/-! ### The sequence point (R302, R316, R317) -/

/-- The frame of an enabled stream without a duplicate takes the stream's next number. -/
theorem Blk.numberFrame_single (b : Blk) (f : Frame) (he : (Tab.get {} b.sw.streams f.stream).enable = true)
    (hd : (Tab.get {} b.sw.streams f.stream).dup = false) :
    b.numberFrame f = ((b.nextNumber f.stream).1.count 0x79 0 f.stream).enqueue (classQueue (64 + f.source) f.tclass)
      { f with number := some (b.nextNumber f.stream).2 } := by
  simp [Blk.numberFrame, he, hd]

theorem Blk.inside_nextNumber (b : Blk) (st : Nat) : b.Inside (b.nextNumber st).1 := .of_eq rfl rfl

/-- The block with nothing waiting for the sequence point. -/
def Blk.noWait (b : Blk) : Blk := { b with sw := { b.sw with seqWait := [] } }

theorem Blk.inside_noWait (b : Blk) : b.Inside b.noWait := .of_eq rfl rfl

section
variable {uf phase : Nat} {f : Frame} {s : State} (hp : s.blk.sys.phase = .service) (hj : s.blk.joined = false)
  (hmark : s.blk.unmarked (slotOf uf phase) = []) (hw : s.blk.sw.seqWait = [f]) (hin : f.input < 64)
  (hdue : orderSlot f.order ≤ slotOf uf phase)
include hp hj hmark hw hin hdue

/-- One tree's frame waits, and its phase is complete: it is discarded as late, or numbered. -/
theorem sequencePoint_single (late : Bool) (hl : (f.stream != 0 && s.blk.partLate f.input (orderSlot f.order)) = late) :
    exec (.frerSequencePoint uf phase) s = .next (s.put (s.blk.within
      ((if late then [] else [f]).foldl Blk.numberFrame (s.blk.noWait.countN 0x74 3 70 (if late then 1 else 0))))) := by
  have h64 : ¬64 ≤ f.input := Nat.not_le.mpr hin
  have h113 : (f.input == 113) = false := by simp; omega
  obtain ⟨hactive, hstandby⟩ : s.blk.pair.role ≠ .active ∧ s.blk.pair.role ≠ .standby := by simpa [Blk.joined] using hj
  rw [show exec (.frerSequencePoint uf phase) s = execFrerSequencePoint uf phase s from rfl, execFrerSequencePoint,
    State.svc_eq _ _ hp, State.put]
  simp only [hw, List.filter_cons, List.filter_nil, hin, hdue, decide_true, Bool.true_and, hl]
  cases late <;> simp [hmark, h64, h113, hactive, hstandby, Blk.joined, sortBy, insertBy, Blk.noWait]

/-- A frame of a tree whose part came in time is numbered and queued. -/
theorem sequencePoint_numbers (hl : s.blk.partLate f.input (orderSlot f.order) = false)
    (he : (Tab.get {} s.blk.sw.streams f.stream).enable = true) (hd : (Tab.get {} s.blk.sw.streams f.stream).dup = false) :
    exec (.frerSequencePoint uf phase) s = .next (s.put (((s.blk.noWait.nextNumber f.stream).1.count 0x79 0
      f.stream).enqueue (classQueue (64 + f.source) f.tclass) { f with number := some (s.blk.noWait.nextNumber f.stream).2 })) := by
  have hin' := ((s.blk.inside_noWait.trans (Blk.inside_nextNumber _ f.stream)).trans (Blk.inside_count _ 0x79 0 f.stream)).trans
    (Blk.inside_enqueue _ (classQueue (64 + f.source) f.tclass) { f with number := some (s.blk.noWait.nextNumber f.stream).2 })
  rw [sequencePoint_single hp hj hmark hw hin hdue false (by simp [hl])]
  show Host.Outcome.next (s.put (s.blk.within (s.blk.noWait.numberFrame f))) = _
  rw [s.blk.noWait.numberFrame_single f he hd, hin'.within_eq]

/-- A stream frame of a tree whose part came late is discarded. -/
theorem sequencePoint_discards (hl : s.blk.partLate f.input (orderSlot f.order) = true) (hst : f.stream ≠ 0) :
    exec (.frerSequencePoint uf phase) s = .next (s.put (s.blk.noWait.count 0x74 3 70)) := by
  rw [sequencePoint_single hp hj hmark hw hin hdue true (by simp [hl, hst])]
  exact congrArg (fun b => Host.Outcome.next (s.put b)) (s.blk.inside_noWait.trans (Blk.inside_count _ _ _ _)).within_eq

end

/-! ### The host port (R301, R311, R312) -/

theorem hostDelivery_idle (reads : HostReads) (s : State) (h : ∀ k < 65, s.blk.hostHead k = none) :
    exec (.hostDelivery reads) s = .next s := by
  have hnone : (List.range 65).any (fun k => (s.blk.hostHead k).isSome) = false := by
    refine List.any_eq_false.mpr fun k hk => ?_
    simp [h k (List.mem_range.mp hk)]
  rw [show exec (.hostDelivery reads) s = execHostDelivery reads s from rfl, execHostDelivery]
  refine State.svc_idle ?_
  rw [show s.blk.hostFrames + 66 = s.blk.hostFrames + 65 + 1 from rfl, Blk.hostGo, drr, hnone]
  rfl

/-- The choice of the round robin over the tenants. -/
def Blk.hostChoice (b : Blk) : (Nat × Tab Nat) × Option Nat :=
  drr 65 id (fun k => (b.ring k).weight * 256) b.hostHead b.sw.hostTurn b.sw.hostDeficit

/-- The block once the choice is made and the frame it names has left its queue. -/
def Blk.hostTaken (b : Blk) (q : Nat) (rest : List Frame) : Blk :=
  Blk.setQueue { b with sw := { b.sw with hostTurn := b.hostChoice.1.1, hostDeficit := b.hostChoice.1.2 } } q rest

theorem Blk.inside_hostTaken (b : Blk) (q : Nat) (rest : List Frame) : b.Inside (b.hostTaken q rest) := .of_eq rfl rfl

section
variable {b : Blk} {k kind : Nat} {f : Frame} {rest : List Frame} (hk : b.hostChoice.2 = some k)
  (hkind : b.hostKind k = some kind) (hq : b.queue (hostQueue k kind) = f :: rest) (hs : stale f.stamp b.clk.epoch = false)
  (hb : f.bad = false)
include hk hkind hq hs hb

/-- A tenant whose ring is disabled loses the frame. -/
theorem Blk.hostGo_off (descs : List (Nat × W64 × W64)) (corrected n : Nat) (he : (b.ring k).enable = false) :
    Blk.hostGo descs corrected (n + 1) b = (b.hostTaken (hostQueue k kind) rest).noRing k kind f := by
  have hgood := (b.hostTaken (hostQueue k kind) rest).dequeueCheck_good 114 f hs hb
  unfold Blk.hostTaken Blk.hostChoice at hgood
  unfold Blk.hostChoice at hk
  simp only [Blk.hostGo, hk, hkind, hq, hgood, he, Bool.not_true, Bool.not_false, Bool.false_eq_true, if_false, if_true,
    Blk.hostTaken, Blk.hostChoice]

/-- A tenant whose next descriptor is the head-end's is given the frame in it. -/
theorem Blk.hostGo_fills (descs : List (Nat × W64 × W64)) (corrected n : Nat) {w0 w1 : W64} (he : (b.ring k).enable = true)
    (hd : descs.find? (fun d => d.1 == k) = some (k, w0, w1)) (hown : w1.getLsbD 47 = true) :
    Blk.hostGo descs corrected (n + 1) b
      = (((b.hostTaken (hostQueue k kind) rest).countN 0x74 1 70 corrected).readDescriptor k).fillDescriptor k kind f w0 w1 := by
  have hgood := (b.hostTaken (hostQueue k kind) rest).dequeueCheck_good 114 f hs hb
  unfold Blk.hostTaken Blk.hostChoice at hgood
  unfold Blk.hostChoice at hk
  simp only [Blk.hostGo, hk, hkind, hq, hgood, he, hd, hown, Bool.not_true, Bool.false_eq_true, if_false, if_true,
    Blk.hostTaken, Blk.hostChoice]

end

section
variable {reads : HostReads} {s : State} {k kind : Nat} {f : Frame} {rest : List Frame} (hp : s.blk.sys.phase = .service)
  (hk : s.blk.hostChoice.2 = some k) (hkind : s.blk.hostKind k = some kind) (hq : s.blk.queue (hostQueue k kind) = f :: rest)
  (hs : stale f.stamp s.blk.clk.epoch = false) (hb : f.bad = false)
include hp hk hkind hq hs hb

theorem hostDelivery_off (he : (s.blk.ring k).enable = false) : exec (.hostDelivery reads) s
    = .next (s.put ((s.blk.hostTaken (hostQueue k kind) rest).noRing k kind f)) := by
  rw [show exec (.hostDelivery reads) s = execHostDelivery reads s from rfl, execHostDelivery]
  exact State.svc_to _ hp (Blk.hostGo_off hk hkind hq hs hb _ _ _ he)
    ((s.blk.inside_hostTaken _ _).trans (Blk.inside_noRing _ _ _ _))

theorem hostDelivery_fills {w0 w1 : W64} (he : (s.blk.ring k).enable = true)
    (hd : reads.descs.find? (fun d => d.1 == k) = some (k, w0, w1)) (hown : w1.getLsbD 47 = true) :
    exec (.hostDelivery reads) s = .next (s.put ((((s.blk.hostTaken (hostQueue k kind) rest).countN 0x74 1 70
      reads.corrected).readDescriptor k).fillDescriptor k kind f w0 w1)) := by
  rw [show exec (.hostDelivery reads) s = execHostDelivery reads s from rfl, execHostDelivery]
  exact State.svc_to _ hp (Blk.hostGo_fills hk hkind hq hs hb _ _ _ he hd hown)
    ((((s.blk.inside_hostTaken _ _).trans (Blk.inside_countN _ _ _ _ _)).trans (Blk.inside_readDescriptor _ _)).trans
      (Blk.inside_fillDescriptor _ _ _ _ _ _))

end

/-! ### RX_RING_POLL (R312) -/

theorem rxRingPoll_owned (tenant : Nat) (w : W64) (s : State) (hp : s.blk.sys.phase = .service)
    (hst : (s.blk.ring tenant).stalled = true) (hw : w.getLsbD 47 = true) : exec (.rxRingPoll tenant w) s
      = .next (s.put ((s.blk.readDescriptor tenant).updRing tenant (fun r => { r with stalled := false }))) := by
  rw [show exec (.rxRingPoll tenant w) s = execRxRingPoll tenant w s from rfl, execRxRingPoll]
  exact State.svc_to _ hp ((if_neg (by simp [hst])).trans (if_pos hw))
    ((s.blk.inside_readDescriptor _).trans (Blk.inside_updRing _ _ _))

theorem rxRingPoll_waits (tenant : Nat) (w : W64) (s : State) (hp : s.blk.sys.phase = .service)
    (hst : (s.blk.ring tenant).stalled = true) (hw : w.getLsbD 47 = false) :
    exec (.rxRingPoll tenant w) s = .next (s.put (s.blk.readDescriptor tenant)) := by
  rw [show exec (.rxRingPoll tenant w) s = execRxRingPoll tenant w s from rfl, execRxRingPoll]
  exact State.svc_to _ hp ((if_neg (by simp [hst])).trans (if_neg (by rw [hw]; exact Bool.false_ne_true)))
    (s.blk.inside_readDescriptor _)

theorem rxRingPoll_idle (tenant : Nat) (w : W64) (s : State) (hst : (s.blk.ring tenant).stalled = false) :
    exec (.rxRingPoll tenant w) s = .next s := by
  rw [show exec (.rxRingPoll tenant w) s = execRxRingPoll tenant w s from rfl, execRxRingPoll]
  exact State.svc_idle (if_pos (by simp [hst]))

/-- Settles O48, output by output. -/
theorem outputsServeTheirFrames : Obligations.OutputsServeTheirFrames := by
  unfold Obligations.OutputsServeTheirFrames
  refine ⟨fun f rest s hp hs hb => ?_, Blk.nextClass_strict, fun f s hp hs hq => egress_stale hp hs hq,
    fun queue pos f row cell s hp hqueue hf => ?_, fun uf phase f s hp hj hmark hw hin hdue => ?_, fun reads s hp => ?_,
    fun tenant w s hp => ?_⟩
  · refine ⟨fun hq => ⟨egress_fumarole hp hs hb hq, egress_fumarole_fails hp hs hb hq⟩, egress_endpoint hp hs hb,
      fun port k hport hk hq => ?_⟩
    exact ⟨fun hlow => egress_tree hp hs hb hlow hk hq, fun hlow => egress_sub hp hs hb hlow hport hk hq⟩
  · refine ⟨fun hcell h => ?_, fun hcell hpos hsub h0 => ?_, fun hcell => ?_, fun hbad => ?_⟩
    · rw [foundBadLate_meets hqueue hf hp (by simpa [Blk.badMeets] using hcell), Blk.foundBad_unsent _ _ _ _ _ _ h]
    · subst h0
      rw [foundBadLate_meets hqueue hf hp (by simpa [Blk.badMeets] using hcell),
        Blk.foundBad_sent _ _ _ _ _ hqueue hsub hpos]
    · exact foundBadLate_misses hqueue hf (by simpa [Blk.badMeets] using hcell)
    · exact foundBadLate_meets hqueue hf hp hbad
  · exact ⟨sequencePoint_numbers hp hj hmark hw hin hdue, sequencePoint_discards hp hj hmark hw hin hdue⟩
  · refine ⟨hostDelivery_idle reads s, fun k kind f rest hk hkind hq hs hb => ?_⟩
    exact ⟨hostDelivery_off hp hk hkind hq hs hb, fun w0 w1 he hd hown => hostDelivery_fills hp hk hkind hq hs hb he hd hown⟩
  · exact ⟨rxRingPoll_owned tenant w s hp, rxRingPoll_waits tenant w s hp, rxRingPoll_idle tenant w s⟩

end Sys2Proof.Machine

/-! PROOFS. Command packets: the meaning of an opcode row once for all, acceptance, and the layouts of slots and replies. -/
namespace Sys2Proof.Machine

/-! ### Every command answers (R55, R57, R75) -/

/-- Settles O3: every meaning has one of the shapes of `exec_paces`. -/
theorem everyCommandAnswersNext : Obligations.EveryCommandAnswersNext := by
  unfold Obligations.EveryCommandAnswersNext
  intro i s
  obtain ⟨b, hb, -⟩ := exec_paces i s
  exact ⟨_, hb, rfl⟩

/-! ### The checks of acceptance (R57, R58, R64, R502) -/

theorem Blk.acceptCheck_dormant (b : Blk) (o : Op) (c : Cmd) (hp : b.sys.phase.inDormant = true) (ho : o.dormant = false) :
    b.acceptCheck o c = some (.dormant, 0) := by simp [Blk.acceptCheck, hp, ho]

theorem Op.permits_iff (o : Op) (tenant : Nat) : o.permits tenant = true ↔ o.perm ≠ .o ∨ tenant = 0 := by
  simp [Op.permits, or_comm]

/-- Settles O17: each check speaks where those before it are silent. -/
theorem acceptanceChecksInOrder : Obligations.AcceptanceChecksInOrder := by
  unfold Obligations.AcceptanceChecksInOrder
  intro b o c
  refine ⟨fun hp ho => b.acceptCheck_dormant o c (by simp [hp, Phase.inDormant]) ho, fun hawake => ?_⟩
  have hpass : (b.sys.phase.inDormant && !o.dormant) = false := by
    rcases hawake with h | h <;> simp [h, Phase.inDormant]
  refine ⟨fun k hh hf => ?_, fun k hh hf => ?_, fun u hh hf hu => ?_, fun hh hf hu => ⟨fun ho ht => ?_, fun ho => ?_⟩⟩
  · simp [Blk.acceptCheck, hpass, hh, hf, least]
  · simp [Blk.acceptCheck, hpass, hh, hf, least]
  · simp [Blk.acceptCheck, hpass, hh, hf, hu, least]
  · have hno : o.permits c.tenant = false := by simp [Op.permits, ho, ht]
    simp [Blk.acceptCheck, hpass, hh, hf, hu, hno, least]
  · simp [Blk.acceptCheck, hpass, hh, hf, hu, (o.permits_iff c.tenant).mpr ho, least]

/-! ### What a reply carries (R46, R56, R59, R72) -/

/-- Settles O16, from all that completing a command does (`Blk.answer_eq`). -/
theorem replyNamesItsCommand : Obligations.ReplyNamesItsCommand := by
  unfold Obligations.ReplyNamesItsCommand
  intro b code c r n m k
  simp only [Blk.answer_host]
  refine ⟨fun hp hm hr => ?_, fun h => ?_, fun hp hm hr => ?_, fun hok hd => ?_⟩
  · have hring : c.ring ≠ 8 := Nat.ne_of_lt hr
    refine ⟨mkReply code c r n m k, by simp [HostIf.take, hp, hm, hring], rfl, rfl, rfl, rfl, rfl, ?_, rfl, rfl, ?_⟩ <;>
      simp [mkReply, hring]
  · exact if_pos h
  · simp [HostIf.take, hp, hm, hr]
  · rw [Blk.answer_eq]
    show (b.replied code c r).tele = _
    rw [Blk.replied, Blk.noteDenied, if_neg hd]

/-- Settles O21, status by status. -/
theorem status4Mapping : Obligations.Status4Mapping := by
  unfold Obligations.Status4Mapping
  refine ⟨rfl, rfl, rfl, rfl, fun st h1 h2 h3 h4 => ?_⟩
  cases st
  case ok => exact absurd rfl h1
  case absent => exact absurd rfl h2
  case unknownOp => exact absurd rfl h3
  case dormant => exact absurd rfl h4
  all_goals rfl

/-! ### The index of opcodes (R75, R81) -/

/-- The command i, as an opcode names it, has the row that the index publishes under x. -/
def Published (x : Nat × Perm × Bool) (p : Part) (c : Cmd) (i : Instr) : Prop :=
  ∃ r, opRow p i = some r ∧ r.cmd = c ∧ r.op.code = x.1 ∧ r.op.perm = x.2.1 ∧ r.op.dormant = x.2.2
    ∧ r.op.snap = snapshotOpcodes.contains x.1

/-- An opcode whose payload selects its form: each form has the row. -/
theorem Published.ite {x : Nat × Perm × Bool} {p : Part} {c : Cmd} {i j : Instr} {q : Prop} [Decidable q]
    (hi : Published x p c i) (hj : Published x p c j) : Published x p c (if q then i else j) := by
  split
  · exact hi
  · exact hj

theorem published_of_mem (x : Nat × Perm × Bool) (hx : x ∈ opcodeIndex) (p : Part) (c : Cmd) :
    ∃ i, instrOf x.1 c = some i ∧ Published x p c i := by
  fin_cases hx <;> refine ⟨_, rfl, ?_⟩
  all_goals repeat' apply Published.ite
  all_goals exact ⟨_, rfl, rfl, rfl, rfl, rfl, rfl⟩

theorem instrOf_of_not_mem (code : Nat) (c : Cmd) (h : code ∉ opcodeIndex.map Prod.fst) : instrOf code c = none := by
  unfold instrOf
  split
  case h_79 => rfl
  all_goals exact absurd (by decide) h

/-- Settles O13: every opcode of the index names a form with its row, and no other opcode names one. -/
theorem opcodeIndexAsPublished : Obligations.OpcodeIndexAsPublished := by
  unfold Obligations.OpcodeIndexAsPublished
  refine ⟨fun x hx p c => ?_, instrOf_of_not_mem⟩
  obtain ⟨i, hi, r, hr⟩ := published_of_mem x hx p c
  exact ⟨i, r, hi, hr⟩

/-! ### The registers right after reset (R50, R499) -/

/-- Half of a register is what an access of 4 bytes reads. -/
theorem Blk.barRead_halves (b : Blk) (fn offset : Nat) (h : offset % 8 = 0) :
    b.barRead fn offset 4 = b.barRead fn offset 8 % 2 ^ 32
    ∧ b.barRead fn (offset + 4) 4 = b.barRead fn offset 8 / 2 ^ 32 % 2 ^ 32 := by
  have h4 : offset % 4 = 0 := by omega
  have hlow : offset / 8 * 8 = offset := by omega
  have hhigh : (offset + 4) / 8 * 8 = offset := by omega
  have hrem : (offset + 4) % 8 = 4 := by omega
  simp [Blk.barRead, h, h4, hlow, hhigh, hrem]

theorem Blk.barRead_eight (b : Blk) (fn offset : Nat) (h : offset % 8 = 0) : b.barRead fn offset 8 = b.barWord fn offset :=
  if_pos ⟨rfl, h⟩

/-- RING_CTRL of ring n. -/
theorem Blk.barWord_ringCtrl (b : Blk) (fn n : Nat) (h : n < 8) :
    b.barWord fn (0x100 + 0x40 * n) = (b.cmdRing (fn * 8 + n)).word := by
  have hring : (0x100 + 0x40 * n - 0x100) / 64 = n := by omega
  have hreg : (0x100 + 0x40 * n - 0x100) % 64 = 0 := by omega
  unfold Blk.barWord
  rw [if_neg (by omega), if_neg (by omega), if_neg (by omega), if_neg (by omega), if_neg (by omega), if_pos (by omega)]
  simp only [hreg, hring]

/-- Settles O4, register by register. -/
theorem resetRegistersRead : Obligations.ResetRegistersRead := by
  unfold Obligations.ResetRegistersRead
  refine ⟨rfl, ?_, rfl, fun fn _ => ?_, fun fn => rfl, fun fn => rfl, fun fn => rfl, fun fn => ?_, fun fn n hn => ?_,
    fun fn offset => Blk.barRead_halves _ fn offset⟩
  · exact ⟨rfl, rfl, rfl, rfl, rfl, rfl, rfl, rfl, rfl, rfl, rfl, rfl, rfl, rfl⟩
  · rw [Blk.barRead_eight _ _ _ rfl]
    show pack [(0x4E50, 48), (0x6400, 32), (1, 24), (fn, 16), (3, 8)] = _
    simp [pack]
  · rw [Blk.barRead_eight _ _ _ rfl]
    have hawake : ¬(fn = 0 ∧ State.reset.blk.sys.phase.inDormant = true) := fun h => Bool.false_ne_true h.2
    exact if_neg hawake
  · rw [Blk.barRead_eight _ _ _ (by omega), Blk.barWord_ringCtrl _ _ _ hn]
    show Ring.word {} = _
    simp [Ring.word, pack, b2n]

/-! ### Slots of words (R51, R56) -/

/-- What follows the four words of a header. -/
theorem drop_header (w0 w1 w2 w3 : Nat) (l : List Byte) : (wordsLe [w0, w1, w2, w3] ++ l).drop 32 = l :=
  List.drop_left' (wordsLe_length _)

@[simp] theorem b2n_beq_one (b : Bool) : (b2n b == 1) = b := by cases b <;> rfl

theorem b2n_lt (b : Bool) : b2n b < 2 := by cases b <;> decide

/-! ### A native command slot (R51, R52, R54) -/

/-- Word 0 of a native command slot. -/
def Cmd.slotWord0 (code : Nat) (c : Cmd) : Nat :=
  pack [(code, 48), (c.tag % 65536, 32), (b2n c.asap, 30), (b2n c.irq, 29), (c.inlineLen, 16), (c.unit, 0)]

theorem Cmd.slot_eq (code : Nat) (c : Cmd) :
    c.slot code = wordsLe [Cmd.slotWord0 code c, c.epoch, c.extAddr, c.extLen * 65536] ++ toLe c.inl 96 := rfl

/-- The fields of word 0, each where R51 puts it, and its reserved bits 0. -/
theorem Cmd.slotWord0_fields (code : Nat) (c : Cmd) (hcode : code < 2 ^ 16) (htag : c.tag < 2 ^ 16) (hunit : c.unit < 2 ^ 16)
    (hlen : c.inlineLen < 2 ^ 8) :
    Cmd.slotWord0 code c < 2 ^ 64
    ∧ bits (Cmd.slotWord0 code c) 63 48 = code ∧ bits (Cmd.slotWord0 code c) 47 32 = c.tag
    ∧ bit (Cmd.slotWord0 code c) 31 = false ∧ bit (Cmd.slotWord0 code c) 30 = c.asap
    ∧ bit (Cmd.slotWord0 code c) 29 = c.irq ∧ bits (Cmd.slotWord0 code c) 28 24 = 0
    ∧ bits (Cmd.slotWord0 code c) 23 16 = c.inlineLen ∧ bits (Cmd.slotWord0 code c) 15 0 = c.unit := by
  have hasap := b2n_lt c.asap
  have hirq := b2n_lt c.irq
  have hbit30 : bit (Cmd.slotWord0 code c) 30 = (b2n c.asap == 1) := by
    simp only [bit, Cmd.slotWord0, pack, List.foldl]
    congr 1
    omega
  have hbit29 : bit (Cmd.slotWord0 code c) 29 = (b2n c.irq == 1) := by
    simp only [bit, Cmd.slotWord0, pack, List.foldl]
    congr 1
    omega
  refine ⟨?_, ?_, ?_, ?_, by simpa using hbit30, by simpa using hbit29, ?_, ?_, ?_⟩
  all_goals simp only [bits, bit, Cmd.slotWord0, pack, List.foldl, beq_eq_false_iff_ne]
  all_goals omega

/-- The inline payload of a slot, as far as the layout has room for it. -/
theorem Cmd.slot_inl (code : Nat) (c : Cmd) (h : c.inl < 2 ^ (8 * min c.inlineLen 96)) :
    leNat (((c.slot code).drop 32).take (min c.inlineLen 96)) = c.inl := by
  rw [Cmd.slot_eq, drop_header, toLe_take _ _ _ (Nat.min_le_right _ _), leNat_toLe,
    show (256 : Nat) = 2 ^ 8 from rfl, ← Nat.pow_mul, Nat.mod_eq_of_lt h]

/-- What a native slot does not carry of a command is fixed. -/
theorem Cmd.eq_of_native (c : Cmd) (hl : c.legacy = false) (hm : c.mute = false) (hb : c.badHeader = none) :
    ({ c with legacy := false, mute := false, badHeader := none } : Cmd) = c := by
  cases c
  simp_all

/-- Settles O18: every field is read back from the word that holds it. -/
theorem commandSlotRoundTrips : Obligations.CommandSlotRoundTrips := by
  unfold Obligations.CommandSlotRoundTrips
  intro code c hcode htag hunit hepoch haddr hext hlen hinl hbytes hlegacy hmute hgood
  obtain ⟨hw, hbcode, hbtag, hb31, hb30, hb29, hspare, hblen, hbunit⟩ := Cmd.slotWord0_fields code c hcode htag hunit hlen
  have h0 : leWord (c.slot code) 0 = Cmd.slotWord0 code c := by rw [Cmd.slot_eq, leWord_zero _ _ _ hw]
  have h1 : leWord (c.slot code) 1 = c.epoch := by rw [Cmd.slot_eq, leWord_succ, leWord_zero _ _ _ hepoch]
  have h2 : leWord (c.slot code) 2 = c.extAddr := by rw [Cmd.slot_eq, leWord_succ, leWord_succ, leWord_zero _ _ _ haddr]
  have h3 : leWord (c.slot code) 3 = c.extLen * 65536 := by
    rw [Cmd.slot_eq, leWord_succ, leWord_succ, leWord_succ, leWord_zero _ _ _ (by omega)]
  have hlen3 : bits (c.extLen * 65536) 39 16 = c.extLen := by simp only [bits]; omega
  have hhigh3 : bits (c.extLen * 65536) 63 40 = 0 := by simp only [bits]; omega
  have hlow3 : bits (c.extLen * 65536) 15 0 = 0 := by simp only [bits]; omega
  unfold parseNative
  dsimp only
  rw [h0, h1, h2, h3, hbcode, hbtag, hb31, hb30, hb29, hspare, hblen, hbunit, hlen3, hhigh3, hlow3,
    Cmd.slot_inl code c hinl, List.take_of_length_le hbytes]
  exact congrArg (Prod.mk code) (Cmd.eq_of_native c hlegacy hmute hgood)

/-! ### A native reply slot (R56) -/

/-- Word 0 of a reply slot. -/
def Reply.slotWord0 (r : Reply) (phase : Bool) : Nat :=
  pack [(r.opcode % 65536, 48), (r.tag % 65536, 32), (r.status, 24), (r.detail, 16), (b2n phase, 15), (b2n r.trunc, 14),
    (r.inl.length, 0)]

/-- Word 3 of a reply slot. -/
def Reply.slotWord3 (r : Reply) : Nat := pack [(r.changeSet % 2 ^ 32, 32), (r.pos % 2 ^ 32, 0)]

theorem Reply.slot_eq (r : Reply) (phase : Bool) :
    r.slot phase = wordsLe [r.slotWord0 phase, r.applied % 2 ^ 64, r.ext.length % 2 ^ 24, r.slotWord3]
      ++ (r.inl ++ List.replicate (32 - r.inl.length) 0) := by
  rw [← List.append_assoc]
  rfl

/-- The fields of word 0, each where R56 puts it, and its reserved bits 0. -/
theorem Reply.slotWord0_fields (r : Reply) (phase : Bool) (hop : r.opcode < 2 ^ 16) (htag : r.tag < 2 ^ 16)
    (hst : r.status < 2 ^ 8) (hd : r.detail < 2 ^ 8) (hl : r.inl.length ≤ 32) :
    r.slotWord0 phase < 2 ^ 64
    ∧ bits (r.slotWord0 phase) 63 48 = r.opcode ∧ bits (r.slotWord0 phase) 47 32 = r.tag
    ∧ bits (r.slotWord0 phase) 31 24 = r.status ∧ bits (r.slotWord0 phase) 23 16 = r.detail
    ∧ bit (r.slotWord0 phase) 15 = phase ∧ bit (r.slotWord0 phase) 14 = r.trunc
    ∧ bits (r.slotWord0 phase) 13 8 = 0 ∧ bits (r.slotWord0 phase) 7 0 = r.inl.length := by
  have hphase := b2n_lt phase
  have htrunc := b2n_lt r.trunc
  have hbit15 : bit (r.slotWord0 phase) 15 = (b2n phase == 1) := by
    simp only [bit, Reply.slotWord0, pack, List.foldl]
    congr 1
    omega
  have hbit14 : bit (r.slotWord0 phase) 14 = (b2n r.trunc == 1) := by
    simp only [bit, Reply.slotWord0, pack, List.foldl]
    congr 1
    omega
  refine ⟨?_, ?_, ?_, ?_, ?_, by simpa using hbit15, by simpa using hbit14, ?_, ?_⟩
  all_goals simp only [bits, Reply.slotWord0, pack, List.foldl]
  all_goals omega

theorem Reply.slotWord3_fields (r : Reply) (hset : r.changeSet < 2 ^ 32) (hpos : r.pos < 2 ^ 32) :
    r.slotWord3 < 2 ^ 64 ∧ bits r.slotWord3 63 32 = r.changeSet ∧ bits r.slotWord3 31 0 = r.pos := by
  refine ⟨?_, ?_, ?_⟩
  all_goals simp only [bits, Reply.slotWord3, pack, List.foldl]
  all_goals omega

/-- Settles O19: the header's words, then what follows them. -/
theorem replySlotLayout : Obligations.ReplySlotLayout := by
  unfold Obligations.ReplySlotLayout
  intro r phase hop htag hst hd happ hext hset hpos hl
  obtain ⟨hw0, hfields⟩ := r.slotWord0_fields phase hop htag hst hd hl
  obtain ⟨hw3, hset3, hpos3⟩ := r.slotWord3_fields hset hpos
  have h0 : leWord (r.slot phase) 0 = r.slotWord0 phase := by rw [Reply.slot_eq, leWord_zero _ _ _ hw0]
  have h1 : leWord (r.slot phase) 1 = r.applied := by
    rw [Reply.slot_eq, leWord_succ, leWord_zero _ _ _ (Nat.mod_lt _ (by decide)), Nat.mod_eq_of_lt happ]
  have h2 : leWord (r.slot phase) 2 = r.ext.length := by
    rw [Reply.slot_eq, leWord_succ, leWord_succ, Nat.mod_eq_of_lt hext, leWord_zero _ _ _ (by omega)]
  have h3 : leWord (r.slot phase) 3 = r.slotWord3 := by
    rw [Reply.slot_eq, leWord_succ, leWord_succ, leWord_succ, leWord_zero _ _ _ hw3]
  obtain ⟨hop0, htag0, hst0, hd0, hphase0, htrunc0, hspare0, hlen0⟩ := hfields
  rw [h0, h1, h2, h3]
  refine ⟨?_, hop0, htag0, hst0, hd0, hphase0, htrunc0, hspare0, hlen0, rfl, ?_, ?_, hset3, hpos3, ?_⟩
  · rw [Reply.slot_eq]
    simp only [List.length_append, wordsLe_length, List.length_replicate, List.length_cons, List.length_nil]
    omega
  · simp only [bits]; omega
  · simp only [bits]; omega
  · rw [Reply.slot_eq, drop_header]

end Sys2Proof.Machine

/-! PROOFS. The rings and the sideband: control registers, doorbells and bases, replies as they are written, the transactions of
the SMBus target. -/
namespace Sys2Proof.Machine

/-! ### Writes that reach a ring (R41, R50) -/

/-- The block with another content of ring k. -/
def Blk.putRing (b : Blk) (k : Nat) (r : Ring) : Blk :=
  { b with host := { b.host with rings := Tab.set {} b.host.rings k r } }

theorem Blk.inside_putRing (b : Blk) (k : Nat) (r : Ring) : b.Inside (b.putRing k r) := .of_eq rfl rfl

section
variable {b : Blk} {fn ring : Nat} (hp : b.pcie = true) (hfn : fn ≤ 64) (hr : ring < 8)
include hp hfn hr

theorem Blk.ring_reached : (b.pcie && ringThere fn ring) = true := by simp [hp, ringThere, hfn, hr]

theorem Blk.onRing_eq (f : Ring → Ring) :
    b.onRing fn ring f = b.putRing (fn * 8 + ring) (f (b.cmdRing (fn * 8 + ring))) := if_pos (Blk.ring_reached hp hfn hr)

end

theorem Blk.onRing_down (b : Blk) (fn ring : Nat) (f : Ring → Ring) (hp : b.pcie = false) : b.onRing fn ring f = b :=
  if_neg (by simp [hp])

/-! ### RING_CTRL (R48, R50) -/

/-- OVERRUN after a write of RING_CTRL: a 1 clears it. -/
def Ring.overrunAfter (r : Ring) (v : Nat) : Bool := r.overrun && !bit v 61

theorem Ring.overrunAfter_cleared (r : Ring) (v : Nat) (h : bit v 61 = true) : r.overrunAfter v = false := by
  simp [Ring.overrunAfter, h]

section
variable {r : Ring} {v : Nat}

theorem Ring.ctrl_starts (he : r.enable = false) (ho : r.owed = 0) (h63 : bit v 63 = true) (hlo : 6 ≤ bits v 4 0)
    (hhi : bits v 4 0 ≤ 16) :
    r.ctrl v true true = { r with
      enable := true, halted := false, overrun := r.overrunAfter v, size := bits v 4 0, cmdProd := 0, cmdCons := 0,
      replyProd := 0, replyCons := 0 } := by
  simp [Ring.ctrl, he, ho, h63, hlo, hhi, Ring.overrunAfter, Bool.and_comm]

/-- A ring that stays disabled and is idle takes its size. -/
theorem Ring.ctrl_sizes (he : r.enable = false) (ho : r.owed = 0)
    (h : bit v 63 = false ∨ bits v 4 0 < 6 ∨ 16 < bits v 4 0) :
    r.ctrl v true true = { r with overrun := r.overrunAfter v, size := bits v 4 0 } := by
  rcases h with h | h
  · simp [Ring.ctrl, he, ho, h, Ring.overrunAfter, Bool.and_comm]
  · have hsize : ¬(6 ≤ bits v 4 0 ∧ bits v 4 0 ≤ 16) := by omega
    simp [Ring.ctrl, he, ho, hsize, Ring.overrunAfter, Bool.and_comm]

theorem Ring.ctrl_stops (he : r.enable = true) (h63 : bit v 63 = false) :
    r.ctrl v true true = { r with enable := false, overrun := r.overrunAfter v } := by
  simp [Ring.ctrl, he, h63, Ring.overrunAfter, Bool.and_comm]

theorem Ring.ctrl_runs (he : r.enable = true) (h63 : bit v 63 = true) :
    r.ctrl v true true = { r with overrun := r.overrunAfter v } := by
  simp [Ring.ctrl, he, h63, Ring.overrunAfter, Bool.and_comm]

end

/-- The commands that write RING_CTRL are one write (R48, R50). -/
theorem exec_ringCtrl {fn ring : Nat} {v : W64} {s : State} (hp : s.blk.pcie = true) (hfn : fn ≤ 64) (hr : ring < 8)
    {r : Ring} (h : (s.blk.cmdRing (fn * 8 + ring)).ctrl v.toNat true true = r) {i : Instr}
    (hi : exec i s = s.unit (fun b => b.ringCtrl fn ring v)) : exec i s = .next (s.put (s.blk.putRing (fn * 8 + ring) r)) := by
  rw [hi]
  exact State.unit_to _ ((Blk.onRing_eq hp hfn hr _).trans (congrArg _ h)) (s.blk.inside_putRing _ _)

/-- Settles O32, by the cases of a write of RING_CTRL. -/
theorem ringControlWrites : Obligations.RingControlWrites := by
  unfold Obligations.RingControlWrites
  intro fn ring v s hp hfn hr k r now ov
  refine ⟨fun he ho h63 hlo hhi => ?_, fun he ho h63 hs => ?_, fun he h63 => ?_, fun he ho h63 => ?_, fun he h63 => ?_,
    fun he h63 h61 => ?_, fun he ho h63 h61 => ?_⟩
  · exact exec_ringCtrl hp hfn hr (Ring.ctrl_starts he ho h63 hlo hhi) rfl
  · exact exec_ringCtrl hp hfn hr (Ring.ctrl_sizes he ho (.inr hs)) rfl
  · exact exec_ringCtrl hp hfn hr (Ring.ctrl_stops he h63) rfl
  · exact exec_ringCtrl hp hfn hr (Ring.ctrl_sizes he ho (.inl h63)) rfl
  · exact exec_ringCtrl hp hfn hr (Ring.ctrl_runs he h63) rfl
  · exact exec_ringCtrl hp hfn hr ((Ring.ctrl_runs he h63).trans (by rw [Ring.overrunAfter_cleared _ _ h61])) rfl
  · exact exec_ringCtrl hp hfn hr ((Ring.ctrl_sizes he ho (.inl h63)).trans (by rw [Ring.overrunAfter_cleared _ _ h61])) rfl

/-! ### Doorbells and bases (R43, R44, R49, R50) -/

/-- A write of 8 bytes replaces both halves. -/
theorem mergeHalves_full (old v : Nat) (h : v < 2 ^ 64) : mergeHalves old v true true = v := by
  simp only [mergeHalves, if_true]
  omega

section
variable {b : Blk} {fn ring : Nat} (hp : b.pcie = true) (hfn : fn ≤ 64) (hr : ring < 8)
include hp hfn hr

/-- A doorbell within the ring. -/
theorem Blk.ringBell_within (prod : BitVec 32)
    (h : (prod - (b.cmdRing (fn * 8 + ring)).cmdCons).toNat ≤ 2 ^ (b.cmdRing (fn * 8 + ring)).size) :
    b.ringBell fn ring prod = b.putRing (fn * 8 + ring) { b.cmdRing (fn * 8 + ring) with cmdProd := prod } := by
  rw [Blk.ringBell, if_pos (Blk.ring_reached hp hfn hr)]
  exact if_neg (fun hover => absurd hover.1 (Nat.not_lt.mpr h))

/-- A doorbell beyond the ring halts it. -/
theorem Blk.ringBell_beyond (prod : BitVec 32)
    (h : 2 ^ (b.cmdRing (fn * 8 + ring)).size < (prod - (b.cmdRing (fn * 8 + ring)).cmdCons).toNat)
    (hh : (b.cmdRing (fn * 8 + ring)).halted = false) :
    b.ringBell fn ring prod
      = (b.putRing (fn * 8 + ring) { b.cmdRing (fn * 8 + ring) with cmdProd := prod, halted := true, overrun := true }).vent
          { type := 0x0002, tenant := fn, island := 100, object := fn * 8 + ring } := by
  rw [Blk.ringBell, if_pos (Blk.ring_reached hp hfn hr)]
  exact if_pos ⟨h, by simp [hh]⟩

/-- A write of CMD_BASE: taken while the ring is disabled and idle. -/
theorem Blk.barWrite_cmdBase (v : Nat) (hv : v < 2 ^ 64) :
    b.barWrite fn (0x108 + 64 * ring) v 8 = b.putRing (fn * 8 + ring)
      (if !(b.cmdRing (fn * 8 + ring)).enable && (b.cmdRing (fn * 8 + ring)).owed == 0
        then { b.cmdRing (fn * 8 + ring) with cmdBase := v } else b.cmdRing (fn * 8 + ring)) := by
  have hreg : (0x108 + 64 * ring) / 8 * 8 = 0x108 + 64 * ring := by omega
  have hmod : (0x108 + 64 * ring) % 8 = 0 := by omega
  have hring : (0x108 + 64 * ring - 0x100) / 64 = ring := by omega
  have hoff : (0x108 + 64 * ring - 0x100) % 64 = 0x08 := by omega
  have hin : 0x100 ≤ 0x108 + 64 * ring ∧ 0x108 + 64 * ring < 0x300 := by omega
  unfold Blk.barWrite
  simp only [hreg, hmod, hring, hoff, hin, Blk.onRing_eq hp hfn hr]
  simp [mergeHalves_full _ _ hv]

/-- A write of REPLY_BASE: taken while the ring is disabled and idle. -/
theorem Blk.barWrite_replyBase (v : Nat) (hv : v < 2 ^ 64) :
    b.barWrite fn (0x110 + 64 * ring) v 8 = b.putRing (fn * 8 + ring)
      (if !(b.cmdRing (fn * 8 + ring)).enable && (b.cmdRing (fn * 8 + ring)).owed == 0
        then { b.cmdRing (fn * 8 + ring) with replyBase := v } else b.cmdRing (fn * 8 + ring)) := by
  have hreg : (0x110 + 64 * ring) / 8 * 8 = 0x110 + 64 * ring := by omega
  have hmod : (0x110 + 64 * ring) % 8 = 0 := by omega
  have hring : (0x110 + 64 * ring - 0x100) / 64 = ring := by omega
  have hoff : (0x110 + 64 * ring - 0x100) % 64 = 0x10 := by omega
  have hin : 0x100 ≤ 0x110 + 64 * ring ∧ 0x110 + 64 * ring < 0x300 := by omega
  unfold Blk.barWrite
  simp only [hreg, hmod, hring, hoff, hin, Blk.onRing_eq hp hfn hr]
  simp [mergeHalves_full _ _ hv]

end

/-- An offset outside the rings. -/
theorem Blk.barWrite_outside (b : Blk) (fn offset v width : Nat) (h : offset < 0x100 ∨ 0x300 ≤ offset) :
    b.barWrite fn offset v width = b := by
  have hout : ¬(0x100 ≤ offset / 8 * 8 ∧ offset / 8 * 8 < 0x300) := by omega
  unfold Blk.barWrite
  exact if_neg (fun hin => hout hin.2)

theorem Blk.ringBell_down (b : Blk) (fn ring : Nat) (prod : BitVec 32) (hp : b.pcie = false) : b.ringBell fn ring prod = b :=
  if_neg (by simp [hp])

/-- With PCIe down no write of a register arrives. -/
theorem Blk.barWrite_down (b : Blk) (fn offset v width : Nat) (hp : b.pcie = false) : b.barWrite fn offset v width = b := by
  simp only [Blk.barWrite, Blk.onRing_down _ _ _ _ hp, Blk.ringBell_down _ _ _ _ hp, ite_self]
  split_ifs
  · split <;> rfl
  · rfl

theorem registerWrite_to {fn offset value width : Nat} {s : State} {b : Blk} (h : s.blk.barWrite fn offset value width = b)
    (hin : s.blk.Inside b) : exec (.registerWrite fn offset value width) s = .next (s.put b) := by
  rw [show exec (.registerWrite fn offset value width) s = execRegisterWrite fn offset value width s from rfl,
    execRegisterWrite]
  exact State.unit_to b h hin

/-- Settles O33: what each register takes, and what reaches none. -/
theorem doorbellsAndBases : Obligations.DoorbellsAndBases := by
  unfold Obligations.DoorbellsAndBases
  refine ⟨fun fn ring s hp hfn hr => ?_, fun fn offset v width s h => ?_, fun fn offset v width ring prod cons w s hp => ?_⟩
  · intro k r now
    refine ⟨fun prod h => ?_, fun prod h hh => ?_, fun cons => ?_, fun v hv => ⟨fun he ho => ?_, fun hbusy => ?_⟩⟩
    · exact State.unit_to _ (Blk.ringBell_within hp hfn hr prod h) (s.blk.inside_putRing _ _)
    · exact State.unit_to _ (Blk.ringBell_beyond hp hfn hr prod h hh)
        ((s.blk.inside_putRing _ _).trans (Blk.noted_vent _ _).inside)
    · exact State.unit_to _ (Blk.onRing_eq hp hfn hr _) (s.blk.inside_putRing _ _)
    · have hidle : (!r.enable && r.owed == 0) = true := by simp [he, ho]
      exact ⟨registerWrite_to ((Blk.barWrite_cmdBase hp hfn hr v hv).trans (congrArg _ (if_pos hidle))) (s.blk.inside_putRing _ _),
        registerWrite_to ((Blk.barWrite_replyBase hp hfn hr v hv).trans (congrArg _ (if_pos hidle))) (s.blk.inside_putRing _ _)⟩
    · have hidle : ¬(!r.enable && r.owed == 0) = true := by rcases hbusy with h | h <;> simp [h]
      exact ⟨registerWrite_to ((Blk.barWrite_cmdBase hp hfn hr v hv).trans (congrArg _ (if_neg hidle))) (s.blk.inside_putRing _ _),
        registerWrite_to ((Blk.barWrite_replyBase hp hfn hr v hv).trans (congrArg _ (if_neg hidle))) (s.blk.inside_putRing _ _)⟩
  · exact registerWrite_to (Blk.barWrite_outside s.blk fn offset v width h) (.rfl' _)
  · exact ⟨registerWrite_to (Blk.barWrite_down s.blk fn offset v width hp) (.rfl' _),
      State.unit_idle (Blk.ringBell_down _ _ _ _ hp),
      State.unit_idle (Blk.onRing_down _ _ _ _ hp), State.unit_idle (Blk.onRing_down _ _ _ _ hp),
      State.unit_idle (Blk.onRing_down _ _ _ _ hp), State.unit_idle (Blk.onRing_down _ _ _ _ hp),
      State.unit_idle (Blk.onRing_down _ _ _ _ hp)⟩

/-! ### Replies as they are written (R46, R47, R56, R69) -/

/-- What leaves the block when a native reply is written, the last first: the ring's vector where it is due, the slot at
REPLY_PROD, the extended result. -/
def Reply.outputs (x : Reply) (g : Ring) (same : Bool) : List Output :=
  (if (x.irq || x.status != 0) && !same then [Output.msix x.fn x.ring] else [])
  ++ [Output.hostWrite x.fn (g.replyBase + g.replyProd.toNat % 2 ^ g.size * 64) (x.slot (bit g.replyProd.toNat g.size))]
  ++ (if x.ext.isEmpty then [] else [Output.hostWrite x.fn x.extAddr x.ext])

/-- The block once a reply has gone to ring k, before anything leaves: REPLY_PROD has moved and one reply less is owed. -/
def Blk.replyGone (b : Blk) (x : Reply) (k : Nat) : Blk :=
  Blk.putRing { b with host := { b.host with replies := b.host.replies.erase x } } k
    { b.cmdRing k with replyProd := (b.cmdRing k).replyProd + 1, owed := (b.cmdRing k).owed - 1 }

theorem Blk.writeReply_native (b : Blk) (x : Reply) (same : Bool) (hl : x.legacy = false)
    (hc : b.sys.straps.compat = false) :
    b.writeReply x same
      = (b.replyGone x (x.fn * 8 + x.ring)).emits (x.outputs (b.cmdRing (x.fn * 8 + x.ring)) same) := by
  simp only [Blk.writeReply, hl, hc, Bool.or_false, Bool.false_eq_true, if_false]
  rfl

theorem Blk.inside_replyGone (b : Blk) (x : Reply) (k : Nat) : b.Inside (b.replyGone x k) := .of_eq rfl rfl

/-- Settles O35: the reply that `Blk.nextReply` picks is written by `Blk.writeReply`. -/
theorem repliesAreWritten : Obligations.RepliesAreWritten := by
  unfold Obligations.RepliesAreWritten
  intro fn ring same s hp
  refine ⟨fun x hnext hfn hring hl hc => ?_, fun hnone => ?_⟩
  · subst hfn hring
    refine State.unit_to _ ((if_pos hp).trans ?_) ((s.blk.inside_replyGone x _).trans (Blk.noted_emits _ _).inside)
    rw [hnext]
    exact s.blk.writeReply_native x same hl hc
  · refine State.unit_idle ((if_pos hp).trans ?_)
    rw [hnone]

/-! ### The sideband (R70 to R72, R496, R532) -/

theorem Blk.inside_setSb (b : Blk) (f : Sideband → Sideband) : b.Inside (b.setSb f) := .of_eq rfl rfl

theorem Blk.forward_host (b : Blk) (code : Nat) (c : Cmd) (e : Nat) : (b.forward code c e).host = b.host := by
  unfold Blk.forward Blk.sendLink
  exact Blk.count_host _ _ _ _

theorem Blk.Spoken.trees_eq {b b' : Blk} (h : b.Spoken b') : b'.trees = b.trees := by
  obtain ⟨_, _, _, _, _, _, rfl⟩ := h
  rfl

/-- What stays of the sideband when a command is judged: all but the reply. -/
def Blk.SbHeld (b b' : Blk) : Prop :=
  b'.host.sb.outstanding = b.host.sb.outstanding ∧ b'.host.sb.discarded = b.host.sb.discarded

theorem Blk.SbHeld.of_host {b b' : Blk} (h : b'.host = b.host) : b.SbHeld b' := by
  constructor <;> rw [h]

theorem Blk.sbHeld_answer (b : Blk) (code : Nat) (c : Cmd) (r : Res) (n m k : Nat) : b.SbHeld (b.answer code c r n m k) := by
  unfold Blk.SbHeld
  rw [Blk.answer_host, HostIf.take]
  split_ifs <;> exact ⟨rfl, rfl⟩

theorem Blk.sbHeld_take (b : Blk) (r : OpRow) (e : Nat) (i : Instr) : b.SbHeld (b.take r e i) := by
  have hstaged : b.SbHeld ((b.stageAt e i).count 0xC5 0 r.cmd.tenant) := by
    unfold Blk.SbHeld
    rw [Blk.count_host]
    exact ⟨rfl, rfl⟩
  unfold Blk.take
  dsimp only
  split
  · unfold Blk.SbHeld
    rw [Blk.forward_host]
    exact hstaged
  · exact hstaged

theorem Blk.sbHeld_accept (b : Blk) (code : Nat) (c : Cmd) : b.SbHeld (b.accept code c) := by
  unfold Blk.accept
  split
  · exact b.sbHeld_answer _ _ _ _ _ _
  · split
    · exact .of_host rfl
    · split
      · exact b.sbHeld_answer _ _ _ _ _ _
      · dsimp only
        split_ifs
        · exact b.sbHeld_answer _ _ _ _ _ _
        · exact b.sbHeld_take _ _ _
        · exact b.sbHeld_take _ _ _
        · exact b.sbHeld_answer _ _ _ _ _ _

theorem Blk.sbHeld_sbAccept (b : Blk) (l : List Byte) : b.SbHeld (b.sbAccept l) := Blk.sbHeld_accept b.draw _ _

/-- The block once a submission has been taken: it is outstanding, and its command is judged. -/
def Blk.sbTaken (b : Blk) (l : List Byte) : Blk :=
  Blk.sbAccept ((b.emit (.smbAck true)).setSb (fun x => { x with outstanding := true, discarded := false })) l

theorem Blk.spoken_sbTaken (b : Blk) (l : List Byte) : b.Spoken (b.sbTaken l) :=
  ((b.spoken_emit _).trans (Blk.spoken_setSb _ _)).trans (Blk.spoken_sbAccept _ _)

theorem exec_sbSubmit (n : Nat) (l : List Byte) (ok : Bool) (s : State) :
    exec (.sbSubmit n l ok) s = execSbSubmit n l ok s := rfl

/-- A submission that has its place, while none is outstanding. -/
theorem Blk.sb_room {b : Blk} {n : Nat} (hlo : 32 ≤ n) (hhi : n ≤ 128) (ho : b.host.sb.outstanding = false) :
    ¬(n < 32 ∨ 128 < n ∨ b.host.sb.outstanding = true) := by
  simp only [ho, Bool.false_eq_true, or_false]
  omega

section
variable {s : State} (hb : s.blk.smbus = true)
include hb

theorem sbSubmit_badPec (n : Nat) (l : List Byte) : exec (.sbSubmit n l false) s = .next (s.put (s.blk.emit (.smbAck false))) := by
  rw [exec_sbSubmit, execSbSubmit]
  exact State.unit_to _ (by simp [hb]) (s.blk.inside_emit _)

theorem sbSubmit_discards (n : Nat) (l : List Byte) (h : n < 32 ∨ 128 < n ∨ s.blk.host.sb.outstanding = true) :
    exec (.sbSubmit n l true) s
      = .next (s.put ((s.blk.emit (.smbAck true)).setSb (fun x => { x with discarded := true }))) := by
  rw [exec_sbSubmit, execSbSubmit]
  exact State.unit_to _ (by simp [hb, h]) ((s.blk.inside_emit _).trans (Blk.inside_setSb _ _))

theorem sbSubmit_holds {n : Nat} (l : List Byte) (hlo : 32 ≤ n) (hhi : n ≤ 128) (ho : s.blk.host.sb.outstanding = false)
    (hbusy : s.blk.sys.phase.busy = true) :
    exec (.sbSubmit n l true) s = .next (s.put ((s.blk.emit (.smbAck true)).setSb
      (fun x => { x with outstanding := true, held := some (l.take n) }))) := by
  rw [exec_sbSubmit, execSbSubmit]
  exact State.unit_to _ (by simp [hb, hbusy, Blk.sb_room hlo hhi ho]) ((s.blk.inside_emit _).trans (Blk.inside_setSb _ _))

theorem sbSubmit_takes {n : Nat} (l : List Byte) (hlo : 32 ≤ n) (hhi : n ≤ 128) (ho : s.blk.host.sb.outstanding = false)
    (hbusy : s.blk.sys.phase.busy = false) :
    exec (.sbSubmit n l true) s = .next (s.put (s.blk.sbTaken (l.take n))) := by
  rw [exec_sbSubmit, execSbSubmit]
  exact State.unit_to _ (by simp [hb, hbusy, Blk.sb_room hlo hhi ho, Blk.sbTaken]) (s.blk.spoken_sbTaken _).inside

theorem sbReply_some {l : List Byte} (h : s.blk.host.sb.reply = some l) :
    exec .sbReply s = .next (s.put ((s.blk.smbAnswer 0x11 (smbBlock l)).setSb
      (fun x => { x with reply := none, outstanding := false }))) := by
  refine State.unit_to _ ?_ ((s.blk.inside_emit _).trans (Blk.inside_setSb _ _))
  simp [hb, h]

theorem sbReply_none (h : s.blk.host.sb.reply = none) :
    exec .sbReply s = .next (s.put (s.blk.smbAnswer 0x11 (smbBlock []))) := by
  refine State.unit_to _ ?_ (s.blk.inside_emit _)
  simp [hb, h]

end

theorem Blk.sbStatus_eq (b : Blk) :
    b.sbStatus = b2n b.host.sb.reply.isSome + 2 * b2n b.host.sb.outstanding + 4 * b2n b.sys.phase.inDormant
      + 8 * b2n b.host.sb.discarded := by
  simp only [Blk.sbStatus, pack, List.foldl]
  omega

/-- Settles O36, transaction by transaction. -/
theorem sidebandTransactions : Obligations.SidebandTransactions := by
  unfold Obligations.SidebandTransactions
  intro s hb answer
  refine ⟨sbSubmit_badPec hb, sbSubmit_discards hb, fun n l hlo hhi ho hbusy => sbSubmit_holds hb l hlo hhi ho hbusy,
    fun n l hlo hhi ho hp => ?_, fun l h => sbReply_some hb h, sbReply_none hb, ?_, fun code write => ?_,
    fun code block => ?_, State.unit_idle (f := fun b => b) rfl⟩
  · have hspoken := s.blk.spoken_sbTaken (l.take n)
    obtain ⟨hout, hdis⟩ := Blk.sbHeld_sbAccept
      ((s.blk.emit (.smbAck true)).setSb (fun x => { x with outstanding := true, discarded := false })) (l.take n)
    exact ⟨_, sbSubmit_takes hb l hlo hhi ho (by simp [hp, Phase.busy]), rfl, hout, hdis, hspoken.trees_eq, hspoken.sys_eq⟩
  · rw [← Blk.sbStatus_eq]
    exact State.unit_to _ (if_pos hb) (s.blk.inside_emit _)
  · exact State.unit_to _ (if_pos hb) (s.blk.inside_emit _)
  · exact State.unit_to _ (if_pos hb) (s.blk.inside_emit _)

end Sys2Proof.Machine

/-! PROOFS. The commands that read: what they answer, and that they change nothing. -/
namespace Sys2Proof.Machine

/-! ### An opcode row whose application succeeds or fails (R31, R55, R57) -/

/-- The head-end takes opcode commands: in service and in Dormant (R496, R502). -/
def State.Live (s : State) : Prop := s.blk.sys.phase = .service ∨ s.blk.sys.phase = .dormant

theorem State.Takes.live {s : State} {o : Op} {c : Cmd} (h : s.Takes o c) : s.Live := .inl h.1

/-- An application that changes nothing and succeeds. -/
def ReadsOk (f : Cmd → Blk → Blk × Res) (c : Cmd) (b : Blk) : Prop := (f c b).1 = b ∧ (f c b).2.st = .ok

section
variable {i : Instr} {r : OpRow} {s : State} (hrow : opRow s.blk.sys.part i = some r) (hm : movesPhase i = false)
  (hlive : s.Live) (hcheck : s.blk.acceptCheck r.op r.cmd = none)
include hrow hm hlive hcheck

/-- An accepted command whose effect stays inside its unit's frame: the effect and the reply. -/
theorem exec_opcode_ok {b : Blk} {x : Res} (hf : r.apply r.cmd s.blk = (b, x)) (hok : x.st = .ok) (hin : s.blk.Inside b) :
    exec i s = .next (s.answered r.op r.cmd b x) := by
  have hst : (r.apply r.cmd s.blk).2.st = .ok := by rw [hf]; exact hok
  rw [opcode_shape i r s hrow hm, State.opcode_eq, Blk.runOp_accepted _ _ _ _ hlive hcheck, Blk.applyOp_ok _ _ _ _ _ hst, hf,
    (hin.trans (b.spoken_answer _ _ _ _ _ _).inside).within_eq]
  rfl

/-- An accepted command whose application fails, but for a parity fault: the reply alone. -/
theorem exec_opcode_fails {x : Res} (hf : (r.apply r.cmd s.blk).2 = x) (hok : x.st ≠ .ok) (hfault : x.st ≠ .fault) :
    exec i s = .next (s.answered r.op r.cmd s.blk x) := by
  subst hf
  rw [opcode_shape i r s hrow hm, State.opcode_eq, Blk.runOp_accepted _ _ _ _ hlive hcheck,
    Blk.applyOp_failed _ _ _ _ _ hok hfault, (s.blk.spoken_answer _ _ _ _ _ _).inside.within_eq]
  rfl

/-- An accepted command that only reads. -/
theorem exec_reads (h : ReadsOk r.apply r.cmd s.blk) :
    (r.apply r.cmd s.blk).2.st = .ok ∧ exec i s = .next (s.answered r.op r.cmd s.blk (r.apply r.cmd s.blk).2) :=
  ⟨h.2, exec_opcode_ok hrow hm hlive hcheck (Prod.ext h.1 rfl) h.2 (.rfl' _)⟩

end

/-! ### Versions, contexts and records as commands read them (R63, R239, R257, R260, R472) -/

theorem mayAct_iff (tenant owner : Nat) : mayAct tenant owner = true ↔ tenant = 0 ∨ tenant = owner := by simp [mayAct]

/-- An S read of the present version, or of one that is kept. -/
theorem snapshot_ok {α : Type} (c : Cmd) (epoch : Nat) (d : α) (v : Vers α)
    (h : (c.legacy = true ∨ c.word 0 = 0) ∨ (c.word 0 ≤ epoch ∧ (Vers.kept v (c.word 0)).isSome = true)) :
    ∃ x, snapshot c epoch d v = .ok x := by
  by_cases hnow : c.legacy = true ∨ c.word 0 = 0
  · refine ⟨Vers.cur d v, ?_⟩
    rcases hnow with h | h <;> simp [snapshot, h]
  · obtain ⟨hle, hkept⟩ := h.resolve_left hnow
    obtain ⟨x, hx⟩ := Option.isSome_iff_exists.mp hkept
    obtain ⟨hl, h0⟩ := not_or.mp hnow
    exact ⟨x, by simp [snapshot, hl, h0, Nat.not_lt.mpr hle, hx]⟩

section
variable {b : Blk} (hlatent : b.dir.latent = [])
include hlatent

/-- Where no error waits in HBM, a read meets none. -/
theorem Blk.meetErrors_none (flow : Bool) (id : Nat) : b.meetErrors flow id = b := by
  simp only [Blk.meetErrors, hlatent, List.filter_nil, List.foldl_nil]
  rw [← hlatent]

theorem Blk.readCtx_clean (hfaults : b.dir.faults = []) (e : Nat) : b.readCtx e = (b, some (Tab.get {} b.dir.ctxs e)) := by
  rw [Blk.readCtx, Blk.meetErrors_none hlatent, hfaults]
  rfl

theorem Blk.readFlow_clean (hfaults : b.dir.flowFaults = []) (f : Nat) :
    b.readFlow f = (b, some (Tab.get {} b.dir.flows f)) := by
  rw [Blk.readFlow, Blk.meetErrors_none hlatent, hfaults]
  rfl

theorem Blk.readAll_clean (hfaults : b.dir.faults = []) (l : List Nat) :
    b.readAll l = (b, some (l.map (Tab.get {} b.dir.ctxs))) := by
  induction l with
  | nil => rfl
  | cons e r ih =>
    rw [Blk.readAll, Blk.readCtx_clean hlatent hfaults]
    dsimp only
    rw [ih]
    rfl

end

/-- A fold that gathers bytes and keeps the block at each step keeps it throughout. -/
theorem foldl_keeps_fst {α β : Type} (step : Blk × β → α → Blk × β) (b : Blk) (h : ∀ y x, (step (b, y) x).1 = b)
    (l : List α) (y : β) : (l.foldl step (b, y)).1 = b := by
  induction l generalizing y with
  | nil => rfl
  | cons x r ih =>
    rw [List.foldl_cons, show step (b, y) x = (b, (step (b, y) x).2) from Prod.ext (h y x) rfl]
    exact ih _

theorem Blk.flushLost_none (n : Nat) (b : Blk) (h : b.tele.losses = []) : Blk.flushLost n b = b := by
  cases n with
  | zero => rfl
  | succ n => simp only [Blk.flushLost, h]

theorem Blk.consume_none (b : Blk) (seq : Nat) (h : b.tele.losses = []) :
    b.consume seq = { b with tele := { b.tele with vent := b.tele.vent.filter (fun x => decide (seq ≤ x.seq)) } } :=
  Blk.flushLost_none 128 _ h

/-! ### What the applications of reads leave (R33) -/

theorem applyTenantQuery_eq (c : Cmd) (b : Blk) : applyTenantQuery c b = (b, {
    ext := (List.range (c.f 1 31 0)).map (fun i => BitVec.ofNat 8
      (if c.tenant = 0 ∨ c.tenant = b.objectOwner (c.f 0 63 56) (c.f 0 47 0 + i)
        then b.objectOwner (c.f 0 63 56) (c.f 0 47 0 + i) else 0xFF)) }) := by
  simp only [applyTenantQuery, mayAct_iff]

theorem engineCounterRead_readsOk (c : Cmd) (b : Blk) (h : c.tenant = 0 ∨ c.tenant = c.f 0 63 57) :
    ReadsOk applyEngineCounterRead c b := by
  have hmay : mayAct c.tenant (c.f 0 63 57) = true := (mayAct_iff _ _).mpr h
  constructor <;> simp [applyEngineCounterRead, hmay]

theorem counterRead_readsOk (c : Cmd) (b : Blk) (h : b.ctrRefused (ctrIn c) c.tenant = none) :
    ReadsOk applyCounterRead c b := by
  constructor <;> simp [applyCounterRead, h]

theorem binRead_readsOk (c : Cmd) (b : Blk) (h : b.ctrRefused (ctrIn c) c.tenant = none) : ReadsOk applyBinRead c b := by
  constructor <;> simp [applyBinRead, h]

theorem gqRead_readsOk (c : Cmd) (b : Blk) (h : (c.legacy = true ∨ c.word 0 = 0)
    ∨ (c.word 0 ≤ b.clk.epoch ∧ (Vers.kept b.gey.cfg (c.word 0)).isSome = true)) : ReadsOk applyGqRead c b := by
  obtain ⟨x, hx⟩ := snapshot_ok c b.clk.epoch {} b.gey.cfg h
  constructor <;> simp [applyGqRead, hx]

theorem parseNodeRead_readsOk (c : Cmd) (b : Blk) (h : (c.legacy = true ∨ c.word 0 = 0)
    ∨ (c.word 0 ≤ b.clk.epoch ∧ (Vers.kept b.cls.cfg (c.word 0)).isSome = true)) : ReadsOk applyParseNodeRead c b := by
  obtain ⟨x, hx⟩ := snapshot_ok c b.clk.epoch {} b.cls.cfg h
  constructor <;> simp [applyParseNodeRead, hx]

theorem ruleRead_readsOk (c : Cmd) (b : Blk) (h : (c.legacy = true ∨ c.word 0 = 0)
    ∨ (c.word 0 ≤ b.clk.epoch ∧ (Vers.kept b.cls.cfg (c.word 0)).isSome = true)) : ReadsOk applyRuleRead c b := by
  obtain ⟨x, hx⟩ := snapshot_ok c b.clk.epoch {} b.cls.cfg h
  constructor <;> simp [applyRuleRead, hx]

theorem handlerRead_readsOk (c : Cmd) (b : Blk) (h : (c.legacy = true ∨ c.word 0 = 0)
    ∨ (c.word 0 ≤ b.clk.epoch ∧ (Vers.kept b.tum.handlers (c.word 0)).isSome = true)) : ReadsOk applyHandlerRead c b := by
  obtain ⟨x, hx⟩ := snapshot_ok c b.clk.epoch [] b.tum.handlers h
  constructor <;> simp [applyHandlerRead, hx]

/-- Nothing in HBM is marked, and nothing waits to be met. -/
structure Blk.Clean (b : Blk) : Prop where
  latent : b.dir.latent = []
  faults : b.dir.faults = []
  flowFaults : b.dir.flowFaults = []

theorem epRead_readsOk (c : Cmd) (b : Blk) (hc : b.Clean) (h : mayAct c.tenant (b.endpointOwner (epRange c).1) = true) :
    ReadsOk applyEpRead c b := by
  have hread (e : Nat) := Blk.readCtx_clean hc.latent hc.faults e
  unfold ReadsOk applyEpRead
  rw [if_neg (by simp [h])]
  exact ⟨foldl_keeps_fst _ b (fun y e => by rw [hread]) _ _, rfl⟩

theorem checkSave_readsOk (c : Cmd) (b : Blk) (hc : b.Clean) (h : mayAct c.tenant (b.endpointOwner (epRange c).1) = true) :
    ReadsOk applyCheckSave c b := by
  have hread := Blk.readAll_clean hc.latent hc.faults (epList c)
  constructor <;> simp [applyCheckSave, h, hread]

theorem flowRead_readsOk (c : Cmd) (b : Blk) (hc : b.Clean) (h : b.flowsOwned c = true) : ReadsOk applyFlowRead c b := by
  have hread (f : Nat) := Blk.readFlow_clean hc.latent hc.flowFaults f
  unfold ReadsOk applyFlowRead
  rw [if_neg (by simp [h])]
  exact ⟨foldl_keeps_fst _ b (fun y f => by rw [hread]) _ _, rfl⟩

theorem nonceQuery_readsOk (c : Cmd) (b : Blk) (hc : b.Clean)
    (hep : c.f 0 63 62 = 0 → mayAct c.tenant (b.endpointOwner (c.f 1 63 39)) = true)
    (hcar : c.f 0 63 62 ≠ 0 → mayAct c.tenant (b.carrierOwner (c.f 1 63 42)) = true) : ReadsOk applyNonceQuery c b := by
  by_cases hkind : c.f 0 63 62 = 0
  · have hread := Blk.readCtx_clean hc.latent hc.faults (c.f 1 63 39)
    constructor <;> simp [applyNonceQuery, hkind, hep hkind, hread, Res.words]
  · have hread := Blk.readFlow_clean hc.latent hc.flowFaults (c.f 1 63 42)
    constructor <;> simp [applyNonceQuery, hkind, hcar hkind, hread, Res.words]

theorem ventRead_readsOk (c : Cmd) (b : Blk) (h : c.b 1 47 = false) : ReadsOk applyVentRead c b := by
  constructor <;> simp [applyVentRead, h]

/-- VENT_READ with CONSUME by tenant 0. -/
theorem ventRead_consumes (c : Cmd) (b : Blk) (h : c.b 1 47 = true) (ht : c.tenant = 0) :
    (applyVentRead c b).1 = b.consume (c.word 0) ∧ (applyVentRead c b).2.st = .ok := by
  constructor <;> simp [applyVentRead, h, ht]

/-- Settles O54, read by read. -/
theorem readsAnswerAndChangeNothing : Obligations.ReadsAnswerAndChangeNothing := by
  unfold Obligations.ReadsAnswerAndChangeNothing
  intro c s b live clean mayRange now
  have hclean (h : clean) : b.Clean := ⟨h.1, h.2.1, h.2.2⟩
  refine ⟨fun ht => ?_, fun ht => ?_, fun ht => ?_, fun hl hc => ?_, fun hl hc => ?_, fun ht => ?_, fun ht => ?_, fun ht => ?_,
    fun ht => ?_, fun ht => ?_, fun ht => ?_, fun ht => ?_, fun ht h => ?_, fun ht h => ?_, fun ht h => ?_, fun ht h => ?_,
    fun ht h => ?_, fun ht h => ?_, fun ht h => ?_, fun ht hc h => ?_, fun ht hc h => ?_, fun ht hc h => ?_,
    fun ht hc he hf => ?_, fun hl hc h => ?_, fun hl hc h h0 hlost => ?_⟩
  · exact exec_opcode_ok (i := .nop c) rfl rfl ht.live ht.2 rfl rfl (.rfl' _)
  · exact exec_opcode_ok (i := .epochRead c) rfl rfl ht.live ht.2 rfl rfl (.rfl' _)
  · exact exec_opcode_ok (i := .tenantQuery c) rfl rfl ht.live ht.2 (applyTenantQuery_eq c b) rfl (.rfl' _)
  · exact exec_reads (i := .capsQuery c) rfl rfl hl hc ⟨rfl, rfl⟩
  · exact exec_reads (i := .deviceStatus c) rfl rfl hl hc ⟨rfl, rfl⟩
  · exact exec_reads (i := .treeStatus c) rfl rfl ht.live ht.2 ⟨rfl, rfl⟩
  · exact exec_reads (i := .rangeRead c) rfl rfl ht.live ht.2 ⟨rfl, rfl⟩
  · exact exec_reads (i := .accountRead c) rfl rfl ht.live ht.2 ⟨rfl, rfl⟩
  · exact exec_reads (i := .wearRead c) rfl rfl ht.live ht.2 ⟨rfl, rfl⟩
  · exact exec_reads (i := .timeRead c) rfl rfl ht.live ht.2 ⟨rfl, rfl⟩
  · exact exec_reads (i := .pairStatus c) rfl rfl ht.live ht.2 ⟨rfl, rfl⟩
  · exact exec_reads (i := .engineStatus c) rfl rfl ht.live ht.2 ⟨rfl, rfl⟩
  · exact exec_reads (i := .engineCounterRead c) rfl rfl ht.live ht.2 (engineCounterRead_readsOk c b h)
  · exact exec_reads (i := .counterRead c) rfl rfl ht.live ht.2 (counterRead_readsOk c b h)
  · exact exec_reads (i := .binRead c) rfl rfl ht.live ht.2 (binRead_readsOk c b h)
  · exact exec_reads (i := .gqRead c) rfl rfl ht.live ht.2 (gqRead_readsOk c b h)
  · exact exec_reads (i := .parseNodeRead c) rfl rfl ht.live ht.2 (parseNodeRead_readsOk c b h)
  · exact exec_reads (i := .ruleRead c) rfl rfl ht.live ht.2 (ruleRead_readsOk c b h)
  · exact exec_reads (i := .handlerRead c) rfl rfl ht.live ht.2 (handlerRead_readsOk c b h)
  · exact exec_reads (i := .epRead c) rfl rfl ht.live ht.2 (epRead_readsOk c b (hclean hc) h)
  · exact exec_reads (i := .checkSave c) rfl rfl ht.live ht.2 (checkSave_readsOk c b (hclean hc) h)
  · exact exec_reads (i := .flowRead c) rfl rfl ht.live ht.2 (flowRead_readsOk c b (hclean hc) h)
  · exact exec_reads (i := .nonceQuery c) rfl rfl ht.live ht.2 (nonceQuery_readsOk c b (hclean hc) he hf)
  · exact exec_reads (i := .ventRead c) rfl rfl hl hc (ventRead_readsOk c b h)
  · obtain ⟨heffect, hok⟩ := ventRead_consumes c b h h0
    exact ⟨hok, exec_opcode_ok (i := .ventRead c) rfl rfl hl hc
      (Prod.ext (heffect.trans (b.consume_none _ hlost)) rfl) hok (.of_eq rfl rfl)⟩

end Sys2Proof.Machine

/-! PROOFS. The commands of ownership, telemetry and the device. -/
namespace Sys2Proof

/-! ### A range of a sparse table (R65) -/

section
variable {α : Type} (d : α)

theorem Tab.get_absent (t : Tab α) (k : Nat) (h : ∀ x ∈ t, x.1 ≠ k) : Tab.get d t k = d := by
  induction t with
  | nil => rfl
  | cons x r ih => rw [Tab.get, if_neg (h x (by simp)), ih (fun y hy => h y (by simp [hy]))]

theorem Tab.get_append_right (t u : Tab α) (k : Nat) (h : ∀ x ∈ t, x.1 ≠ k) : Tab.get d (t ++ u) k = Tab.get d u k := by
  induction t with
  | nil => rfl
  | cons x r ih => rw [List.cons_append, Tab.get, if_neg (h x (by simp)), ih (fun y hy => h y (by simp [hy]))]

theorem Tab.get_append_left (t u : Tab α) (k : Nat) (h : ∀ x ∈ u, x.1 ≠ k) : Tab.get d (t ++ u) k = Tab.get d t k := by
  induction t with
  | nil => exact Tab.get_absent d u k h
  | cons x r ih => rw [List.cons_append, Tab.get, Tab.get, ih]

/-- A filter by keys that keeps key k. -/
theorem Tab.get_filter (p : Nat → Bool) (t : Tab α) (k : Nat) (h : p k = true) :
    Tab.get d (t.filter (fun x => p x.1)) k = Tab.get d t k := by
  induction t with
  | nil => rfl
  | cons x r ih =>
    by_cases hk : x.1 = k
    · simp [Tab.get, hk, h]
    · by_cases hp : p x.1 = true <;> simp [Tab.get, hk, hp, ih]

/-- A key that is listed, where every entry has one value. -/
theorem Tab.get_const (t : Tab α) (v : α) (k : Nat) (hk : ∃ x ∈ t, x.1 = k) (hv : ∀ x ∈ t, x.2 = v) : Tab.get d t k = v := by
  induction t with
  | nil => simp at hk
  | cons x r ih =>
    by_cases hx : x.1 = k
    · rw [Tab.get, if_pos hx, hv x (by simp)]
    · rw [Tab.get, if_neg hx]
      obtain ⟨y, hy, hyk⟩ := hk
      rcases List.mem_cons.mp hy with rfl | hy
      · exact absurd hyk hx
      · exact ih ⟨y, hy, hyk⟩ (fun z hz => hv z (by simp [hz]))

variable [DecidableEq α]

/-- The entries that a range write puts into a table. -/
def Tab.rangeOf (lo n : Nat) (v : α) : Tab α := if v = d then [] else (List.range n).map (fun i => (lo + i, v))

theorem Tab.mem_rangeOf (lo n : Nat) (v : α) (x : Nat × α) (h : x ∈ Tab.rangeOf d lo n v) : lo ≤ x.1 ∧ x.1 < lo + n := by
  unfold Tab.rangeOf at h
  split at h
  · cases h
  · obtain ⟨i, hi, rfl⟩ := List.mem_map.mp h
    have := List.mem_range.mp hi
    exact ⟨Nat.le_add_right _ _, by dsimp only; omega⟩

theorem Tab.get_rangeOf (lo n : Nat) (v : α) (k : Nat) (hlo : lo ≤ k) (hhi : k < lo + n) :
    Tab.get d (Tab.rangeOf d lo n v) k = v := by
  unfold Tab.rangeOf
  split
  next h => exact h.symm
  next =>
    refine Tab.get_const d _ v k ⟨(k, v), List.mem_map.mpr ⟨k - lo, List.mem_range.mpr (by omega), ?_⟩, rfl⟩ ?_
    · rw [Nat.add_sub_cancel' hlo]
    · intro x hx
      obtain ⟨i, -, rfl⟩ := List.mem_map.mp hx
      rfl

theorem Tab.setRange_eq (t : Tab α) (lo n : Nat) (v : α) :
    Tab.setRange d t lo n v = t.filter (fun x => decide (x.1 < lo)) ++ Tab.rangeOf d lo n v
      ++ t.filter (fun x => decide (lo + n ≤ x.1)) := rfl

/-- A key of the range reads as written. -/
theorem Tab.get_setRange_in (t : Tab α) (lo n : Nat) (v : α) (k : Nat) (hlo : lo ≤ k) (hhi : k < lo + n) :
    Tab.get d (Tab.setRange d t lo n v) k = v := by
  rw [Tab.setRange_eq, Tab.get_append_left, Tab.get_append_right, Tab.get_rangeOf d lo n v k hlo hhi]
  · intro x hx
    have := (List.mem_filter.mp hx).2
    simp only [decide_eq_true_eq] at this
    omega
  · intro x hx
    have := (List.mem_filter.mp hx).2
    simp only [decide_eq_true_eq] at this
    omega

/-- A key outside the range reads as before. -/
theorem Tab.get_setRange_out (t : Tab α) (lo n : Nat) (v : α) (k : Nat) (h : k < lo ∨ lo + n ≤ k) :
    Tab.get d (Tab.setRange d t lo n v) k = Tab.get d t k := by
  have hmid : ∀ x ∈ Tab.rangeOf d lo n v, x.1 ≠ k := by
    intro x hx
    have := Tab.mem_rangeOf d lo n v x hx
    omega
  rw [Tab.setRange_eq]
  rcases h with h | h
  · rw [Tab.get_append_left, Tab.get_append_left _ _ _ _ hmid]
    · exact Tab.get_filter d (fun j => decide (j < lo)) t k (by simpa using h)
    · intro x hx
      have := (List.mem_filter.mp hx).2
      simp only [decide_eq_true_eq] at this
      omega
  · rw [Tab.get_append_right]
    · exact Tab.get_filter d (fun j => decide (lo + n ≤ j)) t k (by simpa using h)
    · intro x hx
      rcases List.mem_append.mp hx with hx | hx
      · have := (List.mem_filter.mp hx).2
        simp only [decide_eq_true_eq] at this
        omega
      · exact hmid x hx

end

end Sys2Proof

namespace Sys2Proof.Machine

/-! ### What acceptance says of a command's fields (R57) -/

theorem least_eq_none (l : List Nat) (h : least l = none) : l = [] := by
  cases l with
  | nil => rfl
  | cons a r => cases h

/-- A command that passes acceptance has no static field at fault. -/
theorem Op.bad_of_accepted {b : Blk} {o : Op} {c : Cmd} (h : b.acceptCheck o c = none) : o.bad c = [] := by
  unfold Blk.acceptCheck at h
  split at h
  · cases h
  · split at h
    · cases h
    next hleast =>
      have hfirst : o.firstBad b.openEpoch c = none := by
        simpa using (List.append_eq_nil_iff.mp (least_eq_none _ hleast)).2
      exact (List.append_eq_nil_iff.mp (least_eq_none _ hfirst)).2

/-! ### Ownership (R65, R66, R76, R258, R457) -/

/-- The owners of the objects of a kind. -/
def Owners.table (o : Owners) (kind : Nat) : Tab Nat :=
  match kind with
  | 1 => o.carrier
  | 2 => o.queue
  | 3 => o.block
  | _ => o.rules

theorem Blk.objectOwner_eq (b : Blk) (kind k : Nat) : b.objectOwner kind k = Tab.get 0 (b.owners.table kind) k := rfl

section
variable {kind : Nat} (hlo : 1 ≤ kind) (hhi : kind ≤ 4)
include hlo hhi

theorem Owners.table_assign_same (o : Owners) (first n tenant : Nat) :
    (o.assign kind first n tenant).table kind = Tab.setRange 0 (o.table kind) first n tenant := by
  interval_cases kind <;> rfl

/-- Of the four kinds, an assignment leaves the owners of the other three. -/
theorem Owners.table_assign_other (o : Owners) (first n tenant other : Nat) (h1 : 1 ≤ other) (h4 : other ≤ 4)
    (hne : other ≠ kind) : (o.assign kind first n tenant).table other = o.table other := by
  interval_cases kind <;> interval_cases other <;> simp_all [Owners.assign, Owners.table]

end

/-- b' has the clock, the registers and the host interface of b. -/
structure Blk.FrontKept (b b' : Blk) : Prop where
  clk : b'.clk = b.clk
  sys : b'.sys = b.sys
  host : b'.host = b.host

theorem Blk.FrontKept.trans {a b c : Blk} (h : a.FrontKept b) (k : b.FrontKept c) : a.FrontKept c :=
  ⟨k.clk.trans h.clk, k.sys.trans h.sys, k.host.trans h.host⟩

theorem Blk.frontKept_foldl {α : Type} (f : Blk → α → Blk) (h : ∀ b x, Blk.FrontKept b (f b x)) (l : List α) (b : Blk) :
    b.FrontKept (l.foldl f b) := by
  induction l generalizing b with
  | nil => exact ⟨rfl, rfl, rfl⟩
  | cons x r ih => exact (h b x).trans (ih (f b x))

theorem Blk.frontKept_closeRec (b : Blk) (r : OutRec) : b.FrontKept (b.closeRec r) := ⟨rfl, rfl, rfl⟩

theorem Blk.frontKept_openRec (b : Blk) (ev : OutEvent) : b.FrontKept (b.openRec ev) := by
  unfold Blk.openRec
  split
  · unfold Blk.loseRec Blk.countDir
    constructor <;> simp
  · exact ⟨rfl, rfl, rfl⟩

theorem Blk.frontKept_gather (b : Blk) (ev : OutEvent) : b.FrontKept (b.gather ev) := by
  unfold Blk.gather
  split
  · exact b.frontKept_openRec ev
  · split
    · exact b.frontKept_openRec ev
    · split
      · exact (b.frontKept_closeRec _).trans (Blk.frontKept_openRec _ ev)
      · dsimp only
        split <;> exact ⟨rfl, rfl, rfl⟩

theorem Blk.frontKept_gatherAll (b : Blk) : b.FrontKept b.gatherAll :=
  have hstart : b.FrontKept { b with dir := { b.dir with events := [] } } := ⟨rfl, rfl, rfl⟩
  hstart.trans (Blk.frontKept_foldl _ Blk.frontKept_gather _ _)

theorem Blk.frontKept_closeReport (b : Blk) (r : Report) : b.FrontKept (b.closeReport r) := ⟨rfl, rfl, rfl⟩

/-- The records and reports that an assignment of endpoint blocks closes. -/
theorem Blk.frontKept_closeBlock (b : Blk) (first n tenant : Nat) : b.FrontKept (b.closeBlock first n tenant) :=
  (b.frontKept_gatherAll.trans (Blk.frontKept_foldl _ Blk.frontKept_closeRec _ _)).trans
    (Blk.frontKept_foldl _ Blk.frontKept_closeReport _ _)

/-- With nothing open and nothing waiting, none closes. -/
theorem Blk.closeBlock_none (b : Blk) (first n tenant : Nat) (ho : b.dir.open_ = []) (he : b.dir.events = [])
    (hr : b.tum.reports = []) : b.closeBlock first n tenant = b := by
  have hgather : b.gatherAll = b := by
    simp only [Blk.gatherAll, he, List.foldl_nil]
    rw [← he]
  simp only [Blk.closeBlock, hgather, ho, hr, List.filter_nil, List.foldl_nil]

/-- The block in which TENANT_ASSIGN moves owners: for endpoint blocks, that in which records and reports have closed. -/
def Blk.assignBase (b : Blk) (c : Cmd) : Blk :=
  if c.f 0 63 56 = 3 then b.closeBlock (c.f 0 47 0) (c.f 1 31 0) (c.f 0 55 48) else b

theorem Blk.frontKept_assignBase (b : Blk) (c : Cmd) : b.FrontKept (b.assignBase c) := by
  unfold Blk.assignBase
  split
  · exact b.frontKept_closeBlock _ _ _
  · exact ⟨rfl, rfl, rfl⟩

/-- The block after TENANT_ASSIGN. -/
def Blk.assigned (b : Blk) (c : Cmd) : Blk :=
  { b.assignBase c with host := { b.host with owners := Vers.write {} b.host.owners b.clk.epoch (fun o =>
      o.assign (c.f 0 63 56) (c.f 0 47 0) (c.f 1 31 0) (c.f 0 55 48)) } }

theorem applyTenantAssign_eq (c : Cmd) (b : Blk) : applyTenantAssign c b = (b.assigned c, {}) := by
  have hkept := b.frontKept_assignBase c
  unfold Blk.assigned
  rw [← hkept.host, ← hkept.clk]
  rfl

theorem Blk.inside_assigned (b : Blk) (c : Cmd) : b.Inside (b.assigned c) :=
  .of_eq (b.frontKept_assignBase c).clk (b.frontKept_assignBase c).sys

theorem Blk.assigned_owners (b : Blk) (c : Cmd) :
    (b.assigned c).owners = b.owners.assign (c.f 0 63 56) (c.f 0 47 0) (c.f 1 31 0) (c.f 0 55 48) := by
  show Vers.cur {} (Vers.write {} b.host.owners b.clk.epoch (fun o =>
    o.assign (c.f 0 63 56) (c.f 0 47 0) (c.f 1 31 0) (c.f 0 55 48))) = _
  rw [Vers.cur_write]
  rfl

/-- The object kinds that TENANT_ASSIGN accepts. -/
theorem tenantAssign_kind {b : Blk} {p : Part} {c : Cmd} (h : b.acceptCheck (Op.tenantAssign p) c = none) :
    1 ≤ c.f 0 63 56 ∧ c.f 0 63 56 ≤ 4 := by
  have hbad : objectBad p c = [] := (List.append_eq_nil_iff.mp (Op.bad_of_accepted h)).2
  by_contra hout
  have hkind : c.f 0 63 56 = 0 ∨ 4 < c.f 0 63 56 := by omega
  simp [objectBad, hkind] at hbad

/-- TENANT_ASSIGN (R76): the owners of the range, and what else it moves. -/
theorem tenantAssign_takes (c : Cmd) (s : State) (ht : s.Takes (Op.tenantAssign s.blk.sys.part) c) :
    exec (.tenantAssign c) s = .next (s.answered (Op.tenantAssign s.blk.sys.part) c (s.blk.assigned c) {})
    ∧ (c.f 0 63 56 ≠ 3 ∨ (s.blk.dir.open_ = [] ∧ s.blk.dir.events = [] ∧ s.blk.tum.reports = []) →
      s.blk.assigned c = { s.blk with host := { s.blk.host with owners := (s.blk.assigned c).host.owners } })
    ∧ (∀ k, c.f 0 47 0 ≤ k → k < c.f 0 47 0 + c.f 1 31 0 → (s.blk.assigned c).objectOwner (c.f 0 63 56) k = c.f 0 55 48)
    ∧ (∀ kind k, kind ≠ c.f 0 63 56 ∨ k < c.f 0 47 0 ∨ c.f 0 47 0 + c.f 1 31 0 ≤ k →
      1 ≤ kind → kind ≤ 4 → (s.blk.assigned c).objectOwner kind k = s.blk.objectOwner kind k) := by
  obtain ⟨hlo, hhi⟩ := tenantAssign_kind ht.2
  refine ⟨?_, fun h => ?_, fun k h1 h2 => ?_, fun kind k h h1 h4 => ?_⟩
  · exact exec_opcode_ok (i := .tenantAssign c) rfl rfl ht.live ht.2 (applyTenantAssign_eq c s.blk) rfl (s.blk.inside_assigned c)
  · have hbase : s.blk.assignBase c = s.blk := by
      unfold Blk.assignBase
      split
      next h3 =>
        obtain ⟨ho, he, hr⟩ := h.resolve_left (not_not_intro h3)
        exact s.blk.closeBlock_none _ _ _ ho he hr
      next => rfl
    unfold Blk.assigned
    rw [hbase]
  · rw [Blk.objectOwner_eq, Blk.assigned_owners, Owners.table_assign_same hlo hhi, Tab.get_setRange_in _ _ _ _ _ _ h1 h2]
  · rw [Blk.objectOwner_eq, Blk.objectOwner_eq, Blk.assigned_owners]
    by_cases hk : kind = c.f 0 63 56
    · rw [hk, Owners.table_assign_same hlo hhi, Tab.get_setRange_out _ _ _ _ _ _ (h.resolve_left (not_not_intro hk))]
    · rw [Owners.table_assign_other hlo hhi _ _ _ _ _ h1 h4 hk]

/-! ### COUNTER_CLEAR (R469, R484) -/

/-- The key of counter k of a range. -/
def CtrIn.key (x : CtrIn) (k : Nat) : Nat := counterKey x.family (x.nth k).2 (x.nth k).1

/-- The block with other counters. -/
def Blk.withCtrs (b : Blk) (t : Tab Ctr) : Blk := { b with tele := { b.tele with ctrs := t } }

theorem Blk.inside_withCtrs (b : Blk) (t : Tab Ctr) : b.Inside (b.withCtrs t) := .of_eq rfl rfl

/-- The table of counters after one entry has been cleared. -/
def Blk.clearOne (b : Blk) (x : CtrIn) (tenant k : Nat) : Tab Ctr :=
  if b.noRead x tenant (x.nth k).1 then b.tele.ctrs
  else Tab.upd {} b.tele.ctrs (x.key k) (fun v => { v with val := 0, sat := false, clr := true })

theorem Blk.clearCounter_eq (b : Blk) (x : CtrIn) (tenant k : Nat) :
    b.clearCounter x tenant k = b.withCtrs (b.clearOne x tenant k) := by
  unfold Blk.clearCounter Blk.clearOne
  dsimp only
  split <;> rfl

theorem Blk.clearOne_wf (b : Blk) (x : CtrIn) (tenant k : Nat) (hw : Tab.wf {} b.tele.ctrs = true) :
    Tab.wf {} (b.clearOne x tenant k) = true := by
  unfold Blk.clearOne
  split
  · exact hw
  · exact Tab.wf_upd _ _ _ _ hw

/-- A counter that may be read is zero once it has been cleared. -/
theorem Blk.clearOne_zero (b : Blk) (x : CtrIn) (tenant k : Nat) (hw : Tab.wf {} b.tele.ctrs = true)
    (hread : b.noRead x tenant (x.nth k).1 = false) : (Tab.get {} (b.clearOne x tenant k) (x.key k)).val = 0 := by
  rw [Blk.clearOne, if_neg (by simp [hread]), Tab.get_upd_same _ _ _ _ hw]

/-- A counter that is zero stays zero. -/
theorem Blk.clearOne_keeps_zero (b : Blk) (x : CtrIn) (tenant k key : Nat) (hw : Tab.wf {} b.tele.ctrs = true)
    (hz : (Tab.get {} b.tele.ctrs key).val = 0) : (Tab.get {} (b.clearOne x tenant k) key).val = 0 := by
  unfold Blk.clearOne
  split
  · exact hz
  · by_cases hk : key = x.key k
    · rw [hk, Tab.get_upd_same _ _ _ _ hw]
    · rw [Tab.get_upd_other _ _ _ _ _ hk, hz]

/-- Clearing the entries of a list changes counters alone, and leaves every one of them that may be read, and every counter
that was zero, at zero. -/
theorem Blk.clearCounters_spec (x : CtrIn) (tenant : Nat) (l : List Nat) (b : Blk) (hw : Tab.wf {} b.tele.ctrs = true) :
    ∃ t, l.foldl (fun (b : Blk) k => b.clearCounter x tenant k) b = b.withCtrs t
      ∧ (∀ key, (Tab.get {} b.tele.ctrs key).val = 0 → (Tab.get {} t key).val = 0)
      ∧ (∀ k ∈ l, b.noRead x tenant (x.nth k).1 = false → (Tab.get {} t (x.key k)).val = 0) := by
  induction l generalizing b with
  | nil => exact ⟨b.tele.ctrs, rfl, fun _ h => h, by simp⟩
  | cons j r ih =>
    obtain ⟨t, ht, hzero, hclear⟩ := ih (b.withCtrs (b.clearOne x tenant j)) (b.clearOne_wf x tenant j hw)
    refine ⟨t, ?_, fun key hz => hzero key (b.clearOne_keeps_zero x tenant j key hw hz), fun k hk hread => ?_⟩
    · rw [List.foldl_cons, Blk.clearCounter_eq, ht]
      rfl
    · rcases List.mem_cons.mp hk with rfl | hk
      · exact hzero _ (b.clearOne_zero x tenant k hw hread)
      · exact hclear k hk hread

/-- COUNTER_CLEAR of a range that the tenant may clear. -/
theorem counterClear_takes (c : Cmd) (s : State) (ht : s.Takes Op.counterClear c)
    (hr : s.blk.ctrRefused (ctrIn c) c.tenant = none) (hw : Tab.wf {} s.blk.tele.ctrs = true) :
    ∃ (y : Blk) (r : Res), r.st = .ok ∧ exec (.counterClear c) s = .next (s.answered Op.counterClear c y r)
      ∧ y = { s.blk with tele := { s.blk.tele with ctrs := y.tele.ctrs } }
      ∧ ∀ k < (ctrIn c).entries c, s.blk.noRead (ctrIn c) c.tenant ((ctrIn c).nth k).1 = false →
        (Tab.get {} y.tele.ctrs (counterKey (ctrIn c).family ((ctrIn c).nth k).2 ((ctrIn c).nth k).1)).val = 0 := by
  obtain ⟨t, hfold, -, hclear⟩ :=
    Blk.clearCounters_spec (ctrIn c) c.tenant (List.range ((ctrIn c).entries c)) s.blk hw
  have heffect : (applyCounterClear c s.blk).1 = s.blk.withCtrs t := by
    rw [← hfold]
    simp [applyCounterClear, hr]
  have hok : (applyCounterClear c s.blk).2.st = .ok := by simp [applyCounterClear, hr]
  exact ⟨s.blk.withCtrs t, (applyCounterClear c s.blk).2, hok,
    exec_opcode_ok (i := .counterClear c) rfl rfl ht.live ht.2 (Prod.ext heffect rfl) hok (s.blk.inside_withCtrs t), rfl,
    fun k hk hread => hclear k (List.mem_range.mpr hk) hread⟩

/-- COUNTER_CLEAR of a range that is refused. -/
theorem counterClear_refused (c : Cmd) (s : State) (ht : s.Takes Op.counterClear c) (r : Res)
    (hr : s.blk.ctrRefused (ctrIn c) c.tenant = some r) (hok : r.st ≠ .ok) (hfault : r.st ≠ .fault) :
    exec (.counterClear c) s = .next (s.answered Op.counterClear c s.blk r) :=
  exec_opcode_fails (i := .counterClear c) rfl rfl ht.live ht.2 (by simp [applyCounterClear, hr]) hok hfault

/-! ### VENT_EXTEND (R475, R487) -/

/-- The write of a record to its slot is no message, so no vector becomes pending. -/
theorem Tele.pend_slotWrite (t : Tele) (r : Rec) (m : Tab Msix) (o : Output) (h : o ∈ t.slotWrite r) : pend m o = m := by
  unfold Tele.slotWrite at h
  split at h
  · cases h
  · obtain rfl := List.mem_singleton.mp h
    rfl

theorem pend_foldl_none (l : List Output) (m : Tab Msix) (h : ∀ o ∈ l, ∀ m, pend m o = m) : l.foldl pend m = m := by
  induction l generalizing m with
  | nil => rfl
  | cons o r ih => rw [List.foldl_cons, h o (by simp) m, ih m (fun x hx => h x (by simp [hx]))]

/-- The health island's store after VENT_EXTEND. -/
def Tele.extended (t : Tele) (c : Cmd) : Tele :=
  { t with
    vent := t.vent.drop (t.vent.length - if c.b 1 63 then 2 ^ c.f 1 62 58 else 4096)
    ventExt := if c.b 1 63 then some (c.word 0, c.f 1 62 58) else none }

/-- What VENT_EXTEND writes to the new ring, the last first. -/
def Tele.extendWrites (t : Tele) (c : Cmd) : List Output :=
  ((t.extended c).vent.flatMap (fun r => (t.extended c).slotWrite r)).reverse

theorem applyVentExtend_eq (c : Cmd) (b : Blk) (h : b.tele.losses = []) :
    applyVentExtend c b = ({ b.emits (b.tele.extendWrites c) with tele := b.tele.extended c }, {}) :=
  congrArg (fun y => (y, ({} : Res))) (Blk.flushLost_none 128 _ h)

theorem Blk.emits_extendWrites_msix (b : Blk) (c : Cmd) : (b.emits (b.tele.extendWrites c)).msix = b.msix := by
  refine pend_foldl_none _ _ (fun o ho m => ?_)
  obtain ⟨r, -, hr⟩ := List.mem_flatMap.mp (List.mem_reverse.mp ho)
  exact Tele.pend_slotWrite _ r m o hr

theorem ventExtend_takes (c : Cmd) (s : State) (ht : s.Takes Op.ventExtend c) (h : s.blk.tele.losses = []) :
    exec (.ventExtend c) s = .next (s.answered Op.ventExtend c
      { s.blk.emits (s.blk.tele.extendWrites c) with tele := s.blk.tele.extended c } {}) :=
  exec_opcode_ok (i := .ventExtend c) rfl rfl ht.live ht.2 (applyVentExtend_eq c s.blk h) rfl (.of_eq rfl rfl)

/-- Without EXTEND the ring on the die is the Vent again, and nothing is written. -/
theorem ventExtend_off (c : Cmd) (s : State) (ht : s.Takes Op.ventExtend c) (h : s.blk.tele.losses = [])
    (hoff : c.b 1 63 = false) :
    exec (.ventExtend c) s = .next (s.answered Op.ventExtend c { s.blk with tele := { s.blk.tele with
      vent := s.blk.tele.vent.drop (s.blk.tele.vent.length - 4096), ventExt := none } } {}) := by
  have hstore : s.blk.tele.extended c = { s.blk.tele with
      vent := s.blk.tele.vent.drop (s.blk.tele.vent.length - 4096), ventExt := none } := by
    simp [Tele.extended, hoff]
  have hquiet : s.blk.tele.extendWrites c = [] := by
    rw [Tele.extendWrites, hstore]
    simp [Tele.slotWrite]
  rw [ventExtend_takes c s ht h, hquiet, hstore]
  rfl

/-- With EXTEND the newest records go to the new ring. -/
theorem ventExtend_on (c : Cmd) (s : State) (ht : s.Takes Op.ventExtend c) (h : s.blk.tele.losses = [])
    (hon : c.b 1 63 = true) :
    ∃ y : Blk, exec (.ventExtend c) s = .next (s.answered Op.ventExtend c y {})
      ∧ y.tele.ventExt = some (c.word 0, c.f 1 62 58) ∧ y = { s.blk with tele := y.tele, out := y.out }
      ∧ y.tele.vent = s.blk.tele.vent.drop (s.blk.tele.vent.length - 2 ^ c.f 1 62 58) := by
  refine ⟨_, ventExtend_takes c s ht h, by simp [Tele.extended, hon], ?_, by simp [Tele.extended, hon]⟩
  have hmsix := s.blk.emits_extendWrites_msix c
  generalize s.blk.tele.extendWrites c = l at hmsix ⊢
  unfold Blk.emits at hmsix ⊢
  dsimp only at hmsix ⊢
  rw [hmsix]

/-! ### SELFTEST_RUN (R503, R509) -/

/-- An effect that keeps the clock, the part and the straps is all that SELFTEST_RUN's frame leaves. -/
theorem Blk.timed_eq {b after : Blk} (hclk : after.clk = b.clk) (hpart : after.sys.part = b.sys.part)
    (hrev : after.sys.rev = b.sys.rev) (hstraps : after.sys.straps = b.sys.straps) : b.timed after = after := by
  unfold Blk.timed
  rw [← hclk, ← hpart, ← hrev, ← hstraps]

section
variable {c : Cmd} {s : State} (hlive : s.Live) (hcheck : s.blk.acceptCheck Op.selftestRun c = none)
include hlive hcheck

theorem selftestRun_ok {y : Blk} (hf : applySelftestRun c s.blk = (y, {})) (hclk : y.clk = s.blk.clk)
    (hpart : y.sys.part = s.blk.sys.part) (hrev : y.sys.rev = s.blk.sys.rev) (hstraps : y.sys.straps = s.blk.sys.straps) :
    exec (.selftestRun c) s = .next (s.answered Op.selftestRun c y {}) := by
  rw [selftestRun_shape, State.run_eq, Blk.runOp_accepted _ _ _ _ hlive hcheck,
    Blk.applyOp_ok _ _ _ _ _ (by rw [hf]), hf, Blk.timed_eq]
  · rfl
  all_goals simpa

theorem selftestRun_fails {x : Res} (hf : applySelftestRun c s.blk = (s.blk, x)) (hok : x.st ≠ .ok)
    (hfault : x.st ≠ .fault) : exec (.selftestRun c) s = .next (s.answered Op.selftestRun c s.blk x) := by
  rw [selftestRun_shape, State.run_eq, Blk.runOp_accepted _ _ _ _ hlive hcheck,
    Blk.applyOp_failed _ _ _ _ _ (by rw [hf]; exact hok) (by rw [hf]; exact hfault), hf, Blk.timed_eq]
  · rfl
  all_goals simp

end

/-- SELFTEST_RUN in service: with FORCE, Dormant at the boundary, unless a forced run waits already. -/
theorem selftestRun_service (c : Cmd) (s : State) (ht : s.Takes Op.selftestRun c) :
    (c.b 0 63 = true → s.blk.sys.forced = false → exec (.selftestRun c) s = .next (s.answered Op.selftestRun c
      { s.blk with sys := { s.blk.sys with dormantNext := some (causeWord 3 0 0 0) } } {}))
    ∧ (c.b 0 63 = false ∨ s.blk.sys.forced = true →
      exec (.selftestRun c) s = .next (s.answered Op.selftestRun c s.blk (Res.badField 0 63))) := by
  refine ⟨fun hforce hfree => ?_, fun h => ?_⟩
  · exact selftestRun_ok ht.live ht.2 (by simp [applySelftestRun, ht.1, hforce, hfree]) rfl rfl rfl rfl
  · refine selftestRun_fails ht.live ht.2 ?_ (by simp [Res.badField]) (by simp [Res.badField])
    rcases h with h | h <;> simp [applySelftestRun, ht.1, h]

theorem selftestRun_dormant (c : Cmd) (s : State) (hp : s.blk.sys.phase = .dormant)
    (hcheck : s.blk.acceptCheck Op.selftestRun c = none) :
    exec (.selftestRun c) s = .next (s.answered Op.selftestRun c { s.blk with sys := { s.blk.sys with phase := .warmStart } } {}) :=
  selftestRun_ok (.inr hp) hcheck (by simp [applySelftestRun, hp]) rfl rfl rfl rfl

/-! ### FW_LOAD (R506, R507) -/

/-- An image that passes acceptance answers its version, and REASON 0. -/
theorem fwResult_accepted {b : Blk} {p : Part} {c : Cmd} (h : b.acceptCheck (Op.fwLoad p) c = none) :
    fwResult p c = wordsLe [leWord c.ext 0 % 2 ^ 32, 0] := by
  have hgood : fwReason p c = 0 := by
    by_contra hbad
    have hnone := Op.bad_of_accepted h
    simp [Op.fwLoad, hbad] at hnone
  simp [fwResult, hgood, pack]

theorem fwLoad_service (c : Cmd) (s : State) (ht : s.Takes (Op.fwLoad s.blk.sys.part) c) :
    exec (.fwLoad c) s = .next (s.answered (Op.fwLoad s.blk.sys.part) c
      { s.blk with sys := { s.blk.sys with fwWriting := some (leWord c.ext 0 % 2 ^ 32) } }
      { inl := wordsLe [leWord c.ext 0 % 2 ^ 32, 0] }) := by
  refine exec_opcode_ok (i := .fwLoad c) rfl rfl ht.live ht.2 ?_ rfl ⟨rfl, rfl, rfl, rfl, rfl, rfl⟩
  simp only [applyFwLoad, ht.1, if_true, fwResult_accepted ht.2]

theorem fwLoad_dormant (c : Cmd) (s : State) (hp : s.blk.sys.phase = .dormant)
    (hcheck : s.blk.acceptCheck (Op.fwLoad s.blk.sys.part) c = none) :
    exec (.fwLoad c) s = .next (s.answered (Op.fwLoad s.blk.sys.part) c
      { s.blk with sys := { s.blk.sys with fwStaged := some (leWord c.ext 0 % 2 ^ 32) } }
      { inl := wordsLe [leWord c.ext 0 % 2 ^ 32, 0] }) := by
  refine exec_opcode_ok (i := .fwLoad c) rfl rfl (.inr hp) hcheck ?_ rfl ⟨rfl, rfl, rfl, rfl, rfl, rfl⟩
  have hout : s.blk.sys.phase ≠ .service := by simp [hp]
  simp only [applyFwLoad, hout, if_false, fwResult_accepted hcheck]

/-! ### UNIT_RETEST (R479, R489) -/

theorem unitRetest_takes (c : Cmd) (s : State) (ht : s.Takes Op.unitRetest c) :
    (s.blk.tele.role (c.f 0 63 56) (c.f 0 55 40) = .retired ∨ s.blk.tele.role (c.f 0 63 56) (c.f 0 55 40) = .testing →
      exec (.unitRetest c) s = .next (s.answered Op.unitRetest c (s.blk.updSource (c.f 0 63 56) (c.f 0 55 40)
        (fun x => { x with role := .testing, events := [] })) {}))
    ∧ (s.blk.tele.role (c.f 0 63 56) (c.f 0 55 40) ≠ .retired → s.blk.tele.role (c.f 0 63 56) (c.f 0 55 40) ≠ .testing →
      exec (.unitRetest c) s = .next (s.answered Op.unitRetest c s.blk (Res.badField 0 40))) := by
  refine ⟨fun h => ?_, fun h1 h2 => ?_⟩
  · exact exec_opcode_ok (i := .unitRetest c) rfl rfl ht.live ht.2 (if_pos h) rfl (.of_eq rfl rfl)
  · refine exec_opcode_fails (i := .unitRetest c) rfl rfl ht.live ht.2 ?_ (by simp [Res.badField]) (by simp [Res.badField])
    exact congrArg Prod.snd (if_neg (not_or.mpr ⟨h1, h2⟩))

/-- Settles O60, command by command. -/
theorem ownersTelemetryAndDevice : Obligations.OwnersTelemetryAndDevice := by
  unfold Obligations.OwnersTelemetryAndDevice
  intro c s b part
  refine ⟨fun ht _ _ _ _ => ⟨_, tenantAssign_takes c s ht⟩, counterClear_takes c s, fun ht h => ?_, fun ht h hp => ?_,
    fun ht h => ⟨ventExtend_off c s ht h, ventExtend_on c s ht h⟩, fun ht => ?_, fun ht => ?_, unitRetest_takes c s,
    selftestRun_service c s, selftestRun_dormant c s, fwLoad_service c s, fwLoad_dormant c s⟩
  · exact counterClear_refused c s ht _ (if_pos (by simp [h])) (by simp [Res.deniedObject]) (by simp [Res.deniedObject])
  · exact counterClear_refused c s ht _ ((if_neg (by simp [h])).trans (if_pos hp)) (by simp [Res.badField])
      (by simp [Res.badField])
  · exact exec_opcode_ok (i := .faultConfigSource c) rfl rfl ht.live ht.2 rfl rfl (.of_eq rfl rfl)
  · exact exec_opcode_ok (i := .faultConfigWear c) rfl rfl ht.live ht.2 rfl rfl (.of_eq rfl rfl)

end Sys2Proof.Machine

/-! PROOFS. Bursts on the tree line: what reads back from a table of any form, and how the grant of a burst ends. -/
namespace Sys2Proof

/-- A value other than the default reads back in any table, canonical or not. -/
theorem Tab.get_set_nondefault {α : Type} [DecidableEq α] (d : α) (t : Tab α) (k : Nat) (v : α) (hv : v ≠ d) :
    Tab.get d (Tab.set d t k v) k = v := by
  induction t with
  | nil => simp [Tab.set, Tab.get, hv]
  | cons x r ih =>
    obtain ⟨j, w⟩ := x
    by_cases hlt : k < j
    · simp [Tab.set, hlt, hv, Tab.get]
    · by_cases heq : k = j
      · simp [Tab.set, heq, hv, Tab.get]
      · simp [Tab.set, hlt, heq, Tab.get, Ne.symm heq, ih]

end Sys2Proof

namespace Sys2Proof.Machine

/-! ### Trees, terminals and grants after a change -/

theorem Blk.tree_updTree_nondefault (b : Blk) (t : Nat) (f : Tree → Tree) (h : f (b.tree t) ≠ {}) :
    (b.updTree t f).tree t = f (b.tree t) := Tab.get_set_nondefault _ _ _ _ h

theorem Blk.term_updTerm_nondefault (b : Blk) (g : Nat) (f : Term → Term) (h : f (b.term g) ≠ {}) :
    (b.updTerm g f).term g = f (b.term g) := Tab.get_set_nondefault _ _ _ _ h

theorem Blk.inside_updTree (b : Blk) (t : Nat) (f : Tree → Tree) : b.Inside (b.updTree t f) := .of_eq rfl rfl

theorem Blk.inside_updTerm (b : Blk) (g : Nat) (f : Term → Term) : b.Inside (b.updTerm g f) := .of_eq rfl rfl

theorem Blk.inside_vent (b : Blk) (n : RecIn) : b.Inside (b.vent n) := (b.noted_vent n).inside

/-- The block with an outcome for a grant. -/
def Blk.endGrant (b : Blk) (g : Grant) (o : GrantEnd) : Blk :=
  b.updGrant g.tree g.uf g.start (fun y => { y with outcome := o })

theorem Blk.inside_endGrant (b : Blk) (g : Grant) (o : GrantEnd) : b.Inside (b.endGrant g o) := .of_eq rfl rfl

/-- Every grant of the tree at that START of that upstream frame has the outcome. -/
theorem Blk.outcome_endGrant (b : Blk) (g : Grant) (o : GrantEnd) :
    ∀ y ∈ (b.endGrant g o).gey.grants, y.tree = g.tree → y.uf = g.uf → y.start = g.start → y.outcome = o := by
  intro y hy
  obtain ⟨z, -, rfl⟩ := List.mem_map.mp hy
  split
  next => exact fun _ _ _ => rfl
  next hother => exact fun htree huf hstart => absurd ⟨htree, huf, hstart⟩ hother

theorem Blk.grantAt_tree {b : Blk} {t uf start : Nat} {g : Grant} (h : b.grantAt t uf start = some g) : g.tree = t := by
  have hkey := List.find?_some h
  simp only [Bool.and_eq_true, beq_iff_eq] at hkey
  exact hkey.1.1

/-! ### Bursts that do not come, or are lost (R15, R119, R121) -/

theorem Blk.noted_countLine (b : Blk) (t g treeCtr termCtr n : Nat) : b.Noted (b.countLine t g treeCtr termCtr n) :=
  (b.noted_countN _ _ _ _).trans (Blk.noted_countN _ _ _ _ _)

theorem Blk.term_countLine (b : Blk) (t g treeCtr termCtr n id : Nat) :
    (b.countLine t g treeCtr termCtr n).term id = b.term id := by
  rw [Blk.term, (b.noted_countLine t g treeCtr termCtr n).terms_eq]
  rfl

/-- The counts and marks that a burst which did not come leaves, whatever it was for. -/
def Blk.burstAbsent (b : Blk) (g : Grant) : Blk :=
  (((b.endGrant g .missed).countLine g.tree (gid g.tree g.term) 3 0 1).updTree g.tree
    (fun x => { x with expected := true })).updTerm (gid g.tree g.term) Term.missed

theorem Blk.inside_burstAbsent (b : Blk) (g : Grant) : b.Inside (b.burstAbsent g) :=
  (((b.inside_endGrant g _).trans (Blk.noted_countLine _ _ _ _ _ _).inside).trans (Blk.inside_updTree _ _ _)).trans
    (Blk.inside_updTerm _ _ _)

/-- A terminal that missed a burst is not at its reset values, so the table holds it. -/
theorem Blk.term_burstAbsent (b : Blk) (g : Grant) :
    (b.burstAbsent g).term (gid g.tree g.term) = (b.term (gid g.tree g.term)).missed := by
  have hne (x : Term) : x.missed ≠ {} := fun h => Nat.succ_ne_zero _ (congrArg Term.lobRun h)
  rw [Blk.burstAbsent, Blk.term_updTerm_nondefault _ _ _ (hne _)]
  exact congrArg Term.missed (Blk.term_countLine (b.endGrant g .missed) _ _ _ _ _ _)

theorem Blk.inside_startRerange (b : Blk) (t idx : Nat) : b.Inside (b.startRerange t idx) := by
  unfold Blk.startRerange
  split
  · exact b.inside_updTerm _ _
  · exact .rfl' b

/-- What the ranging controller takes besides of a ranging burst that did not come. -/
def Blk.burstUnranged (b : Blk) (g : Grant) : Blk :=
  if g.discovery then
    (if (b.count 0x31 6 g.tree).pair.reference then (b.count 0x31 6 g.tree).rangeMissed g.tree g.term else b.count 0x31 6 g.tree)
  else b

theorem Blk.inside_burstUnranged (b : Blk) (g : Grant) : b.Inside (b.burstUnranged g) := by
  unfold Blk.burstUnranged
  split_ifs
  · exact (b.inside_count _ _ _).trans (Blk.inside_updTerm _ _ _)
  · exact b.inside_count _ _ _
  · exact .rfl' b

/-- Re-ranging begins where LOB is in force and has been reached anew (R181). -/
def Blk.rerangeDue (b : Blk) (g : Grant) : Bool :=
  (b.term (gid g.tree g.term)).lob && (b.term (gid g.tree g.term)).state == .active && !(b.term (gid g.tree g.term)).dg
    && !(b.term (gid g.tree g.term)).reranging
    && decide ((b.tree g.tree).defects.lobSet ≤ (b.term (gid g.tree g.term)).lobRun)

theorem Blk.burstLost_eq (b : Blk) (g : Grant) :
    b.burstLost g = if ((b.burstAbsent g).burstUnranged g).rerangeDue g
      then ((b.burstAbsent g).burstUnranged g).startRerange g.tree g.term else (b.burstAbsent g).burstUnranged g := rfl

/-- What a burst that is lost changes lies inside the frame of its unit. -/
theorem Blk.inside_burstLost (b : Blk) (g : Grant) : b.Inside (b.burstLost g) := by
  have habsent := (b.inside_burstAbsent g).trans (Blk.inside_burstUnranged _ g)
  rw [Blk.burstLost_eq]
  split
  · exact habsent.trans (Blk.inside_startRerange _ _ _)
  · exact habsent

/-- A data burst of a terminal without LOB that is lost. -/
theorem Blk.burstLost_data (b : Blk) (g : Grant) (hdata : g.discovery = false)
    (hlob : (b.term (gid g.tree g.term)).lob = false) : b.burstLost g = b.burstAbsent g := by
  have hquiet : (b.burstAbsent g).burstUnranged g = b.burstAbsent g := if_neg (by simp [hdata])
  have hclear : (b.burstAbsent g).rerangeDue g = false := by
    simp [Blk.rerangeDue, b.term_burstAbsent g, show (b.term (gid g.tree g.term)).missed.lob = false from hlob]
  rw [Blk.burstLost_eq, hquiet, if_neg (by simp [hclear])]

theorem Blk.inside_burstMissed (b : Blk) (g : Grant) : b.Inside (b.burstMissed g) :=
  (b.noted_countLine _ _ _ _ _).inside.trans (Blk.inside_burstLost _ g)

/-! ### Bursts whose delimiter was accepted (R113, R119) -/

section
variable {b : Blk} {g : Grant} {r : RxBurst} (hnative : (b.tree g.tree).mode = .native)
include hnative

/-- A native burst that is too short for a header, or whose header fails, closes its grant as bad. -/
theorem Blk.burstTaken_bad (delta : Int) (hdata : g.discovery = false)
    (hbad : (decodeBurst (burstSeed g.tag g.term g.uf) (burstBytes g.length r.bytes)).usable.length < 16
      ∨ headerCheck g true (decodeBurst (burstSeed g.tag g.term g.uf) (burstBytes g.length r.bytes)).usable ≠ (true, true)) :
    ∃ y : Blk, b.burstTaken g r delta = y.endGrant g .bad := by
  unfold Blk.burstTaken
  simp only [hnative, beq_self_eq_true, if_true, hdata, Bool.false_and, Bool.false_eq_true, if_false]
  split
  · exact ⟨_, rfl⟩
  next hlen =>
    split
    · exact ⟨_, rfl⟩
    next hcrc =>
      rw [if_pos]
      · exact ⟨_, rfl⟩
      · have hfail := hbad.resolve_left hlen
        by_contra hpass
        exact hfail (Prod.ext (by simpa using hcrc) (by simpa using hpass))

/-- A native burst whose header passes closes its grant as received. -/
theorem Blk.burstTaken_passed (delta : Int)
    (hlen : 16 ≤ (decodeBurst (burstSeed g.tag g.term g.uf) (burstBytes g.length r.bytes)).usable.length)
    (hpass : headerCheck g true (decodeBurst (burstSeed g.tag g.term g.uf) (burstBytes g.length r.bytes)).usable = (true, true)) :
    ∃ (y : Blk) (n u l : Nat), b.burstTaken g r delta = y.endGrant g (.received n u l) := by
  unfold Blk.burstTaken
  simp only [hnative, beq_self_eq_true, if_true, hpass, Bool.not_true, Bool.false_eq_true, if_false, Nat.not_lt.mpr hlen]
  exact ⟨_, _, _, _, rfl⟩

end

/-! ### UPSTREAM_BURST and DELIMITER_WINDOW_CLOSE (R15, R119, R120) -/

/-- A burst that is expected is not that of a quiet window. -/
theorem Blk.not_quiet_of_expects {b : Blk} {g : Grant} (he : b.expects g = true) : (g.purpose == .quiet) = false := by
  simp only [Blk.expects, Bool.and_eq_true, bne_iff_ne] at he
  simpa using he.2

section
variable {x : RxBurst} {g : Grant} {s : State} (hp : s.blk.sys.phase = .service)
  (hg : s.blk.grantAt x.tree x.uf x.start = some g) (hrx : s.blk.receives x.tree = true) (he : s.blk.expects g = true)
include hp hg hrx he

theorem delimiterWindowClose_missed :
    exec (.delimiterWindowClose x.tree x.uf x.start) s = .next (s.put (s.blk.burstMissed g)) := by
  rw [show exec (.delimiterWindowClose x.tree x.uf x.start) s = execDelimiterWindowClose x.tree x.uf x.start s from rfl,
    execDelimiterWindowClose]
  exact State.svc_to _ hp (by simp [hg, hrx, he]) (s.blk.inside_burstMissed g)

theorem upstreamBurst_overrun (ho : x.overrun = true) :
    exec (.upstreamBurst x) s = .next (s.put ((s.blk.count 0x11 17 x.tree).burstLost g)) := by
  rw [show exec (.upstreamBurst x) s = execUpstreamBurst x s from rfl, execUpstreamBurst]
  refine State.svc_to _ hp ?_ ((s.blk.inside_count _ _ _).trans (Blk.inside_burstLost _ g))
  simp [hg, hrx, he, ho, Blk.not_quiet_of_expects he]

variable (ho : x.overrun = false) (hnative : (s.blk.tree x.tree).mode = .native)
include ho hnative

theorem upstreamBurst_missed (hd : findDelimiter x.searchBits x.bitsLen x.firstBit g.window = none) :
    exec (.upstreamBurst x) s = .next (s.put (s.blk.burstMissed g)) := by
  rw [show exec (.upstreamBurst x) s = execUpstreamBurst x s from rfl, execUpstreamBurst]
  refine State.svc_to _ hp ?_ (s.blk.inside_burstMissed g)
  simp [hg, hrx, he, ho, hnative, hd, Blk.not_quiet_of_expects he]

theorem upstreamBurst_taken {delta : Int} (hd : findDelimiter x.searchBits x.bitsLen x.firstBit g.window = some delta) :
    exec (.upstreamBurst x) s = .next (s.put (s.blk.within (s.blk.burstTaken g x delta))) := by
  rw [show exec (.upstreamBurst x) s = execUpstreamBurst x s from rfl, execUpstreamBurst, State.svc_eq _ _ hp]
  simp [hg, hrx, he, ho, hnative, hd, Blk.not_quiet_of_expects he, State.put]

end

/-- Settles O38: the last thing that a burst does is to close its grant. -/
theorem burstsCloseTheirGrants : Obligations.BurstsCloseTheirGrants := by
  unfold Obligations.BurstsCloseTheirGrants
  intro x g s hp hg hrx he b id d closed
  refine ⟨fun hdata hlob => ?_, upstreamBurst_overrun hp hg hrx he, fun ho hmode => ?_⟩
  · rw [delimiterWindowClose_missed hp hg hrx he, Blk.burstMissed, Blk.burstLost_data _ _ hdata]
    · rfl
    · rw [Blk.term_countLine]; exact hlob
  · have hnative : (s.blk.tree g.tree).mode = .native := by rw [Blk.grantAt_tree hg]; exact hmode
    refine ⟨fun hd => ?_, fun delta hd hdata hbad => ?_, fun delta hd hlen hpass => ?_⟩
    · rw [upstreamBurst_missed hp hg hrx he ho hmode hd, delimiterWindowClose_missed hp hg hrx he]
    · obtain ⟨y, hy⟩ := Blk.burstTaken_bad (r := x) hnative delta hdata hbad
      refine ⟨_, upstreamBurst_taken hp hg hrx he ho hmode hd, rfl, ?_⟩
      rw [hy]
      exact y.outcome_endGrant g .bad
    · obtain ⟨y, n, u, l, hy⟩ := Blk.burstTaken_passed (r := x) hnative delta hlen hpass
      refine ⟨_, n, u, l, upstreamBurst_taken hp hg hrx he ho hmode hd, rfl, ?_⟩
      rw [hy]
      exact y.outcome_endGrant g _

end Sys2Proof.Machine

/-! PROOFS. Defects with their records, and the periods of circuits. -/
namespace Sys2Proof.Machine

/-! ### Trees and terminals after a change and its record -/

theorem Blk.tree_updTree (b : Blk) (t : Nat) (f : Tree → Tree) (hw : Tab.wf {} b.trees = true) :
    (b.updTree t f).tree t = f (b.tree t) := Tab.get_upd_same _ _ _ _ hw

theorem Blk.tree_vent (b : Blk) (n : RecIn) (t : Nat) : (b.vent n).tree t = b.tree t := by
  rw [Blk.tree, Blk.vent_trees]
  rfl

theorem Blk.term_vent (b : Blk) (n : RecIn) (g : Nat) : (b.vent n).term g = b.term g := by
  rw [Blk.term, Blk.vent_terms]
  rfl

theorem Blk.term_updTree (b : Blk) (t : Nat) (f : Tree → Tree) (g : Nat) : (b.updTree t f).term g = b.term g := rfl

/-- Only what a tree is changed to matters. -/
theorem Blk.updTree_congr (b : Blk) (t : Nat) {f f' : Tree → Tree} (h : f (b.tree t) = f' (b.tree t)) :
    b.updTree t f = b.updTree t f' := by
  have hget : f (Tab.get {} b.trees t) = f' (Tab.get {} b.trees t) := h
  simp only [Blk.updTree, Tab.upd, hget]

/-! ### LOS_T (R121, R122, R152) -/

/-- A tree without protection takes no other side. -/
theorem Blk.losProtect_alone (b : Blk) (t : Nat) (h : (b.tree t).protect.scheme = 0) : b.losProtect t = b := if_pos h

/-- With no record withheld, none is released. -/
theorem Blk.releaseDefects_none (b : Blk) (t : Nat) (h : (b.tree t).hidden = []) : b.releaseDefects t = b := by
  simp [Blk.releaseDefects, h]

theorem Blk.changeLos_set (b : Blk) (t : Nat) (h : (b.tree t).protect.scheme = 0) :
    b.changeLos t true = (b.updTree t (fun x => { x with los := true })).vent (defectRec t (t * 2 ^ 32) 0 true) := by
  have htree : (b.updTree t (fun x => { x with los := true })).tree t = { b.tree t with los := true } :=
    Blk.tree_updTree_nondefault _ _ _ (fun he => Bool.noConfusion (congrArg Tree.los he))
  refine Blk.losProtect_alone _ _ ?_
  rw [if_pos rfl, Blk.tree_vent]
  exact (congrArg (fun x => x.protect.scheme) htree).trans h

theorem Blk.changeLos_clear (b : Blk) (t : Nat) (h : (b.tree t).protect.scheme = 0) (hh : (b.tree t).hidden = [])
    (hw : Tab.wf {} b.trees = true) :
    b.changeLos t false = (b.updTree t (fun x => { x with los := false, clearSince := b.clk.fc })).vent
      (defectRec t (t * 2 ^ 32) 0 false) := by
  have htree := b.tree_updTree t (fun x => { x with los := false, clearSince := b.clk.fc }) hw
  have hnone : (((b.updTree t (fun x => { x with los := false, clearSince := b.clk.fc })).vent
      (defectRec t (t * 2 ^ 32) 0 false)).releaseDefects t) = _ := Blk.releaseDefects_none _ _ (by
    rw [Blk.tree_vent, htree]; exact hh)
  refine Eq.trans (Blk.losProtect_alone _ _ ?_) hnone
  rw [if_neg Bool.false_ne_true]
  refine (congrArg (fun b => (Blk.tree b t).protect.scheme) hnone).trans ?_
  rw [Blk.tree_vent, htree]
  exact h

section
variable {tree : Nat} {s : State} (hp : s.blk.sys.phase = .service) (ht : tree < Part.trees s.blk.sys.part)
include hp ht

theorem defectChange_losSet (object : Nat) (hlos : (s.blk.tree tree).los = false)
    (hrun : (s.blk.tree tree).defects.losSet ≤ (s.blk.tree tree).losRun) (hs : (s.blk.tree tree).protect.scheme = 0) :
    exec (.defectChange tree object 0) s = .next (s.put ((s.blk.updTree tree (fun y => { y with los := true })).vent
      (defectRec tree (tree * 2 ^ 32) 0 true))) := by
  rw [show exec (.defectChange tree object 0) s = execDefectChange tree object 0 s from rfl, execDefectChange]
  refine State.svc_to _ hp ?_ ((s.blk.inside_updTree _ _).trans (Blk.inside_vent _ _))
  rw [← Blk.changeLos_set _ _ hs]
  simp [Nat.not_le.mpr ht, Tree.losJudge, hlos, hrun]

theorem defectChange_losClear (object : Nat) (hlos : (s.blk.tree tree).los = true)
    (hrun : (s.blk.tree tree).defects.losClr ≤ (s.blk.tree tree).losOk) (hs : (s.blk.tree tree).protect.scheme = 0)
    (hh : (s.blk.tree tree).hidden = []) (hw : Tab.wf {} s.blk.trees = true) :
    exec (.defectChange tree object 0) s = .next (s.put ((s.blk.updTree tree (fun y =>
      { y with los := false, clearSince := s.blk.clk.fc })).vent (defectRec tree (tree * 2 ^ 32) 0 false))) := by
  rw [show exec (.defectChange tree object 0) s = execDefectChange tree object 0 s from rfl, execDefectChange]
  refine State.svc_to _ hp ?_ ((s.blk.inside_updTree _ _).trans (Blk.inside_vent _ _))
  rw [← Blk.changeLos_clear _ _ hs hh hw]
  simp [Nat.not_le.mpr ht, Tree.losJudge, hlos, hrun]

omit hp in
theorem defectChange_losWaits (object : Nat) (hlos : (s.blk.tree tree).los = false)
    (hrun : (s.blk.tree tree).losRun < (s.blk.tree tree).defects.losSet) : exec (.defectChange tree object 0) s = .next s := by
  rw [show exec (.defectChange tree object 0) s = execDefectChange tree object 0 s from rfl, execDefectChange]
  exact State.svc_idle (by simp [Nat.not_le.mpr ht, Tree.losJudge, hlos, Nat.not_le.mpr hrun])

end

/-! ### LOB of a terminal (R121 to R123) -/

/-- A defect whose record is not withheld. -/
theorem Blk.noteDefect_told (b : Blk) (t idx code : Nat) (on : Bool) (h : b.suppressed t idx code = false) :
    b.noteDefect t idx code on
      = (b.updTree t (fun x => { x with hidden := x.hidden.filter (· != (idx, code)) })).vent
          (defectRec t (t * 2 ^ 32 + idx) code on) := by
  simp [Blk.noteDefect, h]

/-- LOB of a terminal that is not active, with its record. -/
theorem Blk.changeDefect_lob (b : Blk) (t i : Nat) (hlos : (b.tree t).los = false)
    (hdg : (b.term (gid t i)).dg = false) (hst : (b.term (gid t i)).state ≠ .active) :
    b.changeDefect t i 1 true
      = ((b.updTerm (gid t i) (fun y => { y with lob := true })).updTree t
          (fun y => { y with hidden := y.hidden.filter (· != (i, 1)) })).vent (defectRec t (t * 2 ^ 32 + i) 1 true) := by
  have hterm : (b.updTerm (gid t i) (fun y => { y with lob := true })).term (gid t i)
      = { b.term (gid t i) with lob := true } :=
    Blk.term_updTerm_nondefault _ _ _ (fun he => Bool.noConfusion (congrArg Term.lob he))
  have htold : (b.updTerm (gid t i) (fun y => { y with lob := true })).suppressed t i 1 = false := by
    have htree : (b.updTerm (gid t i) (fun y => { y with lob := true })).tree t = b.tree t := rfl
    simp [Blk.suppressed, htree, hterm, hlos, hdg]
  have hnote := Blk.noteDefect_told _ t i 1 true htold
  refine Eq.trans (if_neg ?_) hnote
  have hstate : (((b.updTerm (gid t i) (fun y => { y with lob := true })).noteDefect t i 1 true).term (gid t i)).state
      = (b.term (gid t i)).state := by
    rw [hnote, Blk.term_vent, Blk.term_updTree, hterm]
  intro hactive
  simp only [Bool.and_eq_true, beq_iff_eq] at hactive
  exact hst (hstate.symm.trans hactive.1.2)

section
variable {tree i : Nat} {s : State} (ht : tree < Part.trees s.blk.sys.part) (hlob : (s.blk.term (gid tree i)).lob = false)
include ht hlob

theorem defectChange_lobSet (hp : s.blk.sys.phase = .service)
    (hrun : (s.blk.tree tree).defects.lobSet ≤ (s.blk.term (gid tree i)).lobRun) (hlos : (s.blk.tree tree).los = false)
    (hdg : (s.blk.term (gid tree i)).dg = false) (hst : (s.blk.term (gid tree i)).state ≠ .active) :
    exec (.defectChange tree i 1) s = .next (s.put (((s.blk.updTerm (gid tree i) (fun y => { y with lob := true })).updTree tree
      (fun y => { y with hidden := y.hidden.filter (· != (i, 1)) })).vent (defectRec tree (tree * 2 ^ 32 + i) 1 true))) := by
  rw [show exec (.defectChange tree i 1) s = execDefectChange tree i 1 s from rfl, execDefectChange]
  refine State.svc_to _ hp ?_
    (((s.blk.inside_updTerm _ _).trans (Blk.inside_updTree _ _ _)).trans (Blk.inside_vent _ _))
  rw [← Blk.changeDefect_lob _ _ _ hlos hdg hst]
  simp [Nat.not_le.mpr ht, Term.defect, hlob, hrun]

theorem defectChange_lobWaits (hrun : (s.blk.term (gid tree i)).lobRun < (s.blk.tree tree).defects.lobSet) :
    exec (.defectChange tree i 1) s = .next s := by
  rw [show exec (.defectChange tree i 1) s = execDefectChange tree i 1 s from rfl, execDefectChange]
  exact State.svc_idle (by simp [Nat.not_le.mpr ht, Term.defect, hlob, Nat.not_le.mpr hrun])

end

/-! ### The periods of a circuit (R129 to R131) -/

/-- Only what the circuit is changed to matters. -/
theorem Blk.updCircuit_const (b : Blk) (flow : Nat) (f : Circuit → Circuit) (c : Circuit)
    (h : Tab.get none (b.tree (flowTree flow)).circuits (flow % 65536) = some c) :
    b.updCircuit flow f = b.updCircuit flow (fun _ => f c) := by
  have hcircuit : Tab.upd none (b.tree (flowTree flow)).circuits (flow % 65536) (fun c => c.map f)
      = Tab.upd none (b.tree (flowTree flow)).circuits (flow % 65536) (fun c' => c'.map (fun _ => f c)) := by
    simp only [Tab.upd, h, Option.map_some]
  exact b.updTree_congr _ (congrArg (fun x => { b.tree (flowTree flow) with circuits := x }) hcircuit)

/-- A direction of a circuit. -/
def Circuit.side (c : Circuit) (up : Bool) : CircuitDir := if up then c.up else c.dn

/-- The block once the period of a direction has ended. -/
def Blk.periodEnded (b : Blk) (c : Circuit) (flow : Nat) (up : Bool) : Blk :=
  b.updCircuit flow (fun _ => if up then { c with up := c.up.period (c.width (b.tree (flowTree flow)).mode) }
    else { c with dn := c.dn.period (c.width (b.tree (flowTree flow)).mode) })

/-- The same, with the substitute where it is due. -/
def Blk.aisEnded (b : Blk) (c : Circuit) (flow : Nat) (up : Bool) : Blk :=
  match (c.side up).saved with
  | some x =>
    if (c.side up).arrivedNow (c.width (b.tree (flowTree flow)).mode) then b.periodEnded c flow up
    else (b.periodEnded c flow up).insertAis c flow up (c.side up).due x
  | none => b.periodEnded c flow up

theorem Blk.aisEnded_quiet (b : Blk) (c : Circuit) (flow : Nat) (up : Bool)
    (h : (c.side up).saved = none ∨ (c.side up).arrivedNow (c.width (b.tree (flowTree flow)).mode) = true) :
    b.aisEnded c flow up = b.periodEnded c flow up := by
  unfold Blk.aisEnded
  split
  next x hx => exact if_pos (h.resolve_left (by simp [hx]))
  next => rfl

theorem Blk.aisEnded_inserts (b : Blk) (c : Circuit) (flow : Nat) (up : Bool) (x : List Byte × Option Nat)
    (hx : (c.side up).saved = some x) (h : (c.side up).arrivedNow (c.width (b.tree (flowTree flow)).mode) = false) :
    b.aisEnded c flow up = (b.periodEnded c flow up).insertAis c flow up (c.side up).due x := by
  simp [Blk.aisEnded, hx, h]

theorem Blk.inside_insertAis (b : Blk) (c : Circuit) (flow : Nat) (up : Bool) (slot : Nat) (x : List Byte × Option Nat) :
    b.Inside (b.insertAis c flow up slot x) := by
  unfold Blk.insertAis
  refine (b.inside_count 0x11 15 (flowTree flow)).trans ?_
  dsimp only
  split
  · exact .of_eq rfl rfl
  · exact Blk.inside_admitFlag _ _ _

theorem Blk.inside_aisEnded (b : Blk) (c : Circuit) (flow : Nat) (up : Bool) : b.Inside (b.aisEnded c flow up) := by
  have hended : b.Inside (b.periodEnded c flow up) := .of_eq rfl rfl
  unfold Blk.aisEnded
  split
  · split
    · exact hended
    · exact hended.trans (Blk.inside_insertAis _ _ _ _ _ _)
  · exact hended

section
variable {flow : Nat} {c : Circuit} {s : State} {up : Bool}
  (hc : Tab.get none (s.blk.tree (flowTree flow)).circuits (flow % 65536) = some c)
include hc

/-- A period whose last phase lies in a frame that has not begun goes on. -/
theorem aisPeriodEnd_early (h : s.blk.clk.fc ≤ (c.side up).due / 8) : exec (.aisPeriodEnd flow up) s = .next s := by
  rw [show exec (.aisPeriodEnd flow up) s = execAisPeriodEnd flow up s from rfl, execAisPeriodEnd]
  refine State.svc_idle ?_
  simp only [hc]
  exact ite_eq_left_iff.mpr (fun _ => if_pos h)

/-- A period of a direction that is configured, which ends in a frame that has begun. -/
theorem aisPeriodEnd_due (hp : s.blk.sys.phase = .service) (hdir : bit c.dir (if up then 0 else 1) = true)
    (hdue : (c.side up).due / 8 < s.blk.clk.fc) :
    exec (.aisPeriodEnd flow up) s = .next (s.put (s.blk.aisEnded c flow up)) := by
  rw [show exec (.aisPeriodEnd flow up) s = execAisPeriodEnd flow up s from rfl, execAisPeriodEnd]
  refine State.svc_to _ hp ?_ (s.blk.inside_aisEnded c flow up)
  simp only [hc]
  refine (if_neg (by simp [hdir])).trans ((if_neg (Nat.not_le.mpr hdue)).trans ?_)
  rw [Blk.updCircuit_const _ _ _ _ hc]
  rfl

/-- What the end of a period does, with and without a substitute. -/
theorem aisPeriodEnd_cases (hp : s.blk.sys.phase = .service) (hdir : bit c.dir (if up then 0 else 1) = true)
    (hdue : (c.side up).due / 8 < s.blk.clk.fc) :
    ((c.side up).saved = none ∨ (c.side up).arrivedNow (c.width (s.blk.tree (flowTree flow)).mode) = true →
      exec (.aisPeriodEnd flow up) s = .next (s.put (s.blk.periodEnded c flow up)))
    ∧ ∀ x, (c.side up).saved = some x → (c.side up).arrivedNow (c.width (s.blk.tree (flowTree flow)).mode) = false →
      exec (.aisPeriodEnd flow up) s
        = .next (s.put ((s.blk.periodEnded c flow up).insertAis c flow up (c.side up).due x)) := by
  refine ⟨fun h => ?_, fun x hx h => ?_⟩
  · rw [aisPeriodEnd_due hc hp hdir hdue, Blk.aisEnded_quiet _ _ _ _ h]
  · rw [aisPeriodEnd_due hc hp hdir hdue, Blk.aisEnded_inserts _ _ _ _ x hx h]

end

/-! ### The arithmetic of periods (R129, R130) -/

theorem periodEnd_mod (width slot : Nat) (hw : 0 < width) : periodEnd width slot % width = width - 1 := by
  have hsplit : periodEnd width slot = slot / width * width + (width - 1) := by
    rw [periodEnd, Nat.succ_mul]
    omega
  rw [hsplit, Nat.mul_add_mod', Nat.mod_eq_of_lt (by omega)]

/-- From the last phase of a period, the next period ends a width later. -/
theorem periodEnd_next (width due : Nat) (hw : 0 < width) (h : due % width = width - 1) :
    periodEnd width (due + 1) = due + width := by
  have hdiv : due + 1 = (due / width + 1) * width := by
    have := Nat.div_add_mod' due width
    rw [Nat.succ_mul]
    omega
  rw [periodEnd, hdiv, Nat.mul_div_cancel _ hw, Nat.succ_mul, ← hdiv]
  omega

theorem CircuitDir.arrivedNow_iff (d : CircuitDir) (width : Nat) :
    d.arrivedNow width = true ↔ ∃ slot ∈ d.arrived, d.due < slot + width ∧ slot ≤ d.due := by
  simp [CircuitDir.arrivedNow]

theorem CircuitDir.period_due (d : CircuitDir) (width : Nat) : (d.period width).due = periodEnd width (d.due + 1) := by
  unfold CircuitDir.period
  dsimp only
  split <;> rfl

theorem CircuitDir.period_arrived (d : CircuitDir) (width : Nat) (h : d.arrivedNow width = true) :
    (d.period width).goods = d.goods + 1 ∧ (d.period width).subs = 0 := by
  simp [CircuitDir.period, h]

theorem CircuitDir.period_empty (d : CircuitDir) (width : Nat) (h : d.arrivedNow width = false) :
    (d.period width).subs = d.subs + 1 ∧ (d.period width).goods = 0 := by
  simp [CircuitDir.period, h]

/-- Settles O40: each defect by its judgement, each period by its direction. -/
theorem defectsAndCircuitPeriods : Obligations.DefectsAndCircuitPeriods := by
  unfold Obligations.DefectsAndCircuitPeriods
  refine ⟨fun tree object s hp ht => ?_, fun tree i s hp ht => ?_, fun flow c s hp hc => ?_, fun b c flow slot x => rfl,
    fun d k => ?_⟩
  · exact ⟨defectChange_losSet hp ht object, defectChange_losClear hp ht object, defectChange_losWaits ht object⟩
  · exact ⟨fun hlob hrun hlos hdg hst => defectChange_lobSet ht hlob hp hrun hlos hdg hst,
      fun hlob hrun => defectChange_lobWaits ht hlob hrun⟩
  · exact ⟨aisPeriodEnd_cases (up := true) hc hp, aisPeriodEnd_cases (up := false) hc hp,
      aisPeriodEnd_early (up := true) hc, aisPeriodEnd_early (up := false) hc⟩
  · have hw : 0 < 2 ^ k := Nat.two_pow_pos k
    intro r
    refine ⟨?_, fun h => ?_, fun h => ?_, fun h => ?_⟩
    · rw [d.period_due]; exact periodEnd_mod _ _ hw
    · rw [d.period_due]; exact periodEnd_next _ _ hw h
    · exact d.period_arrived _ ((d.arrivedNow_iff _).mpr h)
    · refine d.period_empty _ (Bool.eq_false_iff.mpr fun hnow => ?_)
      obtain ⟨slot, hmem, hlow, hhigh⟩ := (d.arrivedNow_iff _).mp hnow
      rcases h slot hmem with h | h
      · exact absurd hlow (Nat.not_lt.mpr h)
      · exact absurd h (Nat.not_lt.mpr hhigh)

end Sys2Proof.Machine

/-! PROOFS. TREE_CONFIG on a block whose table of trees is not canonical. -/
namespace Sys2Proof.Machine

/-- Tree 0 is listed twice, with RX_ON 1 and all else at reset, and its terminal 0 is ACTIVE. Once the first entry is at reset, and so
no longer listed, the second one is read. -/
def treeListedTwice : State := { blk := {
  sys := { phase := .service }, trees := [(0, { rxOn := true }), (0, { rxOn := true })], terms := [(0, { state := .active })] } }

/-- TREE_CONFIG of tree 0 to its reset values: TX_ON 0, RX_ON 0, MAP_LEAD 7, TREE_TAG 0. -/
def treeToReset : Cmd := {
  tenant := 0, ring := 0, pos := 0, tag := 0, legacy := false, asap := true, irq := false, unit := 0x1000, epoch := 0,
  extAddr := 0, extLen := 0, inlineLen := 8, inl := 7 * 2 ^ 59, ext := [], partner := false }

theorem treeConfig_opcode (c : Cmd) (s : State) :
    exec (.treeConfig c) s = .next (s.put (s.blk.within (s.blk.runOp Op.treeConfig c applyTreeConfig))) := by
  rw [opcode_shape (.treeConfig c) ⟨Op.treeConfig, c, applyTreeConfig⟩ s rfl rfl, State.opcode_eq, State.put]

/-- The tree still reads as lit, so no light goes out and every terminal keeps its state. -/
theorem treeToReset_keeps_terms :
    (treeListedTwice.blk.runOp Op.treeConfig treeToReset applyTreeConfig).terms = treeListedTwice.blk.terms := by
  decide +kernel

/-- Refutes O55: its clause on RX_ON that becomes 0 does not ask that the table of trees be canonical. Where it is not, the tree can
still read as lit after the command, and then its ACTIVE terminal stays ACTIVE. -/
theorem not_treesAndTerminalsAreConfigured : ¬ Obligations.TreesAndTerminalsAreConfigured := by
  unfold Obligations.TreesAndTerminalsAreConfigured
  intro h
  obtain ⟨-, -, hoff, -⟩ := h treeToReset treeListedTwice
  obtain ⟨y, hy, hrest⟩ :=
    hoff ⟨rfl, by decide +kernel⟩ rfl (by decide +kernel) (by decide +kernel) (by decide +kernel)
  have hanswered := congrArg (fun t : State => t.blk.terms)
    (Host.Outcome.next.inj (hy.symm.trans (treeConfig_opcode treeToReset treeListedTwice)))
  have hterms : y.terms = treeListedTwice.blk.terms := by
    simpa only [State.answered, State.put, Blk.answer_terms, Blk.within_terms, treeToReset_keeps_terms] using hanswered
  have hactive : (y.term (gid (treeToReset.unit % 4096) 0)).state = .active := by
    rw [Blk.term, hterms]
    rfl
  simpa [hactive] using hrest 0 (by decide)

end Sys2Proof.Machine

/-! PROOFS. Type B protection: what a move of the transmitting side leaves behind, and the three expiries. -/
namespace Sys2Proof.Machine

/-! ### A side that begins or stops to transmit -/

/-- A tree whose side has just begun to transmit: TX_WAIT runs from the given frame (R154, R185). -/
def Tree.sideBegun (fc : Nat) (x : Tree) : Tree :=
  { x with transmits := true, waitFrom := some fc, holdFrom := none, rxSkew := 0 }

/-- A tree whose side has just stopped transmitting (R185). -/
def Tree.sideEnded (x : Tree) : Tree :=
  { x with transmits := false, waitFrom := none, holdFrom := none, rxSkew := -x.upSkew }

/-- A protected tree is no tree at reset, so it reads back from any table. -/
theorem Blk.tree_sideOn (b : Blk) (t : Nat) (h : (b.tree t).protect.scheme ≠ 0) :
    (b.sideOn t).tree t = (b.tree t).sideBegun b.clk.fc :=
  b.tree_updTree_nondefault t (Tree.sideBegun b.clk.fc) (fun he => h (congrArg (fun x => x.protect.scheme) he))

/-- A tree that does not transmit is no tree at reset, so it reads back from any table. -/
theorem Blk.tree_sideOff (b : Blk) (t : Nat) : (b.sideOff t).tree t = (b.tree t).sideEnded :=
  b.tree_updTree_nondefault t Tree.sideEnded (fun he => Bool.noConfusion (congrArg Tree.transmits he))

@[simp] theorem Blk.sideOn_terms (b : Blk) (t : Nat) : (b.sideOn t).terms = b.terms := rfl

@[simp] theorem Blk.sideOff_terms (b : Blk) (t : Nat) : (b.sideOff t).terms = b.terms := rfl

@[simp] theorem Blk.drawSkew_terms (b : Blk) (t peer : Nat) : (b.drawSkew t peer).terms = b.terms := rfl

@[simp] theorem Blk.protectRec_terms (b : Blk) (t detail : Nat) : (b.protectRec t detail).terms = b.terms :=
  b.vent_terms _

theorem Blk.tree_protectRec (b : Blk) (t detail i : Nat) : (b.protectRec t detail).tree i = b.tree i := b.tree_vent _ i

/-! ### A move of the transmitting side (R152) -/

/-- Under any SCHEME a move leaves the terminals as they were. -/
theorem Blk.moveSide_terms (b : Blk) (t : Nat) (here : Bool) : (b.moveSide t here).terms = b.terms := by
  unfold Blk.moveSide
  by_cases hmove : (b.tree t).transmits = here
  · simp [hmove]
  · by_cases hpeer : (b.tree t).protect.scheme = 2 <;> cases here <;> simp [hmove, hpeer]

section
variable {b : Blk} {t : Nat} (hs : (b.tree t).protect.scheme = 1)
include hs

theorem Blk.tree_moveSide_off (h : (b.tree t).transmits = true) : (b.moveSide t false).tree t = (b.tree t).sideEnded := by
  have hmove : b.moveSide t false = (b.sideOff t).protectRec t 0 := by simp [Blk.moveSide, hs, h]
  rw [hmove, Blk.tree_protectRec, Blk.tree_sideOff]

theorem Blk.tree_moveSide_on (h : (b.tree t).transmits = false) :
    (b.moveSide t true).tree t = (b.tree t).sideBegun b.clk.fc := by
  have hmove : b.moveSide t true = (b.sideOn t).protectRec t 0 := by simp [Blk.moveSide, hs, h]
  rw [hmove, Blk.tree_protectRec, Blk.tree_sideOn _ _ (by simp [hs])]

end

/-! ### HOLD_OFF (R152) -/

section
variable {tree f : Nat} {s : State}

/-- Without protection, or under FORCE, the end of HOLD_OFF moves nothing. -/
theorem protectHoldOffExpiry_bound (h : (s.blk.tree tree).protect.scheme = 0 ∨ (s.blk.tree tree).protect.force ≠ 0) :
    exec (.protectHoldOffExpiry tree) s = .next s := by
  rw [show exec (.protectHoldOffExpiry tree) s = execProtectHoldOffExpiry tree s from rfl, execProtectHoldOffExpiry]
  exact State.svc_idle (if_pos h)

/-- HOLD_OFF still runs. -/
theorem protectHoldOffExpiry_early (hf : (s.blk.tree tree).holdFrom = some f)
    (h : s.blk.clk.fc < f + 8 * (s.blk.tree tree).protect.holdOff) : exec (.protectHoldOffExpiry tree) s = .next s := by
  rw [show exec (.protectHoldOffExpiry tree) s = execProtectHoldOffExpiry tree s from rfl, execProtectHoldOffExpiry]
  refine State.svc_idle ?_
  simp only [hf]
  exact ite_eq_left_iff.mpr (fun _ => if_neg (fun hdue => Nat.not_le.mpr h hdue.2))

/-- HOLD_OFF has run out with LOS_T on the transmitting side only. -/
theorem protectHoldOffExpiry_moves (hp : s.blk.sys.phase = .service) (hs : (s.blk.tree tree).protect.scheme ≠ 0)
    (hforce : (s.blk.tree tree).protect.force = 0) (hf : (s.blk.tree tree).holdFrom = some f)
    (hlost : s.blk.workLost tree = true) (hdue : f + 8 * (s.blk.tree tree).protect.holdOff ≤ s.blk.clk.fc) :
    exec (.protectHoldOffExpiry tree) s
      = .next (s.put (s.blk.within (s.blk.moveSide tree (!(s.blk.tree tree).transmits)))) := by
  rw [show exec (.protectHoldOffExpiry tree) s = execProtectHoldOffExpiry tree s from rfl, execProtectHoldOffExpiry,
    State.svc_eq _ _ hp, State.put]
  simp [hs, hforce, hf, hlost, hdue]

theorem Blk.workLost_here {b : Blk} {t : Nat} (h : (b.tree t).transmits = true) (hlos : (b.tree t).los = true)
    (hother : b.otherLos t = false) : b.workLost t = true := by
  simp [Blk.workLost, h, hlos, hother]

/-! ### TX_WAIT (R154) -/

/-- TX_WAIT still runs. -/
theorem protectTxWaitExpiry_early (hf : (s.blk.tree tree).waitFrom = some f)
    (h : 10 * s.blk.clk.fc < 10 * f + 8 * (s.blk.tree tree).protect.txWait) :
    exec (.protectTxWaitExpiry tree) s = .next s := by
  rw [show exec (.protectTxWaitExpiry tree) s = execProtectTxWaitExpiry tree s from rfl, execProtectTxWaitExpiry]
  refine State.svc_idle ?_
  simp only [hf]
  exact if_neg (Nat.not_le.mpr h)

/-- TX_WAIT has run out: the side sends from the next frame on. -/
theorem protectTxWaitExpiry_ends (hp : s.blk.sys.phase = .service) (hf : (s.blk.tree tree).waitFrom = some f)
    (hdue : 10 * f + 8 * (s.blk.tree tree).protect.txWait ≤ 10 * s.blk.clk.fc) :
    exec (.protectTxWaitExpiry tree) s
      = .next (s.put (s.blk.updTree tree (fun y => { y with waitFrom := none, sinceSwitch := 0 }))) := by
  rw [show exec (.protectTxWaitExpiry tree) s = execProtectTxWaitExpiry tree s from rfl, execProtectTxWaitExpiry]
  refine State.svc_to _ hp ?_ (s.blk.inside_updTree _ _)
  simp only [hf]
  exact if_pos hdue

/-! ### The wait-to-restore time (R153) -/

/-- Without protection, or under FORCE, nothing is restored. -/
theorem protectWtrExpiry_bound (h : (s.blk.tree tree).protect.scheme = 0 ∨ (s.blk.tree tree).protect.force ≠ 0) :
    exec (.protectWtrExpiry tree) s = .next s := by
  rw [show exec (.protectWtrExpiry tree) s = execProtectWtrExpiry tree s from rfl, execProtectWtrExpiry]
  exact State.svc_idle (if_pos (h.imp_right (fun hforce => .inr (.inl hforce))))

/-- This side is preferred, and is not free of LOS_T or not yet for long enough. -/
theorem protectWtrExpiry_waits (hprefer : (s.blk.tree tree).protect.prefer = 0)
    (h : (s.blk.tree tree).los = true ∨ s.blk.clk.fc < (s.blk.tree tree).clearSince + 8000 * s.blk.pair.wtr) :
    exec (.protectWtrExpiry tree) s = .next s := by
  rw [show exec (.protectWtrExpiry tree) s = execProtectWtrExpiry tree s from rfl, execProtectWtrExpiry]
  refine State.svc_idle ?_
  simp only [hprefer, beq_self_eq_true, if_true]
  exact ite_eq_left_iff.mpr (fun _ => if_pos h)

/-- This side is preferred, and has been free of LOS_T for long enough. -/
theorem protectWtrExpiry_returns (hp : s.blk.sys.phase = .service) (hs : (s.blk.tree tree).protect.scheme ≠ 0)
    (hrevert : (s.blk.tree tree).protect.revert = true) (hforce : (s.blk.tree tree).protect.force = 0)
    (hprefer : (s.blk.tree tree).protect.prefer = 0) (hoff : (s.blk.tree tree).transmits = false)
    (hlos : (s.blk.tree tree).los = false)
    (hclear : (s.blk.tree tree).clearSince + 8000 * s.blk.pair.wtr ≤ s.blk.clk.fc) :
    exec (.protectWtrExpiry tree) s = .next (s.put (s.blk.within (s.blk.moveSide tree true))) := by
  rw [show exec (.protectWtrExpiry tree) s = execProtectWtrExpiry tree s from rfl, execProtectWtrExpiry,
    State.svc_eq _ _ hp, State.put]
  simp [hs, hrevert, hforce, hprefer, hoff, hlos, Nat.not_lt.mpr hclear]

end

/-- Settles O43: each expiry before and after its time; a move reads back in any table, since neither of its results is a tree at
reset. -/
theorem protectionMovesTheSide : Obligations.ProtectionMovesTheSide := by
  unfold Obligations.ProtectionMovesTheSide
  intro tree s hp
  refine ⟨fun f hs hforce hon hlos hother hf => ⟨fun hdue => ?_, protectHoldOffExpiry_early hf⟩,
    fun f hf => ⟨protectTxWaitExpiry_ends hp hf, protectTxWaitExpiry_early hf⟩,
    fun hs hrevert hforce hprefer hoff => ⟨fun hlos hclear => ?_, protectWtrExpiry_waits hprefer⟩,
    fun h => ⟨protectHoldOffExpiry_bound h, protectWtrExpiry_bound h⟩⟩
  · have hmoves := protectHoldOffExpiry_moves hp hs hforce hf (Blk.workLost_here hon hlos hother) hdue
    rw [hon] at hmoves
    exact ⟨_, hmoves, rfl, fun h => Blk.tree_moveSide_off h hon, Blk.moveSide_terms _ _ _⟩
  · exact ⟨_, protectWtrExpiry_returns hp (by simp [hs]) hrevert hforce hprefer hoff hlos hclear, rfl,
      Blk.moveSide_terms _ _ _, Blk.tree_moveSide_on hs hoff⟩

end Sys2Proof.Machine

/-! PROOFS. The ranging controller's timeouts, and the end of a discovery cycle. -/
namespace Sys2Proof.Machine

/-! ### Operations of the ranging controller lie inside a unit's frame -/

theorem Blk.inside_restIndex (b : Blk) (t i : Nat) (st : IdxState) : b.Inside (b.restIndex t i st) := .of_eq rfl rfl

theorem Blk.inside_queueCtl (b : Blk) (t : Nat) (m : Ctl) : b.Inside (b.queueCtl t m) := .of_eq rfl rfl

theorem Blk.inside_sendLink (b : Blk) (kind : Nat) (payload : List Byte) : b.Inside (b.sendLink kind payload) :=
  .of_eq (Blk.count_clk _ _ _ _) (Blk.count_sys _ _ _ _)

theorem Blk.inside_sendBatch (b : Blk) (t slot : Nat) (items : List (List Nat)) : b.Inside (b.sendBatch t slot items) := by
  unfold Blk.sendBatch
  split
  · exact b.inside_sendLink _ _
  · exact .rfl' b

theorem Blk.inside_holdProbe (b : Blk) (t cycle : Nat) (p : Nat × Nat) : b.Inside (b.holdProbe t cycle p) := by
  unfold Blk.holdProbe
  split
  · exact b.inside_count _ _ _
  · exact (b.inside_updTerm _ _).trans (Blk.inside_queueCtl _ _ _)

theorem Blk.inside_takeProbes (b : Blk) (t d : Nat) (v : DiscCfg) (corr : List Correlation) :
    b.Inside (b.takeProbes t d v corr) := by
  have hcounts (m n k : Nat) : b.Inside (((b.countN 0x31 1 t m).countN 0x31 2 t n).countN 0x31 3 t k) :=
    ((b.inside_countN _ _ _ _).trans (Blk.inside_countN _ _ _ _ _)).trans (Blk.inside_countN _ _ _ _ _)
  exact ((hcounts _ _ _).trans (Blk.inside_foldl _ (fun b p => b.inside_holdProbe t d p) _ _)).trans
    (Blk.inside_sendBatch _ _ _ _)

/-! ### Timeouts of an index (R171, R181) -/

section
variable {tree i : Nat} {s : State}

/-- Three ranging grants brought no SN_REPORT. -/
theorem rangingTimeout_frees (hp : s.blk.sys.phase = .service) (hstate : (s.blk.term (gid tree i)).state = .held)
    (hmiss : 3 ≤ (s.blk.term (gid tree i)).rangeMiss) :
    exec (.rangingTimeout tree i) s = .next (s.put (s.blk.restIndex tree i .free)) := by
  rw [show exec (.rangingTimeout tree i) s = execRangingTimeout tree i s from rfl, execRangingTimeout]
  exact State.svc_to _ hp (if_pos (by simp [hstate, hmiss])) (s.blk.inside_restIndex _ _ _)

theorem rangingTimeout_idle (hstate : (s.blk.term (gid tree i)).state ≠ .held) :
    exec (.rangingTimeout tree i) s = .next s := by
  rw [show exec (.rangingTimeout tree i) s = execRangingTimeout tree i s from rfl, execRangingTimeout]
  exact State.svc_idle (if_neg (by simp [hstate]))

/-- HELD for 1,000 epochs. -/
theorem heldTimeout_deactivates (hp : s.blk.sys.phase = .service) (hstate : (s.blk.term (gid tree i)).state = .held)
    (hdue : (s.blk.term (gid tree i)).heldFrom + 1000 ≤ s.blk.clk.epoch) :
    exec (.heldTimeout tree i) s
      = .next (s.put ((s.blk.restIndex tree i .free).queueCtl tree (.deactivate i 3 8 1))) := by
  rw [show exec (.heldTimeout tree i) s = execHeldTimeout tree i s from rfl, execHeldTimeout]
  exact State.svc_to _ hp (if_pos (by simp [hstate, hdue]))
    ((s.blk.inside_restIndex _ _ _).trans (Blk.inside_queueCtl _ _ _))

theorem heldTimeout_idle (hstate : (s.blk.term (gid tree i)).state ≠ .held) :
    exec (.heldTimeout tree i) s = .next s := by
  rw [show exec (.heldTimeout tree i) s = execHeldTimeout tree i s from rfl, execHeldTimeout]
  exact State.svc_idle (if_neg (by simp [hstate]))

/-- No ACK 8 frames after the last of three ACTIVATE messages. -/
theorem activateTimeout_deactivates (hp : s.blk.sys.phase = .service)
    (hstate : (s.blk.term (gid tree i)).state = .activating) (hsent : 3 ≤ (s.blk.term (gid tree i)).actSent)
    (hdue : (s.blk.term (gid tree i)).actFrame + 8 ≤ s.blk.clk.fc) :
    exec (.activateTimeout tree i) s
      = .next (s.put ((s.blk.restIndex tree i .provisioned).queueCtl tree (.deactivate i 4 0 1))) := by
  rw [show exec (.activateTimeout tree i) s = execActivateTimeout tree i s from rfl, execActivateTimeout]
  exact State.svc_to _ hp (if_pos (by simp [hstate, hsent, hdue]))
    ((s.blk.inside_restIndex _ _ _).trans (Blk.inside_queueCtl _ _ _))

theorem activateTimeout_idle (hstate : (s.blk.term (gid tree i)).state ≠ .activating) :
    exec (.activateTimeout tree i) s = .next s := by
  rw [show exec (.activateTimeout tree i) s = execActivateTimeout tree i s from rfl, execActivateTimeout]
  exact State.svc_idle (if_neg (by simp [hstate]))

/-- Re-ranging brought no accepted burst for 1,000 epochs. -/
theorem rerangeFail_slows (hp : s.blk.sys.phase = .service) (hstate : (s.blk.term (gid tree i)).state = .active)
    (hrange : (s.blk.term (gid tree i)).reranging = true) (hslow : (s.blk.term (gid tree i)).rerangeSlow = false)
    (hdue : (s.blk.term (gid tree i)).rerangeFrom + 1000 ≤ s.blk.clk.epoch) :
    exec (.rerangeFail tree i) s = .next (s.put ((s.blk.updTerm (gid tree i) (fun y =>
      { y with rerangeSlow := true, rerangeFrom := s.blk.clk.epoch })).vent
        { type := 0x0302, island := 64, object := gid tree i })) := by
  rw [show exec (.rerangeFail tree i) s = execRerangeFail tree i s from rfl, execRerangeFail]
  exact State.svc_to _ hp (if_pos (by simp [hstate, hrange, hslow, hdue]))
    ((s.blk.inside_updTerm _ _).trans (Blk.inside_vent _ _))

theorem rerangeFail_idle (hstate : (s.blk.term (gid tree i)).state ≠ .active) :
    exec (.rerangeFail tree i) s = .next s := by
  rw [show exec (.rerangeFail tree i) s = execRerangeFail tree i s from rfl, execRerangeFail]
  exact State.svc_idle (if_neg (by simp [hstate]))

theorem driftEpoch_idle (hstate : (s.blk.term (gid tree i)).state ≠ .active) :
    exec (.driftEpoch tree i) s = .next s := by
  rw [show exec (.driftEpoch tree i) s = execDriftEpoch tree i s from rfl, execDriftEpoch]
  exact State.svc_idle (if_pos (by simp [hstate]))

end

/-! ### Detections (R165 to R167) -/

/-- Without windows there is nothing to correlate. -/
theorem correlate_nil (v : DiscCfg) : correlate v [] = [] :=
  List.flatMap_eq_nil_iff.mpr (fun _ _ => List.flatMap_eq_nil_iff.mpr (fun _ _ => rfl))

theorem probeCands_nil (v : DiscCfg) (q : Nat) : probeCands v [] q = [] := by simp [probeCands]

/-- Without correlations no code is detected. -/
theorem probeFind_nil (v : DiscCfg) : probeFind v [] = ([], 0) :=
  List.foldl_fixed' (fun q => by simp [probeCands_nil, sortBy]) _

theorem Blk.countN_zero (b : Blk) (family counter inst : Nat) : b.countN family counter inst 0 = b := if_pos rfl

theorem Blk.holdProbe_pair (b : Blk) (t cycle : Nat) (p : Nat × Nat) : (b.holdProbe t cycle p).pair = b.pair := by
  unfold Blk.holdProbe
  split
  · exact b.countN_pair _ _ _ _
  · rfl

section
variable {b : Blk} {v : DiscCfg} {corr : List Correlation} (hj : b.joined = false) (hf : b.feeding = false)
include hj hf

/-- A chip alone takes a cycle without detections in silence. -/
theorem Blk.takeProbes_none (t d : Nat) (h : probeFind v corr = ([], 0)) : b.takeProbes t d v corr = b := by
  simp [Blk.takeProbes, h, Blk.countN_zero, b.sendBatch_alone _ _ _ hj hf]

/-- A chip alone counts a code found at one delay, and holds it. -/
theorem Blk.takeProbes_one (t d : Nat) {p : Nat × Nat} (h : probeFind v corr = ([p], 0)) (hroom : 1 ≤ v.maxAck) :
    b.takeProbes t d v corr = (b.count 0x31 1 t).holdProbe t d p := by
  have hpair : ((b.count 0x31 1 t).holdProbe t d p).pair = b.pair := by rw [Blk.holdProbe_pair, Blk.count_pair]
  have hall : [p].take v.maxAck = [p] := List.take_of_length_le hroom
  have hsilent (slot : Nat) (items : List (List Nat)) := ((b.count 0x31 1 t).holdProbe t d p).sendBatch_alone t slot items
    (by rw [Blk.joined, hpair]; exact hj) (by rw [Blk.feeding, hpair]; exact hf)
  rw [Blk.count] at hsilent ⊢
  simp [Blk.takeProbes, h, Blk.countN_zero, hall, hsilent]

end

/-! ### PROBE_DETECTION (R161, R177) -/

/-- The block after the end of a cycle that began at frame d was counted. -/
def Blk.cycleCounted (b : Blk) (t d : Nat) : Blk := (b.updTree t (fun y => { y with lastCycle := d })).count 0x31 0 t

theorem Blk.inside_cycleCounted (b : Blk) (t d : Nat) : b.Inside (b.cycleCounted t d) :=
  (b.inside_updTree _ _).trans (Blk.inside_count _ _ _ _)

@[simp] theorem Blk.cycleCounted_pair (b : Blk) (t d : Nat) : (b.cycleCounted t d).pair = b.pair := Blk.count_pair _ _ _ _

section
variable {tree d : Nat} {v : DiscCfg} {s : State} (hp : s.blk.sys.phase = .service) (ht : tree < Part.trees s.blk.sys.part)
  (hnative : (s.blk.tree tree).mode = .native) (htx : (s.blk.tree tree).txOn = true) (hrx : (s.blk.tree tree).rxOn = true)
  (hend : (s.blk.tree tree).cycleEnded s.blk.clk.fc = some (d, v)) (hlast : (s.blk.tree tree).lastCycle < d)
include hp ht hnative htx hrx hend hlast

/-- The reference chip counts the cycle and takes what its windows hold. -/
theorem probeDetection_reference (windows : List ProbeWindow) (href : s.blk.pair.reference = true) :
    exec (.probeDetection tree windows) s
      = .next (s.put ((s.blk.cycleCounted tree d).takeProbes tree d v (correlate v windows))) := by
  rw [show exec (.probeDetection tree windows) s = execProbeDetection tree windows s from rfl, execProbeDetection]
  refine State.svc_to _ hp ?_ ((s.blk.inside_cycleCounted _ _).trans (Blk.inside_takeProbes _ _ _ _ _))
  simp [hend, Nat.not_le.mpr ht, hnative, htx, hrx, Nat.not_le.mpr hlast, href, Blk.cycleCounted]

/-- The other chip of a pair only counts it. -/
theorem probeDetection_other (windows : List ProbeWindow) (href : s.blk.pair.reference = false) :
    exec (.probeDetection tree windows) s = .next (s.put (s.blk.cycleCounted tree d)) := by
  rw [show exec (.probeDetection tree windows) s = execProbeDetection tree windows s from rfl, execProbeDetection]
  refine State.svc_to _ hp ?_ (s.blk.inside_cycleCounted _ _)
  simp [hend, Nat.not_le.mpr ht, hnative, htx, hrx, Nat.not_le.mpr hlast, href, Blk.cycleCounted]

/-- A chip alone only counts a cycle in which nothing answered. -/
theorem probeDetection_silent (hj : s.blk.joined = false) (hf : s.blk.feeding = false) :
    exec (.probeDetection tree []) s = .next (s.put (s.blk.cycleCounted tree d)) := by
  cases href : s.blk.pair.reference with
  | false => exact probeDetection_other hp ht hnative htx hrx hend hlast [] href
  | true =>
    have hnone : (s.blk.cycleCounted tree d).takeProbes tree d v (correlate v []) = s.blk.cycleCounted tree d := by
      rw [correlate_nil]
      exact Blk.takeProbes_none (by rw [Blk.joined, Blk.cycleCounted_pair]; exact hj)
        (by rw [Blk.feeding, Blk.cycleCounted_pair]; exact hf) tree d (probeFind_nil v)
    rw [probeDetection_reference hp ht hnative htx hrx hend hlast [] href, hnone]

end

/-- Settles O41: each timeout at its time, and what the end of a cycle takes. -/
theorem rangingTimesOut : Obligations.RangingTimesOut := by
  unfold Obligations.RangingTimesOut
  refine ⟨fun tree i s hp => ⟨rangingTimeout_frees hp, heldTimeout_deactivates hp, activateTimeout_deactivates hp,
      rerangeFail_slows hp, fun hfree => ?_⟩,
    fun tree d v s hp ht hnative htx hrx hend hlast => probeDetection_silent hp ht hnative htx hrx hend hlast,
    fun tree d v windows s hp ht hnative htx hrx hend hlast => probeDetection_reference hp ht hnative htx hrx hend hlast windows,
    fun b tree d q rtd v corr hj hf => Blk.takeProbes_one hj hf tree d⟩
  exact ⟨rangingTimeout_idle (by simp [hfree]), heldTimeout_idle (by simp [hfree]), activateTimeout_idle (by simp [hfree]),
    rerangeFail_idle (by simp [hfree]), driftEpoch_idle (by simp [hfree])⟩

end Sys2Proof.Machine

/-! PROOFS. Drift of a terminal over an epoch, and the feeder skew that chip B takes. -/
namespace Sys2Proof.Machine

/-! ### DRIFT_EPOCH (R178 to R180) -/

/-- A terminal after the mean of its burst offsets over an epoch was judged. -/
def Term.drifted (sum : Int) (count : Nat) (y : Term) : Term :=
  { y.driftEpoch sum.natAbs count with mu := max (-128) (min 127 (roundDiv sum count)), muSum := 0, muCount := 0 }

/-- Only what a terminal is changed to matters. -/
theorem Blk.updTerm_congr (b : Blk) (g : Nat) {f f' : Term → Term} (h : f (b.term g) = f' (b.term g)) :
    b.updTerm g f = b.updTerm g f' := by
  have hget : f (Tab.get {} b.terms g) = f' (Tab.get {} b.terms g) := h
  simp only [Blk.updTerm, Tab.upd, hget]

/-- With no earlier move outstanding, a mean of four bits or more moves the delay. -/
theorem driftEpoch_judges {tree i : Nat} {s : State} {x : Term} (hp : s.blk.sys.phase = .service)
    (hx : s.blk.term (gid tree i) = x) (hstate : x.state = .active) (hcount : x.muCount ≠ 0)
    (hfirst : s.blk.clk.fc = 8 * s.blk.clk.epoch) (happly : x.eqdApply = none) :
    exec (.driftEpoch tree i) s = .next (s.put
      (if x.muSum.natAbs < 4 * x.muCount then s.blk.updTerm (gid tree i) (Term.drifted x.muSum x.muCount)
      else (s.blk.updTerm (gid tree i) (Term.drifted x.muSum x.muCount)).queueCtl tree
        (.eqdSet i (((x.inUse s.blk.clk.fc : Nat) : Int) - clampStep (roundDiv x.muSum x.muCount)).toNat))) := by
  have hjudged : s.blk.updTerm (gid tree i) (fun y => { y.driftEpoch y.muSum.natAbs y.muCount with
      mu := max (-128) (min 127 (roundDiv x.muSum x.muCount)), muSum := 0, muCount := 0 })
      = s.blk.updTerm (gid tree i) (Term.drifted x.muSum x.muCount) := Blk.updTerm_congr _ _ (by rw [hx]; rfl)
  rw [show exec (.driftEpoch tree i) s = execDriftEpoch tree i s from rfl, execDriftEpoch]
  refine State.svc_to _ hp ?_ ?_
  · simp [hx, hstate, hcount, hfirst, happly, hjudged]
  · split
    · exact s.blk.inside_updTerm _ _
    · exact (s.blk.inside_updTerm _ _).trans (Blk.inside_queueCtl _ _ _)

/-! ### A value of the skew (R182, R184) -/

/-- A tree with a value of the skew, judged against 30 µs. -/
def Tree.skewed (v : Int) (y : Tree) : Tree :=
  { y with upSkew := v, rxSkew := v, skewState := if skewLimit < v.natAbs then .beyond else .tracking }

/-- A value that is taken sets the tree's, may leave a record, and then drives the light. -/
theorem Blk.takeSkew_noted (b : Blk) (t : Nat) (v : Int) :
    ∃ b', (b.updTree t (Tree.skewed v)).Noted b' ∧ b.takeSkew t v = b'.driveTx t := by
  have hset : b.updTree t (fun x => { x with
      upSkew := v, rxSkew := v, skewState := if decide (skewLimit < v.natAbs) then .beyond else .tracking })
      = b.updTree t (Tree.skewed v) := Blk.updTree_congr _ _ (by simp [Tree.skewed])
  refine ⟨_, ?_, congrArg (fun b => Blk.driveTx b t) rfl⟩
  rw [hset]
  split
  · exact Blk.noted_vent _ _
  · exact .rfl' _

theorem Blk.inside_driveTx (b : Blk) (t : Nat) : b.Inside (b.driveTx t) := ⟨rfl, rfl, rfl, rfl, rfl, rfl⟩

theorem Blk.inside_takeSkew (b : Blk) (t : Nat) (v : Int) : b.Inside (b.takeSkew t v) := by
  obtain ⟨b', hnoted, htake⟩ := b.takeSkew_noted t v
  rw [htake]
  exact ((b.inside_updTree _ _).trans hnoted.inside).trans (Blk.inside_driveTx _ _)

theorem Blk.takeSkew_trees (b : Blk) (t : Nat) (v : Int) :
    (b.takeSkew t v).trees = Tab.upd {} b.trees t (Tree.skewed v) := by
  obtain ⟨b', hnoted, htake⟩ := b.takeSkew_noted t v
  rw [htake]
  exact hnoted.trees_eq

theorem Blk.takeSkew_terms (b : Blk) (t : Nat) (v : Int) : (b.takeSkew t v).terms = b.terms := by
  obtain ⟨b', hnoted, htake⟩ := b.takeSkew_noted t v
  rw [htake]
  exact hnoted.terms_eq

/-! ### SKEW_ACQUIRED and SKEW_TRACK (R182) -/

section
variable {tree : Nat} {s : State}

/-- Chip B has found 64 bursts. -/
theorem skewAcquired_takes {bursts : List SkewSearch} {diffs : List Int} (hp : s.blk.sys.phase = .service)
    (hchip : s.blk.chipB = true) (hstate : (s.blk.tree tree).skewState = .acquiring) (hrx : (s.blk.tree tree).rxOn = true)
    (hdiffs : (s.blk.tree tree).skew.differences bursts = some diffs) :
    exec (.skewAcquired tree bursts) s = .next (s.put (s.blk.takeSkew tree (median diffs))) := by
  rw [show exec (.skewAcquired tree bursts) s = execSkewAcquired tree bursts s from rfl, execSkewAcquired]
  exact State.svc_to _ hp (by simp [hdiffs, hchip, hstate, hrx]) (s.blk.inside_takeSkew _ _)

/-- Chip B has found fewer. -/
theorem skewAcquired_few {bursts : List SkewSearch} (hdiffs : (s.blk.tree tree).skew.differences bursts = none) :
    exec (.skewAcquired tree bursts) s = .next s := by
  rw [show exec (.skewAcquired tree bursts) s = execSkewAcquired tree bursts s from rfl, execSkewAcquired]
  exact State.svc_idle (by simp [hdiffs])

theorem skewAcquired_not_chipB (bursts : List SkewSearch) (hchip : s.blk.chipB = false) :
    exec (.skewAcquired tree bursts) s = .next s := by
  rw [show exec (.skewAcquired tree bursts) s = execSkewAcquired tree bursts s from rfl, execSkewAcquired]
  refine State.svc_idle ?_
  cases hdiffs : (s.blk.tree tree).skew.differences bursts with
  | none => simp [hdiffs]
  | some diffs => simp [hdiffs, hchip]

variable {sum : Int} {count : Nat}

/-- The mean of an epoch's differences moved by two bits or more. -/
theorem skewTrack_takes (hp : s.blk.sys.phase = .service) (hchip : s.blk.chipB = true)
    (hstate : (s.blk.tree tree).skewState = .tracking) (hcount : count ≠ 0) (hmoved : 2 * count ≤ sum.natAbs) :
    exec (.skewTrack tree sum count) s
      = .next (s.put (s.blk.takeSkew tree ((s.blk.tree tree).rxSkew + roundDiv sum count))) := by
  rw [show exec (.skewTrack tree sum count) s = execSkewTrack tree sum count s from rfl, execSkewTrack]
  exact State.svc_to _ hp (if_pos (by simp [hchip, hstate, hcount, hmoved])) (s.blk.inside_takeSkew _ _)

/-- It moved by less. -/
theorem skewTrack_steady (hmoved : sum.natAbs < 2 * count) : exec (.skewTrack tree sum count) s = .next s := by
  rw [show exec (.skewTrack tree sum count) s = execSkewTrack tree sum count s from rfl, execSkewTrack]
  exact State.svc_idle (if_neg (by simp [hmoved]))

theorem skewTrack_not_chipB (hchip : s.blk.chipB = false) : exec (.skewTrack tree sum count) s = .next s := by
  rw [show exec (.skewTrack tree sum count) s = execSkewTrack tree sum count s from rfl, execSkewTrack]
  exact State.svc_idle (if_neg (by simp [hchip]))

end

/-- Settles O42: the judgement of an epoch's mean, and the two ways in which chip B takes a value of the skew. -/
theorem driftAndSkewAreTracked : Obligations.DriftAndSkewAreTracked := by
  unfold Obligations.DriftAndSkewAreTracked
  refine ⟨fun tree i s hp hstate hcount hfirst happly => ?_,
    fun tree bursts s hp hchip hstate hrx => ⟨fun hfew => skewAcquired_few (if_neg hfew.ne), fun hfull => ?_⟩,
    fun tree count sum s hp hchip hstate hcount => ⟨fun hmoved => ?_, skewTrack_steady⟩,
    fun tree count sum bursts s hchip => ⟨skewAcquired_not_chipB bursts hchip, skewTrack_not_chipB hchip⟩⟩
  · have hjudges := driftEpoch_judges hp rfl hstate hcount hfirst happly
    exact ⟨fun hsmall => by rw [hjudges, if_pos hsmall]; rfl,
      fun hlarge => by rw [hjudges, if_neg (Nat.not_lt.mpr hlarge)]; rfl⟩
  · exact ⟨_, skewAcquired_takes hp hchip hstate hrx (if_pos hfull), rfl, Blk.takeSkew_terms _ _ _, Blk.takeSkew_trees _ _ _⟩
  · exact ⟨_, skewTrack_takes hp hchip hstate hcount hmoved, rfl, Blk.takeSkew_terms _ _ _, Blk.takeSkew_trees _ _ _⟩

end Sys2Proof.Machine

/-! PROOFS. A fold of writes to a sparse table at keys of its own, read back. -/
namespace Sys2Proof

/-- Each step of a fold writes the table at the key of its item, and keeps a predicate under which it does. -/
structure Tab.Writes {σ ι α : Type} [DecidableEq α] (d : α) (keeps : σ → Prop) (tab : σ → Tab α) (key : ι → Nat)
    (val : ι → α → α) (step : σ → ι → σ) : Prop where
  keep : ∀ {s} i, keeps s → keeps (step s i)
  write : ∀ {s} i, keeps s → tab (step s i) = Tab.upd d (tab s) (key i) (val i)

section
variable {σ ι α : Type} [DecidableEq α] {d : α} {keeps : σ → Prop} {tab : σ → Tab α} {key : ι → Nat} {val : ι → α → α}
  {step : σ → ι → σ} (hw : Tab.Writes d keeps tab key val step)
include hw

theorem Tab.Writes.foldl_keep (l : List ι) {s : σ} (h : keeps s) : keeps (l.foldl step s) := by
  induction l generalizing s with
  | nil => exact h
  | cons i r ih => exact ih (hw.keep i h)

/-- A key that no step writes reads as before. -/
theorem Tab.Writes.get_other (l : List ι) {s : σ} (h : keeps s) {k : Nat} (hk : ∀ i ∈ l, k ≠ key i) :
    Tab.get d (tab (l.foldl step s)) k = Tab.get d (tab s) k := by
  induction l generalizing s with
  | nil => rfl
  | cons i r ih =>
    rw [List.foldl_cons, ih (hw.keep i h) (fun j hj => hk j (by simp [hj])), hw.write i h,
      Tab.get_upd_other _ _ _ _ _ (hk i (by simp))]

/-- Where no two steps write one key, each entry reads as what its step made of the entry before. -/
theorem Tab.Writes.get_same {l : List ι} (hl : (l.map key).Nodup) {s : σ} (h : keeps s) (hwf : Tab.wf d (tab s) = true) {i : ι}
    (hi : i ∈ l) : Tab.get d (tab (l.foldl step s)) (key i) = val i (Tab.get d (tab s) (key i)) := by
  induction l generalizing s with
  | nil => cases hi
  | cons j r ih =>
    obtain ⟨hj, hr⟩ := List.nodup_cons.mp hl
    have hnext := hw.keep j h
    rw [List.foldl_cons]
    rcases List.mem_cons.mp hi with rfl | hi
    · have hother : ∀ x ∈ r, key i ≠ key x := fun x hx he => hj (List.mem_map.mpr ⟨x, hx, he.symm⟩)
      rw [hw.get_other r hnext hother, hw.write i h, Tab.get_upd_same _ _ _ _ hwf]
    · have hne : key i ≠ key j := fun he => hj (List.mem_map.mpr ⟨i, hi, he⟩)
      rw [ih hr hnext (hw.write j h ▸ Tab.wf_upd _ _ _ _ hwf) hi, hw.write j h, Tab.get_upd_other _ _ _ _ _ hne]

end

end Sys2Proof

/-! PROOFS. Geyser's placement slots, its share sets and the markers that come late. -/
namespace Sys2Proof.Machine

/-! ### The credit of every queue (R218) -/

/-- b' differs from b in the live state of grant queues alone. -/
def Blk.Requeued (b b' : Blk) : Prop := ∃ l, b' = { b with gey := { b.gey with queues := l } }

theorem Blk.Requeued.rfl' (b : Blk) : b.Requeued b := ⟨b.gey.queues, rfl⟩

theorem Blk.requeued_updGq (b : Blk) (q : Nat) (f : QueueLive → QueueLive) : b.Requeued (b.updGq q f) := ⟨_, rfl⟩

theorem Blk.Requeued.trans {a b c : Blk} (h : a.Requeued b) (k : b.Requeued c) : a.Requeued c := by
  obtain ⟨_, rfl⟩ := h
  obtain ⟨l, rfl⟩ := k
  exact ⟨l, rfl⟩

theorem Blk.requeued_foldl {α : Type} (step : Blk → α → Blk) (h : ∀ b x, Blk.Requeued b (step b x)) (l : List α) (b : Blk) :
    b.Requeued (l.foldl step b) := by
  induction l generalizing b with
  | nil => exact .rfl' b
  | cons x r ih => exact (h b x).trans (ih (step b x))

theorem Blk.Requeued.pair_eq {b b' : Blk} (h : b.Requeued b') : b'.pair = b.pair := by
  obtain ⟨_, rfl⟩ := h; rfl

theorem Blk.Requeued.grants_eq {b b' : Blk} (h : b.Requeued b') : b'.gey.grants = b.gey.grants := by
  obtain ⟨_, rfl⟩ := h; rfl

theorem Blk.Requeued.places_eq {b b' : Blk} (h : b.Requeued b') (m : Nat) : b'.places m = b.places m := by
  obtain ⟨_, rfl⟩ := h; rfl

theorem Blk.Requeued.slotTrees_eq {b b' : Blk} (h : b.Requeued b') (m p : Nat) : b'.slotTrees m p = b.slotTrees m p := by
  obtain ⟨_, rfl⟩ := h; rfl

theorem Blk.mapQueues_none (b : Blk) (f : Nat → QueueLive → QueueLive) (h : b.gey.queues = []) : b.mapQueues f = b := by
  rw [Blk.mapQueues, h, List.foldl_nil]

theorem Blk.writes_mapQueues (b : Blk) (f : Nat → QueueLive → QueueLive) :
    Tab.Writes {} b.Requeued (fun y => y.gey.queues) Prod.fst (fun x => f x.1)
      (fun (y : Blk) (x : Nat × QueueLive) => y.updGq x.1 (f x.1)) where
  keep _ h := h.trans (Blk.requeued_updGq _ _ _)
  write _ _ := rfl

theorem Blk.requeued_mapQueues (b : Blk) (f : Nat → QueueLive → QueueLive) : b.Requeued (b.mapQueues f) :=
  (b.writes_mapQueues f).foldl_keep b.gey.queues (.rfl' b)

/-- A change of every live queue that leaves the reset value alone is seen at every queue. -/
theorem Blk.gq_mapQueues (b : Blk) (f : QueueLive → QueueLive) (hf : f {} = {}) (hw : Tab.wf {} b.gey.queues = true) (q : Nat) :
    Tab.get {} (b.mapQueues (fun _ => f)).gey.queues q = f (Tab.get {} b.gey.queues q) := by
  have hwrites := b.writes_mapQueues (fun _ => f)
  by_cases hq : ∃ x ∈ b.gey.queues, x.1 = q
  · obtain ⟨x, hx, rfl⟩ := hq
    exact hwrites.get_same ((Tab.keys_rise {} b.gey.queues hw).imp Nat.ne_of_lt) (.rfl' b) hw hx
  · have hne : ∀ x ∈ b.gey.queues, x.1 ≠ q := fun x hx he => hq ⟨x, hx, he⟩
    rw [Blk.mapQueues, hwrites.get_other b.gey.queues (.rfl' b) (fun x hx => (hne x hx).symm), Tab.get_absent _ _ _ hne, hf]

/-! ### The slot (R202, R207, R217, R420) -/

/-- The block once slot (m, p) is behind it. -/
def Blk.slotPassed (b : Blk) (m p : Nat) : Blk :=
  { b with gey := { b.gey with slot := if p = 7 then (m + 1, 0) else (m, p + 1) } }

/-- A slot in which no batch is due and no share set changes adds the credit and places the trees. -/
theorem Blk.slotRun_quiet (b : Blk) (m p : Nat) (hdue : dueBefore m p ≤ b.gey.consume) (hp : p ≠ 0) :
    b.slotRun m p =
      Blk.slotPassed (if b.places m
        then (b.slotTrees m p).foldl (fun b t => b.placeTree m p t) (b.mapQueues (fun _ x => x.accrue))
        else b.mapQueues (fun _ x => x.accrue)) m p := by
  have hnone : Blk.consumeDue (dueBefore m p - b.gey.consume) (dueBefore m p) b = b := by
    rw [Nat.sub_eq_zero_of_le hdue]
    rfl
  have hadds := b.requeued_mapQueues (fun _ x => x.accrue)
  simp only [Blk.slotRun, Blk.slotPassed, hnone, hp, false_and, if_false, hadds.slotTrees_eq, hadds.places_eq]

/-- A tree that does not receive is not placed. -/
theorem Blk.placeTree_dark (b : Blk) (m p t : Nat) (h : (b.treeFor t m).rxOn = false) : b.placeTree m p t = b :=
  if_pos (by simp [h])

theorem Blk.placeTrees_dark (b : Blk) (m p : Nat) (l : List Nat) (h : ∀ t, (b.treeFor t m).rxOn = false) :
    l.foldl (fun b t => b.placeTree m p t) b = b := by
  induction l with
  | nil => rfl
  | cons t r ih => rw [List.foldl_cons, Blk.placeTree_dark _ _ _ _ (h t), ih]

/-- With no tree that receives and no live queue, a slot in which nothing is due only passes. -/
theorem Blk.slotRun_dark (b : Blk) (m p : Nat) (hdue : dueBefore m p ≤ b.gey.consume) (hp : p ≠ 0)
    (hdark : ∀ t, (b.treeFor t m).rxOn = false) (hq : b.gey.queues = []) : b.slotRun m p = b.slotPassed m p := by
  rw [Blk.slotRun_quiet b m p hdue hp, Blk.mapQueues_none _ _ hq, Blk.placeTrees_dark _ _ _ _ hdark, ite_self]

/-- On a chip that places nothing, a slot in which nothing is due adds the credit. -/
theorem Blk.slotRun_idle (b : Blk) (m p : Nat) (hdue : dueBefore m p ≤ b.gey.consume) (hp : p ≠ 0)
    (hplaces : b.places m = false) : b.slotRun m p = (b.mapQueues (fun _ x => x.accrue)).slotPassed m p := by
  rw [Blk.slotRun_quiet b m p hdue hp, hplaces, if_neg Bool.false_ne_true]

/-- The slot in hand is that of the frame in hand; one left over from an earlier frame gives way to its first. -/
theorem placementSlot_runs {s : State} (hp : s.blk.sys.phase = .service) (hle : s.blk.gey.slot.1 ≤ s.blk.clk.fc) :
    exec .placementSlot s = .next (s.put (s.blk.within (s.blk.slotRun s.blk.clk.fc
      (if s.blk.gey.slot.1 = s.blk.clk.fc then s.blk.gey.slot.2 else 0)))) := by
  rw [show exec .placementSlot s = execPlacementSlot s from rfl, execPlacementSlot, State.svc_eq _ _ hp,
    if_neg (Nat.not_lt.mpr hle), State.put]
  split <;> rfl

theorem placementSlot_waits {s : State} (h : s.blk.clk.fc < s.blk.gey.slot.1) : exec .placementSlot s = .next s := by
  rw [show exec .placementSlot s = execPlacementSlot s from rfl, execPlacementSlot]
  exact State.svc_idle (if_pos h)

/-! ### Share sets and late markers (R205, R207, R216) -/

theorem shareComputation_computes {s : State} (hp : s.blk.sys.phase = .service) (hsnap : s.blk.gey.snapEpoch = s.blk.clk.epoch)
    (hnew : s.blk.gey.shareEpoch < s.blk.clk.epoch) : exec .shareComputation s
      = .next (s.put { s.blk with gey := { s.blk.gey with next := some (s.blk.shareSet s.blk.clk.epoch) } }) := by
  rw [show exec .shareComputation s = execShareComputation s from rfl, execShareComputation]
  exact State.svc_to _ hp (if_pos ⟨hsnap, hnew⟩) (.of_eq rfl rfl)

theorem shareComputation_waits {s : State} (h : s.blk.gey.snapEpoch ≠ s.blk.clk.epoch ∨ s.blk.clk.epoch ≤ s.blk.gey.shareEpoch) :
    exec .shareComputation s = .next s := by
  rw [show exec .shareComputation s = execShareComputation s from rfl, execShareComputation]
  refine State.svc_idle (if_neg ?_)
  rintro ⟨hsnap, hnew⟩
  exact h.elim (· hsnap) (Nat.not_le.mpr hnew)

section
variable {tree uf phase : Nat} {s : State}

theorem lateMarkerArrival_discards (hp : s.blk.sys.phase = .service) (h : slotOf uf phase < s.blk.gey.consume) :
    exec (.lateMarkerArrival tree uf phase) s = .next (s.put { s.blk with gey := { s.blk.gey with
      parts := s.blk.gey.parts.filter (fun x => !(x.tree == tree && x.uf == uf && x.phase == phase)) } }) := by
  rw [show exec (.lateMarkerArrival tree uf phase) s = execLateMarkerArrival tree uf phase s from rfl, execLateMarkerArrival]
  exact State.svc_to _ hp (if_pos h) (.of_eq rfl rfl)

theorem lateMarkerArrival_early (h : s.blk.gey.consume ≤ slotOf uf phase) :
    exec (.lateMarkerArrival tree uf phase) s = .next s := by
  rw [show exec (.lateMarkerArrival tree uf phase) s = execLateMarkerArrival tree uf phase s from rfl, execLateMarkerArrival]
  exact State.svc_idle (if_neg (Nat.not_lt.mpr h))

end

/-- Settles O44, slot by slot: what a slot does where no batch is due is the credit that it adds and the trees that it places. -/
theorem geyserRunsItsSlots : Obligations.GeyserRunsItsSlots := by
  unfold Obligations.GeyserRunsItsSlots
  refine ⟨fun s hp hle => ?_, fun s => placementSlot_waits, fun s => shareComputation_computes, fun s => shareComputation_waits,
    fun tree uf phase s hp => ⟨lateMarkerArrival_discards hp, lateMarkerArrival_early⟩⟩
  intro p after
  have hruns := placementSlot_runs hp hle
  refine ⟨⟨_, hruns, rfl, rfl⟩, fun hdue hp0 hdark hq => ?_, fun hdue hp0 hplaces hw => ?_⟩
  · rw [Blk.slotRun_dark _ _ _ hdue hp0 hdark hq, (Blk.Inside.of_eq rfl rfl : s.blk.Inside (s.blk.slotPassed _ p)).within_eq] at hruns
    exact hruns
  · rw [Blk.slotRun_idle _ _ _ hdue hp0 hplaces] at hruns
    exact ⟨_, hruns, (s.blk.requeued_mapQueues _).grants_eq, s.blk.gq_mapQueues QueueLive.accrue rfl hw⟩

end Sys2Proof.Machine

/-! PROOFS. What the chips of a pair take from each other, the pages that a newcomer installs and the join point. -/
namespace Sys2Proof.Machine

/-! ### A row of the pair unit -/

section
variable {s : State} {f : Blk → Blk}

/-- In service, on a part with a pair unit, where the effect lies inside the unit's frame. -/
theorem State.pairRow_to (b : Blk) (hp : s.blk.sys.phase = .service) (hpair : s.blk.hasPair = true) (hf : f s.blk = b)
    (hin : s.blk.Inside b) : s.pairRow f = .next (s.put b) :=
  State.svc_to b hp ((if_pos hpair).trans hf) hin

/-- A row of the pair unit that finds nothing to do. -/
theorem State.pairRow_idle (hf : f s.blk = s.blk) : s.pairRow f = .next s :=
  State.svc_idle (by rw [hf, ite_self])

end

theorem Blk.inside_setPair (b : Blk) (f : Pair → Pair) : b.Inside (b.setPair f) := .of_eq rfl rfl

/-! ### The reference chip's batch of a phase (R177, R206, R208) -/

theorem Blk.followLob_quiet (b : Blk) (t : Nat) (v : ViewItem) (h : v.lob = false) : b.followLob t v = b :=
  if_neg (by simp [h])

theorem Blk.followLobs_quiet (b : Blk) (t : Nat) (l : List ViewItem) (h : ∀ v ∈ l, v.lob = false) :
    l.foldl (fun b v => b.followLob t v) b = b := by
  induction l with
  | nil => rfl
  | cons v r ih => rw [List.foldl_cons, Blk.followLob_quiet _ _ _ (h v (by simp)), ih (fun x hx => h x (by simp [hx]))]

/-- The block once it holds a tree's part of a phase in which no burst ended. -/
def Blk.heldPart (b : Blk) (uf phase : Nat) (p : BatchTree) : Blk :=
  let views := b.changedViews p.tree (b.followedView p.tree p.views)
  Blk.noteViews { b with gey := { b.gey with
    parts := b.gey.parts ++ [{
      tree := p.tree, uf := uf, phase := phase, marked := true, views := views,
      reports := p.reports.map (fun r => { term := r.1, start := r.2.1, queues := r.2.2 }), ends := [] }] } } p.tree views

theorem Blk.inside_heldPart (b : Blk) (uf phase : Nat) (p : BatchTree) : b.Inside (b.heldPart uf phase p) := .of_eq rfl rfl

theorem Blk.followTree_plain (b : Blk) (uf phase : Nat) (p : BatchTree) (hends : p.ends = []) (hprobes : p.probes = [])
    (hquiets : p.quiets = []) (hlob : ∀ v ∈ p.views, v.lob = false) (hdue : b.gey.consume ≤ slotOf uf phase) :
    b.followTree uf phase p = b.heldPart uf phase p := by
  rw [Blk.followTree, hends, hprobes, hquiets]
  dsimp only [List.foldl_nil]
  rw [Blk.followLobs_quiet _ _ _ hlob, Blk.closeFollowed, if_neg (Nat.not_lt.mpr hdue), hends]
  rfl

section
variable {s : State} (hp : s.blk.sys.phase = .service) (hpair : s.blk.hasPair = true)
include hp hpair

theorem batchRx_follows {uf phase : Nat} {p : BatchTree} (hf : s.blk.followsBatch uf = true) (hends : p.ends = [])
    (hprobes : p.probes = []) (hquiets : p.quiets = []) (hlob : ∀ v ∈ p.views, v.lob = false)
    (hdue : s.blk.gey.consume ≤ slotOf uf phase) :
    exec (.batchRx ⟨uf, phase, [p]⟩) s = .next (s.put (s.blk.heldPart uf phase p)) := by
  rw [show exec (.batchRx ⟨uf, phase, [p]⟩) s = execBatchRx ⟨uf, phase, [p]⟩ s from rfl, execBatchRx]
  refine State.pairRow_to _ hp hpair ?_ (s.blk.inside_heldPart _ _ _)
  have hplain := s.blk.followTree_plain uf phase p hends hprobes hquiets hlob hdue
  simp only [hf, if_true, List.foldl_cons, List.foldl_nil, hplain]

omit hp hpair in
theorem batchRx_own {x : PairBatch} (hf : s.blk.followsBatch x.uf = false) : exec (.batchRx x) s = .next s := by
  rw [show exec (.batchRx x) s = execBatchRx x s from rfl, execBatchRx]
  exact State.pairRow_idle (if_neg (by simp [hf]))

/-! ### Constraint words, recipes, times, leases and accept lists (R208, R384, R406, R410, R412) -/

theorem constraintRx_takes (epoch budget : Nat) : exec (.constraintRx epoch budget) s
    = .next (s.put { s.blk with gey := { s.blk.gey with partnerB := some (budget, epoch) } }) := by
  rw [show exec (.constraintRx epoch budget) s = execConstraintRx epoch budget s from rfl, execConstraintRx]
  exact State.pairRow_to _ hp hpair rfl (.of_eq rfl rfl)

theorem recipeRx_follows {r : Recipe} (hf : s.blk.follows = true) (hdue : s.blk.clk.fc ≤ r.frame) :
    exec (.recipeRx r) s = .next (s.put (s.blk.setPair (fun p => { p with recipes := p.recipes ++ [r] }))) := by
  rw [show exec (.recipeRx r) s = execRecipeRx r s from rfl, execRecipeRx]
  exact State.pairRow_to _ hp hpair (if_pos (by simp [hf, hdue])) (s.blk.inside_setPair _)

theorem timeFrameRx_follows {x : PairTime} (hj : s.blk.joined = true) (href : s.blk.pair.reference = false)
    (hx : x.frame % 8 ≠ 0) : exec (.timeFrameRx x) s = .next (s.put (s.blk.setPair (fun p => { p with time := some x }))) := by
  rw [show exec (.timeFrameRx x) s = execTimeFrameRx x s from rfl, execTimeFrameRx]
  exact State.pairRow_to _ hp hpair ((if_neg (by simp [hj, href])).trans (if_neg (fun h => hx h.1))) (s.blk.inside_setPair _)

omit hp hpair in
theorem Blk.inside_updLease (b : Blk) (key : Nat) (f : Lease → Lease) : b.Inside (b.updLease key f) := by
  unfold Blk.updLease
  split
  · exact .of_eq rfl rfl
  · exact .of_eq rfl rfl

theorem leaseFrameRx_standby {key e : Nat} (hr : s.blk.pair.role = .standby) : exec (.leaseFrameRx key e) s
    = .next (s.put (s.blk.updLease key (fun l => { l with pending := none, adopt := some e }))) := by
  rw [show exec (.leaseFrameRx key e) s = execLeaseFrameRx key e s from rfl, execLeaseFrameRx]
  exact State.pairRow_to _ hp hpair (if_pos hr) (s.blk.inside_updLease _ _)

omit hp hpair in
theorem leaseFrameRx_other {key e : Nat} (hr : s.blk.pair.role ≠ .standby) : exec (.leaseFrameRx key e) s = .next s := by
  rw [show exec (.leaseFrameRx key e) s = execLeaseFrameRx key e s from rfl, execLeaseFrameRx]
  exact State.pairRow_idle (if_neg hr)

theorem acceptListRx_takes (x : AcceptList) : exec (.acceptListRx x) s = .next (s.put (s.blk.setPair (fun p => { p with
    other := (({ slot := slotOf x.uf x.phase, entries := x.entries } : PhaseAccepts) :: p.other).take 64 }))) := by
  rw [show exec (.acceptListRx x) s = execAcceptListRx x s from rfl, execAcceptListRx]
  exact State.pairRow_to _ hp hpair rfl (s.blk.inside_setPair _)

theorem dnEndpointRx_follows {uf phase : Nat} {msgs : List (Nat × List Byte)} (hj : s.blk.joined = true)
    (href : s.blk.pair.reference = false) (hdue : s.blk.dir.next ≤ slotOf uf phase) :
    exec (.dnEndpointRx uf phase msgs) s = .next (s.put (s.blk.setPair (fun p => { p with
      agreedDn := p.agreedDn ++ msgs.map (fun m => (slotOf uf phase, m.1, m.2)) }))) := by
  rw [show exec (.dnEndpointRx uf phase msgs) s = execDnEndpointRx uf phase msgs s from rfl, execDnEndpointRx]
  exact State.pairRow_to _ hp hpair ((if_neg (by simp [hj, href])).trans (if_neg (Nat.not_lt.mpr hdue))) (s.blk.inside_setPair _)

/-! ### Forwarded commands (R401) -/

theorem commandFrameRx_forward {tenant ring pos epoch : Nat} {slot ext : List Byte} {i : Instr} (hf : s.blk.forwards = true)
    (ho : s.blk.openEpoch ≤ epoch)
    (hi : instrOf (parseNative tenant ring pos slot ext true).1 (parseNative tenant ring pos slot ext true).2 = some i) :
    exec (.commandFrameRx (.forward tenant ring pos epoch slot ext)) s = .next (s.put ((s.blk.stageAt epoch i).sendLink 0x0A
      ([1] ++ toBe tenant 1 ++ toBe ring 1 ++ toBe pos 4))) := by
  rw [show exec (.commandFrameRx (.forward tenant ring pos epoch slot ext)) s
    = execCommandFrameRx (.forward tenant ring pos epoch slot ext) s from rfl, execCommandFrameRx]
  refine State.pairRow_to _ hp hpair ?_ ((Blk.Inside.of_eq rfl rfl : s.blk.Inside (s.blk.stageAt epoch i)).trans
    (Blk.inside_sendLink _ _ _))
  simp [hf, hi, Nat.not_lt.mpr ho]

theorem commandFrameRx_ack {tenant ring pos : Nat} (hf : s.blk.forwards = true) :
    exec (.commandFrameRx (.ack tenant ring pos)) s = .next (s.put (s.blk.setPair (fun p => { p with
      staged := p.staged.filter (fun x => !(x.tenant == tenant && x.ring == ring && x.pos == pos)) }))) := by
  rw [show exec (.commandFrameRx (.ack tenant ring pos)) s = execCommandFrameRx (.ack tenant ring pos) s from rfl, execCommandFrameRx]
  exact State.pairRow_to _ hp hpair (if_neg (by simp [hf])) (s.blk.inside_setPair _)

omit hp hpair in
theorem commandFrameRx_out {c : PairCommand} (hf : s.blk.forwards = false) : exec (.commandFrameRx c) s = .next s := by
  rw [show exec (.commandFrameRx c) s = execCommandFrameRx c s from rfl, execCommandFrameRx]
  exact State.pairRow_idle (if_pos (by simp [hf]))

/-! ### Digests (R414) -/

omit hp hpair in
/-- A digest whose counterpart is not there yet is not compared. -/
theorem Blk.compareDigest_waits (b : Blk) (n : Nat) (h : ∀ x ∈ b.pair.mine, x.1 ≠ n) : b.compareDigest n = b := by
  have hnone : b.pair.mine.find? (fun x => x.1 == n) = none := List.find?_eq_none.mpr (fun x hx => by simpa using h x hx)
  simp only [Blk.compareDigest, hnone]

omit hp hpair in
/-- Digests whose eight registers agree. -/
theorem Blk.compareDigest_agrees (b : Blk) (n : Nat) {own their : List Nat} {bad faulted : Bool}
    (hmine : b.pair.mine = [(n, own, bad)]) (htheirs : b.pair.theirs = [(n, their, faulted)])
    (heq : ∀ d < 8, own.getD d 0 = their.getD d 0) :
    b.compareDigest n = ((b.setPair (fun p => { p with mine := [], theirs := [] })).count 0xA4 4 83).setPair
      (fun p => { p with lastDigest := n }) := by
  have hmask : (List.range 8).map (fun d => (b2n (own.getD d 0 != their.getD d 0), d)) = (List.range 8).map (fun d => (0, d)) :=
    List.map_congr_left (fun d hd => by rw [heq d (List.mem_range.mp hd), bne_self_eq_false]; rfl)
  have hzero : pack ((List.range 8).map (fun d => (0, d))) = 0 := by decide
  have hpaired : b.setPair (fun p => { p with
      mine := p.mine.filter (fun x => x.1 != n), theirs := p.theirs.filter (fun x => x.1 != n) })
      = b.setPair (fun p => { p with mine := [], theirs := [] }) := by
    simp [Blk.setPair, hmine, htheirs]
  have hfind (l : List Nat) (x : Bool) : [(n, l, x)].find? (fun y => y.1 == n) = some (n, l, x) := by simp
  simp only [Blk.compareDigest, hmine, htheirs, hfind, hpaired, hmask, hzero, if_true]

theorem digestRx_waits {epoch : Nat} {digest : List W64} {faulted : Bool} (hj : s.blk.joined = true)
    (hmine : ∀ x ∈ s.blk.pair.mine, x.1 ≠ epoch) : exec (.digestRx epoch digest faulted) s
      = .next (s.put (s.blk.setPair (fun p => { p with theirs := p.theirs ++ [(epoch, digest.map BitVec.toNat, faulted)] }))) := by
  rw [show exec (.digestRx epoch digest faulted) s = execDigestRx epoch digest faulted s from rfl, execDigestRx]
  refine State.pairRow_to _ hp hpair ?_ (s.blk.inside_setPair _)
  rw [if_neg (by simp [hj])]
  exact Blk.compareDigest_waits _ _ hmine

theorem digestRx_agrees {epoch : Nat} {digest : List W64} {faulted bad : Bool} {own : List Nat} (hj : s.blk.joined = true)
    (hmine : s.blk.pair.mine = [(epoch, own, bad)]) (htheirs : s.blk.pair.theirs = [])
    (heq : ∀ d < 8, own.getD d 0 = (digest.map BitVec.toNat).getD d 0) : exec (.digestRx epoch digest faulted) s
      = .next (s.put (((s.blk.setPair (fun p => { p with mine := [], theirs := [] })).count 0xA4 4 83).setPair
          (fun p => { p with lastDigest := epoch }))) := by
  rw [show exec (.digestRx epoch digest faulted) s = execDigestRx epoch digest faulted s from rfl, execDigestRx]
  refine State.pairRow_to _ hp hpair ?_ (((s.blk.inside_setPair _).trans (Blk.inside_count _ _ _ _)).trans (Blk.inside_setPair _ _))
  rw [if_neg (by simp [hj])]
  exact Blk.compareDigest_agrees _ _ hmine (congrArg (· ++ [(epoch, digest.map BitVec.toNat, faulted)]) htheirs) heq

/-! ### A newcomer follows the map (R420, R425) -/

theorem mapFrameRx_follows {tree uf w : Nat} (hr : s.blk.pair.role = .joining)
    (hnew : s.blk.grantAt tree uf (s.blk.shadowGrant tree uf w).start = none)
    (hfixed : (s.blk.shadowGrant tree uf w).forQueue = false) : exec (.mapFrameRx tree uf [w]) s = .next (s.put { s.blk with
      gey := { s.blk.gey with grants := s.blk.gey.grants ++ [s.blk.shadowGrant tree uf w] } }) := by
  rw [show exec (.mapFrameRx tree uf [w]) s = execMapFrameRx tree uf [w] s from rfl, execMapFrameRx]
  refine State.pairRow_to _ hp hpair ?_ (.of_eq rfl rfl)
  simp [hr, hnew, hfixed]

omit hp hpair in
theorem mapFrameRx_other {tree uf : Nat} {ws : List Nat} (hr : s.blk.pair.role ≠ .joining) :
    exec (.mapFrameRx tree uf ws) s = .next s := by
  rw [show exec (.mapFrameRx tree uf ws) s = execMapFrameRx tree uf ws s from rfl, execMapFrameRx]
  exact State.pairRow_idle (if_pos hr)

/-! ### The source of a join sends its pages (R420, R423, R424) -/

omit hp hpair in
theorem Blk.inside_sendPage (b : Blk) (item no : Nat) : b.Inside (b.sendPage item no) := by
  unfold Blk.sendPage
  refine Blk.Inside.trans ?_ (Blk.inside_sendLink _ _ _)
  split
  · exact b.spoken_draw.inside
  · exact .rfl' b

omit hp hpair in
theorem pageSend_other (hf : s.blk.feeding = false) : exec .pageSend s = .next s := by
  rw [show exec .pageSend s = execPageSend s from rfl, execPageSend]
  exact State.pairRow_idle (if_pos (by simp [hf]))

theorem pageSend_page {p : Nat × Nat} (hf : s.blk.feeding = true) (hs : s.blk.pair.sending = some p) : exec .pageSend s
    = .next (s.put ((s.blk.sendPage p.1 p.2).setPair (fun x => { x with sending := pageAfter p }))) := by
  rw [show exec .pageSend s = execPageSend s from rfl, execPageSend]
  refine State.pairRow_to _ hp hpair ?_ ((s.blk.inside_sendPage _ _).trans (Blk.inside_setPair _ _))
  simp only [hf, hs, Bool.not_true, Bool.false_eq_true, if_false]

theorem pageSend_join (hf : s.blk.feeding = true) (hs : s.blk.pair.sending = none) (hj : s.blk.pair.joinAt = none)
    (hshadow : s.blk.pair.shadowFrom + 2 ≤ s.blk.clk.epoch) : exec .pageSend s
      = .next (s.put ((s.blk.setPair (fun x => { x with joinAt := some (s.blk.clk.epoch + 2) })).sendLink 0x02
          (toBe (s.blk.clk.epoch + 2) 8))) := by
  rw [show exec .pageSend s = execPageSend s from rfl, execPageSend]
  refine State.pairRow_to _ hp hpair ?_ ((s.blk.inside_setPair _).trans (Blk.inside_sendLink _ _ _))
  simp [hf, hs, hj, hshadow]

theorem pageReqRx_sends {item no : Nat} (hf : s.blk.feeding = true) (hlo : 1 ≤ item) (hhi : item ≤ 6) (hno : no < itemPages item) :
    exec (.pageReqRx item [no]) s = .next (s.put (s.blk.sendPage item no)) := by
  rw [show exec (.pageReqRx item [no]) s = execPageReqRx item [no] s from rfl, execPageReqRx]
  refine State.pairRow_to _ hp hpair ?_ (s.blk.inside_sendPage _ _)
  simp [hf, hlo, hhi, hno]

end

/-! ### A newcomer installs a page (R423, R424) -/

/-- b' has the clock, the registers and the pair unit of b. -/
structure Blk.PairKept (b b' : Blk) : Prop where
  clk : b'.clk = b.clk
  sys : b'.sys = b.sys
  pair : b'.pair = b.pair

theorem Blk.PairKept.trans {a b c : Blk} (h : a.PairKept b) (k : b.PairKept c) : a.PairKept c :=
  ⟨k.clk.trans h.clk, k.sys.trans h.sys, k.pair.trans h.pair⟩

theorem Blk.pairKept_foldl {α : Type} (f : Blk → α → Blk) (h : ∀ b x, Blk.PairKept b (f b x)) (l : List α) (b : Blk) :
    b.PairKept (l.foldl f b) := by
  induction l generalizing b with
  | nil => exact ⟨rfl, rfl, rfl⟩
  | cons x r ih => exact (h b x).trans (ih (f b x))

theorem Blk.pairKept_adoptStaged (b : Blk) (x : Nat × Instr) : b.PairKept (b.adoptStaged x) := by
  unfold Blk.adoptStaged
  split <;> exact ⟨rfl, rfl, rfl⟩

theorem Blk.pairKept_updTrees (b : Blk) (f : Nat → Tree → Tree) (l : List Nat) :
    b.PairKept (l.foldl (fun b t => b.updTree t (f t)) b) :=
  Blk.pairKept_foldl (fun b t => b.updTree t (f t)) (fun _ _ => ⟨rfl, rfl, rfl⟩) l b

theorem Blk.pairKept_installTables (b : Blk) (p : Page) : b.PairKept (b.installTables p) := by
  unfold Blk.installTables
  refine Blk.PairKept.trans ?_ (Blk.pairKept_foldl _ Blk.pairKept_adoptStaged _ _)
  refine Blk.PairKept.trans ?_ (Blk.pairKept_updTrees _ (fun t x => { x with disc := Config.pageDiscovery p.no p.data t x.disc }) _)
  exact ⟨rfl, rfl, rfl⟩

/-- The pages of items 0x01 to 0x04 leave the pair unit alone. -/
theorem Blk.pairKept_install (b : Blk) (p : Page) (h : p.item ≤ 4) (h0 : 1 ≤ p.item) : b.PairKept (b.install p) := by
  unfold Blk.install
  obtain h1 | h2 | h3 | h4 : p.item = 1 ∨ p.item = 2 ∨ p.item = 3 ∨ p.item = 4 := by omega
  · rw [if_pos h1]
    exact ⟨rfl, rfl, rfl⟩
  · rw [if_neg (by omega), if_pos h2]
    exact b.pairKept_installTables p
  · rw [if_neg (by omega), if_neg (by omega), if_pos h3]
    exact Blk.pairKept_foldl (fun (b : Blk) (x : Nat × Term) => b.updTerm x.1 (fun y => y.adopt x.2)) (fun _ _ => ⟨rfl, rfl, rfl⟩) _ _
  · rw [if_neg (by omega), if_neg (by omega), if_neg (by omega), if_pos h4]
    exact Blk.pairKept_foldl (fun (b : Blk) (x : Nat × CarrierKeys) => b.updCarrier x.1 (fun y => y.adopt x.2)) (fun _ _ => ⟨rfl, rfl, rfl⟩) _ _

theorem Blk.inside_askPage (b : Blk) (item no : Nat) : b.Inside (b.askPage item no) :=
  have hdrop : b.Inside { b with pair := { b.pair with installed := b.pair.installed.filter (· != (item, no)) } } := .of_eq rfl rfl
  (hdrop.trans (Blk.inside_sendLink _ _ _)).trans (Blk.inside_count _ _ _ _)

/-- The first time that a page's digest fails. -/
theorem Blk.badPage_first (b : Blk) (p : Page) (h : ∀ y ∈ b.pair.badPages, y.1 ≠ (p.item, p.no)) :
    b.badPage p = (b.setPair (fun x => { x with badPages := ((p.item, p.no), 1) :: b.pair.badPages })).askPage p.item p.no := by
  have hnone : b.pair.badPages.find? (fun x => x.1 == (p.item, p.no)) = none :=
    List.find?_eq_none.mpr (fun y hy => by simpa using h y hy)
  have hkept : b.pair.badPages.filter (fun y => y.1 != (p.item, p.no)) = b.pair.badPages :=
    List.filter_eq_self.mpr (fun y hy => by simpa using h y hy)
  simp only [Blk.badPage, hnone, Blk.setPair, hkept]
  rfl

section
variable {s : State} {p : Page} (hp : s.blk.sys.phase = .service) (hpair : s.blk.hasPair = true)
  (hr : s.blk.pair.role = .joining) (ha : s.blk.pair.agreed = true) (hlo : 1 ≤ p.item) (hno : p.no < itemPages p.item)
include hp hpair hr ha hlo hno

/-- A newcomer that has logged nothing since installs a page that is new to it. -/
theorem pageRx_installs (hhi : p.item ≤ 4) (hd : p.digest = crc64 0 p.data) (hnew : (p.item, p.no) ∉ s.blk.pair.installed)
    (hlog : s.blk.pair.log = []) : exec (.pageRx p) s = .next (s.put (((s.blk.install p).setPair (fun x => { x with
      installed := x.installed ++ [(p.item, p.no)], pagesDone := x.pagesDone + 1, step := 3 })).count 0xA4 10 83)) := by
  have hkept := s.blk.pairKept_install p hhi hlo
  have hreplay (slot : Nat) := (s.blk.install p).replay_nil p slot (by rw [hkept.pair, hlog])
  have hfit : ¬(s.blk.pair.role ≠ .joining ∨ !s.blk.pair.agreed ∨ p.item = 0 ∨ 6 < p.item ∨ itemPages p.item ≤ p.no) := by
    simp [hr, ha]
    omega
  rw [show exec (.pageRx p) s = execPageRx p s from rfl, execPageRx]
  refine State.pairRow_to _ hp hpair ?_
    (((Blk.Inside.of_eq hkept.clk hkept.sys).trans (Blk.inside_setPair _ _)).trans (Blk.inside_count _ _ _ _))
  rw [if_neg hfit, if_neg (not_not_intro hd.symm), if_neg (by omega)]
  dsimp only
  rw [hreplay, Blk.takePage_self _ _ hhi hlo, if_neg (by simp), if_neg (by simp [hnew]), if_neg (show p.item ≠ 6 by omega)]

/-- A page whose digest fails for the first time is asked for again. -/
theorem pageRx_asksAgain (hhi : p.item ≤ 6) (hd : p.digest ≠ crc64 0 p.data)
    (hfirst : ∀ y ∈ s.blk.pair.badPages, y.1 ≠ (p.item, p.no)) : exec (.pageRx p) s = .next (s.put ((s.blk.setPair (fun x =>
      { x with badPages := ((p.item, p.no), 1) :: s.blk.pair.badPages })).askPage p.item p.no)) := by
  have hfit : ¬(s.blk.pair.role ≠ .joining ∨ !s.blk.pair.agreed ∨ p.item = 0 ∨ 6 < p.item ∨ itemPages p.item ≤ p.no) := by
    simp [hr, ha]
    omega
  rw [show exec (.pageRx p) s = execPageRx p s from rfl, execPageRx]
  refine State.pairRow_to _ hp hpair ?_ ((s.blk.inside_setPair _).trans (Blk.inside_askPage _ _ _))
  rw [if_neg hfit, if_pos hd.symm]
  exact s.blk.badPage_first p hfirst

end

/-! ### The grid and the join point (R421, R425) -/

/-- Whether the chip is the source of a join that names J. -/
def Blk.feedsJoin (b : Blk) (j : Nat) : Bool := b.feeding && b.pair.joinAt == some j

/-- Whether the chip is a newcomer whose handshake has agreed. -/
def Blk.agreedNewcomer (b : Blk) : Bool := b.pair.role == .joining && b.pair.agreed

/-- Credit, and the demand and age of what has not reported during the join, begin at 0 (R425). -/
def Blk.joinQueue (b : Blk) (q : Nat × QueueLive) : Blk :=
  b.updGq q.1 (fun x =>
    if b.pair.reported.contains (q.1 / 4) then { x with credit := 0 } else { x with credit := 0, demand := 0, age := 0 })

theorem Blk.requeued_joinQueues (b : Blk) (l : List (Nat × QueueLive)) : b.Requeued (l.foldl Blk.joinQueue b) :=
  Blk.requeued_foldl Blk.joinQueue (fun b _ => b.requeued_updGq _ _) l b

theorem Blk.feeding_setOffsets (b : Blk) (t : Nat) (o : Int) :
    (b.setPair (fun p => { p with offsets := Tab.set 0 p.offsets t o })).feeding = b.feeding := rfl

theorem Blk.wave_setOffsets (b : Blk) (t : Nat) (o : Int) :
    (b.setPair (fun p => { p with offsets := Tab.set 0 p.offsets t o })).wave = b.wave := rfl

section
variable {s : State} (hp : s.blk.sys.phase = .service) (hpair : s.blk.hasPair = true)
include hp hpair

section
variable {tree : Nat} {offsets : List Int} (hmode : (s.blk.tree tree).mode = .native) (hrx : (s.blk.tree tree).rxOn = true)
  (hlen : offsets.length = 64)
include hmode hrx hlen

theorem gridAlign_newcomer (hr : s.blk.pair.role = .joining) : exec (.gridAlign tree offsets) s
    = .next (s.put (s.blk.setPair (fun p => { p with offsets := Tab.set 0 p.offsets tree (median offsets) }))) := by
  rw [show exec (.gridAlign tree offsets) s = execGridAlign tree offsets s from rfl, execGridAlign]
  have hfeeds : s.blk.feeding = false := by simp [Blk.feeding, hr]
  refine State.pairRow_to _ hp hpair ?_ (s.blk.inside_setPair _)
  rw [if_neg (by simp [hlen, hmode, hrx])]
  simp [Blk.feeding_setOffsets, hr, hfeeds]

theorem gridAlign_shifts (hf : s.blk.feeding = true) (hw : s.blk.wave = true) (hs : (s.blk.tree tree).shifting = false)
    (hfar : 2 < (median offsets).natAbs) (hnear : (median offsets).natAbs ≤ 256) : exec (.gridAlign tree offsets) s
      = .next (s.put ((s.blk.setPair (fun p => { p with offsets := Tab.set 0 p.offsets tree (median offsets) })).queueCtl tree
          (.gridShift (-median offsets) 0 3))) := by
  have hclamp : max (-256) (min 256 (-median offsets)) = -median offsets := by omega
  rw [show exec (.gridAlign tree offsets) s = execGridAlign tree offsets s from rfl, execGridAlign]
  refine State.pairRow_to _ hp hpair ?_ ((s.blk.inside_setPair _).trans (Blk.inside_queueCtl _ _ _))
  rw [if_neg (by simp [hlen, hmode, hrx])]
  simp [Blk.feeding_setOffsets, Blk.wave_setOffsets, hf, hw, hs, hfar, hclamp]

end

/-- At the join point, with the inputs of share set J held and a shadow of two epochs, both chips name J and their next states. -/
theorem joinPoint_names {j : Nat} (hjoin : s.blk.feedsJoin j = true ∨ s.blk.agreedNewcomer = true)
    (hsnap : s.blk.gey.snapEpoch = j) (hshadow : s.blk.pair.shadowFrom + 2 ≤ j) :
    ∃ t, exec (.joinPoint j) s = .next t ∧ t.pending = s.pending ∧ t.blk.pair = { s.blk.pair with
      joinAt := some j, step := if s.blk.agreedNewcomer then 5 else 0,
      next := some (j + 1, if s.blk.feedsJoin j then .active else .standby) } := by
  rw [show exec (.joinPoint j) s = execJoinPoint j s from rfl, execJoinPoint, State.pairRow, State.svc_eq _ _ hp, if_pos hpair]
  refine ⟨_, rfl, rfl, ?_⟩
  have hdue : ¬(!(s.blk.feedsJoin j || s.blk.agreedNewcomer) ∨ s.blk.gey.snapEpoch ≠ j ∨ j < s.blk.pair.shadowFrom + 2) := by
    rcases hjoin with h | h <;> simp [h, hsnap, hshadow]
  rw [Blk.within_pair]
  refine (congrArg Blk.pair (if_neg hdue)).trans ?_
  exact congrArg (fun p : Pair => { p with
    joinAt := some j, step := if s.blk.agreedNewcomer then 5 else 0,
    next := some (j + 1, if s.blk.feedsJoin j then .active else .standby) }) (s.blk.requeued_joinQueues s.blk.gey.queues).pair_eq

end

/-- Settles O52, frame by frame. -/
theorem chipsOfAPairAgree : Obligations.ChipsOfAPairAgree := by
  unfold Obligations.ChipsOfAPairAgree
  intro s hp hpair b
  refine ⟨fun uf phase p => batchRx_follows hp hpair, fun x => batchRx_own, constraintRx_takes hp hpair,
    fun r => recipeRx_follows hp hpair, fun x => timeFrameRx_follows hp hpair, fun key e => leaseFrameRx_standby hp hpair,
    fun key e => leaseFrameRx_other, acceptListRx_takes hp hpair,
    fun tenant ring pos epoch slot ext i => commandFrameRx_forward hp hpair,
    fun tenant ring pos => commandFrameRx_ack hp hpair, fun c => commandFrameRx_out,
    fun uf phase msgs => dnEndpointRx_follows hp hpair, fun epoch digest faulted => digestRx_waits hp hpair,
    fun epoch digest faulted own bad => digestRx_agrees hp hpair, fun tree uf w => mapFrameRx_follows hp hpair,
    fun tree uf ws => mapFrameRx_other, pageSend_other, fun p => pageSend_page hp hpair, pageSend_join hp hpair,
    fun item no => pageReqRx_sends hp hpair, fun p hr ha hlo hno => ⟨fun hhi hd hnew hlog => ?_,
      pageRx_asksAgain hp hpair hr ha hlo hno⟩,
    fun tree offsets hmode hrx hlen => ⟨gridAlign_newcomer hp hpair hmode hrx hlen, gridAlign_shifts hp hpair hmode hrx hlen⟩,
    fun j hsnap hshadow => ⟨fun hf hj => ?_, fun hr ha => ?_⟩⟩
  · intro c
    have hinstall : b.install p = c := by
      obtain h | h | h | h : p.item = 1 ∨ p.item = 2 ∨ p.item = 3 ∨ p.item = 4 := by omega
      all_goals simp only [c, Blk.install, h] <;> rfl
    rw [← hinstall]
    exact pageRx_installs hp hpair hr ha hlo hno hhi hd hnew hlog
  · have hsource : b.feedsJoin j = true := by simp [Blk.feedsJoin, hf, hj]
    have hrole : b.pair.role = .alone := by
      have h := hf
      simp only [Blk.feeding, Bool.and_eq_true, beq_iff_eq] at h
      exact h.1
    obtain ⟨t, hnext, hpending, hpr⟩ := joinPoint_names hp hpair (.inl hsource) hsnap hshadow
    exact ⟨t, hnext, hpending, by rw [hpr, if_pos hsource], by rw [hpr]; exact hrole⟩
  · have hnew : b.agreedNewcomer = true := by simp [Blk.agreedNewcomer, hr, ha]
    have hsource : b.feedsJoin j = false := by simp [Blk.feedsJoin, Blk.feeding, hr]
    obtain ⟨t, hnext, hpending, hpr⟩ := joinPoint_names hp hpair (.inr hnew) hsnap hshadow
    exact ⟨t, hnext, hpending, by rw [hpr, if_neg (Bool.eq_false_iff.mp hsource)], by rw [hpr], by rw [hpr, if_pos hnew]⟩

end Sys2Proof.Machine

/-! PROOFS. The commands of Geyser. -/
namespace Sys2Proof.Machine

/-! ### GQ_CONFIG (R198, R199) -/

/-- The configuration that a queue form makes of Geyser's. -/
def Blk.queueWritten (b : Blk) (c : Cmd) : GeyCfg :=
  { b.geyCfg with queues := Tab.set none b.geyCfg.queues (c.f 0 61 45) (some (queueCfgOf c)) }

/-- A queue form within its tenant's bounds: tenant 0, or the queue's owner with WEIGHT and MAX_RATE alone changed and within their
caps (R198). -/
def Blk.mayConfigure (b : Blk) (c : Cmd) : Prop :=
  let old := b.geyCfg.queue (c.f 0 61 45)
  let new := queueCfgOf c
  c.tenant = 0 ∨ (c.tenant = b.queueOwner (c.f 0 61 45) ∧ new = { old with weight := new.weight, maxRate := new.maxRate }
    ∧ new.weight ≤ old.weightCap ∧ (old.rateCap = 0 ∨ (new.maxRate ≠ 0 ∧ new.maxRate ≤ old.rateCap)))

theorem Blk.inside_setGey (b : Blk) (f : GeyCfg → GeyCfg) : b.Inside (b.setGey f) := .of_eq rfl rfl

section
variable {c : Cmd} {b : Blk} (hmode : c.f 0 61 45 % 4 = 1 → (queueCfgOf c).enable = true → (queueCfgOf c).lbLog2 < 4 →
    (b.tree (queueTree (c.f 0 61 45))).mode = .native) (hmay : b.mayConfigure c)
include hmode hmay

/-- A queue form that its tenant may give is judged by Geyser's limits alone. -/
theorem applyGqConfig_judged : applyGqConfig c b = if b.geyOk (b.queueWritten c) (queueTree (c.f 0 61 45))
    then (b.setGey (fun _ => b.queueWritten c), {}) else (b, Res.err .noSpace) := by
  have howner : ¬(!mayAct c.tenant (b.queueOwner (c.f 0 61 45)) || (c.tenant != 0 && queueCfgOf c != { b.geyCfg.queue (c.f 0 61 45) with
      weight := (queueCfgOf c).weight, maxRate := (queueCfgOf c).maxRate })) = true := by
    rcases hmay with h | ⟨h, hnew, -⟩
    · simp [mayAct, h]
    · rw [← hnew]
      simp [mayAct, h]
  have hlb : ¬(c.f 0 61 45 % 4 = 1 ∧ (queueCfgOf c).enable = true ∧ (queueCfgOf c).lbLog2 < 4
      ∧ (b.tree (queueTree (c.f 0 61 45))).mode ≠ .native) := fun ⟨h1, h2, h3, h4⟩ => h4 (hmode h1 h2 h3)
  have hweight : ¬(c.tenant ≠ 0 ∧ (b.geyCfg.queue (c.f 0 61 45)).weightCap < (queueCfgOf c).weight) := by
    rintro ⟨h0, hlt⟩
    exact Nat.not_lt.mpr (hmay.resolve_left h0).2.2.1 hlt
  have hrate : ¬(c.tenant ≠ 0 ∧ (b.geyCfg.queue (c.f 0 61 45)).rateCap ≠ 0
      ∧ ((queueCfgOf c).maxRate = 0 ∨ (b.geyCfg.queue (c.f 0 61 45)).rateCap < (queueCfgOf c).maxRate)) := by
    rintro ⟨h0, hcap, hout⟩
    obtain ⟨hne, hle⟩ := (hmay.resolve_left h0).2.2.2.resolve_left hcap
    exact hout.elim hne (Nat.not_lt.mpr hle)
  unfold applyGqConfig
  rw [if_neg howner, if_neg hlb, if_neg hweight, if_neg hrate]
  cases hok : b.geyOk (b.queueWritten c) (queueTree (c.f 0 61 45)) with
  | true => exact if_neg (by simpa [Blk.queueWritten] using hok)
  | false => exact if_pos (by simpa [Blk.queueWritten] using hok)

end

theorem applyGqConfig_foreign {c : Cmd} {b : Blk} (h0 : c.tenant ≠ 0) (howner : c.tenant ≠ b.queueOwner (c.f 0 61 45)) :
    applyGqConfig c b = (b, Res.deniedObject) := if_pos (by simp [mayAct, h0, howner])

section
variable {c : Cmd} {s : State}

theorem gqConfig_takes (ht : s.Takes Op.gqConfig c) (hmode : c.f 0 61 45 % 4 = 1 → (queueCfgOf c).enable = true →
    (queueCfgOf c).lbLog2 < 4 → (s.blk.tree (queueTree (c.f 0 61 45))).mode = .native) (hmay : s.blk.mayConfigure c)
    (hok : s.blk.geyOk (s.blk.queueWritten c) (queueTree (c.f 0 61 45)) = true) :
    exec (.gqConfig c) s = .next (s.answered Op.gqConfig c (s.blk.setGey (fun _ => s.blk.queueWritten c)) {}) :=
  exec_opcode_ok (i := .gqConfig c) rfl rfl ht.live ht.2 ((applyGqConfig_judged hmode hmay).trans (if_pos hok)) rfl
    (s.blk.inside_setGey _)

theorem gqConfig_full (ht : s.Takes Op.gqConfig c) (hmode : c.f 0 61 45 % 4 = 1 → (queueCfgOf c).enable = true →
    (queueCfgOf c).lbLog2 < 4 → (s.blk.tree (queueTree (c.f 0 61 45))).mode = .native) (hmay : s.blk.mayConfigure c)
    (hok : s.blk.geyOk (s.blk.queueWritten c) (queueTree (c.f 0 61 45)) = false) :
    exec (.gqConfig c) s = .next (s.answered Op.gqConfig c s.blk (Res.err .noSpace)) :=
  exec_opcode_fails (i := .gqConfig c) rfl rfl ht.live ht.2
    (congrArg Prod.snd ((applyGqConfig_judged hmode hmay).trans (if_neg (by simp [hok])))) (by decide) (by decide)

theorem gqConfig_foreign (ht : s.Takes Op.gqConfig c) (h0 : c.tenant ≠ 0) (howner : c.tenant ≠ s.blk.queueOwner (c.f 0 61 45)) :
    exec (.gqConfig c) s = .next (s.answered Op.gqConfig c s.blk Res.deniedObject) :=
  exec_opcode_fails (i := .gqConfig c) rfl rfl ht.live ht.2 (congrArg Prod.snd (applyGqConfig_foreign h0 howner))
    (by decide) (by decide)

/-- The configuration that a tree form makes of Geyser's. -/
def Blk.planWritten (b : Blk) (c : Cmd) : GeyCfg :=
  { b.geyCfg with trees := Tab.set {} b.geyCfg.trees (c.f 0 61 56) {
    planEff := c.f 0 55 46, entryReserve := c.f 0 45 34, poolMax := c.f 0 33 22 } }

theorem gqConfigTree_takes (ht : s.Takes Op.gqConfigTree c) (h0 : c.tenant = 0)
    (hreserve : s.blk.reserves (s.blk.planWritten c) ≤ 32768) (hok : s.blk.geyOk (s.blk.planWritten c) (c.f 0 61 56) = true) :
    exec (.gqConfigTree c) s
      = .next (s.answered Op.gqConfigTree c (s.blk.setGey (fun _ => s.blk.planWritten c)) {}) := by
  have happly : applyGqConfigTree c s.blk = (s.blk.setGey (fun _ => s.blk.planWritten c), {}) := by
    have hfits : ¬(32768 < s.blk.reserves (s.blk.planWritten c) ∨ (!s.blk.geyOk (s.blk.planWritten c) (c.f 0 61 56)) = true) := by
      simp [hok, hreserve]
    exact (if_neg (not_not_intro h0)).trans (if_neg hfits)
  exact exec_opcode_ok (i := .gqConfigTree c) rfl rfl ht.live ht.2 happly rfl (s.blk.inside_setGey _)

theorem gqConfigDevice_takes (ht : s.Takes Op.gqConfigDevice c) (h0 : c.tenant = 0) :
    exec (.gqConfigDevice c) s = .next (s.answered Op.gqConfigDevice c
      (s.blk.setGey (fun x => { x with upShare := c.f 0 61 53, upCellLimit := c.f 0 52 33 })) {}) :=
  exec_opcode_ok (i := .gqConfigDevice c) rfl rfl ht.live ht.2 (if_neg (not_not_intro h0)) rfl (s.blk.inside_setGey _)

end

/-! ### CIRCUIT_RESERVE and CIRCUIT_RELEASE (R221 to R223) -/

/-- The length of a reservation's footprint. -/
def reserveFootprint (c : Cmd) : Nat := guardLen + c.f 0 23 7

/-- The reservations of the tree that a new one can meet. -/
def Blk.reserveRivals (b : Blk) (c : Cmd) : List Resv :=
  ((b.geyCfg.treeResv (queueTree (c.f 0 49 33))).filter (fun r =>
    patternsMeet (c.f 0 32 30) (c.f 0 29 24) r.2.periodLog2 r.2.phaseOff)).map Prod.snd

/-- The configuration with the reservation at an offset. -/
def Blk.reserved (b : Blk) (c : Cmd) (o : Nat) : GeyCfg :=
  { b.geyCfg with resv := Tab.set none b.geyCfg.resv (c.f 0 63 50) (some {
    queue := c.f 0 49 33, periodLog2 := c.f 0 32 30, phaseOff := c.f 0 29 24, length := c.f 0 23 7, rpt := c.b 0 6, offset := o }) }

/-- Whether the tree and the chip hold the reservation at an offset (R222). -/
def Blk.reserveFits (b : Blk) (c : Cmd) (o : Nat) : Prop :=
  let x := b.tree (queueTree (c.f 0 49 33))
  ((b.reserved c o).treeResv (queueTree (c.f 0 49 33))).length ≤ 512 ∧ (b.reserved c o).resv.length ≤ 16384
    ∧ (b.reserved c o).limitsOk x.mode (queueTree (c.f 0 49 33)) x.mapLead x.discNow.winPhase = true

/-- The offset at which CIRCUIT_RESERVE places: the highest that is free, or the one it names where that is free (R221). -/
def Blk.reserveOffset (b : Blk) (c : Cmd) : Option Nat :=
  let top := phaseLen (b.tree (queueTree (c.f 0 49 33))).mode
  if c.b 1 46 then highestOffset top (reserveFootprint c) (b.reserveRivals c)
  else if offsetFree top (reserveFootprint c) (b.reserveRivals c) (c.f 1 63 47) then some (c.f 1 63 47) else none

theorem Blk.reserveOffset_eq_some (b : Blk) (c : Cmd) (o : Nat) : b.reserveOffset c = some o ↔
    if c.b 1 46 = true
    then highestOffset (phaseLen (b.tree (queueTree (c.f 0 49 33))).mode) (reserveFootprint c) (b.reserveRivals c) = some o
    else c.f 1 63 47 = o
      ∧ offsetFree (phaseLen (b.tree (queueTree (c.f 0 49 33))).mode) (reserveFootprint c) (b.reserveRivals c) o = true := by
  unfold Blk.reserveOffset
  by_cases hauto : c.b 1 46 = true
  · simp [hauto]
  · simp only [hauto, if_false, Bool.false_eq_true, Option.ite_none_right_eq_some, Option.some.injEq]
    constructor
    · rintro ⟨hfree, rfl⟩
      exact ⟨rfl, hfree⟩
    · rintro ⟨rfl, hfree⟩
      exact ⟨hfree, rfl⟩

/-- Whether the reservation at an offset exceeds what the tree and the chip hold, as the model asks it. -/
theorem Blk.not_reserveFits_iff (b : Blk) (c : Cmd) (o : Nat) : ¬ b.reserveFits c o ↔
    512 < ((b.reserved c o).treeResv (queueTree (c.f 0 49 33))).length ∨ 16384 < (b.reserved c o).resv.length
      ∨ (!(b.reserved c o).limitsOk (b.tree (queueTree (c.f 0 49 33))).mode (queueTree (c.f 0 49 33))
          (b.tree (queueTree (c.f 0 49 33))).mapLead (b.tree (queueTree (c.f 0 49 33))).discNow.winPhase) = true := by
  simp only [Blk.reserveFits, not_and_or, Nat.not_le, Bool.not_eq_true, Bool.not_eq_true']

theorem not_shortPeriod {m : Mode} {k : Nat} (h : m = .native ∨ 3 ≤ k) : ¬(m ≠ .native ∧ k < 3) :=
  fun ⟨hm, hk⟩ => h.elim hm (Nat.not_le.mpr hk)

section
variable {c : Cmd} {b : Blk} (hfree : Tab.get none b.geyCfg.resv (c.f 0 63 50) = none)
  (hmode : (b.tree (queueTree (c.f 0 49 33))).mode = .native ∨ 3 ≤ c.f 0 32 30)
include hfree hmode

theorem applyCircuitReserve_crowded (ho : b.reserveOffset c = none) : applyCircuitReserve c b = (b, Res.err .noSpace) := by
  unfold Blk.reserveOffset reserveFootprint Blk.reserveRivals at ho
  unfold applyCircuitReserve
  rw [if_neg (by simp [hfree]), if_neg (not_shortPeriod hmode)]
  simp only [ho]

theorem applyCircuitReserve_full {o : Nat} (ho : b.reserveOffset c = some o) (hfits : ¬ b.reserveFits c o) :
    applyCircuitReserve c b = (b, Res.err .noSpace) := by
  unfold Blk.reserveOffset reserveFootprint Blk.reserveRivals at ho
  unfold applyCircuitReserve
  rw [if_neg (by simp [hfree]), if_neg (not_shortPeriod hmode)]
  simp only [ho]
  exact if_pos ((b.not_reserveFits_iff c o).mp hfits)

/-- What CIRCUIT_RESERVE makes of an unused ID, of a period that the tree's mode has, where its offset is found and fits. -/
theorem applyCircuitReserve_placed {o : Nat} (ho : b.reserveOffset c = some o) (hfits : b.reserveFits c o) :
    applyCircuitReserve c b = (b.setGey (fun _ => b.reserved c o), Res.words [pack [(o, 47)],
      firstFrame (c.f 0 32 30) (c.f 0 29 24) (8 * b.clk.epoch + 2 + (b.tree (queueTree (c.f 0 49 33))).mapLead) % 2 ^ 64]) := by
  unfold Blk.reserveOffset reserveFootprint Blk.reserveRivals at ho
  unfold applyCircuitReserve
  rw [if_neg (by simp [hfree]), if_neg (not_shortPeriod hmode)]
  simp only [ho]
  exact if_neg (fun h => (b.not_reserveFits_iff c o).mpr h hfits)

end

theorem applyCircuitReserve_taken {c : Cmd} {b : Blk} (h : (Tab.get none b.geyCfg.resv (c.f 0 63 50)).isSome = true) :
    applyCircuitReserve c b = (b, Res.badField 0 50) := if_pos h

section
variable {c : Cmd} {s : State}

section
variable (ht : s.Takes Op.circuitReserve c) (hfree : Tab.get none s.blk.geyCfg.resv (c.f 0 63 50) = none)
  (hmode : (s.blk.tree (queueTree (c.f 0 49 33))).mode = .native ∨ 3 ≤ c.f 0 32 30)
include ht hfree hmode

theorem circuitReserve_places {o : Nat} (ho : s.blk.reserveOffset c = some o) (hfits : s.blk.reserveFits c o) :
    exec (.circuitReserve c) s = .next (s.answered Op.circuitReserve c (s.blk.setGey (fun _ => s.blk.reserved c o))
      (Res.words [pack [(o, 47)], firstFrame (c.f 0 32 30) (c.f 0 29 24)
        (8 * s.blk.clk.epoch + 2 + (s.blk.tree (queueTree (c.f 0 49 33))).mapLead) % 2 ^ 64])) :=
  exec_opcode_ok (i := .circuitReserve c) rfl rfl ht.live ht.2 (applyCircuitReserve_placed hfree hmode ho hfits) rfl
    (s.blk.inside_setGey _)

theorem circuitReserve_refuses (h : s.blk.reserveOffset c = none ∨ ∃ o, s.blk.reserveOffset c = some o ∧ ¬ s.blk.reserveFits c o) :
    exec (.circuitReserve c) s = .next (s.answered Op.circuitReserve c s.blk (Res.err .noSpace)) := by
  have happly : applyCircuitReserve c s.blk = (s.blk, Res.err .noSpace) := by
    rcases h with h | ⟨o, ho, hfits⟩
    · exact applyCircuitReserve_crowded hfree hmode h
    · exact applyCircuitReserve_full hfree hmode ho hfits
  exact exec_opcode_fails (i := .circuitReserve c) rfl rfl ht.live ht.2 (congrArg Prod.snd happly) (by decide) (by decide)

end

theorem circuitReserve_taken (ht : s.Takes Op.circuitReserve c)
    (h : (Tab.get none s.blk.geyCfg.resv (c.f 0 63 50)).isSome = true) :
    exec (.circuitReserve c) s = .next (s.answered Op.circuitReserve c s.blk (Res.badField 0 50)) :=
  exec_opcode_fails (i := .circuitReserve c) rfl rfl ht.live ht.2 (congrArg Prod.snd (applyCircuitReserve_taken h))
    (by simp [Res.badField]) (by simp [Res.badField])

theorem circuitRelease_takes (ht : s.Takes Op.circuitRelease c)
    (h : (Tab.get none s.blk.geyCfg.resv (c.f 0 63 50)).isSome = true) : exec (.circuitRelease c) s
      = .next (s.answered Op.circuitRelease c
          (s.blk.setGey (fun x => { x with resv := Tab.set none x.resv (c.f 0 63 50) none })) {}) :=
  exec_opcode_ok (i := .circuitRelease c) rfl rfl ht.live ht.2 (if_neg (by simpa [Option.isSome_iff_ne_none] using h)) rfl
    (s.blk.inside_setGey _)

theorem circuitRelease_unknown (ht : s.Takes Op.circuitRelease c)
    (h : Tab.get none s.blk.geyCfg.resv (c.f 0 63 50) = none) : exec (.circuitRelease c) s
      = .next (s.answered Op.circuitRelease c s.blk (Res.badField 0 50)) :=
  exec_opcode_fails (i := .circuitRelease c) rfl rfl ht.live ht.2 (congrArg Prod.snd (if_pos (by simp [h])))
    (by decide) (by decide)

end

end Sys2Proof.Machine

/-! PROOFS. The commands of the endpoint directory. -/
namespace Sys2Proof.Machine

/-! ### Writes of contexts (R249, R261 to R264) -/

/-- b' differs from b in the endpoint directory alone. -/
def Blk.Directed (b b' : Blk) : Prop := ∃ d, b' = { b with dir := d }

theorem Blk.Directed.rfl' (b : Blk) : b.Directed b := ⟨b.dir, rfl⟩

theorem Blk.Directed.trans {a b c : Blk} (h : a.Directed b) (k : b.Directed c) : a.Directed c := by
  obtain ⟨_, rfl⟩ := h
  obtain ⟨d, rfl⟩ := k
  exact ⟨d, rfl⟩

theorem Blk.Directed.eq {b b' : Blk} (h : b.Directed b') : b' = { b with dir := b'.dir } := by
  obtain ⟨_, rfl⟩ := h; rfl

theorem Blk.Directed.inside {b b' : Blk} (h : b.Directed b') : b.Inside b' := by
  obtain ⟨_, rfl⟩ := h; exact .of_eq rfl rfl

theorem Blk.Directed.pair_eq {b b' : Blk} (h : b.Directed b') : b'.pair = b.pair := by
  obtain ⟨_, rfl⟩ := h; rfl

theorem Blk.directed_rebound (b : Blk) (old new : Ctx) : b.Directed (b.rebound old new) := by
  unfold Blk.rebound
  cases old.bound <;> cases new.bound <;> exact ⟨_, rfl⟩

theorem Blk.directed_putCtx (b : Blk) (e : Nat) (old new : Ctx) : b.Directed (b.putCtx e old new) :=
  (b.directed_rebound old new).trans ⟨_, rfl⟩

theorem Blk.ctxs_putCtx (b : Blk) (e : Nat) (old new : Ctx) : (b.putCtx e old new).dir.ctxs = Tab.set {} b.dir.ctxs e new := by
  have hctxs : (b.rebound old new).dir.ctxs = b.dir.ctxs := by
    unfold Blk.rebound
    cases old.bound <;> cases new.bound <;> rfl
  simp only [Blk.putCtx, Blk.writeCtx, hctxs]

theorem epList_nodup (c : Cmd) : (epList c).Nodup := List.nodup_range.map (fun _ _ => Nat.add_left_cancel)

theorem forall_mem_epList {c : Cmd} {p : Nat → Prop} :
    (∀ e ∈ epList c, p e) ↔ ∀ i < (epRange c).2, p ((epRange c).1 + i) := by simp [epList]

theorem mem_epList {c : Cmd} {i : Nat} (hi : i < (epRange c).2) : (epRange c).1 + i ∈ epList c := by simp [epList, hi]

/-! ### EP_WRITE (R261) -/

/-- The context at a place of EP_WRITE's input. -/
def epInput (c : Cmd) (i : Nat) : Ctx := Ctx.ofWords ((List.range 32).map (fun k => leWord c.ext (32 * i + k)))

section
variable (c : Cmd) (old new : Ctx)

/-- A context with the configuration group written and, where it names another polynomial or all is cleared, its check value
begun: what EP_WRITE makes of it before it ends a binding. -/
def epConfigured : Ctx :=
  let base : Ctx := if c.b 0 25 then {} else old
  let x := if c.b 0 24 then { base with
      valid := new.valid, svc := new.svc, prot := new.prot, poly := new.poly, aliveEn := new.aliveEn, outageEn := new.outageEn }
    else base
  if x.poly ≠ base.poly ∨ c.b 0 25 then { x with checkValue := checkInit x.poly } else x

/-- A context that ends its binding and its key where it goes out of use. -/
def epEnded (x : Ctx) : Ctx :=
  if old.valid ∧ !x.valid then { x.noCandidate with
      bound := false, isStatic := false, stale := false, gasped := false, keyLoaded := false } else x

/-- A context with the handler's and the host's groups written. -/
def epHosted (x : Ctx) : Ctx :=
  let x := if c.b 0 23 then { x with handler := new.handler } else x
  if c.b 0 22 then { x with host := new.host } else x

theorem epWritten_eq : epWritten c old new = epHosted c new (epEnded old (epConfigured c old new)) := rfl

end

/-- What ending a binding and the groups of the handler and the host leave of a context. -/
theorem epWritten_configured (c : Cmd) (old new : Ctx) :
    let x := epWritten c old new
    let y := epConfigured c old new
    x.valid = y.valid ∧ x.svc = y.svc ∧ x.prot = y.prot ∧ x.poly = y.poly ∧ x.aliveEn = y.aliveEn ∧ x.outageEn = y.outageEn
      ∧ x.txCounter = y.txCounter ∧ x.checkValue = y.checkValue := by
  simp only [epWritten_eq, epHosted, epEnded]
  split_ifs <;> exact ⟨rfl, rfl, rfl, rfl, rfl, rfl, rfl, rfl⟩

section
variable {c : Cmd} (old new : Ctx)

theorem epWritten_config (h : c.b 0 24 = true) :
    let x := epWritten c old new
    x.valid = new.valid ∧ x.svc = new.svc ∧ x.prot = new.prot ∧ x.poly = new.poly ∧ x.aliveEn = new.aliveEn
      ∧ x.outageEn = new.outageEn := by
  intro x
  obtain ⟨hvalid, hsvc, hprot, hpoly, halive, houtage, -⟩ := epWritten_configured c old new
  have hnew : (epConfigured c old new).valid = new.valid ∧ (epConfigured c old new).svc = new.svc
      ∧ (epConfigured c old new).prot = new.prot ∧ (epConfigured c old new).poly = new.poly
      ∧ (epConfigured c old new).aliveEn = new.aliveEn ∧ (epConfigured c old new).outageEn = new.outageEn := by
    simp only [epConfigured, h, if_true]
    split_ifs <;> exact ⟨rfl, rfl, rfl, rfl, rfl, rfl⟩
  obtain ⟨kvalid, ksvc, kprot, kpoly, kalive, koutage⟩ := hnew
  exact ⟨hvalid.trans kvalid, hsvc.trans ksvc, hprot.trans kprot, hpoly.trans kpoly, halive.trans kalive, houtage.trans koutage⟩

/-- With neither the configuration's group nor a clear, the groups of the handler and the host are all that is written. -/
theorem epWritten_kept (h24 : c.b 0 24 = false) (h25 : c.b 0 25 = false) : epWritten c old new = epHosted c new old := by
  have hconf : epConfigured c old new = old := by simp [epConfigured, h24, h25]
  have hend : epEnded old old = old := by simp [epEnded]
  rw [epWritten_eq, hconf, hend]

theorem epHosted_config (x : Ctx) : (epHosted c new x).valid = x.valid ∧ (epHosted c new x).svc = x.svc
    ∧ (epHosted c new x).poly = x.poly ∧ (epHosted c new x).keyLoaded = x.keyLoaded ∧ (epHosted c new x).bound = x.bound
    ∧ (epHosted c new x).checkValue = x.checkValue := by
  unfold epHosted
  cases c.b 0 23 <;> cases c.b 0 22 <;> exact ⟨rfl, rfl, rfl, rfl, rfl, rfl⟩

theorem epWritten_cleared (h : c.b 0 25 = true) :
    let x := epWritten c old new
    x.bound = false ∧ x.keyLoaded = false ∧ x.txCounter = 0 ∧ x.checkValue = checkInit x.poly := by
  intro x
  obtain ⟨-, -, -, hpoly, -, -, htx, hcheck⟩ := epWritten_configured c old new
  obtain ⟨-, -, -, hkey, hbound, -⟩ := epHosted_config (c := c) new (epEnded old (epConfigured c old new))
  have hconf : (epConfigured c old new).bound = false ∧ (epConfigured c old new).keyLoaded = false
      ∧ (epConfigured c old new).txCounter = 0
      ∧ (epConfigured c old new).checkValue = checkInit (epConfigured c old new).poly := by
    simp only [epConfigured, h, if_true, or_true]
    cases c.b 0 24 <;> simp
  obtain ⟨kbound, kkey, ktx, kcheck⟩ := hconf
  have hend : (epEnded old (epConfigured c old new)).bound = false ∧ (epEnded old (epConfigured c old new)).keyLoaded = false := by
    unfold epEnded
    split
    · exact ⟨rfl, rfl⟩
    · exact ⟨kbound, kkey⟩
  exact ⟨hbound.trans hend.1, hkey.trans hend.2, htx.trans ktx, hcheck.trans (kcheck.trans (congrArg checkInit hpoly.symm))⟩

theorem epWritten_handler (h : c.b 0 23 = true) : (epWritten c old new).handler = new.handler := by
  rw [epWritten_eq, epHosted, h]
  cases c.b 0 22 <;> rfl

theorem epWritten_host (h : c.b 0 22 = true) : (epWritten c old new).host = new.host := by
  rw [epWritten_eq, epHosted, h]
  rfl

end

theorem Blk.resync_synced {b : Blk} (h : b.pair.unsyncedFrom = none) (e : Nat) : b.resync e = b :=
  if_pos (by simp [Blk.unsynced, h])

/-- The block whose context EP_WRITE writes: with a clear, its parity faults have ended. -/
def Blk.epCleared (b : Blk) (c : Cmd) (i : Nat) : Blk := if c.b 0 25 then b.healCtx ((epRange c).1 + i) else b

theorem Blk.directed_epCleared (b : Blk) (c : Cmd) (i : Nat) : b.Directed (b.epCleared c i) := by
  unfold Blk.epCleared
  cases c.b 0 25 <;> exact ⟨_, rfl⟩

theorem Blk.ctxs_epCleared (b : Blk) (c : Cmd) (i : Nat) : (b.epCleared c i).dir.ctxs = b.dir.ctxs := by
  unfold Blk.epCleared
  cases c.b 0 25 <;> rfl

/-- Where no endpoint is unsynced, a context's write is all that EP_WRITE does. -/
theorem Blk.epWriteOne_eq {b : Blk} (h : b.pair.unsyncedFrom = none) (c : Cmd) (i : Nat) : b.epWriteOne c i
    = (b.epCleared c i).putCtx ((epRange c).1 + i) (Tab.get {} b.dir.ctxs ((epRange c).1 + i))
        (epWritten c (Tab.get {} b.dir.ctxs ((epRange c).1 + i)) (epInput c i)) := by
  have hsynced : ((b.epCleared c i).putCtx ((epRange c).1 + i) (Tab.get {} b.dir.ctxs ((epRange c).1 + i))
      (epWritten c (Tab.get {} b.dir.ctxs ((epRange c).1 + i)) (epInput c i))).pair.unsyncedFrom = none := by
    rw [(Blk.directed_putCtx _ _ _ _).pair_eq, (b.directed_epCleared c i).pair_eq, h]
  exact (congrArg (ite _ · _) (Blk.resync_synced hsynced _)).trans (ite_self _)

theorem Blk.writes_epWriteOne {b : Blk} (h : b.pair.unsyncedFrom = none) (c : Cmd) :
    Tab.Writes {} b.Directed (fun y => y.dir.ctxs) (fun i => (epRange c).1 + i) (fun i x => epWritten c x (epInput c i))
      (fun y i => y.epWriteOne c i) where
  keep i hy := by
    rw [Blk.epWriteOne_eq (hy.pair_eq ▸ h)]
    exact (hy.trans (Blk.directed_epCleared _ c i)).trans (Blk.directed_putCtx _ _ _ _)
  write i hy := by
    rw [Blk.epWriteOne_eq (hy.pair_eq ▸ h), Blk.ctxs_putCtx, Blk.ctxs_epCleared]
    rfl

/-- EP_WRITE's contexts, written one by one. -/
def Blk.epWriteAll (b : Blk) (c : Cmd) : Blk := (List.range (epRange c).2).foldl (fun y i => y.epWriteOne c i) b

theorem applyEpWrite_takes {c : Cmd} {b : Blk} (hmay : mayAct c.tenant (b.endpointOwner (epRange c).1) = true)
    (hread : c.b 0 25 = true ∨ b.Clean) : applyEpWrite c b = (b.epWriteAll c, {}) := by
  have hr : ∃ l, (if c.b 0 25 then (b, some []) else b.readAll (epList c)) = (b, some l) := by
    rcases hread with h | hc
    · exact ⟨[], if_pos h⟩
    · rw [Blk.readAll_clean hc.latent hc.faults]
      split <;> exact ⟨_, rfl⟩
  obtain ⟨l, hl⟩ := hr
  unfold applyEpWrite
  rw [if_neg (by simp [hmay])]
  simp only [hl]
  rfl

/-! ### EP_BIND and EP_UNBIND (R263, R264) -/

section
variable {c : Cmd} {b : Blk} (hmay : mayAct c.tenant (b.endpointOwner (c.f 0 63 39)) = true) (hc : b.Clean)
  (hpurpose : (Tab.get {} b.swCfg.carriers (c.f 0 38 24 / 512 * 65536 + c.f 0 23 8)).purpose = 2)
include hmay hc hpurpose

/-- What EP_BIND makes of a context that it may bind to a carrier of endpoints. -/
theorem applyEpBind_judged : applyEpBind c b =
    let x := Tab.get {} b.dir.ctxs (c.f 0 63 39)
    if !x.valid then (b, Res.badField 0 39)
    else (b.putCtx (c.f 0 63 39) x { x.bindTo (c.f 0 38 24) (c.f 0 23 8) b.clk.epoch with isStatic := c.b 0 7 }, {}) := by
  unfold applyEpBind
  rw [if_neg (by simp [hmay])]
  simp only [Blk.readCtx_clean hc.latent hc.faults]
  exact if_neg (not_not_intro hpurpose)

end

/-- A context after EP_UNBIND. -/
def Ctx.unbound (x : Ctx) : Ctx := { x.noCandidate with bound := false, isStatic := false, stale := false, gasped := false }

/-- EP_UNBIND of one context. -/
def Blk.unbindOne (b : Blk) (e : Nat) : Blk := b.putCtx e (Tab.get {} b.dir.ctxs e) (Tab.get {} b.dir.ctxs e).unbound

theorem Blk.writes_unbindOne (b : Blk) :
    Tab.Writes {} b.Directed (fun y => y.dir.ctxs) id (fun _ => Ctx.unbound) Blk.unbindOne where
  keep _ h := h.trans (Blk.directed_putCtx _ _ _ _)
  write _ _ := Blk.ctxs_putCtx _ _ _ _

theorem applyEpUnbind_takes {c : Cmd} {b : Blk} (hmay : mayAct c.tenant (b.endpointOwner (epRange c).1) = true) (hc : b.Clean) :
    applyEpUnbind c b = ((epList c).foldl Blk.unbindOne b, {}) := by
  unfold applyEpUnbind
  rw [if_neg (by simp [hmay])]
  simp only [Blk.readAll_clean hc.latent hc.faults]
  rfl

section
variable {c : Cmd} {s : State}

section
variable (ht : s.Takes Op.epWrite c) (hmay : mayAct c.tenant (s.blk.endpointOwner (epRange c).1) = true)
  (hread : c.b 0 25 = true ∨ s.blk.Clean) (hsynced : s.blk.pair.unsyncedFrom = none)
include ht hmay hread hsynced

theorem epWrite_takes : exec (.epWrite c) s = .next (s.answered Op.epWrite c (s.blk.epWriteAll c) {}) :=
  exec_opcode_ok (i := .epWrite c) rfl rfl ht.live ht.2 (applyEpWrite_takes hmay hread) rfl
    ((Blk.writes_epWriteOne hsynced c).foldl_keep _ (.rfl' _)).inside

end

section
variable (ht : s.Takes Op.epBind c) (hmay : mayAct c.tenant (s.blk.endpointOwner (c.f 0 63 39)) = true) (hc : s.blk.Clean)
  (hpurpose : (Tab.get {} s.blk.swCfg.carriers (c.f 0 38 24 / 512 * 65536 + c.f 0 23 8)).purpose = 2)
include ht hmay hc hpurpose

theorem epBind_takes (hvalid : (Tab.get {} s.blk.dir.ctxs (c.f 0 63 39)).valid = true) : exec (.epBind c) s
    = .next (s.answered Op.epBind c (s.blk.putCtx (c.f 0 63 39) (Tab.get {} s.blk.dir.ctxs (c.f 0 63 39))
        { (Tab.get {} s.blk.dir.ctxs (c.f 0 63 39)).bindTo (c.f 0 38 24) (c.f 0 23 8) s.blk.clk.epoch with
            isStatic := c.b 0 7 }) {}) :=
  exec_opcode_ok (i := .epBind c) rfl rfl ht.live ht.2 ((applyEpBind_judged hmay hc hpurpose).trans (if_neg (by simp [hvalid])))
    rfl (s.blk.directed_putCtx _ _ _).inside

theorem epBind_unused (hvalid : (Tab.get {} s.blk.dir.ctxs (c.f 0 63 39)).valid = false) :
    exec (.epBind c) s = .next (s.answered Op.epBind c s.blk (Res.badField 0 39)) :=
  exec_opcode_fails (i := .epBind c) rfl rfl ht.live ht.2
    (congrArg Prod.snd ((applyEpBind_judged hmay hc hpurpose).trans (if_pos (by simp [hvalid])))) (by decide) (by decide)

end

theorem epUnbind_takes (ht : s.Takes Op.epUnbind c) (hmay : mayAct c.tenant (s.blk.endpointOwner (epRange c).1) = true)
    (hc : s.blk.Clean) :
    exec (.epUnbind c) s = .next (s.answered Op.epUnbind c ((epList c).foldl Blk.unbindOne s.blk) {}) :=
  exec_opcode_ok (i := .epUnbind c) rfl rfl ht.live ht.2 (applyEpUnbind_takes hmay hc) rfl
    (s.blk.writes_unbindOne.foldl_keep _ (.rfl' _)).inside

end

/-! ### AGING_CONFIG (R250, R265) -/

section
variable (d : Directory) (t n : Nat)

/-- The first epoch that a value of AGE_T given at n governs: its first period from n on. -/
def ageStart : Nat := if t = 0 then n else ceilDiv n t * t

theorem Directory.setAge_same (h : t = d.ageT) : d.setAge t n = d := if_pos h

theorem Directory.ageT_setAge : (d.setAge t n).ageT = t := by
  by_cases h : t = d.ageT
  · rw [d.setAge_same t n h, h]
  · exact congrArg Directory.ageT (if_neg h)

theorem Directory.ages_setAge (h : t ≠ d.ageT) :
    let old := d.ages.filter (fun x => decide (x.1 < ageStart t n))
    (d.setAge t n).ages = (ageStart t n, t)
      :: (old.filter (fun x => decide (n ≤ x.1 + 1)) ++ (old.find? (fun x => decide (x.1 + 1 < n))).toList) :=
  congrArg Directory.ages (if_neg h)

theorem Directory.ageAt_eq (m : Nat) : d.ageAt m = ((d.ages.find? (fun x => decide (x.1 ≤ m))).map Prod.snd).getD 0 := by
  unfold Directory.ageAt
  cases d.ages.find? (fun x => decide (x.1 ≤ m)) <;> rfl

theorem Directory.ageAt_setAge_from (h : t ≠ d.ageT) {m : Nat} (hm : ageStart t n ≤ m) : (d.setAge t n).ageAt m = t := by
  rw [Directory.ageAt_eq, d.ages_setAge t n h, List.find?_cons_of_pos (by simpa using hm)]
  rfl

end

/-- Of values given in order, latest first, that which governs an epoch from n on is kept where only those from n - 1 on and the
last before them are. -/
theorem find_recent (n m : Nat) (hm : n ≤ m) (l : List (Nat × Nat)) (hl : l.Pairwise (fun x y => y.1 < x.1)) :
    (l.filter (fun x => decide (n ≤ x.1 + 1)) ++ (l.find? (fun x => decide (x.1 + 1 < n))).toList).find? (fun x => decide (x.1 ≤ m))
      = l.find? (fun x => decide (x.1 ≤ m)) := by
  induction l with
  | nil => rfl
  | cons x r ih =>
    obtain ⟨hx, hr⟩ := List.pairwise_cons.mp hl
    by_cases hn : n ≤ x.1 + 1
    · rw [List.filter_cons_of_pos (by simpa using hn), List.find?_cons_of_neg (by simpa using hn), List.cons_append]
      by_cases hxm : x.1 ≤ m
      · rw [List.find?_cons_of_pos (by simpa using hxm), List.find?_cons_of_pos (by simpa using hxm)]
      · rw [List.find?_cons_of_neg (by simpa using hxm), List.find?_cons_of_neg (by simpa using hxm), ih hr]
    · have hnone : (x :: r).filter (fun x => decide (n ≤ x.1 + 1)) = [] := by
        refine List.filter_eq_nil_iff.mpr (List.forall_mem_cons.mpr ⟨by simpa using hn, fun y hy => ?_⟩)
        have := hx y hy
        simp only [decide_eq_true_eq]
        omega
      rw [hnone, List.find?_cons_of_pos (by simpa using hn), List.find?_cons_of_pos (by simp; omega)]
      exact List.find?_cons_of_pos (by simp; omega)

/-- Until the first period of a new AGE_T, the values before it govern (R250). -/
theorem Directory.ageAt_setAge_before (d : Directory) (t n : Nat) (h : t ≠ d.ageT) (hd : d.ages.Pairwise (fun x y => y.1 < x.1)) {m : Nat}
    (hn : n ≤ m) (hm : m < ageStart t n) : (d.setAge t n).ageAt m = d.ageAt m := by
  have hold : (d.ages.filter (fun x => decide (x.1 < ageStart t n))).find? (fun x => decide (x.1 ≤ m))
      = d.ages.find? (fun x => decide (x.1 ≤ m)) := by
    rw [List.find?_filter]
    congr 1
    funext x
    simp only [decide_eq_decide, decide_eq_true_eq]
    omega
  rw [Directory.ageAt_eq, Directory.ageAt_eq, d.ages_setAge t n h, List.find?_cons_of_neg (by simpa using hm),
    find_recent n m hn _ (hd.filter _), hold]

theorem agingConfig_takes {c : Cmd} {s : State} (ht : s.Takes Op.agingConfig c) : exec (.agingConfig c) s = .next (s.answered
    Op.agingConfig c { s.blk with dir := s.blk.dir.setAge (c.f 0 63 32) s.blk.clk.epoch } {}) :=
  exec_opcode_ok (i := .agingConfig c) rfl rfl ht.live ht.2 rfl rfl (.of_eq rfl rfl)

/-! ### OUTAGE_CONFIG (R255, R265) -/

theorem Blk.gatherAll_none {b : Blk} (h : b.dir.events = []) : b.gatherAll = b := by
  simp only [Blk.gatherAll, h, List.foldl_nil]
  rw [← h]

theorem Blk.events_openRec (b : Blk) (ev : OutEvent) : (b.openRec ev).dir.events = b.dir.events := by
  unfold Blk.openRec
  split
  · unfold Blk.loseRec Blk.countDir
    simp
  · rfl

theorem Blk.events_gather (b : Blk) (ev : OutEvent) : (b.gather ev).dir.events = b.dir.events := by
  unfold Blk.gather
  split
  · exact b.events_openRec ev
  · split
    · exact b.events_openRec ev
    · split
      · exact Blk.events_openRec _ ev
      · dsimp only
        split <;> rfl

/-- No event waits once all are gathered. -/
theorem Blk.events_gatherAll (b : Blk) : b.gatherAll.dir.events = [] :=
  List.foldlRecOn (motive := fun y : Blk => y.dir.events = []) _ _ rfl (fun y h ev _ => (Blk.events_gather y ev).trans h)

/-- The block in which every open record of a list is closed. -/
def Blk.closeRecs (b : Blk) (l : List OutRec) : Blk := l.foldl Blk.closeRec b

theorem Blk.directed_closeRecs (b : Blk) (l : List OutRec) : b.Directed (b.closeRecs l) :=
  List.foldlRecOn (motive := b.Directed) _ _ (.rfl' b) (fun _ h _ _ => h.trans ⟨_, rfl⟩)

theorem Blk.events_closeRecs (b : Blk) (l : List OutRec) : (b.closeRecs l).dir.events = b.dir.events :=
  List.foldlRecOn (motive := fun y : Blk => y.dir.events = b.dir.events) _ _ rfl (fun _ h _ _ => h)

theorem Blk.closed_closeRecs (b : Blk) (l : List OutRec) : (b.closeRecs l).dir.closed.length = b.dir.closed.length + l.length := by
  induction l generalizing b with
  | nil => rfl
  | cons r l ih =>
    have hone : (b.closeRec r).dir.closed.length = b.dir.closed.length + 1 := by simp [Blk.closeRec]
    rw [show b.closeRecs (r :: l) = (b.closeRec r).closeRecs l from rfl, ih, hone, List.length_cons]
    omega

theorem Blk.mem_open_closeRecs {b : Blk} {l : List OutRec} {x : OutRec} (h : x ∈ (b.closeRecs l).dir.open_) :
    x ∈ b.dir.open_ ∧ x ∉ l := by
  induction l generalizing b with
  | nil => exact ⟨h, by simp⟩
  | cons r l ih =>
    obtain ⟨hopen, hl⟩ := ih (b := b.closeRec r) h
    obtain ⟨hin, hne⟩ := List.mem_filter.mp hopen
    exact ⟨hin, by simpa [hl] using hne⟩

theorem Blk.open_closeRecs (b : Blk) : (b.closeRecs b.dir.open_).dir.open_ = [] :=
  List.eq_nil_iff_forall_not_mem.mpr (fun _ h => (Blk.mem_open_closeRecs h).2 (Blk.mem_open_closeRecs h).1)

/-- The block in which every event is gathered and every record closed, as when outage records end. -/
def Blk.outageEnded (b : Blk) : Blk := b.gatherAll.closeRecs b.gatherAll.dir.open_

theorem Blk.inside_outageEnded (b : Blk) : b.Inside b.outageEnded :=
  have hkept := b.frontKept_gatherAll.trans (Blk.frontKept_foldl _ Blk.frontKept_closeRec b.gatherAll.dir.open_ b.gatherAll)
  .of_eq hkept.clk hkept.sys

/-- OUTAGE_CONFIG's registers, written. -/
def Blk.outageSet (b : Blk) (c : Cmd) : Blk :=
  { b with dir := { b.dir with outEnable := c.b 0 63, agedNotice := c.b 0 62, window := c.f 0 61 46 } }

theorem Blk.inside_outageSet {b b' : Blk} (h : b.Inside b') (c : Cmd) : b.Inside (b'.outageSet c) := h.trans (.of_eq rfl rfl)

section
variable {c : Cmd} {s : State} (ht : s.Takes Op.outageConfig c)
include ht

theorem outageConfig_sets (h : s.blk.dir.outEnable = false ∨ c.b 0 63 = true) :
    exec (.outageConfig c) s = .next (s.answered Op.outageConfig c (s.blk.outageSet c) {}) := by
  have happly : applyOutageConfig c s.blk = (s.blk.outageSet c, {}) := by
    have hnot : ¬(s.blk.dir.outEnable = true ∧ (!c.b 0 63) = true) := by rcases h with h | h <;> simp [h]
    unfold applyOutageConfig
    rw [if_neg hnot]
    rfl
  exact exec_opcode_ok (i := .outageConfig c) rfl rfl ht.live ht.2 happly rfl (Blk.inside_outageSet (.rfl' _) c)

theorem outageConfig_ends (hon : s.blk.dir.outEnable = true) (hoff : c.b 0 63 = false) :
    exec (.outageConfig c) s = .next (s.answered Op.outageConfig c (s.blk.outageEnded.outageSet c) {}) := by
  have happly : applyOutageConfig c s.blk = (s.blk.outageEnded.outageSet c, {}) := by
    unfold applyOutageConfig
    rw [if_pos (by simp [hon, hoff])]
    rfl
  exact exec_opcode_ok (i := .outageConfig c) rfl rfl ht.live ht.2 happly rfl (Blk.inside_outageSet s.blk.inside_outageEnded c)

end

/-! ### FLOW_WRITE (R107, R266, R340) -/

theorem Blk.readFlows_clean {b : Blk} (hc : b.Clean) (l : List Nat) : b.readFlows l = (b, true) := by
  induction l with
  | nil => rfl
  | cons f r ih =>
    rw [Blk.readFlows, Blk.readFlow_clean hc.latent hc.flowFaults]
    dsimp only
    rw [ih]
    rfl

/-- b' differs from b in flow contexts and their faults, and in the held upstream SEQs of trees where FLOW_WRITE begins contexts. -/
structure Blk.FlowsKept (c : Cmd) (b b' : Blk) : Prop where
  only : ∃ d t, b' = { b with dir := d, trees := t }
  trees : c.b 0 28 = false → b'.trees = b.trees

theorem Blk.FlowsKept.rfl' (c : Cmd) (b : Blk) : b.FlowsKept c b := ⟨⟨b.dir, b.trees, rfl⟩, fun _ => rfl⟩

theorem Blk.FlowsKept.trans {c : Cmd} {x y z : Blk} (h : x.FlowsKept c y) (k : y.FlowsKept c z) : x.FlowsKept c z := by
  refine ⟨?_, fun hinit => (k.trees hinit).trans (h.trees hinit)⟩
  obtain ⟨_, _, rfl⟩ := h.only
  obtain ⟨d, t, rfl⟩ := k.only
  exact ⟨d, t, rfl⟩

theorem Blk.FlowsKept.eq {c : Cmd} {b b' : Blk} (h : b.FlowsKept c b') : b' = { b with dir := b'.dir, trees := b'.trees } := by
  obtain ⟨_, _, rfl⟩ := h.only; rfl

theorem Blk.FlowsKept.inside {c : Cmd} {b b' : Blk} (h : b.FlowsKept c b') : b.Inside b' := by
  obtain ⟨_, _, rfl⟩ := h.only; exact .of_eq rfl rfl

theorem Blk.FlowsKept.cipherNow_eq {c : Cmd} {b b' : Blk} (h : b.FlowsKept c b') (f : Nat) : b'.cipherNow f = b.cipherNow f := by
  obtain ⟨_, _, rfl⟩ := h.only; rfl

/-- HOST_DATA at a place of FLOW_WRITE's input. -/
def flowHost (c : Cmd) (i : Nat) : Nat := leWord c.ext (8 * i + 6) + leWord c.ext (8 * i + 7) * 2 ^ 64

/-- A flow context after FLOW_WRITE. -/
def Blk.flowWritten (b : Blk) (c : Cmd) (i : Nat) (x : Flow) : Flow :=
  let base : Flow := if !c.b 0 28 then x
    else if (b.cipherNow (c.f 0 63 42 + i)).mode = 0 then {}
    else { dnCounter := x.dnCounter, dnKeyGen := x.dnKeyGen, dnSlot := x.dnSlot }
  { base with host := flowHost c i }

theorem Blk.flowsKept_flowWriteOne (b : Blk) (c : Cmd) (i : Nat) : b.FlowsKept c (b.flowWriteOne c i) := by
  unfold Blk.flowWriteOne
  cases hinit : c.b 0 28 with
  | false => exact ⟨⟨_, _, rfl⟩, fun _ => rfl⟩
  | true => exact ⟨⟨_, _, rfl⟩, fun h => absurd (hinit.symm.trans h) (by decide)⟩

theorem Blk.flows_flowWriteOne (b : Blk) (c : Cmd) (i : Nat) :
    (b.flowWriteOne c i).dir.flows = Tab.upd {} b.dir.flows (c.f 0 63 42 + i) (b.flowWritten c i) := by
  unfold Blk.flowWriteOne Blk.flowWritten
  cases c.b 0 28 <;> rfl

theorem Blk.writes_flowWriteOne (b : Blk) (c : Cmd) : Tab.Writes {} (b.FlowsKept c) (fun y => y.dir.flows)
    (fun i => c.f 0 63 42 + i) (b.flowWritten c) (fun y i => y.flowWriteOne c i) where
  keep i h := h.trans (Blk.flowsKept_flowWriteOne _ c i)
  write {y} i h := by
    have hval : y.flowWritten c i = b.flowWritten c i := by
      unfold Blk.flowWritten
      rw [h.cipherNow_eq]
    rw [Blk.flows_flowWriteOne, hval]

/-- FLOW_WRITE's contexts, written one by one. -/
def Blk.flowWriteAll (b : Blk) (c : Cmd) : Blk := (List.range (c.f 0 41 29)).foldl (fun y i => y.flowWriteOne c i) b

theorem Blk.flowsKept_flowWriteAll (b : Blk) (c : Cmd) : b.FlowsKept c (b.flowWriteAll c) :=
  (b.writes_flowWriteOne c).foldl_keep _ (.rfl' c b)

theorem flowList_nodup (c : Cmd) : (flowList c).Nodup := List.nodup_range.map (fun _ _ => Nat.add_left_cancel)

theorem Blk.get_flowWriteAll {b : Blk} (hwf : Tab.wf {} b.dir.flows = true) {c : Cmd} {i : Nat} (hi : i < c.f 0 41 29) :
    Tab.get {} (b.flowWriteAll c).dir.flows (c.f 0 63 42 + i)
      = b.flowWritten c i (Tab.get {} b.dir.flows (c.f 0 63 42 + i)) :=
  (b.writes_flowWriteOne c).get_same (flowList_nodup c) (.rfl' c b) hwf (List.mem_range.mpr hi)

theorem flowWrite_takes {c : Cmd} {s : State} (ht : s.Takes Op.flowWrite c) (hmay : s.blk.flowsOwned c = true)
    (hread : c.b 0 28 = true ∨ s.blk.Clean) :
    exec (.flowWrite c) s = .next (s.answered Op.flowWrite c (s.blk.flowWriteAll c) {}) := by
  have happly : applyFlowWrite c s.blk = (s.blk.flowWriteAll c, {}) := by
    have hr : (if c.b 0 28 then (s.blk, true) else s.blk.readFlows (flowList c)) = (s.blk, true) := by
      rcases hread with h | hc
      · exact if_pos h
      · rw [Blk.readFlows_clean hc, ite_self]
    unfold applyFlowWrite
    rw [if_neg (by simp [hmay])]
    simp only [hr, if_true]
    rfl
  exact exec_opcode_ok (i := .flowWrite c) rfl rfl ht.live ht.2 happly rfl (s.blk.flowsKept_flowWriteAll c).inside

/-! ### What the commands make of the tables, read back -/

theorem Blk.reads_epWriteAll {b : Blk} (hsynced : b.pair.unsyncedFrom = none) (hwf : Tab.wf {} b.dir.ctxs = true) (c : Cmd) :
    b.Directed (b.epWriteAll c)
    ∧ (∀ e, (∀ i < (epRange c).2, e ≠ (epRange c).1 + i) → Tab.get {} (b.epWriteAll c).dir.ctxs e = Tab.get {} b.dir.ctxs e)
    ∧ ∀ i < (epRange c).2, Tab.get {} (b.epWriteAll c).dir.ctxs ((epRange c).1 + i)
        = epWritten c (Tab.get {} b.dir.ctxs ((epRange c).1 + i)) (epInput c i) :=
  have hw := Blk.writes_epWriteOne hsynced c
  ⟨hw.foldl_keep _ (.rfl' b), fun _ he => hw.get_other _ (.rfl' b) (fun i hi => he i (List.mem_range.mp hi)),
    fun _ hi => hw.get_same (epList_nodup c) (.rfl' b) hwf (List.mem_range.mpr hi)⟩

theorem Blk.reads_unbindAll {b : Blk} (hwf : Tab.wf {} b.dir.ctxs = true) (c : Cmd) :
    let y := (epList c).foldl Blk.unbindOne b
    b.Directed y
    ∧ (∀ i < (epRange c).2, Tab.get {} y.dir.ctxs ((epRange c).1 + i) = (Tab.get {} b.dir.ctxs ((epRange c).1 + i)).unbound)
    ∧ ∀ e, (∀ i < (epRange c).2, e ≠ (epRange c).1 + i) → Tab.get {} y.dir.ctxs e = Tab.get {} b.dir.ctxs e :=
  have hw := b.writes_unbindOne
  ⟨hw.foldl_keep _ (.rfl' b),
    fun _ hi => hw.get_same ((List.map_id _).symm ▸ epList_nodup c) (.rfl' b) hwf (mem_epList hi),
    fun _ he => hw.get_other _ (.rfl' b) (forall_mem_epList.mpr he)⟩

theorem Blk.reads_outageEnded {b : Blk} (h : b.dir.events = []) :
    b.Directed b.outageEnded ∧ b.outageEnded.dir.closed.length = b.dir.closed.length + b.dir.open_.length := by
  rw [Blk.outageEnded, Blk.gatherAll_none h]
  exact ⟨b.directed_closeRecs _, b.closed_closeRecs _⟩

section
variable {b : Blk} {c : Cmd} (i : Nat) (x : Flow)

theorem Blk.flowWritten_kept (h : c.b 0 28 = false) : b.flowWritten c i x = { x with host := flowHost c i } := by
  simp [Blk.flowWritten, h]

theorem Blk.flowWritten_plain (h : c.b 0 28 = true) (hmode : (b.cipherNow (c.f 0 63 42 + i)).mode = 0) :
    b.flowWritten c i x = { host := flowHost c i } := by
  simp [Blk.flowWritten, h, hmode]

theorem Blk.flowWritten_ciphered (h : c.b 0 28 = true) (hmode : (b.cipherNow (c.f 0 63 42 + i)).mode ≠ 0) :
    b.flowWritten c i x = { host := flowHost c i, dnCounter := x.dnCounter, dnKeyGen := x.dnKeyGen, dnSlot := x.dnSlot } := by
  simp [Blk.flowWritten, h, hmode]

end

/-- Settles O56, command by command. -/
theorem geyserAndDirectoryAreConfigured : Obligations.GeyserAndDirectoryAreConfigured := by
  unfold Obligations.GeyserAndDirectoryAreConfigured
  intro c s b tables set clean mayRange ep
  have hclean : clean → s.blk.Clean := fun ⟨hlatent, hfaults, hflows⟩ => ⟨hlatent, hfaults, hflows⟩
  refine ⟨fun ht => ⟨fun hmode hmay => ⟨gqConfig_takes ht hmode hmay, gqConfig_full ht hmode hmay⟩, gqConfig_foreign ht⟩,
    gqConfigTree_takes, gqConfigDevice_takes, fun ht => ?reserve, fun ht => ⟨circuitRelease_takes ht, circuitRelease_unknown ht⟩,
    fun ht hmay hread hsynced hwf => ?write, fun ht hmay hc hwf => ?bind, fun ht hmay hc hwf => ?unbind, fun ht => ?aging,
    fun ht => ?outage, fun ht hmay hread hwf => ?flow⟩
  case reserve =>
    refine ⟨fun o hfree hmode ho => ?_, fun hfree hmode hnone => ?_, circuitReserve_taken ht⟩
    · have hoffset := (s.blk.reserveOffset_eq_some c o).mpr ho
      exact ⟨circuitReserve_places ht hfree hmode hoffset,
        fun hfits => circuitReserve_refuses ht hfree hmode (.inr ⟨o, hoffset, hfits⟩)⟩
    · have hoffset : s.blk.reserveOffset c = none :=
        Option.eq_none_iff_forall_ne_some.mpr (fun o ho => hnone o ((s.blk.reserveOffset_eq_some c o).mp ho))
      exact circuitReserve_refuses ht hfree hmode (.inl hoffset)
  case write =>
    obtain ⟨hdir, hother, hsame⟩ := Blk.reads_epWriteAll hsynced hwf c
    refine ⟨_, epWrite_takes ht hmay (hread.imp_right hclean) hsynced, hdir.eq, hother, fun i hi => ?_⟩
    intro old new x
    have hx : x = epWritten c old new := hsame i hi
    rw [hx]
    refine ⟨epWritten_config old new, fun h24 h25 => ?_, epWritten_cleared old new, epWritten_handler old new, epWritten_host old new⟩
    rw [epWritten_kept old new h24 h25]
    exact epHosted_config new old
  case bind =>
    refine ⟨fun hvalid hpurpose => ?_, fun hvalid hpurpose => epBind_unused ht hmay (hclean hc) hpurpose hvalid⟩
    refine ⟨_, epBind_takes ht hmay (hclean hc) hpurpose hvalid, (s.blk.directed_putCtx _ _ _).eq, ?_, fun k hk => ?_⟩
    · rw [Blk.ctxs_putCtx, Tab.get_set_same _ _ _ _ hwf]
      rfl
    · rw [Blk.ctxs_putCtx, Tab.get_set_other _ _ _ _ _ hk]
  case unbind =>
    obtain ⟨hdir, hsame, hother⟩ := Blk.reads_unbindAll hwf c
    exact ⟨_, epUnbind_takes ht hmay (hclean hc), hdir.eq, hsame, hother⟩
  case aging =>
    exact ⟨agingConfig_takes ht, Directory.ageT_setAge _ _ _, Directory.setAge_same _ _ _,
      fun hne => ⟨fun m => Directory.ageAt_setAge_from _ _ _ hne, fun hd m => Directory.ageAt_setAge_before _ _ _ hne hd⟩⟩
  case outage =>
    refine ⟨outageConfig_sets ht, fun hon hoff => ⟨s.blk.outageEnded, outageConfig_ends ht hon hoff, Blk.open_closeRecs _, ?_,
      fun hnone => ?_⟩⟩
    · exact (Blk.events_closeRecs _ _).trans s.blk.events_gatherAll
    · obtain ⟨hdir, hclosed⟩ := Blk.reads_outageEnded hnone
      exact ⟨hdir.eq, hclosed⟩
  case flow =>
    have hkept := s.blk.flowsKept_flowWriteAll c
    refine ⟨_, flowWrite_takes ht hmay (hread.imp_right hclean), hkept.eq, fun i hi => ?_, hkept.trees, fun f hf => ?_⟩
    · intro x
      have hx : x = s.blk.flowWritten c i (Tab.get {} s.blk.dir.flows (c.f 0 63 42 + i)) := Blk.get_flowWriteAll hwf hi
      have hhost : x.host = flowHost c i := congrArg Flow.host hx
      rw [hhost]
      exact ⟨rfl, fun h => hx.trans (Blk.flowWritten_kept i _ h), fun h hm => hx.trans (Blk.flowWritten_plain i _ h hm),
        fun h hm => hx.trans (Blk.flowWritten_ciphered i _ h hm)⟩
    · exact (s.blk.writes_flowWriteOne c).get_other _ (.rfl' c _) (fun i hi => hf i (List.mem_range.mp hi))

end Sys2Proof.Machine

/-! PROOFS. What the rows of the bank stream keep: the clock, the device registers and the boundary point that the stream has
passed. -/
namespace Sys2Proof.Machine

/-! ### Operations that leave the clock, the device registers and the boundary point alone -/

/-- b' has the clock, the device registers and the boundary point of b. -/
structure Blk.PointKept (b b' : Blk) : Prop where
  clk : b'.clk = b.clk
  sys : b'.sys = b.sys
  point : b'.dir.point = b.dir.point

theorem Blk.PointKept.rfl' (b : Blk) : b.PointKept b := ⟨rfl, rfl, rfl⟩

theorem Blk.PointKept.trans {a b c : Blk} (h : a.PointKept b) (k : b.PointKept c) : a.PointKept c :=
  ⟨k.clk.trans h.clk, k.sys.trans h.sys, k.point.trans h.point⟩

theorem Blk.PointKept.inside {b b' : Blk} (h : b.PointKept b') : b.Inside b' := .of_eq h.clk h.sys

theorem Blk.Noted.pointKept {b b' : Blk} (h : b.Noted b') : b.PointKept b' :=
  ⟨h.clk_eq, h.sys_eq, congrArg Directory.point h.dir_eq⟩

theorem Blk.pointKept_ite {b x y : Blk} {c : Prop} [Decidable c] (hx : b.PointKept x) (hy : b.PointKept y) :
    b.PointKept (if c then x else y) := by
  split
  · exact hx
  · exact hy

/-- The same of the block in an answer. -/
theorem Blk.pointKept_ite_fst {α : Type} {b : Blk} {x y : Blk × α} {c : Prop} [Decidable c] (hx : b.PointKept x.1)
    (hy : b.PointKept y.1) : b.PointKept (if c then x else y).1 := by
  split
  · exact hx
  · exact hy

theorem Blk.pointKept_ite_answer {α : Type} {b x : Blk} {a : α} {y : Blk × α} {c : Prop} [Decidable c] (hx : b.PointKept x)
    (hy : b.PointKept y.1) : b.PointKept (if c then (x, a) else y).1 := Blk.pointKept_ite_fst hx hy

theorem Blk.PointKept.of_answer {α : Type} {b y : Blk} {p : Blk × α} {a : α} (hp : b.PointKept p.1) (h : p = (y, a)) :
    b.PointKept y := by
  subst h
  exact hp

theorem Blk.pointKept_foldl {α : Type} (f : Blk → α → Blk) (h : ∀ b x, Blk.PointKept b (f b x)) (l : List α) (b : Blk) :
    b.PointKept (l.foldl f b) :=
  List.foldlRecOn (motive := b.PointKept) _ _ (.rfl' b) (fun y hy x _ => hy.trans (h y x))

theorem Blk.pointKept_vent (b : Blk) (n : RecIn) : b.PointKept (b.vent n) := (b.noted_vent n).pointKept

theorem Blk.pointKept_count (b : Blk) (family counter inst : Nat) : b.PointKept (b.count family counter inst) :=
  (b.noted_count family counter inst).pointKept

theorem Blk.pointKept_countN (b : Blk) (family counter inst n : Nat) : b.PointKept (b.countN family counter inst n) :=
  (b.noted_countN family counter inst n).pointKept

theorem Blk.pointKept_countDir (b : Blk) (ctr island tenant n : Nat) : b.PointKept (b.countDir ctr island tenant n) :=
  (b.pointKept_countN _ _ _ _).trans (Blk.pointKept_countN _ _ _ _ _)

theorem Blk.pointKept_countEp (b : Blk) (ctr e : Nat) : b.PointKept (b.countEp ctr e) := b.pointKept_countDir _ _ _ _

theorem Blk.pointKept_faultEvent (b : Blk) (kind index : Nat) : b.PointKept (b.faultEvent kind index) :=
  ⟨b.faultEvent_clk _ _, b.faultEvent_sys _ _, congrArg Directory.point (b.faultEvent_dir _ _)⟩

/-! ### Reads of contexts and of block configurations (R239, R257, R352) -/

theorem Blk.pointKept_corrected (b : Blk) (pch island tenant : Nat) : b.PointKept (b.corrected pch island tenant) := by
  have hcounted := b.pointKept_countDir 24 island tenant 1
  unfold Blk.corrected
  refine Blk.pointKept_ite (hcounted.trans (.trans ?_ (Blk.pointKept_faultEvent _ _ _))) (hcounted.trans ?_)
  · exact ⟨rfl, rfl, rfl⟩
  · exact ⟨rfl, rfl, rfl⟩

theorem Blk.pointKept_findFault (b : Blk) (flow : Bool) (id g pch : Nat) : b.PointKept (b.findFault flow id g pch) := by
  unfold Blk.findFault
  refine Blk.pointKept_ite (.rfl' b) (.trans (.trans ?_ (Blk.pointKept_vent _ _)) (Blk.pointKept_faultEvent _ _ _))
  cases flow
  · exact ⟨rfl, rfl, rfl⟩
  · exact ⟨rfl, rfl, rfl⟩

theorem Blk.pointKept_meetErrors (b : Blk) (flow : Bool) (id : Nat) : b.PointKept (b.meetErrors flow id) := by
  unfold Blk.meetErrors
  refine .trans ?_ (Blk.pointKept_foldl _ (fun y x => ?_) _ _)
  · exact ⟨rfl, rfl, rfl⟩
  · exact Blk.pointKept_ite (y.pointKept_findFault _ _ _ _)
      (Blk.pointKept_ite (y.pointKept_corrected _ _ _) (y.pointKept_corrected _ _ _))

theorem Blk.pointKept_readCtx (b : Blk) (e : Nat) : b.PointKept (b.readCtx e).1 := by
  have hmet := b.pointKept_meetErrors false e
  simp only [Blk.readCtx]
  split
  · exact hmet
  · exact hmet.trans (Blk.pointKept_countEp _ _ _)

theorem Blk.pointKept_blockCfg (b : Blk) (e : Nat) : b.PointKept (b.blockCfg e).1 := by
  have hcounted := b.pointKept_count 0x84 4 (dirIsland e)
  simp only [Blk.blockCfg]
  split
  · exact .rfl' b
  · refine Blk.pointKept_ite hcounted (hcounted.trans (.trans ?_ (Blk.pointKept_vent _ _)))
    exact ⟨rfl, rfl, rfl⟩

/-! ### The cipher engine and the exception queue (R284, R330, R331, R333) -/

/-- A mismatch that the next operation meets no more, counted as an event of its unit. -/
theorem Blk.pointKept_mismatch (b : Blk) (l : List (Nat × Nat × Bool × Bool)) (inst kind unit : Nat) :
    b.PointKept ((({ b with cip := { b.cip with upsets := l } }).count 0x8A 1 inst).faultEvent kind unit) := by
  refine .trans (.trans ?_ (Blk.pointKept_count _ _ _ _)) (Blk.pointKept_faultEvent _ _ _)
  exact ⟨rfl, rfl, rfl⟩

theorem Blk.pointKept_cipherOp (b : Blk) (i item : Nat) (unwrap : Bool) (bytes : Nat) :
    b.PointKept (b.cipherOp i item unwrap bytes).1 := by
  have hfound := b.pointKept_mismatch
  unfold Blk.cipherOp
  dsimp only
  split
  · exact Blk.pointKept_ite (.rfl' b) (b.pointKept_countN _ _ _ _)
  · split
    · dsimp only
      refine .trans (.trans ?_ (Blk.pointKept_faultEvent _ _ _)) (Blk.pointKept_count _ _ _ _)
      exact hfound _ _ _ _
    · refine Blk.pointKept_ite (hfound _ _ _ _) (.trans ?_ (Blk.pointKept_countN _ _ _ _ _))
      exact hfound _ _ _ _

theorem Blk.pointKept_unwrapFail (b : Blk) (e : Nat) : b.PointKept (b.unwrapFail e) :=
  ((b.pointKept_count _ _ _).trans (Blk.pointKept_count _ _ _ _)).trans (Blk.noted_ventOnce _ _ _).pointKept

theorem Blk.pointKept_endpointKey (b : Blk) (e : Nat) (c : Ctx) : b.PointKept (b.endpointKey e c).1 := by
  have hop := b.pointKept_cipherOp (cipherOfEp e) e true 0
  simp only [Blk.endpointKey]
  split
  · exact hop
  · split
    · exact hop
    · exact hop.trans (Blk.pointKept_unwrapFail _ _)

theorem Blk.pointKept_admitFlag (b : Blk) (q : Nat) (f : Frame) : b.PointKept (b.admitFlag q f).1 := by
  unfold Blk.admitFlag
  split_ifs
  · exact b.pointKept_count _ _ _
  · exact b.pointKept_count _ _ _
  · exact b.pointKept_count _ _ _
  · exact ⟨rfl, rfl, rfl⟩

theorem Blk.pointKept_countCls (b : Blk) (side tenant ctr tctr : Nat) : b.PointKept (b.countCls side tenant ctr tctr) :=
  (b.pointKept_count _ _ _).trans (Blk.pointKept_count _ _ _ _)

theorem Blk.pointKept_except (b : Blk) (f : Frame) (x : ExcInfo) (data : List Byte) : b.PointKept (b.except f x data) := by
  unfold Blk.except
  refine Blk.pointKept_ite (b.pointKept_countCls _ _ _ _) ?_
  have hqueued := b.pointKept_admitFlag (hostQueue x.tenant 0)
    { data := excBytes x (stampAt f.stamp b.clk.epoch) ((b.clsAt f.stamp).excOf x.tenant).snap data, fcsLen := 0,
      input := f.input, tenant := x.tenant, stamp := f.stamp, bad := f.bad }
  refine Blk.pointKept_ite (.trans ?_ (Blk.pointKept_countCls _ _ _ _ _)) hqueued
  exact ⟨hqueued.clk, hqueued.sys, hqueued.point⟩

/-! ### An upstream message (R242, R243, R253) -/

/-- The checks after an unwrap: the counter, the check value and the alive counter. -/
def Blk.finishChecks (b : Blk) (e : Nat) (c : Ctx) (m : UpMsg) (hdr : Nat) (plain : List Byte) :
    Blk × Option (Except Nat (List Byte × BlockCfg)) :=
  if c.prot ≠ 0 ∧ bits hdr 63 0 ≤ c.rxCounter then (b, some (.error 8))
  else if plain.drop (bits hdr 78 71) ≠ checkBytes c.poly (m.sdu.take 16 ++ plain.take (bits hdr 78 71)) then (b, some (.error 9))
  else
    let r := if c.aliveEn || c.poly != 0 then b.blockCfg e else (b, {})
    if c.aliveEn ∧ !aliveOk c r.2.aliveW (bits hdr 123 120) (bits hdr 94 79) then (r.1, some (.error 10))
    else (r.1, some (.ok (plain, r.2)))

theorem Blk.pointKept_finishChecks (b : Blk) (e : Nat) (c : Ctx) (m : UpMsg) (hdr : Nat) (plain : List Byte) :
    b.PointKept (b.finishChecks e c m hdr plain).1 := by
  have hcfg := Blk.pointKept_ite_fst (c := (c.aliveEn || c.poly != 0) = true) (y := (b, {})) (b.pointKept_blockCfg e) (.rfl' b)
  exact Blk.pointKept_ite_fst (.rfl' b) (Blk.pointKept_ite_fst (.rfl' b) (Blk.pointKept_ite_fst hcfg hcfg))

theorem Blk.openChecked_plain (b : Blk) (e : Nat) (c : Ctx) (m : UpMsg) (hdr : Nat) (h : c.prot = 0) :
    b.openChecked e c m hdr = b.finishChecks e c m hdr (m.sdu.drop 16) := if_pos h

theorem Blk.pointKept_openChecked (b : Blk) (e : Nat) (c : Ctx) (m : UpMsg) (hdr : Nat) :
    b.PointKept (b.openChecked e c m hdr).1 := by
  by_cases hprot : c.prot = 0
  · rw [b.openChecked_plain e c m hdr hprot]
    exact b.pointKept_finishChecks _ _ _ _ _
  · have hkey := b.pointKept_endpointKey e c
    simp only [Blk.openChecked, if_neg hprot]
    split
    · next h => exact hkey.of_answer h
    · next h => exact hkey.of_answer h
    · next y k h =>
      have hop := (hkey.of_answer h).trans (y.pointKept_cipherOp (cipherOfEp e) e false m.sdu.length)
      refine Blk.pointKept_ite_fst hop ?_
      split
      · exact hop
      · exact hop.trans (Blk.pointKept_finishChecks _ e c m hdr _)

/-- A record written only where a condition holds. -/
theorem Blk.pointKept_ventIf (b : Blk) (n : RecIn) (c : Prop) [Decidable c] : b.PointKept (if c then b.vent n else b) :=
  Blk.pointKept_ite (b.pointKept_vent n) (.rfl' b)

theorem Blk.pointKept_limitRecords (b : Blk) (key c : Nat) (warned spent : Bool) :
    b.PointKept (b.limitRecords key c warned spent) :=
  (b.pointKept_ventIf _ _).trans (Blk.pointKept_ventIf _ _ _)

theorem Blk.pointKept_outage (b : Blk) (ev : OutEvent) : b.PointKept (b.outage ev) :=
  Blk.pointKept_ite ⟨rfl, rfl, rfl⟩ (.rfl' b)

theorem Blk.pointKept_outageRules (b : Blk) (e : Nat) (c : Ctx) (kind n : Nat) : b.PointKept (b.outageRules e c kind n).1 := by
  have htold : ∀ ctr ev, b.PointKept (if c.outageEn then (b.countEp ctr e).outage ev else b.countEp ctr e) := fun ctr ev =>
    Blk.pointKept_ite ((b.pointKept_countEp ctr e).trans (Blk.pointKept_outage _ ev)) (b.pointKept_countEp ctr e)
  exact Blk.pointKept_ite_fst (Blk.pointKept_ite_fst (b.pointKept_countEp 20 e) (htold 19 _))
    (Blk.pointKept_ite_fst (htold 21 _) (.rfl' b))

theorem Blk.pointKept_putCtx (b : Blk) (e : Nat) (old new : Ctx) : b.PointKept (b.putCtx e old new) := by
  unfold Blk.putCtx Blk.rebound
  cases old.bound <;> cases new.bound <;> exact ⟨rfl, rfl, rfl⟩

theorem Blk.pointKept_countEpIf (b : Blk) (e : Nat) (ctr : Option Nat) : b.PointKept (match ctr with
    | some n => b.countEp n e
    | none => b) := by
  cases ctr with
  | none => exact .rfl' b
  | some n => exact b.pointKept_countEp n e

theorem Blk.pointKept_acceptMsg (b : Blk) (e : Nat) (c : Ctx) (m : UpMsg) (hdr : Nat) (plain : List Byte) (cfg : BlockCfg) :
    b.PointKept (b.acceptMsg e c m hdr plain cfg) := by
  unfold Blk.acceptMsg
  extract_lets counter counted c1 limited c2 c3 sg sighted record conflict o put
  have hlimited : b.PointKept limited :=
    (b.pointKept_countEp 0 e).trans (Blk.pointKept_ite (.rfl' _) (Blk.pointKept_limitRecords _ _ _ _ _))
  have hsighted : limited.PointKept sighted := Blk.pointKept_countEpIf _ e _
  have hconflict : sighted.PointKept conflict := Blk.pointKept_ventIf _ _ _
  have hput : conflict.PointKept put := (Blk.pointKept_outageRules _ e _ _ _).trans (Blk.pointKept_putCtx _ e c _)
  have hall := ((hlimited.trans hsighted).trans hconflict).trans hput
  exact ⟨hall.clk, hall.sys, hall.point⟩

theorem Blk.pointKept_upMessage (b : Blk) (m : UpMsg) (agree : Bool) : b.PointKept (b.upMessage m agree).1 := by
  have hread := b.pointKept_readCtx (bits (beNat (m.sdu.take 16)) 119 95)
  have hrefused : ∀ (y : Blk) ctr e f x l, y.PointKept ((y.countEp ctr e).except f x l) := fun y ctr e f x l =>
    (y.pointKept_countEp ctr e).trans (Blk.pointKept_except _ f x l)
  unfold Blk.upMessage
  refine Blk.pointKept_ite_answer (b.pointKept_countDir _ _ _ _) ?_
  refine Blk.pointKept_ite_answer (b.pointKept_countEp _ _) ?_
  refine Blk.pointKept_ite_answer (.trans ?_ (Blk.pointKept_except _ _ _ _)) ?_
  · exact ⟨rfl, rfl, rfl⟩
  split
  · next h => exact hread.of_answer h
  next y c h =>
  replace hread := hread.of_answer h
  refine Blk.pointKept_ite_answer (hread.trans (y.pointKept_countEp _ _)) ?_
  refine Blk.pointKept_ite_answer (hread.trans (y.pointKept_countEp _ _)) ?_
  refine Blk.pointKept_ite_answer (hread.trans (hrefused y _ _ _ _ _)) ?_
  refine Blk.pointKept_ite_answer (hread.trans (hrefused y _ _ _ _ _)) ?_
  have hopen := hread.trans (y.pointKept_openChecked (bits (beNat (m.sdu.take 16)) 119 95) c m (beNat (m.sdu.take 16)))
  split
  · next h => exact hopen.of_answer h
  · next h => exact (hopen.of_answer h).trans (Blk.pointKept_countEp _ _ _)
  · next h =>
    replace hopen := hopen.of_answer h
    refine Blk.pointKept_ite_answer (hopen.trans (Blk.pointKept_acceptMsg _ _ _ _ _ _ _)) ?_
    dsimp only
    refine .trans (.trans (hopen.trans ?_) (Blk.pointKept_countEp _ _ _)) (Blk.pointKept_countEp _ _ _)
    exact ⟨rfl, rfl, rfl⟩

end Sys2Proof.Machine

/-! PROOFS. The bank stream: phases that pass, batches that are taken, and messages that come too late. -/
namespace Sys2Proof.Machine

/-! ### Phases that pass (R246) -/

/-- The block once its bank stream has come to a slot. -/
def Blk.streamAt (b : Blk) (slot : Nat) : Blk := { b with dir := { b.dir with next := slot } }

/-- The slots from the stream's place on that hold a message, at the banks or in the endpoint queue. -/
def Blk.waitingSlots (b : Blk) : List Nat :=
  (b.dir.inbox.map (fun m => orderSlot m.order) ++ (b.queue endpointQueue).map (fun f => orderSlot f.order)).filter
    (fun k => decide (b.dir.next ≤ k))

theorem Blk.passIdle_alone {b : Blk} (ha : b.agrees = false) (hf : b.feeding = false) (stop : Nat) :
    b.passIdle stop = b.streamAt (max b.dir.next (b.waitingSlots.foldl min (min stop b.dir.bound))) :=
  if_neg (by simp [ha, hf])

/-- Where no message waits before a slot, the stream comes to it. -/
theorem Blk.passIdle_free {b : Blk} {slot : Nat} (ha : b.agrees = false) (hf : b.feeding = false) (hnext : b.dir.next ≤ slot)
    (hbound : slot < b.dir.bound) (hfree : ∀ k ∈ b.waitingSlots, slot ≤ k) : b.passIdle slot = b.streamAt slot := by
  have hstop : b.waitingSlots.foldl min slot = slot :=
    List.foldlRecOn (motive := (· = slot)) _ _ rfl (fun y hy k hk => by rw [hy, min_eq_left (hfree k hk)])
  rw [Blk.passIdle_alone ha hf, min_eq_left hbound.le, hstop, max_eq_right hnext]

/-- The stream does not go back. -/
theorem Blk.passIdle_past {b : Blk} {slot : Nat} (h : slot < b.dir.next) : b.passIdle slot = b := by
  by_cases halone : (b.agrees || b.feeding) = true
  · exact if_pos halone
  · obtain ⟨ha, hf⟩ := Bool.or_eq_false_iff.mp (Bool.not_eq_true _ ▸ halone)
    have hle : b.waitingSlots.foldl min (min slot b.dir.bound) ≤ slot :=
      List.foldl_min.trans_le ((min_le_left _ _).trans (min_le_left _ _))
    rw [Blk.passIdle_alone ha hf, max_eq_left (hle.trans h.le)]
    rfl

/-- A stream that has passed the boundary point of the epoch in force has none to make. -/
theorem Blk.streamOn_level {b : Blk} (h : b.clk.epoch ≤ b.dir.point) : b.streamOn = b := by
  rw [Blk.streamOn, Nat.sub_eq_zero_of_le h]
  rfl

theorem Blk.PointKept.streamOn_eq {b b' : Blk} (h : b.PointKept b') (hp : b.clk.epoch ≤ b.dir.point) : b'.streamOn = b' :=
  Blk.streamOn_level (by rwa [h.clk, h.point])

/-! ### The batch of a phase (R245) -/

/-- The block whose batch of a slot is out of the inbox: the stream stands behind the slot, and old parts are forgotten. -/
def Blk.phaseTaken (b : Blk) (slot : Nat) : Blk :=
  { b with dir := { b.dir with
    inbox := b.dir.inbox.filter (fun m => orderSlot m.order != slot), next := slot + 1,
    late := b.dir.late.filter (fun x => decide (slot < x.2 + 64)),
    markers := b.dir.markers.filter (fun x => decide (slot < x.2 + 64)) } }

theorem Blk.pointKept_phaseTaken (b : Blk) (slot : Nat) : b.PointKept (b.phaseTaken slot) := ⟨rfl, rfl, rfl⟩

theorem Blk.pointKept_takeAgreed (b : Blk) (slot : Nat) : b.PointKept (b.takeAgreed slot) := ⟨rfl, rfl, rfl⟩

theorem Blk.runHeld_none {b : Blk} (h : b.dir.held = []) : b.runHeld = b := by
  simp only [Blk.runHeld, h, List.foldl_nil]
  rw [← h]

theorem Blk.judgeOrHold_judges {b : Blk} {m : UpMsg} (hstale : stale m.stamp b.clk.epoch = false) (hlane : b.laneless m = false)
    (hrole : b.pair.role ≠ .joining) (agree : Bool) : b.judgeOrHold m agree = (b.upMessage m agree).1 := by
  simp [Blk.judgeOrHold, Blk.judge, hstale, hlane, hrole]

section
variable {b : Blk} {slot : Nat}

section
variable (hj : b.joined = false) (hrole : b.pair.role ≠ .joining) (hheld : b.dir.held = [])
include hj hrole hheld

/-- Without a partner, the messages of a batch are judged in their order, each one agreed on. -/
theorem Blk.applyBatch_alone : b.applyBatch slot [] = (((b.batchOf slot).zip (List.range (b.batchOf slot).length)).foldl
    (fun y x => y.judgeOrHold x.1 true) (b.phaseTaken slot)).takeAgreed slot := by
  have hpartner : (b.joined || b.pair.role == .joining) = false := by simp [hj, hrole]
  have hrun : (b.phaseTaken slot).runHeld = b.phaseTaken slot := Blk.runHeld_none hheld
  rw [Blk.applyBatch, show b.plant [] = b from rfl, hpartner]
  change (List.foldl _ (b.phaseTaken slot).runHeld _).takeAgreed slot = _
  rw [hrun]
  rfl

theorem Blk.applyBatch_empty (h : b.batchOf slot = []) : b.applyBatch slot [] = (b.phaseTaken slot).takeAgreed slot := by
  rw [Blk.applyBatch_alone hj hrole hheld, h]
  rfl

theorem Blk.applyBatch_single {m : UpMsg} (h : b.batchOf slot = [m]) (hstale : stale m.stamp b.clk.epoch = false)
    (hlane : b.laneless m = false) :
    b.applyBatch slot [] = ((b.phaseTaken slot).upMessage m true).1.takeAgreed slot := by
  rw [Blk.applyBatch_alone hj hrole hheld, h]
  exact congrArg (Blk.takeAgreed · slot) (Blk.judgeOrHold_judges (b := b.phaseTaken slot) hstale hlane hrole true)

end

theorem Blk.batchReady_waits (h : b.unmarked slot ≠ []) : b.batchReady slot = false := by simp [Blk.batchReady, h]

theorem Blk.batchReady_marked (h : b.unmarked slot = []) (hq : ∀ f ∈ b.queue endpointQueue, orderSlot f.order ≠ slot) :
    b.batchReady slot = true := by
  simp only [Blk.batchReady, h, Bool.and_eq_true, Bool.not_eq_true', List.any_eq_false]
  exact ⟨rfl, fun f hf => by simp [hq f hf]⟩

theorem Blk.takeBatch_waits (h : b.batchReady slot = false) (u : List Upset) : b.takeBatch slot u = b :=
  if_pos (by simp [h])

theorem Blk.takeBatch_alone (ha : b.agrees = false) (hf : b.feeding = false) (h : b.batchReady slot = true) (u : List Upset) :
    b.takeBatch slot u = b.applyBatch slot u := by
  simp [Blk.takeBatch, ha, hf, h]

theorem Blk.mem_unmarked {t : Nat} :
    t ∈ b.unmarked slot ↔ t ∈ b.markerTrees ∧ (t, slot) ∉ b.dir.markers ∧ (t, slot) ∉ b.dir.late := by
  simp [Blk.unmarked, Blk.marked]

/-- Once the parts of the missing trees are left out, no tree is waited for. -/
theorem Blk.unmarked_leaveOut (b : Blk) (slot : Nat) : (b.leaveOut slot).unmarked slot = [] := by
  refine List.eq_nil_iff_forall_not_mem.mpr (fun t ht => ?_)
  obtain ⟨htree, hmark, hlate⟩ := Blk.mem_unmarked.mp ht
  have hmissing : t ∈ b.unmarked slot := Blk.mem_unmarked.mpr ⟨htree, hmark, fun h => hlate (List.mem_append_right _ h)⟩
  exact hlate (List.mem_append_left _ (List.mem_map_of_mem hmissing))

/-- With no message at the banks, leaving parts out only notes that they are late. -/
theorem Blk.leaveOut_empty (h : b.dir.inbox = []) : b.leaveOut slot
    = { b with dir := { b.dir with late := (b.unmarked slot).map (fun t => (t, slot)) ++ b.dir.late } } := by
  simp only [Blk.leaveOut, h, List.filter_nil]

theorem Blk.inbox_leaveOut (h : b.dir.inbox = []) : (b.leaveOut slot).dir.inbox = [] := by simp [Blk.leaveOut, h]

theorem Blk.batchOf_empty (h : b.dir.inbox = []) : b.batchOf slot = [] := by simp [Blk.batchOf, h, sortBy]

end

/-! ### BANK_BATCH and BANK_MARKER_DEADLINE (R245, R246) -/

/-- The stream can come to a slot of a chip without a partner: no boundary point lies before it, and no message waits before it,
nor for it in the endpoint queue. -/
structure Blk.SlotDue (b : Blk) (slot : Nat) : Prop where
  next : b.dir.next ≤ slot
  bound : slot < b.dir.bound
  point : b.dir.point = b.clk.epoch
  inbox : ∀ m ∈ b.dir.inbox, orderSlot m.order < b.dir.next ∨ slot ≤ orderSlot m.order
  queue : ∀ f ∈ b.queue endpointQueue, orderSlot f.order < b.dir.next ∨ slot < orderSlot f.order
  joined : b.joined = false
  role : b.pair.role ≠ .joining
  feeding : b.feeding = false
  held : b.dir.held = []

section
variable {b : Blk} {slot : Nat} (h : b.SlotDue slot)
include h

theorem Blk.SlotDue.agrees : b.agrees = false := by simp [Blk.agrees, h.joined, h.role]

theorem Blk.SlotDue.passIdle_eq : b.passIdle slot = b.streamAt slot := by
  refine Blk.passIdle_free h.agrees h.feeding h.next h.bound (fun k hk => ?_)
  obtain ⟨hk, hnext⟩ := List.mem_filter.mp hk
  have hnext : b.dir.next ≤ k := of_decide_eq_true hnext
  rcases List.mem_append.mp hk with hk | hk
  · obtain ⟨m, hm, rfl⟩ := List.mem_map.mp hk
    exact (h.inbox m hm).resolve_left (Nat.not_lt.mpr hnext)
  · obtain ⟨f, hf, rfl⟩ := List.mem_map.mp hk
    exact ((h.queue f hf).resolve_left (Nat.not_lt.mpr hnext)).le

theorem Blk.SlotDue.queue_ne {f : Frame} (hf : f ∈ b.queue endpointQueue) : orderSlot f.order ≠ slot := by
  have hnext := h.next
  have hf := h.queue f hf
  omega

/-- Come to the slot, the stream takes its batch once no tree is waited for. -/
theorem Blk.SlotDue.takeBatch_ready (hmarked : b.unmarked slot = []) (u : List Upset) :
    (b.streamAt slot).takeBatch slot u = (b.streamAt slot).applyBatch slot u :=
  Blk.takeBatch_alone (b := b.streamAt slot) h.agrees h.feeding (Blk.batchReady_marked hmarked (fun _ => h.queue_ne)) u

/-- At the deadline the stream takes the batch without the parts that are missing. -/
theorem Blk.SlotDue.takeBatch_leaveOut (u : List Upset) :
    ((b.streamAt slot).leaveOut slot).takeBatch slot u = ((b.streamAt slot).leaveOut slot).applyBatch slot u :=
  Blk.takeBatch_alone (b := (b.streamAt slot).leaveOut slot) h.agrees h.feeding
    (Blk.batchReady_marked (Blk.unmarked_leaveOut _ _) (fun _ => h.queue_ne)) u

end

section
variable {uf phase : Nat} {s : State} (hp : s.blk.sys.phase = .service) (hphase : phase < 8)
  (h : s.blk.SlotDue (slotOf uf phase))
include hp hphase h

/-- BANK_BATCH at a slot that the stream can come to: what its batch is taken as. -/
theorem bankBatch_takes {y : Blk} (hy : (s.blk.streamAt (slotOf uf phase)).takeBatch (slotOf uf phase) [] = y)
    (hkept : s.blk.PointKept y) : exec (.bankBatch uf phase []) s = .next (s.put y) := by
  rw [show exec (.bankBatch uf phase []) s = execBankBatch uf phase [] s from rfl, execBankBatch]
  refine State.svc_to y hp ?_ hkept.inside
  have hon := hkept.streamOn_eq h.point.ge
  dsimp only
  rw [h.passIdle_eq, hy, hon]
  exact if_neg (not_or.mpr ⟨not_not.mpr rfl, not_or.mpr ⟨Nat.not_le.mpr hphase, Nat.not_le.mpr h.bound⟩⟩)

theorem bankBatch_empty (hmarked : s.blk.unmarked (slotOf uf phase) = []) (hl : s.blk.batchOf (slotOf uf phase) = []) :
    exec (.bankBatch uf phase []) s = .next (s.put ((s.blk.phaseTaken (slotOf uf phase)).takeAgreed (slotOf uf phase))) := by
  refine bankBatch_takes hp hphase h ?_ ((s.blk.pointKept_phaseTaken _).trans (Blk.pointKept_takeAgreed _ _))
  rw [h.takeBatch_ready hmarked]
  exact Blk.applyBatch_empty (b := s.blk.streamAt _) h.joined h.role h.held hl

theorem bankBatch_single {m : UpMsg} (hmarked : s.blk.unmarked (slotOf uf phase) = []) (hl : s.blk.batchOf (slotOf uf phase) = [m])
    (hstale : stale m.stamp s.blk.clk.epoch = false) (hlane : s.blk.laneless m = false) :
    exec (.bankBatch uf phase []) s
      = .next (s.put (((s.blk.phaseTaken (slotOf uf phase)).upMessage m true).1.takeAgreed (slotOf uf phase))) := by
  refine bankBatch_takes hp hphase h ?_
    (((s.blk.pointKept_phaseTaken _).trans (Blk.pointKept_upMessage _ m true)).trans (Blk.pointKept_takeAgreed _ _))
  rw [h.takeBatch_ready hmarked]
  exact Blk.applyBatch_single (b := s.blk.streamAt _) h.joined h.role h.held hl hstale hlane

theorem bankBatch_waits (hmissing : s.blk.unmarked (slotOf uf phase) ≠ []) :
    exec (.bankBatch uf phase []) s = .next (s.put (s.blk.streamAt (slotOf uf phase))) :=
  bankBatch_takes hp hphase h (Blk.takeBatch_waits (b := s.blk.streamAt (slotOf uf phase)) (Blk.batchReady_waits hmissing) [])
    ⟨rfl, rfl, rfl⟩

omit hphase in
theorem bankMarkerDeadline_marked (hmarked : s.blk.unmarked (slotOf uf phase) = []) :
    exec (.bankMarkerDeadline uf phase []) s = .next (s.put (s.blk.streamAt (slotOf uf phase))) := by
  rw [show exec (.bankMarkerDeadline uf phase []) s = execBankMarkerDeadline uf phase [] s from rfl, execBankMarkerDeadline]
  refine State.svc_to _ hp ?_ (.of_eq rfl rfl)
  dsimp only
  rw [h.passIdle_eq]
  exact if_pos (.inr (.inr hmarked))

/-- At the deadline the batch is taken without the parts of the missing trees. -/
theorem bankMarkerDeadline_missing (hmissing : s.blk.unmarked (slotOf uf phase) ≠ []) (hinbox : s.blk.dir.inbox = []) :
    exec (.bankMarkerDeadline uf phase []) s
      = .next (s.put (((s.blk.leaveOut (slotOf uf phase)).phaseTaken (slotOf uf phase)).takeAgreed (slotOf uf phase))) := by
  rw [show exec (.bankMarkerDeadline uf phase []) s = execBankMarkerDeadline uf phase [] s from rfl, execBankMarkerDeadline]
  have hbatch := Blk.applyBatch_empty (b := (s.blk.streamAt (slotOf uf phase)).leaveOut (slotOf uf phase)) (slot := slotOf uf phase)
    h.joined h.role h.held (Blk.batchOf_empty (Blk.inbox_leaveOut hinbox))
  have hkept : s.blk.PointKept (((s.blk.leaveOut (slotOf uf phase)).phaseTaken (slotOf uf phase)).takeAgreed (slotOf uf phase)) :=
    ⟨rfl, rfl, rfl⟩
  have hon := hkept.streamOn_eq h.point.ge
  refine State.svc_to _ hp ?_ hkept.inside
  dsimp only
  rw [h.passIdle_eq, h.takeBatch_leaveOut, hbatch]
  have hwaits := not_or.mpr ⟨lt_irrefl (slotOf uf phase), not_or.mpr ⟨Nat.not_le.mpr hphase, hmissing⟩⟩
  exact (if_neg hwaits).trans ((if_neg (not_or.mpr ⟨not_not.mpr rfl, Nat.not_le.mpr h.bound⟩)).trans hon)

end

section
variable {uf phase : Nat} {s : State} (h : slotOf uf phase < s.blk.dir.next) (u : List Upset)
include h

theorem bankBatch_past : exec (.bankBatch uf phase u) s = .next s := by
  rw [show exec (.bankBatch uf phase u) s = execBankBatch uf phase u s from rfl, execBankBatch]
  refine State.svc_idle ?_
  dsimp only
  rw [Blk.passIdle_past h, if_pos (.inl h.ne')]

theorem bankMarkerDeadline_past : exec (.bankMarkerDeadline uf phase u) s = .next s := by
  rw [show exec (.bankMarkerDeadline uf phase u) s = execBankMarkerDeadline uf phase u s from rfl, execBankMarkerDeadline]
  refine State.svc_idle ?_
  dsimp only
  rw [Blk.passIdle_past h, if_pos (.inl h)]

end

/-! ### LATE_ENDPOINT_MESSAGE (R246) -/

theorem Blk.partLate_iff (b : Blk) (t slot : Nat) :
    b.partLate t slot = true ↔ (t, slot) ∈ b.dir.late ∨ (slot < b.dir.next ∧ (t, slot) ∉ b.dir.markers) := by
  simp [Blk.partLate, Blk.marked]

theorem Blk.inside_lateMessage (b : Blk) (flow : Nat) (sdu : List Byte) : b.Inside (b.lateMessage flow sdu) := by
  unfold Blk.lateMessage
  split
  · exact b.inside_countDir _ _ _ _
  · exact b.inside_countDir _ _ _ _

theorem lateEndpointMessage_counts {tree uf phase flow : Nat} {sdu : List Byte} {s : State} (hp : s.blk.sys.phase = .service)
    (h : s.blk.partLate tree (slotOf uf phase) = true) :
    exec (.lateEndpointMessage tree uf phase flow sdu) s = .next (s.put (s.blk.lateMessage flow sdu)) := by
  rw [show exec (.lateEndpointMessage tree uf phase flow sdu) s = execLateEndpointMessage tree uf phase flow sdu s from rfl,
    execLateEndpointMessage]
  exact State.svc_to _ hp (if_pos h) (s.blk.inside_lateMessage flow sdu)

theorem lateEndpointMessage_timely {tree uf phase flow : Nat} {sdu : List Byte} {s : State}
    (h : ¬s.blk.partLate tree (slotOf uf phase) = true) : exec (.lateEndpointMessage tree uf phase flow sdu) s = .next s := by
  rw [show exec (.lateEndpointMessage tree uf phase flow sdu) s = execLateEndpointMessage tree uf phase flow sdu s from rfl,
    execLateEndpointMessage]
  exact State.svc_idle (if_neg h)

/-- Settles O45, row by row: a slot that the stream can come to, one that it has passed, and a message that comes late. -/
theorem banksApplyTheirBatches : Obligations.BanksApplyTheirBatches := by
  unfold Obligations.BanksApplyTheirBatches
  refine ⟨fun uf phase s hp => ?due, fun uf phase u s h => ⟨bankBatch_past h u, bankMarkerDeadline_past h u⟩,
    fun tree uf phase flow sdu s hp => ?late⟩
  case due =>
    intro b slot gone recent after hphase hnext hbound hpoint hin hq hj hrole hf hheld
    have hdue : s.blk.SlotDue (slotOf uf phase) := ⟨hnext, hbound, hpoint, hin, hq, hj, hrole, hf, hheld⟩
    refine ⟨fun hmarked => ⟨bankBatch_empty hp hphase hdue hmarked, fun m => bankBatch_single hp hphase hdue hmarked,
      bankMarkerDeadline_marked hp hdue hmarked⟩, fun hmissing => ⟨bankBatch_waits hp hphase hdue hmissing, fun hinbox => ?_⟩⟩
    rw [bankMarkerDeadline_missing hp hphase hdue hmissing hinbox, Blk.leaveOut_empty hinbox]
    rfl
  case late =>
    intro slot late
    have hlate : s.blk.partLate tree (slotOf uf phase) = true ↔ late := s.blk.partLate_iff tree slot
    refine ⟨fun h hlen => ?_, fun h hlen => ?_, fun h => lateEndpointMessage_timely (hlate.not.mpr h)⟩
    · rw [lateEndpointMessage_counts hp (hlate.mpr h), Blk.lateMessage, if_neg (Nat.not_lt.mpr hlen)]
    · rw [lateEndpointMessage_counts hp (hlate.mpr h), Blk.lateMessage, if_pos hlen]

end Sys2Proof.Machine

/-! PROOFS. Downstream endpoint messages, and outage records that close and are delivered. -/
namespace Sys2Proof.Machine

/-! ### Draws of an endpoint's counter (R338, R341) -/

theorem Blk.inside_limitRecords (b : Blk) (key c : Nat) (warned spent : Bool) : b.Inside (b.limitRecords key c warned spent) :=
  (b.pointKept_limitRecords key c warned spent).inside

theorem Blk.inside_writeCtx (b : Blk) (e : Nat) (c : Ctx) : b.Inside (b.writeCtx e c) := .of_eq rfl rfl

theorem Blk.inside_moveEp (b : Blk) (e n : Nat) : b.Inside (b.moveEp e n) :=
  (b.inside_limitRecords _ _ _ _).trans (Blk.inside_writeCtx _ _ _)

theorem Blk.inside_setLeaseEnd (b : Blk) (key e : Nat) : b.Inside (b.setLeaseEnd key e) := by
  unfold Blk.setLeaseEnd
  split
  · exact .of_eq rfl rfl
  · exact .of_eq rfl rfl

theorem Blk.inside_leaseTaken (b : Blk) (key e : Nat) : b.Inside (b.leaseTaken key e) :=
  (((b.inside_setLeaseEnd key e).trans (Blk.inside_updLease _ _ _)).trans (Blk.inside_count _ _ _ _)).trans
    (Blk.inside_count _ _ _ _)

theorem Blk.inside_startLease (b : Blk) (key e : Nat) : b.Inside (b.startLease key e) := by
  unfold Blk.startLease
  dsimp only
  split_ifs
  · exact .rfl' b
  · exact b.inside_leaseTaken _ _
  · exact b.inside_updLease _ _
  · exact ((b.inside_updLease _ _).trans (Blk.inside_emit _ _)).trans (Blk.inside_emit _ _)

theorem Blk.inside_drawEp (b : Blk) (e : Nat) : b.Inside (b.drawEp e).1 := by
  unfold Blk.drawEp
  dsimp only
  split
  · exact b.inside_writeCtx _ _
  · split
    · dsimp only
      refine .trans (.trans ?_ (Blk.inside_updLease _ _ _)) (Blk.inside_startLease _ _ _)
      split
      · exact .rfl' b
      · exact (b.inside_count _ _ _).trans (Blk.inside_count _ _ _ _)
    · dsimp only
      split
      · exact (b.inside_moveEp _ _).trans (Blk.inside_startLease _ _ _)
      · exact b.inside_moveEp _ _

/-! ### A sealed message (R241, R244, R351) -/

theorem Blk.inside_countIn (b : Blk) (port len : Nat) : b.Inside (b.countIn port len) :=
  (b.inside_count _ _ _).trans (Blk.inside_countN _ _ _ _ _)

theorem Blk.inside_sealAndQueue (b : Blk) (e : Nat) (key : List Byte) (m : DnMsg) (kind : Nat) (payload : List Byte) (n : Nat) :
    b.Inside (b.sealAndQueue e key m kind payload n) := by
  unfold Blk.sealAndQueue
  extract_lets c hdr sealed_ ok counted cfg written flow k
  have hok : b.PointKept ok.1 := Blk.pointKept_ite_fst (.rfl' b) (b.pointKept_cipherOp _ _ _ _)
  have hcounted : b.PointKept counted := hok.trans (Blk.pointKept_countEp _ 1 e)
  have hcfg : b.PointKept cfg.1 := Blk.pointKept_ite_fst hcounted (hcounted.trans (Blk.pointKept_blockCfg _ e))
  have hwritten : b.PointKept written := Blk.pointKept_ite (hcfg.trans ⟨rfl, rfl, rfl⟩) hcfg
  split
  · exact hok.inside
  · exact (hwritten.inside.trans (Blk.inside_countIn _ _ _)).trans (Blk.inside_enqueue _ _ _)

/-! ### One downstream message (R244) -/

/-- The message that a classified frame holds. -/
def DnMsg.sdu (m : DnMsg) : List Byte := m.data.drop m.payload

/-- Its header as a number. -/
def DnMsg.header (m : DnMsg) : Nat := beNat (m.sdu.take 16)

/-- The endpoint that it names. -/
def DnMsg.endpoint (m : DnMsg) : Nat := bits m.header 119 95

/-- The length of its payload. -/
def DnMsg.len (m : DnMsg) : Nat := bits m.header 78 71

/-- A message as long as its header says, of a version and a kind that are known. -/
structure DnMsg.WellFormed (m : DnMsg) : Prop where
  length : 16 + m.len ≤ m.sdu.length
  version : bits m.header 127 124 = 1
  kind : bits m.header 123 120 ≤ 3

theorem Blk.dnMessage_short {b : Blk} {m : DnMsg} (h : m.sdu.length < 16) :
    b.dnMessage m = (b.countDir 27 66 m.owner 1, true) := if_pos h

section
variable {b y : Blk} {m : DnMsg} {c : Ctx} {n : Nat} (hm : m.WellFormed) (hread : b.readCtx m.endpoint = (b, some c))
include hm hread

theorem Blk.dnMessage_unbound (h : c.valid = false ∨ c.bound = false) : b.dnMessage m = (b.countEp 11 m.endpoint, true) := by
  obtain ⟨hlen, hversion, hkind⟩ := hm
  have hoff : (!c.valid) = true ∨ (!c.bound) = true := by simpa using h
  simp only [DnMsg.len, DnMsg.endpoint, DnMsg.header, DnMsg.sdu] at *
  have hlong : ¬(m.data.drop m.payload).length < 16 := by omega
  simp only [Blk.dnMessage, hlong, hversion, hkind.not_gt, hlen.not_gt, hread, hoff, ne_eq, not_true, or_self, if_true, if_false]

theorem Blk.dnMessage_plain (hvalid : c.valid = true) (hbound : c.bound = true) (hprot : c.prot = 0) (hkey : c.keySpent = false)
    (hfits : 16 + m.len + checkWidth c.poly ≤ 256) (hdraw : b.drawEp m.endpoint = (y, some n)) :
    b.dnMessage m = (y.sealAndQueue m.endpoint [] m (bits m.header 123 120) ((m.sdu.drop 16).take m.len) n, true) := by
  obtain ⟨hlen, hversion, hkind⟩ := hm
  simp only [DnMsg.len, DnMsg.endpoint, DnMsg.header, DnMsg.sdu] at *
  have hlong : ¬(m.data.drop m.payload).length < 16 := by omega
  simp only [Blk.dnMessage, hlong, hversion, hkind.not_gt, hlen.not_gt, hread, hvalid, hbound, hprot, hkey, hfits.not_gt, hdraw,
    ne_eq, not_true, Bool.not_true, Bool.false_eq_true, or_self, false_and, Nat.add_zero, if_true, if_false]

end

/-! ### DOWNSTREAM_ENDPOINT_MESSAGE (R28, R244) -/

/-- The block with its oldest downstream message taken out. -/
def Blk.dnRest (b : Blk) (r : List DnMsg) : Blk := { b with dir := { b.dir with dnWait := r } }

/-- A message that is too old is discarded, and its waiting episode is over. -/
def Blk.dnDiscard (b : Blk) (m : DnMsg) : Blk :=
  (if m.waiting then b.stopWaiting m.endpoint else b).staleDiscard (66 + stackOf m.endpoint)

theorem Blk.inside_dnDiscard (b : Blk) (m : DnMsg) : b.Inside (b.dnDiscard m) := by
  unfold Blk.dnDiscard
  refine .trans ?_ (Blk.noted_staleDiscard _ _).inside
  split
  · exact b.inside_updLease _ _
  · exact .rfl' b

theorem Blk.dnGo_stale {b : Blk} {m : DnMsg} (h : stale m.frame.stamp b.clk.epoch = true) (r : List DnMsg) :
    b.dnGo (m :: r) [] = (b.dnRest r).dnDiscard m := if_pos h

theorem Blk.dnGo_done {b y : Blk} {m : DnMsg} {r : List DnMsg} (h : stale m.frame.stamp b.clk.epoch = false)
    (hdone : (b.dnRest r).dnMessage m = (y, true)) : b.dnGo (m :: r) [] = y := by
  have hdone' : Blk.dnMessage { b with dir := { b.dir with dnWait := [] ++ r } } m = (y, true) := hdone
  simp only [Blk.dnGo, h, hdone', Bool.false_eq_true, if_false, if_true]

/-- A chip without a partner goes through its waiting messages. -/
theorem downstreamEndpointMessage_goes {s : State} {m : DnMsg} {r : List DnMsg} {y : Blk} (hp : s.blk.sys.phase = .service)
    (hw : s.blk.dir.dnWait = m :: r) (hj : s.blk.joined = false) (hy : s.blk.dnGo (m :: r) [] = y) (hin : s.blk.Inside y) :
    exec (.downstreamEndpointMessage []) s = .next (s.put y) := by
  rw [show exec (.downstreamEndpointMessage []) s = execDownstreamEndpointMessage [] s from rfl, execDownstreamEndpointMessage]
  refine State.svc_to y hp ?_ hin
  simp only [show s.blk.plant [] = s.blk from rfl, hj, hw, Bool.false_and, Bool.false_eq_true, if_false]
  exact hy

theorem downstreamEndpointMessage_none {s : State} (hw : s.blk.dir.dnWait = []) :
    exec (.downstreamEndpointMessage []) s = .next s := by
  rw [show exec (.downstreamEndpointMessage []) s = execDownstreamEndpointMessage [] s from rfl, execDownstreamEndpointMessage]
  refine State.svc_idle ?_
  have hdrop : ({ s.blk with dir := { s.blk.dir with dnWait := s.blk.dir.dnWait.filter (fun m => m.emitted) } } : Blk) = s.blk := by
    simp only [hw, List.filter_nil]
    rw [← hw]
  simp only [show s.blk.plant [] = s.blk from rfl, hdrop, ite_self]
  simp only [hw]
  rfl

/-! ### OUTAGE_RECORD_CLOSE (R254, R255) -/

theorem Blk.closes_due {b : Blk} {r : OutRec} (hpast : r.closeAt ≤ b.dir.point)
    (hev : ∀ ev ∈ b.dir.events, r.takes ev = false ∨ r.closeAt ≤ ev.point) : b.closes r = true := by
  have hnone : b.dir.events.any (fun ev => r.takes ev && decide (ev.point < r.closeAt)) = false := by
    simpa [or_iff_not_imp_left] using hev
  simp [Blk.closes, hpast, hnone]

theorem Blk.closes_early {b : Blk} {r : OutRec} (h : b.dir.point < r.closeAt) : b.closes r = false := by
  simp [Blk.closes, h]

section
variable {terminal tenant kind : Nat} {r : OutRec} {s : State}
  (hfind : s.blk.dir.open_.find? (fun r => r.terminal == terminal && r.tenant == tenant && r.kind == kind) = some r)
include hfind

theorem Blk.names_of_find_open : r.terminal = terminal ∧ r.tenant = tenant ∧ r.kind = kind := by
  simpa [and_assoc] using List.find?_some hfind

theorem outageRecordClose_closes (hp : s.blk.sys.phase = .service) (h : s.blk.closes r = true) :
    exec (.outageRecordClose terminal tenant kind) s = .next (s.put (s.blk.closeRec r)) := by
  rw [show exec (.outageRecordClose terminal tenant kind) s = execOutageRecordClose terminal tenant kind s from rfl,
    execOutageRecordClose]
  refine State.svc_to _ hp ?_ (.of_eq rfl rfl)
  simp only [hfind, h, if_true]

theorem outageRecordClose_waits (h : s.blk.closes r = false) : exec (.outageRecordClose terminal tenant kind) s = .next s := by
  rw [show exec (.outageRecordClose terminal tenant kind) s = execOutageRecordClose terminal tenant kind s from rfl,
    execOutageRecordClose]
  refine State.svc_idle ?_
  simp only [hfind, h, Bool.false_eq_true, if_false]

end

/-! ### OUTAGE_RECORD_DELIVER (R256) -/

/-- The frame that takes a closed record to its tenant's notice queue. -/
def Blk.recordFrame (b : Blk) (r : OutRec) : Frame :=
  { data := r.bytes 0, fcsLen := 0, input := 113, tenant := r.tenant, stamp := b.clk.epoch, source := recIsland r.cluster }

section
variable {b y : Blk} {r : OutRec}

theorem Blk.deliverRec_queued (h : b.admitFlag (hostQueue r.tenant 1) (b.recordFrame r) = (y, true)) : b.deliverRec r = y := by
  unfold Blk.recordFrame at h
  simp only [Blk.deliverRec, h, if_true]

theorem Blk.deliverRec_lost (h : b.admitFlag (hostQueue r.tenant 1) (b.recordFrame r) = (y, false)) :
    b.deliverRec r = y.loseRec r.tenant (recIsland r.cluster) := by
  unfold Blk.recordFrame at h
  simp only [Blk.deliverRec, h, Bool.false_eq_true, if_false]

end

theorem Blk.inside_deliverRec (b : Blk) (r : OutRec) : b.Inside (b.deliverRec r) := by
  have hqueued := b.inside_admitFlag (hostQueue r.tenant 1) (b.recordFrame r)
  unfold Blk.deliverRec
  dsimp only
  split
  · exact hqueued
  · exact hqueued.trans (Blk.inside_loseRec _ _ _)

/-- The block with its oldest closed record taken out. -/
def Blk.closedRest (b : Blk) (rest : List OutRec) : Blk := { b with dir := { b.dir with closed := rest } }

theorem outageRecordDeliver_delivers {s : State} {r : OutRec} {rest : List OutRec} (hp : s.blk.sys.phase = .service)
    (hc : s.blk.dir.closed = r :: rest) :
    exec .outageRecordDeliver s = .next (s.put ((s.blk.closedRest rest).deliverRec r)) := by
  rw [show exec .outageRecordDeliver s = execOutageRecordDeliver s from rfl, execOutageRecordDeliver]
  refine State.svc_to _ hp ?_ (.trans ?_ (Blk.inside_deliverRec _ r))
  · simp only [hc]
    rfl
  · exact .of_eq rfl rfl

theorem outageRecordDeliver_none {s : State} (hc : s.blk.dir.closed = []) : exec .outageRecordDeliver s = .next s := by
  rw [show exec .outageRecordDeliver s = execOutageRecordDeliver s from rfl, execOutageRecordDeliver]
  refine State.svc_idle ?_
  simp only [hc]

/-- Settles O46, row by row: the oldest downstream message, the records that close, and those that are delivered. -/
theorem downstreamMessagesAndOutageRecords : Obligations.DownstreamMessagesAndOutageRecords := by
  unfold Obligations.DownstreamMessagesAndOutageRecords
  refine ⟨fun m r s hp hw hj => ?message, fun s => downstreamEndpointMessage_none, fun terminal tenant kind r s hp hfind => ?close,
    fun r rest y s hp hc => ?deliver, fun s => outageRecordDeliver_none⟩
  case message =>
    intro b x l hdr e len
    have hrest : s.blk.Inside (s.blk.dnRest r) := .of_eq rfl rfl
    refine ⟨fun hstale => ?_, fun hfresh hshort => ?_, fun c hfresh hlen hversion hkind hread => ?_⟩
    · exact downstreamEndpointMessage_goes hp hw hj (Blk.dnGo_stale hstale r) (hrest.trans (Blk.inside_dnDiscard _ m))
    · exact downstreamEndpointMessage_goes hp hw hj (Blk.dnGo_done hfresh (Blk.dnMessage_short hshort))
        (hrest.trans (Blk.inside_countDir _ _ _ _ _))
    · have hm : m.WellFormed := ⟨hlen, hversion, hkind⟩
      refine ⟨fun hoff => ?_, fun y n hvalid hbound hprot hkey hfits hdraw => ?_⟩
      · exact downstreamEndpointMessage_goes hp hw hj (Blk.dnGo_done hfresh (Blk.dnMessage_unbound hm hread hoff))
          (hrest.trans (Blk.inside_countDir _ _ _ _ _))
      · have hdrawn : x.Inside y := by simpa [hdraw] using x.inside_drawEp e
        exact downstreamEndpointMessage_goes hp hw hj
          (Blk.dnGo_done hfresh (Blk.dnMessage_plain hm hread hvalid hbound hprot hkey hfits hdraw))
          (hrest.trans (hdrawn.trans (Blk.inside_sealAndQueue _ _ _ _ _ _ _)))
  case close =>
    obtain ⟨rfl, rfl, rfl⟩ := Blk.names_of_find_open hfind
    exact ⟨fun hpast hev => outageRecordClose_closes hfind hp (Blk.closes_due hpast hev),
      fun hearly => outageRecordClose_waits hfind (Blk.closes_early hearly)⟩
  case deliver =>
    intro x f
    refine ⟨fun hqueued => ?_, fun hlost => ?_⟩
    · rw [outageRecordDeliver_delivers hp hc, Blk.deliverRec_queued (b := s.blk.closedRest rest) hqueued]
    · rw [outageRecordDeliver_delivers hp hc, Blk.deliverRec_lost (b := s.blk.closedRest rest) hlost]
      rfl

end Sys2Proof.Machine

/-! PROOFS. The commands of the classification tables: tables written entry by entry, and the versions that they make. -/
namespace Sys2Proof

/-! ### A run of entries written to a table -/

section
variable {α : Type} [DecidableEq α] (d : α) (key : Nat → Nat) (v : Nat → α)

theorem Tab.writes_set :
    Tab.Writes d (fun _ => True) id key (fun i _ => v i) (fun (t : Tab α) i => Tab.set d t (key i) (v i)) where
  keep _ _ := trivial
  write _ _ := rfl

end

section
variable {α : Type} [DecidableEq α] {d : α} {first n : Nat}

/-- The table with n entries written from a key on. -/
def Tab.setRun (d : α) (t : Tab α) (first n : Nat) (v : Nat → α) : Tab α :=
  (List.range n).foldl (fun t i => Tab.set d t (first + i) (v i)) t

theorem Tab.get_setRun {t : Tab α} (hwf : Tab.wf d t = true) (v : Nat → α) {i : Nat} (hi : i < n) :
    Tab.get d (Tab.setRun d t first n v) (first + i) = v i :=
  (Tab.writes_set d (fun i => first + i) v).get_same (List.nodup_range.map (fun _ _ => Nat.add_left_cancel)) trivial hwf
    (List.mem_range.mpr hi)

theorem Tab.get_setRun_other (t : Tab α) (v : Nat → α) {k : Nat} (hk : k < first ∨ first + n ≤ k) :
    Tab.get d (Tab.setRun d t first n v) k = Tab.get d t k := by
  refine (Tab.writes_set d (fun i => first + i) v).get_other _ trivial (fun i hi => ?_)
  have hn := List.mem_range.mp hi
  omega

end

end Sys2Proof

namespace Sys2Proof.Machine

/-! ### The tables of a side, and the version that a command writes (R24, R285) -/

@[simp] theorem ClsCfg.side_setSide (x : ClsCfg) (side : Nat) (f : ClsSide → ClsSide) :
    (x.setSide side f).side side = f (x.side side) := by
  unfold ClsCfg.setSide ClsCfg.side
  split <;> rfl

@[simp] theorem ClsCfg.rules_setSide (x : ClsCfg) (side : Nat) (f : ClsSide → ClsSide) : (x.setSide side f).rules = x.rules := by
  unfold ClsCfg.setSide
  split <;> rfl

@[simp] theorem ClsCfg.side_heal (x : ClsCfg) (side table first count k : Nat) : (x.heal side table first count).side k = x.side k := rfl

@[simp] theorem ClsCfg.rules_heal (x : ClsCfg) (side table first count : Nat) : (x.heal side table first count).rules = x.rules := rfl

@[simp] theorem Blk.clsCfg_setCls (b : Blk) (f : ClsCfg → ClsCfg) : (b.setCls f).clsCfg = f b.clsCfg := Vers.cur_write _ _ _ _

theorem Blk.inside_setCls (b : Blk) (f : ClsCfg → ClsCfg) : b.Inside (b.setCls f) := .of_eq rfl rfl

/-! ### The commands (R287 to R291) -/

section
variable (c : Cmd)

/-- What PARSE_NODE_WRITE makes of the tables. -/
def ClsCfg.nodesWritten (x : ClsCfg) : ClsCfg :=
  (x.setSide (sideOf c) (fun sd => { sd with
    nodes := Tab.setRun [] sd.nodes (c.f 0 63 57) (c.f 0 56 49) (fun i => nodeValue (nodeWords c.ext i)) })).heal
    (sideOf c) 1 (c.f 0 63 57) (c.f 0 56 49)

/-- What RULE_WRITE makes of the tables. -/
def ClsCfg.rulesWritten (x : ClsCfg) : ClsCfg :=
  { x.heal (sideOf c) 0 (c.f 0 63 48) (c.f 0 47 39) with
    rules := Tab.setRun {} x.rules (c.f 0 63 48) (c.f 0 47 39) (ruleOf c.ext) }

/-- What HASH_CONFIG makes of the tables. -/
def ClsCfg.hashWritten (x : ClsCfg) : ClsCfg :=
  (x.setSide (sideOf c) (fun sd => { sd with
    hashes := Tab.set {} sd.hashes (c.f 0 63 60) { sel := c.f 0 59 12, seed := c.f 1 63 32 } })).heal (sideOf c) 3 (c.f 0 63 60) 1

/-- The first entry that INDIRECTION_WRITE writes. -/
def indBase : Nat := c.f 0 63 58 * 512 + c.f 0 57 49

/-- What INDIRECTION_WRITE makes of the tables. -/
def ClsCfg.indWritten (x : ClsCfg) : ClsCfg :=
  (x.setSide (sideOf c) (fun sd => { sd with
    ind := Tab.setRun 0 sd.ind (indBase c) (c.f 0 48 39) (indOf c.ext) })).heal (sideOf c) 2 (indBase c) (c.f 0 48 39)

end

section
variable {c : Cmd} {b : Blk}

theorem Blk.nodes_written : ((b.setCls (ClsCfg.nodesWritten c)).clsCfg.side (sideOf c)).nodes = Tab.setRun []
    (b.clsCfg.side (sideOf c)).nodes (c.f 0 63 57) (c.f 0 56 49) (fun i => nodeValue (nodeWords c.ext i)) := by
  simp [ClsCfg.nodesWritten]

theorem Blk.hashes_written : ((b.setCls (ClsCfg.hashWritten c)).clsCfg.side (sideOf c)).hashes = Tab.set {}
    (b.clsCfg.side (sideOf c)).hashes (c.f 0 63 60) { sel := c.f 0 59 12, seed := c.f 1 63 32 } := by
  simp [ClsCfg.hashWritten]

theorem Blk.ind_written : ((b.setCls (ClsCfg.indWritten c)).clsCfg.side (sideOf c)).ind = Tab.setRun 0
    (b.clsCfg.side (sideOf c)).ind (indBase c) (c.f 0 48 39) (indOf c.ext) := by
  simp [ClsCfg.indWritten]

theorem applyRuleWrite_foreign (h : mayAct c.tenant (b.ruleOwner (c.f 0 63 48)) = false) :
    applyRuleWrite c b = (b, Res.deniedObject) := if_pos (by simp [h])

theorem applyRuleWrite_takes (hmay : mayAct c.tenant (b.ruleOwner (c.f 0 63 48)) = true)
    (hentries : c.tenant = 0 ∨ ∀ i < c.f 0 47 39, ruleDenied b c.tenant (ruleOf c.ext i) = false) :
    applyRuleWrite c b = (b.setCls (ClsCfg.rulesWritten c), {}) := by
  have hfree : ¬(c.tenant ≠ 0 ∧ (List.range (c.f 0 47 39)).any (fun i => ruleDenied b c.tenant (ruleOf c.ext i)) = true) := by
    rintro ⟨h0, hany⟩
    obtain ⟨i, hi, hdenied⟩ := List.any_eq_true.mp hany
    exact absurd hdenied (by simp [hentries.resolve_left h0 i (List.mem_range.mp hi)])
  exact (if_neg (by simp [hmay])).trans (if_neg hfree)

end

section
variable {c : Cmd} {s : State}

theorem parseNodeWrite_takes (ht : s.Takes Op.parseNodeWrite c) : exec (.parseNodeWrite c) s
    = .next (s.answered Op.parseNodeWrite c (s.blk.setCls (ClsCfg.nodesWritten c)) {}) :=
  exec_opcode_ok (i := .parseNodeWrite c) rfl rfl ht.live ht.2 rfl rfl (s.blk.inside_setCls _)

theorem ruleWrite_takes (ht : s.Takes Op.ruleWrite c) (hmay : mayAct c.tenant (s.blk.ruleOwner (c.f 0 63 48)) = true)
    (hentries : c.tenant = 0 ∨ ∀ i < c.f 0 47 39, ruleDenied s.blk c.tenant (ruleOf c.ext i) = false) :
    exec (.ruleWrite c) s = .next (s.answered Op.ruleWrite c (s.blk.setCls (ClsCfg.rulesWritten c)) {}) :=
  exec_opcode_ok (i := .ruleWrite c) rfl rfl ht.live ht.2 (applyRuleWrite_takes hmay hentries) rfl (s.blk.inside_setCls _)

theorem ruleWrite_foreign (ht : s.Takes Op.ruleWrite c) (h : mayAct c.tenant (s.blk.ruleOwner (c.f 0 63 48)) = false) :
    exec (.ruleWrite c) s = .next (s.answered Op.ruleWrite c s.blk Res.deniedObject) :=
  exec_opcode_fails (i := .ruleWrite c) rfl rfl ht.live ht.2 (congrArg Prod.snd (applyRuleWrite_foreign h)) (by decide) (by decide)

theorem hashConfig_takes (ht : s.Takes Op.hashConfig c) :
    exec (.hashConfig c) s = .next (s.answered Op.hashConfig c (s.blk.setCls (ClsCfg.hashWritten c)) {}) :=
  exec_opcode_ok (i := .hashConfig c) rfl rfl ht.live ht.2 rfl rfl (s.blk.inside_setCls _)

theorem indirectionWrite_takes (ht : s.Takes Op.indirectionWrite c) :
    exec (.indirectionWrite c) s = .next (s.answered Op.indirectionWrite c (s.blk.setCls (ClsCfg.indWritten c)) {}) :=
  exec_opcode_ok (i := .indirectionWrite c) rfl rfl ht.live ht.2 rfl rfl (s.blk.inside_setCls _)

theorem exceptionConfig_takes (ht : s.Takes Op.exceptionConfig c) : exec (.exceptionConfig c) s
    = .next (s.answered Op.exceptionConfig c (s.blk.setCls (fun x => { x with exc := Tab.set {} x.exc (c.f 0 63 57) {
        treeMiss := c.b 0 56, upMiss := c.b 0 55, rate := c.f 0 54 39, snap := c.f 0 38 31 } })) {}) :=
  exec_opcode_ok (i := .exceptionConfig c) rfl rfl ht.live ht.2 rfl rfl (s.blk.inside_setCls _)

end

end Sys2Proof.Machine

/-! PROOFS. The commands of the switch core, and the operations of the switch that they begin. -/
namespace Sys2Proof

/-- Of two writes of one key, the last one stands. -/
theorem Tab.set_set_same {α : Type} [DecidableEq α] (d : α) (t : Tab α) (k : Nat) (v w : α) (h : Tab.wf d t = true) :
    Tab.set d (Tab.set d t k v) k w = Tab.set d t k w := by
  induction t with
  | nil => by_cases hv : v = d <;> simp [Tab.set, hv]
  | cons x r ih =>
    obtain ⟨j, y⟩ := x
    obtain ⟨-, ha, hr⟩ := (Tab.wf_cons d j y r).mp h
    rcases Nat.lt_trichotomy k j with hk | rfl | hk
    · by_cases hv : v = d <;> simp [Tab.set, hk, hv]
    · by_cases hv : v = d
      · have hset : Tab.set d r k w = if w = d then r else (k, w) :: r := by
          cases r with
          | nil => rfl
          | cons z r => simp [Tab.set, ha z (by simp)]
        simp [Tab.set, hv, hset]
      · simp [Tab.set, hv]
    · simp [Tab.set, Nat.not_lt.mpr (Nat.le_of_lt hk), Nat.ne_of_gt hk, ih hr]

end Sys2Proof

namespace Sys2Proof.Machine

/-! ### A sub-port that goes down (R319, R375) -/

/-- b' agrees with b in the clock, the device registers and the switch core. -/
structure Blk.SyncKept (b b' : Blk) : Prop where
  clk : b'.clk = b.clk
  sys : b'.sys = b.sys
  sw : b'.sw = b.sw

theorem Blk.SyncKept.trans {a b c : Blk} (h : a.SyncKept b) (k : b.SyncKept c) : a.SyncKept c :=
  ⟨k.clk.trans h.clk, k.sys.trans h.sys, k.sw.trans h.sw⟩

theorem Blk.syncKept_syncChoose (b : Blk) : b.SyncKept b.syncChoose := by
  unfold Blk.syncChoose
  dsimp only
  split
  · exact ⟨rfl, rfl, rfl⟩
  · constructor <;> simp

theorem Blk.syncKept_syncSet (b : Blk) (i : Nat) (f : SyncSource → SyncSource) : b.SyncKept (b.syncSet i f) := by
  obtain ⟨hclk, hsys, hsw⟩ := Blk.syncKept_syncChoose { b with tim := { b.tim with sync := Tab.upd {} b.tim.sync i f } }
  exact ⟨hclk, hsys, hsw⟩

theorem Blk.syncKept_syncDown (b : Blk) (sub : Nat) : b.SyncKept (b.syncDown sub) :=
  List.foldlRecOn (motive := b.SyncKept) _ _ ⟨rfl, rfl, rfl⟩ (fun _ h _ _ => h.trans (Blk.syncKept_syncSet _ _ _))

/-- b' agrees with b in the clock, the device registers and, but for its queues, the switch core. -/
structure Blk.Flushed (b b' : Blk) : Prop where
  clk : b'.clk = b.clk
  sys : b'.sys = b.sys
  sw : ∃ q, b'.sw = { b.sw with queues := q }

theorem Blk.Flushed.setQueue {b b' : Blk} (h : b.Flushed b') (q : Nat) (l : List Frame) : b.Flushed (b'.setQueue q l) := by
  obtain ⟨queues, hsw⟩ := h.sw
  exact ⟨h.clk, h.sys, Tab.set [] queues q l, by simp only [Blk.setQueue, hsw]⟩

theorem Blk.flushed_countN (b : Blk) (family counter inst n : Nat) : b.Flushed (b.countN family counter inst n) :=
  ⟨b.countN_clk _ _ _ _, b.countN_sys _ _ _ _, b.sw.queues, b.countN_sw _ _ _ _⟩

theorem Blk.flushed_flushSub (b : Blk) (k : Nat) : b.Flushed (b.flushSub k) :=
  List.foldlRecOn (motive := b.Flushed) _ _ (b.flushed_countN _ _ _ _) (fun _ h _ _ => h.setQueue _ _)

/-- A sub-port after it went down. -/
def SubPort.lowered (p : SubPort) : SubPort := { p with up := false, held := 0, xoff := false }

/-- Taking a sub-port down lowers it, and leaves the other sub-ports and every mode. -/
theorem Blk.subDown_sw (b : Blk) (k : Nat) : ∃ q, (b.subDown k).sw =
    { b.sw with queues := q, subs := Tab.upd {} b.sw.subs k SubPort.lowered } := by
  obtain ⟨q, hq⟩ := (b.flushed_flushSub k).sw
  refine ⟨q, (Blk.syncKept_syncDown _ k).sw.trans ?_⟩
  simp only [Blk.updSub_sw, hq]
  rfl

theorem Blk.inside_updSub (b : Blk) (k : Nat) (f : SubPort → SubPort) : b.Inside (b.updSub k f) := .of_eq rfl rfl

theorem Blk.inside_subDown (b : Blk) (k : Nat) : b.Inside (b.subDown k) :=
  have hflushed : b.Inside (b.flushSub k) := .of_eq (b.flushed_flushSub k).clk (b.flushed_flushSub k).sys
  have hsync := Blk.syncKept_syncDown ((b.flushSub k).updSub k SubPort.lowered) k
  (hflushed.trans (Blk.inside_updSub _ k SubPort.lowered)).trans (.of_eq hsync.clk hsync.sys)

/-! ### Frames that enter the switch (R303, R315 to R318) -/

theorem Blk.inside_toParser (b : Blk) (side : Nat) (f : Frame) : b.Inside (b.toParser side f) := .of_eq rfl rfl

theorem Blk.inside_toTree (b : Blk) (f : Frame) (flow : Nat) (cls : Option Nat) : b.Inside (b.toTree f flow cls) := by
  unfold Blk.toTree
  dsimp only
  split
  · exact (b.inside_admitFlag _ _).trans (.of_eq rfl rfl)
  · exact b.inside_admitFlag _ _

theorem Blk.inside_toGroup (f : Frame) (cls : Option Nat) (l : List Nat) (b : Blk) : b.Inside (b.toGroup f cls l) := by
  induction l generalizing b with
  | nil => exact .rfl' b
  | cons m r ih =>
    refine .trans ?_ (ih _)
    split
    · exact b.inside_toTree _ _ _
    · exact b.inside_count _ _ _

theorem Blk.inside_toCarrier (b : Blk) (f : Frame) (flow : Nat) (cls : Option Nat) : b.Inside (b.toCarrier f flow cls) := by
  unfold Blk.toCarrier
  dsimp only
  split_ifs
  · exact b.inside_toTree _ _ _
  · exact Blk.inside_toGroup _ _ _ b
  · exact b.inside_count _ _ _

theorem Blk.inside_toSub (b : Blk) (f : Frame) (sub : Nat) (cls : Option Nat) (stream : Nat) :
    b.Inside (b.toSub f sub cls stream) := by
  unfold Blk.toSub
  dsimp only
  split_ifs
  · exact .of_eq rfl rfl
  · exact .of_eq rfl rfl
  · exact b.inside_enqueue _ _

/-! ### PORT_CONFIG (R313, R319, R320) -/

/-- A sub-port is taken down and disabled, as when the mode of its port changes. -/
def Blk.subOff (b : Blk) (k : Nat) : Blk := (b.subDown k).updSub k (fun x => { x with enable := false })

/-- A sub-port after it was taken down and disabled. -/
def SubPort.off (p : SubPort) : SubPort := { p.lowered with enable := false }

theorem Blk.subs_subOff {b : Blk} (h : Tab.wf {} b.sw.subs = true) (k : Nat) :
    (b.subOff k).sw.subs = Tab.upd {} b.sw.subs k SubPort.off := by
  obtain ⟨q, hq⟩ := b.subDown_sw k
  simp only [Blk.subOff, Blk.updSub_sw, hq]
  rw [Tab.upd, Tab.get_upd_same _ _ _ _ h, Tab.upd, Tab.set_set_same _ _ _ _ _ h]
  rfl

theorem Blk.modes_subOff (b : Blk) (k : Nat) : (b.subOff k).sw.modes = b.sw.modes := by
  obtain ⟨q, hq⟩ := b.subDown_sw k
  simp only [Blk.subOff, Blk.updSub_sw, hq]

/-- b' keeps the frame and the modes of b, and its table of sub-ports is canonical. -/
structure Blk.ModesKept (b b' : Blk) : Prop where
  inside : b.Inside b'
  modes : b'.sw.modes = b.sw.modes
  wf : Tab.wf {} b'.sw.subs = true

theorem Blk.ModesKept.rfl' {b : Blk} (h : Tab.wf {} b.sw.subs = true) : b.ModesKept b := ⟨.rfl' b, rfl, h⟩

theorem Blk.writes_subOff (b : Blk) (p : Nat) :
    Tab.Writes {} b.ModesKept (fun y => y.sw.subs) (fun i => 8 * p + i) (fun _ => SubPort.off) (fun y i => y.subOff (8 * p + i)) where
  keep _ h := ⟨(h.inside.trans (Blk.inside_subDown _ _)).trans (Blk.inside_updSub _ _ _), (Blk.modes_subOff _ _).trans h.modes,
    Blk.subs_subOff h.wf _ ▸ Tab.wf_upd _ _ _ _ h.wf⟩
  write _ h := Blk.subs_subOff h.wf _

/-- A port whose mode changes: every sub-port of it is off. -/
def Blk.portOff (b : Blk) (p : Nat) : Blk := (List.range 8).foldl (fun y i => y.subOff (8 * p + i)) b

/-- The mode of a port, written. -/
def Blk.setMode (b : Blk) (p mode : Nat) : Blk := { b with sw := { b.sw with modes := Tab.set 0 b.sw.modes p mode } }

theorem Blk.inside_setMode (b : Blk) (p mode : Nat) : b.Inside (b.setMode p mode) := .of_eq rfl rfl

theorem Blk.sub_setMode (b : Blk) (p mode k : Nat) : (b.setMode p mode).sub k = b.sub k := rfl

theorem Blk.mode_setMode {b : Blk} (h : Tab.wf 0 b.sw.modes = true) (p mode : Nat) :
    Tab.get 0 (b.setMode p mode).sw.modes p = mode := Tab.get_set_same _ _ _ _ h

section
variable {b : Blk} (hwf : Tab.wf {} b.sw.subs = true) (p : Nat)
include hwf

theorem Blk.modesKept_portOff : b.ModesKept (b.portOff p) := (b.writes_subOff p).foldl_keep _ (.rfl' hwf)

theorem Blk.sub_portOff {i : Nat} (hi : i < 8) : (b.portOff p).sub (8 * p + i) = (b.sub (8 * p + i)).off :=
  (b.writes_subOff p).get_same (List.nodup_range.map (fun _ _ => Nat.add_left_cancel)) (.rfl' hwf) hwf
    (List.mem_range.mpr hi)

theorem Blk.off_portMode (mode : Nat) {i : Nat} (hi : i < 8) :
    (((b.portOff p).setMode p mode).sub (8 * p + i)).enable = false
      ∧ (((b.portOff p).setMode p mode).sub (8 * p + i)).up = false := by
  rw [Blk.sub_setMode, Blk.sub_portOff hwf p hi]
  exact ⟨rfl, rfl⟩

end

section
variable {c : Cmd} {s : State}

theorem portConfigPort_same (ht : s.Takes Op.portConfigPort c)
    (h : Tab.get 0 s.blk.sw.modes (c.unit % 4096 / 8) = c.f 0 61 60) :
    exec (.portConfigPort c) s = .next (s.answered Op.portConfigPort c s.blk {}) :=
  exec_opcode_ok (i := .portConfigPort c) rfl rfl ht.live ht.2 (if_pos h) rfl (.rfl' _)

theorem applyPortConfigPort_changes {b : Blk} (h : Tab.get 0 b.sw.modes (c.unit % 4096 / 8) ≠ c.f 0 61 60) : applyPortConfigPort c b
    = ((b.portOff (c.unit % 4096 / 8)).setMode (c.unit % 4096 / 8) (c.f 0 61 60), {}) := by
  unfold applyPortConfigPort
  rw [if_neg h]
  simp only [Blk.setMode, Blk.portOff, Blk.subOff]

theorem portConfigPort_changes (ht : s.Takes Op.portConfigPort c) (hwf : Tab.wf {} s.blk.sw.subs = true)
    (h : Tab.get 0 s.blk.sw.modes (c.unit % 4096 / 8) ≠ c.f 0 61 60) : exec (.portConfigPort c) s = .next (s.answered
      Op.portConfigPort c ((s.blk.portOff (c.unit % 4096 / 8)).setMode (c.unit % 4096 / 8) (c.f 0 61 60)) {}) :=
  have hin := (Blk.modesKept_portOff hwf (c.unit % 4096 / 8)).inside.trans (Blk.inside_setMode _ (c.unit % 4096 / 8) (c.f 0 61 60))
  exec_opcode_ok (i := .portConfigPort c) rfl rfl ht.live ht.2 (applyPortConfigPort_changes h) rfl hin

end

/-- The sub-port's registers, written by PORT_CONFIG. -/
def Blk.subSet (b : Blk) (c : Cmd) : Blk :=
  b.updSub (c.unit % 4096) (fun p => { p with
    enable := c.b 0 61, ct := c.b 0 60, maxFrame := c.f 0 59 46, fc := c.f 0 45 44, push := c.b 0 43,
    stag := c.b 0 42, vid := c.f 0 41 30, defClass := c.f 0 29 27 })

section
variable {c : Cmd} {s : State} (ht : s.Takes Op.portConfigSubPort c)
include ht

theorem portConfigSubPort_enables (hformed : s.blk.subFormed (c.unit % 4096) = true) (hon : c.b 0 61 = true) :
    exec (.portConfigSubPort c) s = .next (s.answered Op.portConfigSubPort c (s.blk.subSet c) {}) := by
  have happly : applyPortConfigSubPort c s.blk = (s.blk.subSet c, {}) := by simp [applyPortConfigSubPort, hformed, hon, Blk.subSet]
  exact exec_opcode_ok (i := .portConfigSubPort c) rfl rfl ht.live ht.2 happly rfl (s.blk.inside_updSub _ _)

theorem portConfigSubPort_disables (hformed : s.blk.subFormed (c.unit % 4096) = true) (hoff : c.b 0 61 = false) :
    exec (.portConfigSubPort c) s
      = .next (s.answered Op.portConfigSubPort c ((s.blk.subDown (c.unit % 4096)).subSet c) {}) := by
  have happly : applyPortConfigSubPort c s.blk = ((s.blk.subDown (c.unit % 4096)).subSet c, {}) := by
    simp [applyPortConfigSubPort, hformed, hoff, Blk.subSet]
  exact exec_opcode_ok (i := .portConfigSubPort c) rfl rfl ht.live ht.2 happly rfl
    ((s.blk.inside_subDown _).trans (Blk.inside_updSub _ _ _))

theorem portConfigSubPort_unformed (h : s.blk.subFormed (c.unit % 4096) = false) :
    exec (.portConfigSubPort c) s = .next (s.answered Op.portConfigSubPort c s.blk (Res.err .badParam 0)) :=
  exec_opcode_fails (i := .portConfigSubPort c) rfl rfl ht.live ht.2 (congrArg Prod.snd (if_pos (by simp [h])))
    (by decide) (by decide)

end

/-- What the host form of PORT_CONFIG makes of a receive ring. -/
def RxRing.set (c : Cmd) (r : RxRing) : RxRing :=
  let same := r.enable && c.b 0 54 && r.base == c.word 1 && r.size == c.f 0 53 49
  { enable := c.b 0 54, size := c.f 0 53 49, weight := c.f 0 48 41, base := c.word 1,
    pos := if same then r.pos else 0, stalled := same && r.stalled }

theorem RxRing.pos_set (c : Cmd) (r : RxRing) : (r.set c).pos
    = if r.enable = true ∧ c.b 0 54 = true ∧ r.base = c.word 1 ∧ r.size = c.f 0 53 49 then r.pos else 0 := by
  simp [RxRing.set, and_assoc]

theorem portConfigHost_takes {c : Cmd} {s : State} (ht : s.Takes Op.portConfigHost c) : exec (.portConfigHost c) s
    = .next (s.answered Op.portConfigHost c (s.blk.updRing (c.f 0 61 55) (RxRing.set c)) {}) :=
  exec_opcode_ok (i := .portConfigHost c) rfl rfl ht.live ht.2 rfl rfl (s.blk.inside_updRing _ _)

/-! ### The commands that write a version of the switch core's configuration (R321 to R324) -/

theorem Blk.inside_setSw (b : Blk) (f : SwCfg → SwCfg) : b.Inside (b.setSw f) := .of_eq rfl rfl

section
variable {c : Cmd} {s : State}

theorem queueConfig_takes (ht : s.Takes Op.queueConfig c) (hport : s.blk.portBad (c.f 0 63 56) (fieldAt 0 56) = none) :
    exec (.queueConfig c) s = .next (s.answered Op.queueConfig c (s.blk.setSw (fun x => { x with
      queues := Tab.set none x.queues (classQueue (c.f 0 63 56) (c.f 0 55 53)) (some ⟨c.b 0 52, c.f 0 51 44⟩) })) {}) :=
  exec_opcode_ok (i := .queueConfig c) rfl rfl ht.live ht.2 (by simp only [applyQueueConfig, hport]) rfl (s.blk.inside_setSw _)

theorem thresholdConfig_takes (ht : s.Takes Op.thresholdConfig c) : exec (.thresholdConfig c) s
    = .next (s.answered Op.thresholdConfig c (s.blk.setSw (fun x => { x with
        alphas := Tab.set 0 x.alphas (c.f 0 63 60) (signed (c.f 0 59 56) 4 + 7).toNat })) {}) :=
  exec_opcode_ok (i := .thresholdConfig c) rfl rfl ht.live ht.2 rfl rfl (s.blk.inside_setSw _)

theorem carrierMap_takes (ht : s.Takes Op.carrierMap c) (h : s.blk.standardBars (c.f 0 62 41) (c.f 0 40 38) = false) :
    exec (.carrierMap c) s = .next (s.answered Op.carrierMap c (s.blk.setSw (fun x => { x with
      carriers := Tab.set {} x.carriers (c.f 0 62 41) {
        purpose := c.f 0 40 38, defClass := c.f 0 37 35, group := c.f 0 34 25 } })) {}) :=
  exec_opcode_ok (i := .carrierMap c) rfl rfl ht.live ht.2 (if_neg (by simp [h])) rfl (s.blk.inside_setSw _)

theorem carrierMap_barred (ht : s.Takes Op.carrierMap c) (h : s.blk.standardBars (c.f 0 62 41) (c.f 0 40 38) = true) :
    exec (.carrierMap c) s = .next (s.answered Op.carrierMap c s.blk (Res.badField 0 41)) :=
  exec_opcode_fails (i := .carrierMap c) rfl rfl ht.live ht.2 (congrArg Prod.snd (if_pos h)) (by decide) (by decide)

/-- The members that the group form of CARRIER_MAP lists. -/
def groupMembers (c : Cmd) : List Nat := (List.range (c.f 0 52 46)).map (memberOf c.ext)

theorem carrierMapGroup_takes (ht : s.Takes Op.carrierMapGroup c)
    (h : ∀ m ∈ groupMembers c, (Tab.get {} s.blk.swCfg.carriers m).purpose = 1) :
    exec (.carrierMapGroup c) s = .next (s.answered Op.carrierMapGroup c (s.blk.setSw (fun x => { x with
      groups := Tab.set [] x.groups (c.f 0 62 53) (groupMembers c) })) {}) := by
  have hall : ¬(groupMembers c).any (fun m => (Tab.get {} s.blk.swCfg.carriers m).purpose != 1) = true := by simpa using h
  exact exec_opcode_ok (i := .carrierMapGroup c) rfl rfl ht.live ht.2 (if_neg hall) rfl (s.blk.inside_setSw _)

theorem carrierMapGroup_refuses (ht : s.Takes Op.carrierMapGroup c) {m : Nat} (hm : m ∈ groupMembers c)
    (h : (Tab.get {} s.blk.swCfg.carriers m).purpose ≠ 1) :
    exec (.carrierMapGroup c) s = .next (s.answered Op.carrierMapGroup c s.blk Res.badExt) := by
  have hany : (groupMembers c).any (fun m => (Tab.get {} s.blk.swCfg.carriers m).purpose != 1) = true :=
    List.any_eq_true.mpr ⟨m, hm, by simpa using h⟩
  exact exec_opcode_fails (i := .carrierMapGroup c) rfl rfl ht.live ht.2 (congrArg Prod.snd (if_pos hany)) (by decide) (by decide)

theorem mirrorConfigPort_takes (ht : s.Takes Op.mirrorConfigPort c) (hport : s.blk.portBad (c.f 0 62 55) (fieldAt 0 55) = none) :
    exec (.mirrorConfigPort c) s = .next (s.answered Op.mirrorConfigPort c (s.blk.setSw (fun x => { x with
      mirrors := Tab.set {} x.mirrors (c.f 0 62 55) { ing := c.b 0 54, egr := c.b 0 53, snap := c.f 0 52 45 } })) {}) :=
  exec_opcode_ok (i := .mirrorConfigPort c) rfl rfl ht.live ht.2 (by simp only [applyMirrorConfigPort, hport]) rfl
    (s.blk.inside_setSw _)

theorem mirrorConfigEncap_takes (ht : s.Takes Op.mirrorConfigEncap c) : exec (.mirrorConfigEncap c) s
    = .next (s.answered Op.mirrorConfigEncap c (s.blk.setSw (fun x => { x with encap := {
        enable := c.b 0 62, etherType := c.f 0 61 46, snap := c.f 0 45 38, da := c.f 1 63 16, sa := c.f 2 63 16 } })) {}) :=
  exec_opcode_ok (i := .mirrorConfigEncap c) rfl rfl ht.live ht.2 rfl rfl (s.blk.inside_setSw _)

/-- A port's sampler set, and its count begun anew (R309). -/
def Blk.samplerSet (b : Blk) (c : Cmd) : Blk :=
  { b with sw := { b.sw with
      cfg := Vers.write {} b.sw.cfg b.clk.epoch (fun x => { x with
        samples := Tab.set {} x.samples (c.f 0 63 56) { all := c.b 0 55, n := c.f 0 54 31 } }),
      samplers := Tab.upd {} b.sw.samplers (c.f 0 63 56) (fun x => { line := x.line }) } }

theorem sampleConfig_takes (ht : s.Takes Op.sampleConfig c) (hport : s.blk.portBad (c.f 0 63 56) (fieldAt 0 56) = none) :
    exec (.sampleConfig c) s = .next (s.answered Op.sampleConfig c (s.blk.samplerSet c) {}) :=
  exec_opcode_ok (i := .sampleConfig c) rfl rfl ht.live ht.2 (by simp only [applySampleConfig, hport]; rfl) rfl (.of_eq rfl rfl)

/-- A stream of FRER set: enabling it starts its numbers at 0 (R317). -/
def Blk.streamSet (b : Blk) (c : Cmd) : Blk :=
  let x := Tab.get {} b.sw.streams (c.f 0 63 52)
  { b with sw := { b.sw with streams := Tab.set {} b.sw.streams (c.f 0 63 52) {
      enable := c.b 0 51, dup := c.b 0 50, subB := c.f 0 49 44, number := if x.enable = true then x.number else 0 } } }

theorem frerConfig_takes (ht : s.Takes Op.frerConfig c) (h : c.b 0 50 = false ∨ s.blk.subFormed (c.f 0 49 44) = true) :
    exec (.frerConfig c) s = .next (s.answered Op.frerConfig c (s.blk.streamSet c) {}) := by
  have hformed : ¬(c.b 0 50 && !s.blk.subFormed (c.f 0 49 44)) = true := by rcases h with h | h <;> simp [h]
  exact exec_opcode_ok (i := .frerConfig c) rfl rfl ht.live ht.2 (if_neg hformed) rfl (.of_eq rfl rfl)

end

/-! ### FRAME_INJECT (R325) -/

/-- The frame that FRAME_INJECT brings in. -/
def Blk.injected (b : Blk) (c : Cmd) : Frame where
  data := c.ext.take (c.f 0 35 22)
  input := 114
  tenant := c.tenant
  stamp := b.clk.epoch
  toa := b.stampedTime b.tim.tod
  gen := b.tim.gen
  source := c.f 0 21 16

/-- The block with an injected frame counted in at the host input. -/
def Blk.injectCounted (b : Blk) (c : Cmd) : Blk := b.countIn 114 (b.injected c).length

/-- What FRAME_INJECT does once nothing refuses it. -/
def Blk.inject (b : Blk) (c : Cmd) : Blk :=
  if c.f 0 63 61 = 0 then (b.injectCounted c).toParser 1 (b.injected c)
  else if c.f 0 63 61 = 3 then (b.injectCounted c).toCarrier (b.injected c) (c.f 0 60 39) (some (c.f 0 38 36))
  else (b.injectCounted c).toSub (b.injected c) (c.f 0 60 39) (some (c.f 0 38 36)) 0

theorem Blk.inside_inject (b : Blk) (c : Cmd) : b.Inside (b.inject c) := by
  have hcounted : b.Inside (b.injectCounted c) := b.inside_countIn _ _
  unfold Blk.inject
  split_ifs
  · exact hcounted.trans (Blk.inside_toParser _ _ _)
  · exact hcounted.trans (Blk.inside_toCarrier _ _ _ _)
  · exact hcounted.trans (Blk.inside_toSub _ _ _ _ _)

section
variable {c : Cmd} {s : State} (ht : s.Takes Op.frameInject c)
include ht

/-- A frame whose destination is its tenant's to name, and formed, enters. -/
theorem frameInject_takes (hmay : c.tenant = 0 ∨ (c.f 0 63 61 = 3 ∧ s.blk.carrierOwner (c.f 0 60 39) = c.tenant))
    (hdest : c.f 0 63 61 = 5 → s.blk.subFormed (c.f 0 60 39) = true)
    (hsrc : c.f 0 63 61 = 0 → s.blk.subFormed (c.f 0 21 16) = true) :
    exec (.frameInject c) s = .next (s.answered Op.frameInject c (s.blk.inject c) {}) := by
  have howner : ¬(c.tenant ≠ 0 ∧ (c.f 0 63 61 ≠ 3 ∨ s.blk.carrierOwner (c.f 0 60 39) ≠ c.tenant)) := by
    rintro ⟨h0, h⟩
    obtain ⟨hkind, hown⟩ := hmay.resolve_left h0
    exact h.elim (absurd hkind) (absurd hown)
  have hto : ¬(c.f 0 63 61 = 5 ∧ (!s.blk.subFormed (c.f 0 60 39)) = true) := fun ⟨hk, hn⟩ => by simp [hdest hk] at hn
  have hfrom : ¬(c.f 0 63 61 = 0 ∧ (!s.blk.subFormed (c.f 0 21 16)) = true) := fun ⟨hk, hn⟩ => by simp [hsrc hk] at hn
  exact exec_opcode_ok (i := .frameInject c) rfl rfl ht.live ht.2
    ((if_neg howner).trans ((if_neg hto).trans (if_neg hfrom))) rfl (s.blk.inside_inject c)

theorem frameInject_foreign (h0 : c.tenant ≠ 0) (hkind : c.f 0 63 61 ≠ 3) :
    exec (.frameInject c) s = .next (s.answered Op.frameInject c s.blk Res.deniedObject) :=
  exec_opcode_fails (i := .frameInject c) rfl rfl ht.live ht.2 (congrArg Prod.snd (if_pos ⟨h0, .inl hkind⟩)) (by decide) (by decide)

end

/-- Settles O57, command by command: what each writes, read back. -/
theorem classifierAndSwitchAreConfigured : Obligations.ClassifierAndSwitchAreConfigured := by
  unfold Obligations.ClassifierAndSwitchAreConfigured
  intro c s b written tables
  refine ⟨fun ht hwf => ?nodes, fun ht hmay hentries hwf => ?rules, ruleWrite_foreign, fun ht hwf => ?hash, fun ht hwf => ?ind,
    exceptionConfig_takes, fun ht hmodes hsubs => ?port,
    fun ht => ⟨fun hformed => ⟨portConfigSubPort_enables ht hformed, portConfigSubPort_disables ht hformed⟩,
      portConfigSubPort_unformed ht⟩,
    fun ht hwf => ?host, queueConfig_takes, thresholdConfig_takes, fun ht => ⟨carrierMap_takes ht, carrierMap_barred ht⟩,
    fun ht => ⟨carrierMapGroup_takes ht, fun _ => carrierMapGroup_refuses ht⟩, mirrorConfigPort_takes, mirrorConfigEncap_takes,
    sampleConfig_takes, frerConfig_takes, fun ht => ?inject⟩
  case nodes =>
    refine ⟨_, parseNodeWrite_takes ht, rfl, fun i hi => ?_, fun k hk => ?_, ?_⟩
    · rw [Blk.nodes_written, Tab.get_setRun hwf _ hi, nodeValue]
    · rw [Blk.nodes_written, Tab.get_setRun_other _ _ hk]
    · simp [ClsCfg.nodesWritten, b]
  case rules =>
    have hrules : (b.setCls (ClsCfg.rulesWritten c)).clsCfg = ClsCfg.rulesWritten c b.clsCfg := Blk.clsCfg_setCls _ _
    refine ⟨_, ruleWrite_takes ht hmay hentries, rfl, fun i hi => ?_, fun k hk => ?_, ?_⟩
    · rw [hrules]
      exact Tab.get_setRun hwf _ hi
    · rw [hrules]
      exact Tab.get_setRun_other _ _ hk
    · rw [hrules]
      exact ⟨rfl, rfl⟩
  case hash =>
    refine ⟨_, hashConfig_takes ht, rfl, ?_, fun k hk => ?_⟩
    · rw [Blk.hashes_written, Tab.get_set_same _ _ _ _ hwf]
    · rw [Blk.hashes_written, Tab.get_set_other _ _ _ _ _ hk]
  case ind =>
    refine ⟨_, indirectionWrite_takes ht, rfl, fun i hi => ?_, fun k hk => ?_⟩
    · rw [Blk.ind_written]
      exact Tab.get_setRun hwf _ hi
    · rw [Blk.ind_written]
      exact Tab.get_setRun_other _ _ hk
  case port =>
    have hkept : Tab.wf 0 (b.portOff (c.unit % 4096 / 8)).sw.modes = true := by
      rw [(Blk.modesKept_portOff hsubs _).modes]
      exact hmodes
    exact ⟨portConfigPort_same ht, fun hmode => ⟨(b.portOff _).setMode _ _, portConfigPort_changes ht hsubs hmode,
      Blk.mode_setMode hkept _ _, fun i hi => Blk.off_portMode hsubs _ _ hi⟩⟩
  case host =>
    refine ⟨_, portConfigHost_takes ht, rfl, fun k hk => Tab.get_upd_other _ _ _ _ _ hk, ?_⟩
    have hring : (b.updRing (c.f 0 61 55) (RxRing.set c)).ring (c.f 0 61 55) = (b.ring (c.f 0 61 55)).set c :=
      Tab.get_upd_same _ _ _ _ hwf
    rw [hring]
    exact ⟨rfl, rfl, rfl, rfl, RxRing.pos_set c _⟩
  case inject =>
    intro k dest f x
    refine ⟨fun h0 hk hsrc => ?_, fun hmay hk => ?_, fun h0 hk hdest => ?_, frameInject_foreign ht⟩
    · rw [frameInject_takes ht (.inl h0) (fun h => absurd (hk.symm.trans h) (by decide)) (fun _ => hsrc), Blk.inject, if_pos hk]
      rfl
    · rw [frameInject_takes ht (hmay.imp_right (fun h => ⟨hk, h⟩)) (fun h => absurd (hk.symm.trans h) (by decide))
        (fun h => absurd (hk.symm.trans h) (by decide)), Blk.inject, if_neg (by omega), if_pos hk]
      rfl
    · rw [frameInject_takes ht (.inl h0) (fun _ => hdest) (fun h => absurd (hk.symm.trans h) (by decide)), Blk.inject,
        if_neg (by omega), if_neg (by omega)]
      rfl

end Sys2Proof.Machine

/-! PROOFS. A key in the cache that is found faulty, where the cache is not canonical. -/
namespace Sys2Proof.Machine

/-- The block once a faulty key is out of the cache, and counted (R334). -/
def Blk.cacheErased (b : Blk) (flow slot : Nat) : Blk :=
  (b.count 0x84 1 (78 + cipherOfTree (flowTree flow))).setCache flow slot []

/-- A key that the cache still holds is not unwrapped again. -/
theorem Blk.carrierKey_cached {b : Blk} {flow slot : Nat} (h : Tab.get [] (b.carrier flow).cache slot ≠ []) :
    (b.carrierKey flow slot).1 = b := by
  obtain ⟨x, l, hx⟩ := List.exists_cons_of_ne_nil h
  simp only [Blk.carrierKey, hx]

/-- Where the slot reads as full after it was erased, erasing it is all that the refill does. -/
theorem keyCacheRefill_still_cached {flow slot : Nat} {s : State} (hp : s.blk.sys.phase = .service)
    (h : Tab.get [] (s.blk.carrier flow).cache slot ≠ [])
    (hstill : Tab.get [] ((s.blk.cacheErased flow slot).carrier flow).cache slot ≠ []) :
    exec (.keyCacheRefill flow slot) s = .next (s.put (s.blk.cacheErased flow slot)) := by
  rw [show exec (.keyCacheRefill flow slot) s = execKeyCacheRefill flow slot s from rfl, execKeyCacheRefill]
  refine State.svc_to _ hp ?_ ((s.blk.inside_count _ _ _).trans (.of_eq rfl rfl))
  obtain ⟨x, l, hx⟩ := List.exists_cons_of_ne_nil h
  simp only [hx]
  exact Blk.carrierKey_cached hstill

/-- The 16-byte key of RFC 3394, section 4.3. -/
def sampleKey : List Byte :=
  [0x00, 0x11, 0x22, 0x33, 0x44, 0x55, 0x66, 0x77, 0x88, 0x99, 0xAA, 0xBB, 0xCC, 0xDD, 0xEE, 0xFF]

/-- The sample key under the key-encryption key of RFC 3394, section 4.3. -/
def wrappedSample : StoredKey where
  wrapped := [0x64, 0xE8, 0xC3, 0xF9, 0xCE, 0x0F, 0x5B, 0xA2, 0x63, 0xE9, 0x77, 0x79, 0x05, 0x81, 0x8A, 0x2A,
    0x93, 0xC8, 0x19, 0x1E, 0x7D, 0x6E, 0x8A, 0xE7]
  key256 := false
  gen := 0

/-- Slot 1 of the cache of carrier 0 is listed twice, each time with a byte of ones; the slot's key is the sample key. Once the first
entry is erased, the second one is read. -/
def cacheListedTwice : State := { blk := {
  sys := { phase := .service },
  cip := {
    kek := .adopted 0x000102030405060708090A0B0C0D0E0F101112131415161718191A1B1C1D1E1F#256,
    carriers := [(0, { slots := [(1, some wrappedSample)], cache := [(1, [0xFF]), (1, [0xFF])] })] } } }

theorem unwrap_sample : cacheListedTwice.blk.unwrap wrappedSample.wrapped = some sampleKey := by decide +kernel

theorem carriers_cacheErased_twice : (cacheListedTwice.blk.cacheErased 0 1).cip.carriers
    = [(0, { slots := [(1, some wrappedSample)], cache := [(1, [0xFF])] })] := by
  simp only [Blk.cacheErased, Blk.setCache_cip, Blk.count_cip]
  decide

/-- Refutes O49: its last clause does not ask that the key cache be canonical. Where it is not, the slot can still read as full once the
faulty key is erased, and then the key is not unwrapped again. -/
theorem not_parsersAndCipherEngine : ¬ Obligations.ParsersAndCipherEngine := by
  unfold Obligations.ParsersAndCipherEngine
  rintro ⟨-, -, -, -, -, -, h⟩
  obtain ⟨-, hfull⟩ := h 0 1 cacheListedTwice rfl
  obtain ⟨hrefill, -⟩ := hfull wrappedSample (by decide) rfl rfl
  have hstill : Tab.get [] ((cacheListedTwice.blk.cacheErased 0 1).carrier 0).cache 1 = [0xFF] := by
    rw [Blk.carrier, carriers_cacheErased_twice]
    rfl
  have hrefilled : Tab.get [] (((cacheListedTwice.blk.cacheErased 0 1).setCache 0 1 sampleKey).carrier 0).cache 1 = sampleKey := by
    rw [Blk.carrier, Blk.setCache_cip, carriers_cacheErased_twice]
    decide
  have hexec := keyCacheRefill_still_cached (flow := 0) (slot := 1) (s := cacheListedTwice) rfl (by decide) (by simp [hstill])
  have hput := Host.Outcome.next.inj (hexec.symm.trans (hrefill sampleKey unwrap_sample))
  have hread := congrArg (fun t : State => Tab.get [] (t.blk.carrier 0).cache 1) hput
  exact absurd (hstill.symm.trans (hread.trans hrefilled)) (by decide)

end Sys2Proof.Machine

/-! PROOFS. An uplink sub-port: the frames it takes, PAUSE and PFC, and its link that goes down and comes up. -/
namespace Sys2Proof

/-! ### What a PAUSE or PFC frame holds (R314) -/

/-- The classes held once a PAUSE or PFC frame came: a PAUSE names them all. -/
def PauseFrame.holds (f : PauseFrame) (held : BitVec 8) : BitVec 8 :=
  if f.pfc then BitVec.ofFnLE (fun (i : Fin 8) => if f.classes.getLsbD i then decide (0 < f.quanta.getD i 0) else held.getLsbD i)
  else if 0 < f.quanta.getD 0 0 then 0xFF else 0

theorem PauseFrame.holds_pause {f : PauseFrame} (h : f.pfc = false) (held : BitVec 8) :
    f.holds held = if 0 < f.quanta.getD 0 0 then 0xFF else 0 := by simp [PauseFrame.holds, h]

theorem PauseFrame.getLsbD_holds_pfc {f : PauseFrame} (h : f.pfc = true) (held : BitVec 8) {i : Nat} (hi : i < 8) :
    (f.holds held).getLsbD i = if f.classes.getLsbD i = true then decide (0 < f.quanta.getD i 0) else held.getLsbD i := by
  simp [PauseFrame.holds, h, hi]

end Sys2Proof

namespace Sys2Proof.Machine

/-! ### The mirror and sample copies lie inside a unit's frame (R304, R307, R309) -/

theorem Blk.inside_mirrorIn (b : Blk) (f : Frame) (byRule : Bool) (tenant : Nat) (spent : Bool) :
    b.Inside (b.mirrorIn f byRule tenant spent) := by
  unfold Blk.mirrorIn
  dsimp only
  split
  · exact b.inside_count _ _ _
  · split
    · exact b.inside_mirrorCopy _ _ _
    · exact .rfl' b

theorem Blk.inside_sampleIn (b : Blk) (f : Frame) (asked : Bool) (tenant : Nat) (spent : Bool) :
    b.Inside (b.sampleIn f asked tenant spent) := by
  unfold Blk.sampleIn
  extract_lets c sampler due sampler' switch counted copied
  have hcounted : b.Inside counted := .of_eq rfl rfl
  split
  · exact .rfl' b
  · split
    · exact hcounted.trans (Blk.inside_count _ _ _ _)
    · split
      · exact (hcounted.trans (Blk.inside_admitFlag _ _ _)).trans (Blk.inside_count _ _ _ _)
      · exact hcounted

theorem Blk.inside_plainCopies (b : Blk) (f : Frame) (spent : Bool) : b.Inside (b.plainCopies f spent) := by
  refine (b.inside_mirrorIn f false 0 spent).trans ?_
  unfold Blk.plainCopies
  dsimp only
  split_ifs
  · exact Blk.inside_sampleIn _ _ _ _ _
  · exact .rfl' _
  · exact .of_eq rfl rfl

/-! ### A frame counted in (R326) -/

section
variable (b : Blk) (port len : Nat)

@[simp] theorem Blk.countIn_clk : (b.countIn port len).clk = b.clk := by simp [Blk.countIn]

@[simp] theorem Blk.countIn_sys : (b.countIn port len).sys = b.sys := by simp [Blk.countIn]

@[simp] theorem Blk.countIn_sw : (b.countIn port len).sw = b.sw := by simp [Blk.countIn]

@[simp] theorem Blk.countIn_tim : (b.countIn port len).tim = b.tim := by simp [Blk.countIn]

@[simp] theorem Blk.takesPtp_countIn (sub : Nat) (l : List Byte) : (b.countIn port len).takesPtp sub l = b.takesPtp sub l := by
  simp [Blk.takesPtp, Blk.hasTime, Blk.timeCfg]

@[simp] theorem Blk.stampedTime_countIn (t : Int) : (b.countIn port len).stampedTime t = b.stampedTime t := by
  simp [Blk.stampedTime]

@[simp] theorem Blk.rxCorrection_countIn (sub : Nat) : (b.countIn port len).rxCorrection sub = b.rxCorrection sub := by
  simp [Blk.rxCorrection]

end

/-! ### UPLINK_FRAME_RX (R304, R305, R313, R373) -/

/-- The time of an arrival on a sub-port, at its ball (R370). -/
def Blk.arrivalTime (b : Blk) (sub : Nat) (toa : Int) : Int := b.stampedTime (toa + b.rxCorrection sub)

/-- A frame that a sub-port takes whole, as it enters the switch. -/
def Blk.uplinkFrame (b : Blk) (sub : Nat) (l : List Byte) (toa : Int) : Frame where
  data := l.take (l.length - 4)
  input := 64 + sub
  stamp := b.clk.epoch
  toa := b.arrivalTime sub toa
  gen := b.tim.gen
  source := sub

/-- The message that waits for the time unit. -/
def Blk.ptpMessage (b : Blk) (sub : Nat) (l : List Byte) (toa : Int) : PtpIn where
  sub := sub
  bytes := (l.take (l.length - 4)).drop (14 + tagsLen (l.take (l.length - 4)).length ((l.take (l.length - 4)).drop 12))
  toa := b.arrivalTime sub toa
  stamp := b.clk.epoch

/-- A message put before the time unit. -/
def Blk.pushPtp (b : Blk) (m : PtpIn) : Blk := { b with tim := { b.tim with ptpIn := b.tim.ptpIn ++ [m] } }

theorem Blk.inside_pushPtp (b : Blk) (m : PtpIn) : b.Inside (b.pushPtp m) := .of_eq rfl rfl

theorem Blk.flowControl_off {b : Blk} {sub : Nat} (h : (b.sub sub).fc = 0) : b.flowControl sub = b := if_pos h

theorem uplinkFrameRx_eq (sub : Nat) (l : List Byte) (bad : Bool) (room : Room) (toa : Int) (s : State) :
    exec (.uplinkFrameRx sub l bad room toa) s = execUplinkFrameRx sub l bad room toa s := rfl

theorem uplinkFrameRx_down {sub : Nat} {s : State} (h : s.blk.subUp sub = false) (l : List Byte) (bad : Bool) (room : Room)
    (toa : Int) : exec (.uplinkFrameRx sub l bad room toa) s = .next s := by
  rw [uplinkFrameRx_eq, execUplinkFrameRx]
  exact State.svc_idle (if_pos (by simp [h]))

section
variable {sub : Nat} {s : State} (hp : s.blk.sys.phase = .service) (hup : s.blk.subUp sub = true) (l : List Byte) (spent : Bool)
  (toa : Int)
include hp hup

theorem uplinkFrameRx_overrun (bad : Bool) : exec (.uplinkFrameRx sub l bad ⟨true, spent⟩ toa) s
    = .next (s.put (s.blk.count 0x76 6 (64 + sub))) := by
  rw [uplinkFrameRx_eq, execUplinkFrameRx]
  exact State.svc_to _ hp (by simp [hup]) (s.blk.inside_count _ _ _)

/-- A bad frame, a long one or one with a wrong FCS goes no further where the sub-port does not cut through. -/
theorem uplinkFrameRx_stops {bad : Bool} (hwrong : bad = true ∨ (s.blk.sub sub).maxFrame < l.length ∨ fcsGood l = false)
    (hct : (s.blk.sub sub).ct = false) : exec (.uplinkFrameRx sub l bad ⟨false, spent⟩ toa) s
      = .next (s.put (s.blk.countIn (64 + sub) l.length)) := by
  have hwrong : (bad || decide ((s.blk.sub sub).maxFrame < l.length) || !fcsGood l) = true := by simpa [or_assoc] using hwrong
  rw [uplinkFrameRx_eq, execUplinkFrameRx]
  exact State.svc_to _ hp (by simp [hup, hwrong, hct]) (s.blk.inside_countIn _ _)

variable {l} (hlen : l.length ≤ (s.blk.sub sub).maxFrame) (hfcs : fcsGood l = true)
include hlen hfcs

/-- A good frame that is not the time unit's goes to the parsers. -/
theorem uplinkFrameRx_parses (hptp : s.blk.takesPtp sub (l.take (l.length - 4)) = false) (hfc : (s.blk.sub sub).fc = 0) :
    exec (.uplinkFrameRx sub l false ⟨false, spent⟩ toa) s = .next (s.put ((s.blk.countIn (64 + sub) l.length).toParser 1
      { s.blk.uplinkFrame sub l toa with cutThrough := (s.blk.sub sub).ct })) := by
  have hfc' : ∀ f, (((s.blk.countIn (64 + sub) l.length).toParser 1 f).sub sub).fc = 0 := fun f => by
    simpa [Blk.sub, Blk.toParser] using hfc
  rw [uplinkFrameRx_eq, execUplinkFrameRx]
  refine State.svc_to _ hp ?_ ((s.blk.inside_countIn _ _).trans (Blk.inside_toParser _ _ _))
  simp [hup, hlen.not_gt, hfcs, hptp, Blk.flowControl_off (hfc' _), Blk.uplinkFrame, Blk.arrivalTime]

/-- A good frame that is the time unit's is copied and waits for it. -/
theorem uplinkFrameRx_waits (hptp : s.blk.takesPtp sub (l.take (l.length - 4)) = true) :
    exec (.uplinkFrameRx sub l false ⟨false, spent⟩ toa) s = .next (s.put (((s.blk.countIn (64 + sub) l.length).plainCopies
      (s.blk.uplinkFrame sub l toa) spent).pushPtp (s.blk.ptpMessage sub l toa))) := by
  rw [uplinkFrameRx_eq, execUplinkFrameRx]
  refine State.svc_to _ hp ?_
    (((s.blk.inside_countIn _ _).trans (Blk.inside_plainCopies _ _ _)).trans (Blk.inside_pushPtp _ _))
  simp [hup, hlen.not_gt, hfcs, hptp, Blk.uplinkFrame, Blk.ptpMessage, Blk.arrivalTime, Blk.pushPtp]

end

/-! ### PAUSE_RX (R314) -/

theorem pauseRx_eq (sub : Nat) (f : PauseFrame) (s : State) : exec (.pauseRx sub f) s = execPauseRx sub f s := rfl

theorem pauseRx_down {sub : Nat} {s : State} (h : s.blk.subUp sub = false) (f : PauseFrame) :
    exec (.pauseRx sub f) s = .next s := by
  rw [pauseRx_eq, execPauseRx]
  exact State.svc_idle (if_pos (by simp [h]))

theorem pauseRx_holds {sub : Nat} {s : State} (hp : s.blk.sys.phase = .service) (hup : s.blk.subUp sub = true) (f : PauseFrame) :
    exec (.pauseRx sub f) s = .next (s.put ((s.blk.updSub sub (fun x =>
      { x with held := f.holds (s.blk.sub sub).held })).count 0x76 8 (64 + sub))) := by
  rw [pauseRx_eq, execPauseRx]
  refine State.svc_to _ hp ?_ ((s.blk.inside_updSub _ _).trans (Blk.inside_count _ _ _ _))
  simp [hup, PauseFrame.holds, Blk.updSub, Tab.upd, Blk.sub]

/-! ### A sub-port that goes down empties its queues (R319) -/

theorem Blk.queue_flushSub {b : Blk} (hwf : Tab.wf [] b.sw.queues = true) (sub : Nat) {k : Nat} (hk : k < 8) :
    (b.flushSub sub).queue (classQueue (64 + sub) k) = [] := by
  have hwrites : Tab.Writes [] (fun _ => True) (fun y : Blk => y.sw.queues) (classQueue (64 + sub)) (fun _ _ => [])
      (fun y i => y.setQueue (classQueue (64 + sub) i) []) := ⟨fun _ _ => trivial, fun _ _ => rfl⟩
  have hinj : Function.Injective (classQueue (64 + sub)) := fun i j h => by simpa [classQueue] using h
  exact hwrites.get_same (List.nodup_range.map hinj) trivial (by rwa [Blk.countN_sw]) (List.mem_range.mpr hk)

theorem Blk.queue_subDown {b : Blk} (hwf : Tab.wf [] b.sw.queues = true) (sub : Nat) {k : Nat} (hk : k < 8) :
    (b.subDown sub).queue (classQueue (64 + sub) k) = [] := by
  simpa only [Blk.queue, Blk.subDown, (Blk.syncKept_syncDown _ sub).sw, Blk.updSub_sw] using Blk.queue_flushSub hwf sub hk

theorem Blk.enable_of_subUp {b : Blk} {sub : Nat} (h : b.subUp sub = true) : (b.sub sub).enable = true := by
  simp only [Blk.subUp, Bool.and_eq_true] at h
  obtain ⟨⟨-, henable⟩, -⟩ := h
  exact henable

/-- An enabled sub-port that was taken down is not up, in a table of any form: its entry is not the one of reset. -/
theorem Blk.subUp_subDown {b : Blk} {sub : Nat} (h : (b.sub sub).enable = true) : (b.subDown sub).subUp sub = false := by
  obtain ⟨q, hq⟩ := b.subDown_sw sub
  have hne : (b.sub sub).lowered ≠ {} := fun he => by
    simpa [SubPort.lowered, h] using congrArg SubPort.enable he
  have hsub : (b.subDown sub).sub sub = (b.sub sub).lowered := by
    rw [Blk.sub, hq]
    exact Tab.get_set_nondefault _ _ _ _ hne
  simp [Blk.subUp, hsub, SubPort.lowered]

/-- b' agrees with b in the parsers, the directory and the trees. -/
structure Blk.FabricKept (b b' : Blk) : Prop where
  cls : b'.cls = b.cls
  dir : b'.dir = b.dir
  trees : b'.trees = b.trees

theorem Blk.FabricKept.trans {a b c : Blk} (h : a.FabricKept b) (k : b.FabricKept c) : a.FabricKept c :=
  ⟨k.cls.trans h.cls, k.dir.trans h.dir, k.trees.trans h.trees⟩

theorem Blk.fabricKept_flushSub (b : Blk) (sub : Nat) : b.FabricKept (b.flushSub sub) :=
  List.foldlRecOn (motive := b.FabricKept) _ _ ⟨b.countN_cls _ _ _ _, b.countN_dir _ _ _ _, b.countN_trees _ _ _ _⟩
    (fun _ h _ _ => h.trans ⟨rfl, rfl, rfl⟩)

theorem Blk.fabricKept_updSub (b : Blk) (sub : Nat) (f : SubPort → SubPort) : b.FabricKept (b.updSub sub f) := ⟨rfl, rfl, rfl⟩

theorem Blk.fabricKept_syncChoose (b : Blk) : b.FabricKept b.syncChoose := by
  unfold Blk.syncChoose
  dsimp only
  split
  · exact ⟨rfl, rfl, rfl⟩
  · constructor <;> simp

theorem Blk.fabricKept_syncSet (b : Blk) (i : Nat) (f : SyncSource → SyncSource) : b.FabricKept (b.syncSet i f) := by
  obtain ⟨hcls, hdir, htrees⟩ := Blk.fabricKept_syncChoose { b with tim := { b.tim with sync := Tab.upd {} b.tim.sync i f } }
  exact ⟨hcls, hdir, htrees⟩

theorem Blk.fabricKept_syncDown (b : Blk) (sub : Nat) : b.FabricKept (b.syncDown sub) :=
  List.foldlRecOn (motive := b.FabricKept) _ _ ⟨rfl, rfl, rfl⟩ (fun _ h _ _ => h.trans (Blk.fabricKept_syncSet _ _ _))

theorem Blk.fabricKept_subDown (b : Blk) (sub : Nat) : b.FabricKept (b.subDown sub) :=
  ((b.fabricKept_flushSub sub).trans (Blk.fabricKept_updSub _ sub SubPort.lowered)).trans (Blk.fabricKept_syncDown _ sub)

/-! ### SUB_PORT_LINK_DOWN, SUB_PORT_LINK_UP (R313, R319) -/

theorem subPortLinkDown_eq (sub : Nat) (s : State) : exec (.subPortLinkDown sub) s = execSubPortLinkDown sub s := rfl

theorem subPortLinkUp_eq (sub : Nat) (s : State) : exec (.subPortLinkUp sub) s = execSubPortLinkUp sub s := rfl

section
variable {sub : Nat} {s : State}

theorem subPortLinkDown_up (hp : s.blk.sys.phase = .service) (hup : s.blk.subUp sub = true) :
    exec (.subPortLinkDown sub) s = .next (s.put (s.blk.subDown sub)) := by
  rw [subPortLinkDown_eq, execSubPortLinkDown]
  exact State.svc_to _ hp (if_pos hup) (s.blk.inside_subDown sub)

theorem subPortLinkDown_down (h : s.blk.subUp sub = false) : exec (.subPortLinkDown sub) s = .next s := by
  rw [subPortLinkDown_eq, execSubPortLinkDown]
  exact State.svc_idle (if_neg (by simp [h]))

theorem subPortLinkUp_enabled (hp : s.blk.sys.phase = .service) (hformed : s.blk.subFormed sub = true)
    (henable : (s.blk.sub sub).enable = true) (hserving : s.blk.tele.islandRetired (71 + sub / 8) = false) :
    exec (.subPortLinkUp sub) s = .next (s.put (s.blk.updSub sub (fun x => { x with up := true }))) := by
  rw [subPortLinkUp_eq, execSubPortLinkUp]
  exact State.svc_to _ hp (if_pos (by simp [hformed, henable, hserving])) (s.blk.inside_updSub _ _)

theorem subPortLinkUp_disabled (h : (s.blk.sub sub).enable = false) : exec (.subPortLinkUp sub) s = .next s := by
  rw [subPortLinkUp_eq, execSubPortLinkUp]
  exact State.svc_idle (if_neg (by simp [h]))

end

/-- Settles O47, by what a sub-port does with a frame, a PAUSE and its link, while it is up and while it is not. -/
theorem uplinkPortsTakeFrames : Obligations.UplinkPortsTakeFrames := by
  unfold Obligations.UplinkPortsTakeFrames
  intro sub s hp b p
  refine ⟨fun hup => ⟨?overrun, ?stops, ?parses, ?waits, ?pause, ?pfc, ?linkDown⟩,
    fun hdown => ⟨uplinkFrameRx_down hdown, pauseRx_down hdown, subPortLinkDown_down hdown⟩,
    subPortLinkUp_enabled hp, subPortLinkUp_disabled⟩
  case overrun => exact fun l bad spent toa => uplinkFrameRx_overrun hp hup l spent toa bad
  case stops => exact fun l bad spent toa => uplinkFrameRx_stops hp hup l spent toa
  case parses => exact fun l spent toa => uplinkFrameRx_parses hp hup spent toa
  case waits =>
    intro l spent toa hlen hfcs hptp
    rw [uplinkFrameRx_waits hp hup spent toa hlen hfcs hptp]
    simp only [Blk.pushPtp, Blk.uplinkFrame, Blk.ptpMessage, Blk.arrivalTime, b]
  case pause =>
    intro f hf
    rw [pauseRx_holds hp hup, PauseFrame.holds_pause hf]
  case pfc => exact fun f hf => ⟨f.holds p.held, pauseRx_holds hp hup f, fun i hi => PauseFrame.getLsbD_holds_pfc hf _ hi⟩
  case linkDown =>
    have hkept := b.fabricKept_subDown sub
    have hempty : Tab.wf [] b.sw.queues = true → ∀ k < 8, (b.subDown sub).queue (classQueue (64 + sub) k) = [] :=
      fun hwf k hk => Blk.queue_subDown hwf sub hk
    exact ⟨_, subPortLinkDown_up hp hup, rfl, Blk.subUp_subDown (Blk.enable_of_subUp hup), hempty, hkept.cls, hkept.dir, hkept.trees⟩

end Sys2Proof.Machine

/-! PROOFS. The commands of the cipher engine and of the checks. -/
namespace Sys2Proof.Machine

/-! ### An opcode row whose application meets a fault (R55, R257, R331) -/

theorem Blk.inside_keepFindings (b after : Blk) : b.Inside (b.keepFindings after) := .of_eq rfl rfl

/-- An application that meets a fault keeps the findings alone. -/
theorem Blk.applyOp_faulted (b : Blk) (o : Op) (c : Cmd) (f : Cmd → Blk → Blk × Res) (n : Nat) (h : (f c b).2.st = .fault) :
    b.applyOp o c f n = (b.keepFindings (f c b).1).answer o.code c (f c b).2 b.clk.epoch (n % 2 ^ 32)
      (b.keepFindings (f c b).1).doneTime := by
  simp [Blk.applyOp, whole, h]

/-- An accepted command whose application meets a fault: the findings and the reply. -/
theorem exec_opcode_faults {i : Instr} {r : OpRow} {s : State} {after : Blk} {x : Res} (hrow : opRow s.blk.sys.part i = some r)
    (hm : movesPhase i = false) (hlive : s.Live) (hcheck : s.blk.acceptCheck r.op r.cmd = none)
    (hf : r.apply r.cmd s.blk = (after, x)) (hfault : x.st = .fault) :
    exec i s = .next (s.answered r.op r.cmd (s.blk.keepFindings after) x) := by
  have hst : (r.apply r.cmd s.blk).2.st = .fault := by rw [hf]; exact hfault
  rw [opcode_shape i r s hrow hm, State.opcode_eq, Blk.runOp_accepted _ _ _ _ hlive hcheck, Blk.applyOp_faulted _ _ _ _ _ hst, hf,
    ((s.blk.inside_keepFindings after).trans (Blk.spoken_answer _ _ _ _ _ _ _).inside).within_eq]
  rfl

/-! ### The key that KEY_LOAD carries, and its unwrap (R330, R354, R355) -/

section
variable (b : Blk) (c : Cmd)

theorem Blk.inside_cipherOp (i item : Nat) (unwrap : Bool) (bytes : Nat) : b.Inside (b.cipherOp i item unwrap bytes).1 :=
  (b.pointKept_cipherOp i item unwrap bytes).inside

theorem Blk.inside_loadOp (i item : Nat) : b.Inside (b.loadOp c i item).1 := by
  unfold Blk.loadOp
  split
  · exact b.inside_cipherOp _ _ _ _
  · exact .rfl' b

variable {b c}

theorem Blk.Inside.of_loadOp {i item : Nat} {d : Blk} {released : Bool} (h : b.loadOp c i item = (d, released)) : b.Inside d := by
  have hin := b.inside_loadOp c i item
  rwa [h] at hin

/-- Where no mismatch waits, an unwrap is released and changes nothing. -/
theorem Blk.cipherOp_unwrap_agrees (h : b.cip.upsets = []) (i item bytes : Nat) : b.cipherOp i item true bytes = (b, true) := by
  simp [Blk.cipherOp, h]

theorem Blk.loadOp_agrees (h : b.cip.upsets = []) (i item : Nat) : b.loadOp c i item = (b, true) := by
  unfold Blk.loadOp
  split
  · exact Blk.cipherOp_unwrap_agrees h _ _ _
  · rfl

/-- A key that is not wrapped is the command's own bytes. -/
theorem Blk.loadedKey_plain (h : c.b 0 60 = false) :
    b.loadedKey c = some (toLe (c.inl / 2 ^ 320) (if c.b 0 61 = true then 32 else 16)) := by
  simp only [Blk.loadedKey, keyMaterial, h, Bool.false_eq_true, if_false, Nat.add_zero]

end

/-! ### KEY_LOAD of an endpoint key (R355) -/

/-- A context with the key that KEY_LOAD carries, and its counters at their start. -/
def Ctx.keyed (x : Ctx) (c : Cmd) (wrapped : Nat) : Ctx :=
  { x with
    wrapped := wrapped, keyGen := c.f 0 59 29, keyLoaded := true, key256 := c.b 0 61, keyWarn := false,
    keySpent := false, txCounter := c.word 2, txLease := c.word 2, rxCounter := c.word 4 }

/-- The block after KEY_LOAD of an endpoint: `d` is the block after the unwrap, `x` the endpoint's context before. -/
def Blk.endpointKeyed (d : Blk) (c : Cmd) (x : Ctx) (key : List Byte) : Blk :=
  ((d.writeCtx (c.f 1 63 39) (x.keyed c (leNat (d.wrap key)))).updLease (c.f 1 63 39)
    (fun _ => { addr := c.word 3 })).startLease (c.f 1 63 39) (c.word 2)

theorem Blk.inside_endpointKeyed (d : Blk) (c : Cmd) (x : Ctx) (key : List Byte) : d.Inside (d.endpointKeyed c x key) :=
  ((d.inside_writeCtx _ _).trans (Blk.inside_updLease _ _ _)).trans (Blk.inside_startLease _ _ _)

section
variable {c : Cmd} {s : State} {d : Blk} (ht : s.Takes Op.keyLoadEndpoint c)
  (hmay : mayAct c.tenant (s.blk.endpointOwner (c.f 1 63 39)) = true) (hlatent : s.blk.dir.latent = []) (hfaults : s.blk.dir.faults = [])
include ht hmay hlatent hfaults

theorem keyLoadEndpoint_unused (hvalid : (Tab.get {} s.blk.dir.ctxs (c.f 1 63 39)).valid = false) :
    exec (.keyLoadEndpoint c) s = .next (s.answered Op.keyLoadEndpoint c s.blk (Res.badField 1 39)) := by
  have happly : applyKeyLoadEndpoint c s.blk = (s.blk, Res.badField 1 39) := by
    simp [applyKeyLoadEndpoint, hmay, Blk.readCtx_clean hlatent hfaults, hvalid]
  exact exec_opcode_fails (i := .keyLoadEndpoint c) rfl rfl ht.live ht.2 (congrArg Prod.snd happly) (by decide) (by decide)

variable (hvalid : (Tab.get {} s.blk.dir.ctxs (c.f 1 63 39)).valid = true)
include hvalid

theorem keyLoadEndpoint_loads {key : List Byte} (hop : s.blk.loadOp c (cipherOfEp (c.f 1 63 39)) (c.f 1 63 39) = (d, true))
    (hkey : s.blk.loadedKey c = some key) : exec (.keyLoadEndpoint c) s = .next (s.answered Op.keyLoadEndpoint c
      (d.endpointKeyed c (Tab.get {} s.blk.dir.ctxs (c.f 1 63 39)) key) {}) := by
  have happly : applyKeyLoadEndpoint c s.blk = (d.endpointKeyed c (Tab.get {} s.blk.dir.ctxs (c.f 1 63 39)) key, {}) := by
    simp [applyKeyLoadEndpoint, hmay, Blk.readCtx_clean hlatent hfaults, hvalid, hop, hkey, Blk.endpointKeyed, Ctx.keyed]
  exact exec_opcode_ok (i := .keyLoadEndpoint c) rfl rfl ht.live ht.2 happly rfl
    ((Blk.Inside.of_loadOp hop).trans (d.inside_endpointKeyed _ _ _))

theorem keyLoadEndpoint_no_key (hop : s.blk.loadOp c (cipherOfEp (c.f 1 63 39)) (c.f 1 63 39) = (d, true))
    (hkey : s.blk.loadedKey c = none) :
    exec (.keyLoadEndpoint c) s = .next (s.answered Op.keyLoadEndpoint c s.blk (Res.badField 5 0)) := by
  have happly : applyKeyLoadEndpoint c s.blk = (d, Res.badField 5 0) := by
    simp [applyKeyLoadEndpoint, hmay, Blk.readCtx_clean hlatent hfaults, hvalid, hop, hkey]
  exact exec_opcode_fails (i := .keyLoadEndpoint c) rfl rfl ht.live ht.2 (congrArg Prod.snd happly) (by decide) (by decide)

theorem keyLoadEndpoint_mismatch (hop : s.blk.loadOp c (cipherOfEp (c.f 1 63 39)) (c.f 1 63 39) = (d, false)) :
    exec (.keyLoadEndpoint c) s = .next (s.answered Op.keyLoadEndpoint c (s.blk.keepFindings d) Res.unwrapFault) := by
  have happly : applyKeyLoadEndpoint c s.blk = (d, Res.unwrapFault) := by
    simp [applyKeyLoadEndpoint, hmay, Blk.readCtx_clean hlatent hfaults, hvalid, hop]
  exact exec_opcode_faults (i := .keyLoadEndpoint c) rfl rfl ht.live ht.2 happly rfl

end

/-! ### KEY_LOAD of a carrier slot and of a tenant load key (R355) -/

/-- The block after KEY_LOAD of a carrier slot: `d` is the block after the unwrap. -/
def Blk.slotKeyed (d : Blk) (c : Cmd) (key : List Byte) : Blk :=
  d.updCarrier (c.f 1 63 42) (fun x => { x with
    slots := Tab.set none x.slots (c.f 0 28 27) (some { wrapped := d.wrap key, key256 := c.b 0 61, gen := c.f 0 59 29 }),
    cache := Tab.set [] x.cache (c.f 0 28 27) (if d.ciphered (c.f 1 63 42) = true then key else []),
    warn := x.warn.filter (· != c.f 0 28 27), spent := x.spent.filter (· != c.f 0 28 27) })

/-- The block after KEY_LOAD of a tenant load key: `d` is the block after the unwrap. -/
def Blk.tenantKeyed (d : Blk) (c : Cmd) (key : List Byte) : Blk :=
  { d with cip := { d.cip with loadKeys := Tab.set [] d.cip.loadKeys (c.f 1 63 57) (d.wrap key) } }

theorem Blk.inside_updCarrier (b : Blk) (flow : Nat) (f : CarrierKeys → CarrierKeys) : b.Inside (b.updCarrier flow f) :=
  .of_eq rfl rfl

theorem Blk.inside_tenantKeyed (d : Blk) (c : Cmd) (key : List Byte) : d.Inside (d.tenantKeyed c key) := .of_eq rfl rfl

section
variable {c : Cmd} {s : State} {d : Blk}

section
variable (ht : s.Takes Op.keyLoadCarrier c) (hmay : mayAct c.tenant (s.blk.carrierOwner (c.f 1 63 42)) = true)
include ht hmay

theorem keyLoadCarrier_active (hactive : s.blk.slotActive (c.f 1 63 42) (c.f 0 28 27) = true) :
    exec (.keyLoadCarrier c) s = .next (s.answered Op.keyLoadCarrier c s.blk (Res.badField 0 27)) := by
  have happly : applyKeyLoadCarrier c s.blk = (s.blk, Res.badField 0 27) := by simp [applyKeyLoadCarrier, hmay, hactive]
  exact exec_opcode_fails (i := .keyLoadCarrier c) rfl rfl ht.live ht.2 (congrArg Prod.snd happly) (by decide) (by decide)

variable (hactive : s.blk.slotActive (c.f 1 63 42) (c.f 0 28 27) = false)
include hactive

theorem keyLoadCarrier_standard (hmode : (s.blk.tree (flowTree (c.f 1 63 42))).mode ≠ .native) :
    exec (.keyLoadCarrier c) s = .next (s.answered Op.keyLoadCarrier c s.blk (Res.badField 1 42)) := by
  have happly : applyKeyLoadCarrier c s.blk = (s.blk, Res.badField 1 42) := by simp [applyKeyLoadCarrier, hmay, hactive, hmode]
  exact exec_opcode_fails (i := .keyLoadCarrier c) rfl rfl ht.live ht.2 (congrArg Prod.snd happly) (by decide) (by decide)

theorem keyLoadCarrier_loads {key : List Byte} (hmode : (s.blk.tree (flowTree (c.f 1 63 42))).mode = .native)
    (hop : s.blk.loadOp c (cipherOfTree (flowTree (c.f 1 63 42))) (c.f 1 63 42) = (d, true)) (hkey : s.blk.loadedKey c = some key) :
    exec (.keyLoadCarrier c) s = .next (s.answered Op.keyLoadCarrier c (d.slotKeyed c key) {}) := by
  have happly : applyKeyLoadCarrier c s.blk = (d.slotKeyed c key, {}) := by
    simp [applyKeyLoadCarrier, hmay, hactive, hmode, hop, hkey, Blk.slotKeyed]
  exact exec_opcode_ok (i := .keyLoadCarrier c) rfl rfl ht.live ht.2 happly rfl
    ((Blk.Inside.of_loadOp hop).trans (d.inside_updCarrier _ _))

end

theorem keyLoadTenant_loads {key : List Byte} (ht : s.Takes Op.keyLoadTenant c) (h0 : c.tenant = 0)
    (hop : s.blk.loadOp c 0 (c.f 1 63 57) = (d, true)) (hkey : s.blk.loadedKey c = some key) :
    exec (.keyLoadTenant c) s = .next (s.answered Op.keyLoadTenant c (d.tenantKeyed c key) {}) := by
  have happly : applyKeyLoadTenant c s.blk = (d.tenantKeyed c key, {}) := by
    simp [applyKeyLoadTenant, h0, hop, hkey, Blk.tenantKeyed]
  exact exec_opcode_ok (i := .keyLoadTenant c) rfl rfl ht.live ht.2 happly rfl
    ((Blk.Inside.of_loadOp hop).trans (d.inside_tenantKeyed _ _))

theorem keyLoadTenant_foreign (ht : s.Takes Op.keyLoadTenant c) (h : c.tenant ≠ 0) :
    exec (.keyLoadTenant c) s = .next (s.answered Op.keyLoadTenant c s.blk Res.deniedObject) :=
  exec_opcode_fails (i := .keyLoadTenant c) rfl rfl ht.live ht.2 (congrArg Prod.snd (if_pos h)) (by decide) (by decide)

/-! ### KEY_RETIRE (R356) -/

section
variable (ht : s.Takes Op.keyRetire c)
include ht

theorem keyRetire_endpoint (hkind : c.f 0 63 62 = 0) (hmay : mayAct c.tenant (s.blk.endpointOwner (c.f 1 63 39)) = true)
    (hlatent : s.blk.dir.latent = []) (hfaults : s.blk.dir.faults = []) :
    exec (.keyRetire c) s = .next (s.answered Op.keyRetire c (s.blk.writeCtx (c.f 1 63 39)
      { Tab.get {} s.blk.dir.ctxs (c.f 1 63 39) with wrapped := 0, keyLoaded := false }) {}) := by
  have happly : applyKeyRetire c s.blk = (s.blk.writeCtx (c.f 1 63 39)
      { Tab.get {} s.blk.dir.ctxs (c.f 1 63 39) with wrapped := 0, keyLoaded := false }, {}) := by
    simp [applyKeyRetire, hkind, hmay, Blk.readCtx_clean hlatent hfaults]
  exact exec_opcode_ok (i := .keyRetire c) rfl rfl ht.live ht.2 happly rfl (s.blk.inside_writeCtx _ _)

variable (hkind : c.f 0 63 62 ≠ 0) (hmay : mayAct c.tenant (s.blk.carrierOwner (c.f 1 63 42)) = true)
include hkind hmay

theorem keyRetire_slot (hactive : s.blk.slotActive (c.f 1 63 42) (c.f 0 61 60) = false) :
    exec (.keyRetire c) s = .next (s.answered Op.keyRetire c (s.blk.updCarrier (c.f 1 63 42) (fun x => { x with
      slots := Tab.set none x.slots (c.f 0 61 60) none, cache := Tab.set [] x.cache (c.f 0 61 60) [] })) {}) := by
  have happly : applyKeyRetire c s.blk = (s.blk.updCarrier (c.f 1 63 42) (fun x => { x with
      slots := Tab.set none x.slots (c.f 0 61 60) none, cache := Tab.set [] x.cache (c.f 0 61 60) [] }), {}) := by
    simp [applyKeyRetire, hkind, hmay, hactive]
  exact exec_opcode_ok (i := .keyRetire c) rfl rfl ht.live ht.2 happly rfl (s.blk.inside_updCarrier _ _)

theorem keyRetire_active (hactive : s.blk.slotActive (c.f 1 63 42) (c.f 0 61 60) = true) :
    exec (.keyRetire c) s = .next (s.answered Op.keyRetire c s.blk (Res.badField 0 60)) := by
  have happly : applyKeyRetire c s.blk = (s.blk, Res.badField 0 60) := by simp [applyKeyRetire, hkind, hmay, hactive]
  exact exec_opcode_fails (i := .keyRetire c) rfl rfl ht.live ht.2 (congrArg Prod.snd happly) (by decide) (by decide)

end

end

/-! ### CARRIER_CIPHER: its fields (R357) -/

/-- The carrier that CARRIER_CIPHER names is on a native tree. -/
abbrev Blk.CipherNative (b : Blk) (c : Cmd) : Prop := (b.tree (flowTree (c.f 0 63 42))).mode = .native

/-- The carrier's tree has room for one more ciphered carrier. -/
abbrev Blk.CipherRoom (b : Blk) (c : Cmd) : Prop :=
  ((cipheredOn (Vers.cur [] b.cip.cfg) (flowTree (c.f 0 63 42))).filter (· != c.f 0 63 42)).length < 1024

/-- The key in the slot that CARRIER_CIPHER names. -/
def Blk.cipherKey (b : Blk) (c : Cmd) : Option StoredKey := Tab.get none (b.carrier (c.f 0 63 42)).slots (c.f 0 39 38)

theorem startBad_nil {c : Cmd} {i : Nat} (hstep : c.word i % 2 ^ 20 = 0) (hstart : c.word i < spentAt)
    (haddr : c.word (i + 1) % 8 = 0) : startBad c i = [] := by
  unfold startBad
  rw [if_neg (not_or.mpr ⟨not_not.mpr hstep, Nat.not_le.mpr hstart⟩), if_neg (not_not.mpr haddr)]
  rfl

section
variable {c : Cmd} {b : Blk} (hpurpose : (Tab.get {} b.swCfg.carriers (c.f 0 63 42)).purpose = 1)
include hpurpose

/-- Where the counter of a native carrier starts, its slot holds a key, and TX_START and LEASE_ADDR are in form. -/
theorem Blk.carrierCipherBad_starts (hnative : b.CipherNative c) (hmode : c.f 0 41 40 ≠ 0) (hslot : c.f 0 39 38 ≠ 0)
    (hkey : (b.cipherKey c).isSome = true) (hnow : (b.cipherNow (c.f 0 63 42)).mode = 0) (hstart : startBad c 1 = []) :
    b.carrierCipherBad c = [] := by
  unfold Blk.cipherKey at hkey
  simp [Blk.carrierCipherBad, hpurpose, hnative, hmode, hslot, Option.isSome_iff_ne_none.mp hkey, hnow, hstart]

variable (hw1 : c.word 1 = 0) (hw2 : c.word 2 = 0)
include hw1 hw2

theorem Blk.carrierCipherBad_off (hnative : b.CipherNative c) (hmode : c.f 0 41 40 = 0) (hslot : c.f 0 39 38 = 0) :
    b.carrierCipherBad c = [] := by
  simp [Blk.carrierCipherBad, hpurpose, hnative, hmode, hslot, hw1, hw2]

theorem Blk.carrierCipherBad_switches (hnative : b.CipherNative c) (hmode : c.f 0 41 40 ≠ 0) (hslot : c.f 0 39 38 ≠ 0)
    (hkey : (b.cipherKey c).isSome = true) (hnow : (b.cipherNow (c.f 0 63 42)).mode ≠ 0) : b.carrierCipherBad c = [] := by
  unfold Blk.cipherKey at hkey
  simp [Blk.carrierCipherBad, hpurpose, hnative, hmode, hslot, Option.isSome_iff_ne_none.mp hkey, hnow, hw1, hw2]

theorem Blk.carrierCipherBad_standard (hnative : ¬ b.CipherNative c) (hmode : c.f 0 41 40 ≠ 2) (hslot : c.f 0 39 38 = 0) :
    b.carrierCipherBad c = [] := by
  simp [Blk.carrierCipherBad, hpurpose, hnative, hmode, hslot, hw1, hw2]

end

/-! ### CARRIER_CIPHER: its effect (R332, R340, R357) -/

/-- The block with MODE and KEY_SLOT of the carrier written. -/
def Blk.cipherSet (b : Blk) (c : Cmd) : Blk :=
  { b with cip := { b.cip with
    cfg := Vers.write [] b.cip.cfg b.clk.epoch (fun x => Tab.set {} x (c.f 0 63 42) { mode := c.f 0 41 40, slot := c.f 0 39 38 }) } }

/-- The same, where the carrier's frames name the key of its slot, of generation `gen`. -/
def Blk.cipherNamed (b : Blk) (c : Cmd) (gen : Nat) : Blk :=
  (b.cipherSet c).updFlow (c.f 0 63 42) (fun f => { f with dnKeyGen := gen, dnSlot := c.f 0 39 38 })

/-- The block once the counter of a carrier starts, with its keys in the cache and its first lease taken or on the way. -/
def Blk.cipherStarted (b : Blk) (c : Cmd) : Blk :=
  (((b.updFlow (c.f 0 63 42) (fun f => { f with dnCounter := c.word 1 })).updCarrier (c.f 0 63 42) (fun k => { k with
    leaseEnd := c.word 1, lease := { addr := c.word 2 } })).fillCache (c.f 0 63 42)).startLease (flowKey (c.f 0 63 42)) (c.word 1)

theorem Blk.inside_unwrapOp (b : Blk) (i item : Nat) (w : List Byte) : b.Inside (b.unwrapOp i item w).1 := by
  unfold Blk.unwrapOp
  dsimp only
  split
  · exact b.inside_cipherOp _ _ _ _
  · exact b.inside_cipherOp _ _ _ _

theorem Blk.inside_carrierKey (b : Blk) (flow slot : Nat) : b.Inside (b.carrierKey flow slot).1 := by
  unfold Blk.carrierKey
  dsimp only
  split
  · exact .rfl' b
  · exact .rfl' b
  · next k _ _ =>
    have hop := b.inside_unwrapOp (cipherOfTree (flowTree flow)) flow k.wrapped
    split
    · next h => rwa [h] at hop
    · next h =>
      rw [h] at hop
      exact hop.trans (.of_eq rfl rfl)

theorem Blk.inside_fillCache (b : Blk) (flow : Nat) : b.Inside (b.fillCache flow) :=
  Blk.inside_foldl _ (fun y slot => y.inside_carrierKey flow slot) _ _

theorem Blk.inside_cipherSet (b : Blk) (c : Cmd) : b.Inside (b.cipherSet c) := .of_eq rfl rfl

theorem Blk.inside_cipherNamed (b : Blk) (c : Cmd) (gen : Nat) : b.Inside (b.cipherNamed c gen) := .of_eq rfl rfl

theorem Blk.inside_cipherStarted (b : Blk) (c : Cmd) : b.Inside (b.cipherStarted c) := by
  refine .trans (.trans ?_ (Blk.inside_fillCache _ _)) (Blk.inside_startLease _ _ _)
  exact .of_eq rfl rfl

theorem Blk.not_cipherFull (b : Blk) {c : Cmd} (h : c.f 0 41 40 = 0 ∨ b.CipherRoom c) : ¬(c.f 0 41 40 ≠ 0
    ∧ 1024 ≤ ((cipheredOn (Vers.cur [] b.cip.cfg) (flowTree (c.f 0 63 42))).filter (· != c.f 0 63 42)).length) :=
  fun ⟨hmode, hfull⟩ => absurd (h.resolve_left hmode) (Nat.not_lt.mpr hfull)

section
variable {c : Cmd} {b : Blk} (hmay : mayAct c.tenant (b.carrierOwner (c.f 0 63 42)) = true) (hform : b.carrierCipherBad c = [])
include hmay hform

theorem applyCarrierCipher_standard (hnative : ¬ b.CipherNative c) (hroom : c.f 0 41 40 = 0 ∨ b.CipherRoom c) :
    applyCarrierCipher c b = (b.cipherSet c, {}) := by
  have hfits := b.not_cipherFull hroom
  simp [applyCarrierCipher, hmay, hform, least, hnative, hfits, Blk.cipherSet]

variable (hnative : b.CipherNative c)
include hnative

theorem applyCarrierCipher_spent (hmode : c.f 0 41 40 ≠ 0) (hspent : c.f 0 39 38 ∈ (b.carrier (c.f 0 63 42)).spent) :
    applyCarrierCipher c b = (b, Res.err .keySpent) := by
  simp [applyCarrierCipher, hmay, hform, least, hnative, hmode, hspent]

theorem applyCarrierCipher_off (hmode : c.f 0 41 40 = 0) (hkey : b.cipherKey c = none) :
    applyCarrierCipher c b = (b.cipherNamed c 0, {}) := by
  unfold Blk.cipherKey Blk.carrier at hkey
  simp [applyCarrierCipher, hmay, hform, least, hnative, hmode, Blk.carrier, hkey, Blk.cipherNamed, Blk.cipherSet]

variable {k : StoredKey} (hmode : c.f 0 41 40 ≠ 0) (hkey : b.cipherKey c = some k)
  (hfresh : c.f 0 39 38 ∉ (b.carrier (c.f 0 63 42)).spent) (hroom : b.CipherRoom c)
include hmode hkey hfresh hroom

theorem applyCarrierCipher_switches (hnow : (b.cipherNow (c.f 0 63 42)).mode ≠ 0) :
    applyCarrierCipher c b = (b.cipherNamed c k.gen, {}) := by
  have hfits := eq_false (Nat.not_le.mpr hroom)
  unfold Blk.cipherKey Blk.carrier at hkey
  unfold Blk.carrier at hfresh
  simp [applyCarrierCipher, hmay, hform, least, hnative, hmode, Blk.carrier, hkey, hfresh, hnow, Blk.cipherNamed, Blk.cipherSet, hfits]

theorem applyCarrierCipher_starts (hnow : (b.cipherNow (c.f 0 63 42)).mode = 0) :
    applyCarrierCipher c b = ((b.cipherNamed c k.gen).cipherStarted c, {}) := by
  have hfits := eq_false (Nat.not_le.mpr hroom)
  unfold Blk.cipherKey Blk.carrier at hkey
  unfold Blk.carrier at hfresh
  simp [applyCarrierCipher, hmay, hform, least, hnative, hmode, Blk.carrier, hkey, hfresh, hnow, Blk.cipherNamed, Blk.cipherSet,
    Blk.cipherStarted, hfits]

end

section
variable {c : Cmd} {s : State} (ht : s.Takes Op.carrierCipher c)
include ht

theorem carrierCipher_foreign (h : mayAct c.tenant (s.blk.carrierOwner (c.f 0 63 42)) = false) :
    exec (.carrierCipher c) s = .next (s.answered Op.carrierCipher c s.blk Res.deniedObject) :=
  exec_opcode_fails (i := .carrierCipher c) rfl rfl ht.live ht.2 (congrArg Prod.snd (if_pos (by simp [h]))) (by decide) (by decide)

variable (hmay : mayAct c.tenant (s.blk.carrierOwner (c.f 0 63 42)) = true) (hform : s.blk.carrierCipherBad c = [])
include hmay hform

theorem carrierCipher_standard (hnative : ¬ s.blk.CipherNative c) (hroom : c.f 0 41 40 = 0 ∨ s.blk.CipherRoom c) :
    exec (.carrierCipher c) s = .next (s.answered Op.carrierCipher c (s.blk.cipherSet c) {}) :=
  exec_opcode_ok (i := .carrierCipher c) rfl rfl ht.live ht.2 (applyCarrierCipher_standard hmay hform hnative hroom) rfl
    (s.blk.inside_cipherSet c)

variable (hnative : s.blk.CipherNative c)
include hnative

theorem carrierCipher_spent (hmode : c.f 0 41 40 ≠ 0) (hspent : c.f 0 39 38 ∈ (s.blk.carrier (c.f 0 63 42)).spent) :
    exec (.carrierCipher c) s = .next (s.answered Op.carrierCipher c s.blk (Res.err .keySpent)) :=
  exec_opcode_fails (i := .carrierCipher c) rfl rfl ht.live ht.2
    (congrArg Prod.snd (applyCarrierCipher_spent hmay hform hnative hmode hspent)) (by decide) (by decide)

theorem carrierCipher_off (hmode : c.f 0 41 40 = 0) (hkey : s.blk.cipherKey c = none) :
    exec (.carrierCipher c) s = .next (s.answered Op.carrierCipher c (s.blk.cipherNamed c 0) {}) :=
  exec_opcode_ok (i := .carrierCipher c) rfl rfl ht.live ht.2 (applyCarrierCipher_off hmay hform hnative hmode hkey) rfl
    (s.blk.inside_cipherNamed c 0)

variable {k : StoredKey} (hmode : c.f 0 41 40 ≠ 0) (hkey : s.blk.cipherKey c = some k)
  (hfresh : c.f 0 39 38 ∉ (s.blk.carrier (c.f 0 63 42)).spent) (hroom : s.blk.CipherRoom c)
include hmode hkey hfresh hroom

theorem carrierCipher_switches (hnow : (s.blk.cipherNow (c.f 0 63 42)).mode ≠ 0) :
    exec (.carrierCipher c) s = .next (s.answered Op.carrierCipher c (s.blk.cipherNamed c k.gen) {}) :=
  exec_opcode_ok (i := .carrierCipher c) rfl rfl ht.live ht.2
    (applyCarrierCipher_switches hmay hform hnative hmode hkey hfresh hroom hnow) rfl (s.blk.inside_cipherNamed c _)

theorem carrierCipher_starts (hnow : (s.blk.cipherNow (c.f 0 63 42)).mode = 0) :
    exec (.carrierCipher c) s = .next (s.answered Op.carrierCipher c ((s.blk.cipherNamed c k.gen).cipherStarted c) {}) :=
  exec_opcode_ok (i := .carrierCipher c) rfl rfl ht.live ht.2
    (applyCarrierCipher_starts hmay hform hnative hmode hkey hfresh hroom hnow) rfl
    ((s.blk.inside_cipherNamed c _).trans (Blk.inside_cipherStarted _ c))

end

/-! ### CHECK_CONFIG and CHECK_RESTORE (R359, R360) -/

section
variable {c : Cmd} {s : State} (ht : s.Takes Op.checkConfig c)
include ht

theorem checkConfig_takes (hmay : mayAct c.tenant (Tab.get 0 s.blk.owners.block (c.f 0 63 51)) = true) :
    exec (.checkConfig c) s = .next (s.answered Op.checkConfig c { s.blk with dir := { s.blk.dir with
      blocks := Tab.set {} s.blk.dir.blocks (c.f 0 63 51) { aliveW := c.f 0 50 36, runScope := c.f 0 35 34 },
      blockFaults := Tab.set none s.blk.dir.blockFaults (c.f 0 63 51) none } } {}) :=
  exec_opcode_ok (i := .checkConfig c) rfl rfl ht.live ht.2 (if_neg (by simp [hmay])) rfl (.of_eq rfl rfl)

theorem checkConfig_foreign (h : mayAct c.tenant (Tab.get 0 s.blk.owners.block (c.f 0 63 51)) = false) :
    exec (.checkConfig c) s = .next (s.answered Op.checkConfig c s.blk Res.deniedObject) :=
  exec_opcode_fails (i := .checkConfig c) rfl rfl ht.live ht.2 (congrArg Prod.snd (if_pos (by simp [h]))) (by decide) (by decide)

end

/-- A context with the check and the alive state of record `i`. -/
def Ctx.checkRestored (x : Ctx) (ext : List Byte) (i : Nat) : Ctx :=
  { x with
    checkValue := leWord ext (2 * i), aliveLast := bits (leWord ext (2 * i + 1)) 63 48,
    aliveSeen := bit (leWord ext (2 * i + 1)) 47 }

/-- CHECK_RESTORE of the i-th endpoint of the range, from its context in `b`. -/
def Blk.checkRestoreOne (b : Blk) (c : Cmd) (y : Blk) (i : Nat) : Blk :=
  y.writeCtx ((epRange c).1 + i) ((Tab.get {} b.dir.ctxs ((epRange c).1 + i)).checkRestored c.ext i)

/-- CHECK_RESTORE of the whole range. -/
def Blk.checkRestoreAll (b : Blk) (c : Cmd) : Blk := (List.range (epRange c).2).foldl (b.checkRestoreOne c) b

theorem Blk.writes_checkRestoreOne (b : Blk) (c : Cmd) : Tab.Writes {} b.Directed (fun y => y.dir.ctxs)
    (fun i => (epRange c).1 + i) (fun i _ => (Tab.get {} b.dir.ctxs ((epRange c).1 + i)).checkRestored c.ext i)
    (b.checkRestoreOne c) where
  keep _ h := h.trans ⟨_, rfl⟩
  write _ _ := rfl

theorem Blk.directed_checkRestoreAll (b : Blk) (c : Cmd) : b.Directed (b.checkRestoreAll c) :=
  (b.writes_checkRestoreOne c).foldl_keep _ (.rfl' b)

theorem Blk.get_checkRestoreAll {b : Blk} (hwf : Tab.wf {} b.dir.ctxs = true) {c : Cmd} {i : Nat} (hi : i < (epRange c).2) :
    Tab.get {} (b.checkRestoreAll c).dir.ctxs ((epRange c).1 + i)
      = (Tab.get {} b.dir.ctxs ((epRange c).1 + i)).checkRestored c.ext i :=
  (b.writes_checkRestoreOne c).get_same (epList_nodup c) (.rfl' b) hwf (List.mem_range.mpr hi)

theorem Blk.get_checkRestoreAll_other (b : Blk) {c : Cmd} {e : Nat} (he : ∀ i < (epRange c).2, e ≠ (epRange c).1 + i) :
    Tab.get {} (b.checkRestoreAll c).dir.ctxs e = Tab.get {} b.dir.ctxs e :=
  (b.writes_checkRestoreOne c).get_other _ (.rfl' b) (fun i hi => he i (List.mem_range.mp hi))

/-- The contexts of the range beside their endpoints and their numbers. -/
theorem zip_epList (c : Cmd) (read : Nat → Ctx) : (epList c).zip (((epList c).map read).zip (List.range (epRange c).2))
    = (List.range (epRange c).2).map (fun i => ((epRange c).1 + i, read ((epRange c).1 + i), i)) := by
  refine List.ext_getElem (by simp [epList]) (fun i _ _ => ?_)
  simp [epList]

theorem checkRecBad_eq_false {ext : List Byte} {i poly : Nat} (hpoly : bits (leWord ext (2 * i + 1)) 46 44 = poly)
    (hvalue : leWord ext (2 * i) < 256 ^ checkWidth poly) : checkRecBad ext i poly = false := by
  simp [checkRecBad, hpoly, hvalue]

theorem applyCheckRestore_takes {c : Cmd} {b : Blk} (hmay : mayAct c.tenant (b.endpointOwner (epRange c).1) = true)
    (hlatent : b.dir.latent = []) (hfaults : b.dir.faults = [])
    (hform : ∀ i < (epRange c).2, checkRecBad c.ext i (Tab.get {} b.dir.ctxs ((epRange c).1 + i)).poly = false) :
    applyCheckRestore c b = (b.checkRestoreAll c, {}) := by
  unfold applyCheckRestore
  rw [if_neg (by simp [hmay])]
  simp only [Blk.readAll_clean hlatent hfaults, zip_epList, List.foldl_map]
  refine if_neg ?_
  simpa using hform

theorem checkRestore_takes {c : Cmd} {s : State} (ht : s.Takes Op.checkRestore c)
    (hmay : mayAct c.tenant (s.blk.endpointOwner (epRange c).1) = true) (hlatent : s.blk.dir.latent = [])
    (hfaults : s.blk.dir.faults = [])
    (hform : ∀ i < (epRange c).2, checkRecBad c.ext i (Tab.get {} s.blk.dir.ctxs ((epRange c).1 + i)).poly = false) :
    exec (.checkRestore c) s = .next (s.answered Op.checkRestore c (s.blk.checkRestoreAll c) {}) :=
  exec_opcode_ok (i := .checkRestore c) rfl rfl ht.live ht.2 (applyCheckRestore_takes hmay hlatent hfaults hform) rfl
    (s.blk.directed_checkRestoreAll c).inside

/-- Settles O58, command by command: KEY_LOAD by what its unwrap and its key come to, CARRIER_CIPHER by the mode of the tree and by
whether the carrier's counter starts, CHECK_RESTORE by the writes of its range. -/
theorem keysCiphersAndChecksAreConfigured : Obligations.KeysCiphersAndChecksAreConfigured := by
  unfold Obligations.KeysCiphersAndChecksAreConfigured
  intro c s b tables clean mayRange ep
  refine ⟨fun ht hmay ⟨hlatent, hfaults⟩ => ⟨fun hvalid => ⟨?epLoads, ?epNoKey, ?epMismatch⟩, ?epUnused⟩,
    fun ht hmay => ⟨?slotLoads, keyLoadCarrier_active ht hmay, keyLoadCarrier_standard ht hmay⟩,
    fun ht => ⟨?tenantLoads, keyLoadTenant_foreign ht⟩,
    Blk.loadOp_agrees, Blk.loadedKey_plain,
    fun ht => ⟨fun hkind hmay ⟨hlatent, hfaults⟩ => keyRetire_endpoint ht hkind hmay hlatent hfaults,
      fun hkind hmay => ⟨keyRetire_slot ht hkind hmay, keyRetire_active ht hkind hmay⟩⟩,
    fun ht hmay hpurpose => ⟨?off, ?starts, ?switches, ?spent, ?standard⟩,
    carrierCipher_foreign, fun ht => ⟨checkConfig_takes ht, checkConfig_foreign ht⟩,
    fun ht hmay ⟨hlatent, hfaults⟩ hwf hrecs => ?restore⟩
  case epLoads => exact fun key hop => keyLoadEndpoint_loads ht hmay hlatent hfaults hvalid (Prod.ext rfl hop)
  case epNoKey => exact fun hop => keyLoadEndpoint_no_key ht hmay hlatent hfaults hvalid (Prod.ext rfl hop)
  case epMismatch => exact fun hop => keyLoadEndpoint_mismatch ht hmay hlatent hfaults hvalid (Prod.ext rfl hop)
  case epUnused => exact keyLoadEndpoint_unused ht hmay hlatent hfaults
  case slotLoads => exact fun key hactive hmode hop => keyLoadCarrier_loads ht hmay hactive hmode (Prod.ext rfl hop)
  case tenantLoads => exact fun key h0 hop => keyLoadTenant_loads ht h0 (Prod.ext rfl hop)
  case off =>
    intro hnative hmode hslot hw1 hw2 hkey
    have hkey' : b.cipherKey c = none := by rw [Blk.cipherKey, hslot]; exact hkey
    have hexec := carrierCipher_off ht hmay (Blk.carrierCipherBad_off hpurpose hw1 hw2 hnative hmode hslot) hnative hmode hkey'
    rwa [Blk.cipherNamed, hslot] at hexec
  case starts =>
    intro k hnative hmode hslot hkey hfresh hnow hstep hstart haddr hroom
    have hform := Blk.carrierCipherBad_starts hpurpose hnative hmode hslot (Option.isSome_of_eq_some hkey) hnow
      (startBad_nil hstep hstart haddr)
    exact carrierCipher_starts ht hmay hform hnative hmode hkey hfresh hroom hnow
  case switches =>
    intro k hnative hmode hslot hkey hfresh hnow hw1 hw2 hroom
    have hform := Blk.carrierCipherBad_switches hpurpose hw1 hw2 hnative hmode hslot (Option.isSome_of_eq_some hkey) hnow
    exact carrierCipher_switches ht hmay hform hnative hmode hkey hfresh hroom hnow
  case spent =>
    intro hnative hmode hslot hkey hspent hnow hw1 hw2
    have hform := Blk.carrierCipherBad_switches hpurpose hw1 hw2 hnative hmode hslot hkey hnow
    exact carrierCipher_spent ht hmay hform hnative hmode hspent
  case standard =>
    intro hnative hmode hslot hw1 hw2 hroom
    exact carrierCipher_standard ht hmay (Blk.carrierCipherBad_standard hpurpose hw1 hw2 hnative hmode hslot) hnative hroom
  case restore =>
    have hform (i : Nat) (hi : i < (epRange c).2) :=
      have ⟨hpoly, hvalue⟩ := hrecs i hi
      checkRecBad_eq_false hpoly hvalue
    exact ⟨_, checkRestore_takes ht hmay hlatent hfaults hform, (b.directed_checkRestoreAll c).eq,
      fun i => Blk.get_checkRestoreAll hwf, fun e => b.get_checkRestoreAll_other⟩

end Sys2Proof.Machine

/-! PROOFS. The time unit: its rows lie inside a unit's frame, what its sources do to it, and what it sends. -/
namespace Sys2Proof.Machine

/-! ### A row of the time unit (R3) -/

section
variable {s : State} {f : Blk → Blk}

/-- In service, on a part with a time unit, where the effect lies inside the unit's frame. -/
theorem State.timeRow_to (b : Blk) (hp : s.blk.sys.phase = .service) (ht : s.blk.hasTime = true) (hf : f s.blk = b)
    (hin : s.blk.Inside b) : s.svc (fun b => b.timeOnly f) = .next (s.put b) :=
  State.svc_to b hp ((if_pos ht).trans hf) hin

/-- A row of the time unit that finds nothing to do. -/
theorem State.timeRow_idle (hf : f s.blk = s.blk) : s.svc (fun b => b.timeOnly f) = .next s :=
  State.svc_idle (by rw [Blk.timeOnly, hf, ite_self])

end

/-! ### The servo and its offsets lie inside a unit's frame (R365 to R367) -/

section
variable (b : Blk)

/-- What the time unit alone keeps is no part of the frame. -/
theorem Blk.inside_tim (t : Tim) : b.Inside { b with tim := t } := .of_eq rfl rfl

theorem Blk.inside_settle : b.Inside b.settle := b.inside_tim _

theorem Blk.inside_servoTo (st : Servo) : b.Inside (b.servoTo st) := by
  unfold Blk.servoTo
  dsimp only
  split
  · exact .rfl' b
  · exact ((b.inside_tim _).trans (Blk.inside_settle _)).trans (Blk.inside_vent _ _)

theorem Blk.inside_servoFollow : b.Inside b.servoFollow := by
  unfold Blk.servoFollow
  split
  · split
    · exact b.inside_servoTo _
    · exact .rfl' b
  · split
    · exact b.inside_servoTo _
    · exact b.inside_servoTo _
    · exact .rfl' b
    · extract_lets within run
      split
      · exact b.inside_servoTo _
      · exact b.inside_tim _

theorem Blk.inside_jumpRecord : b.Inside b.jumpRecord := by
  unfold Blk.jumpRecord
  extract_lets due
  split
  · exact (b.inside_tim _).trans (Blk.inside_vent _ _)
  · exact .rfl' b

theorem Blk.inside_jumpFound (before off : Int) : b.Inside (b.jumpFound before off) := by
  unfold Blk.jumpFound
  extract_lets t found u held
  have hfound : b.Inside found := (b.inside_tim _).trans (Blk.inside_count _ _ _ _)
  have hheld : found.Inside held := by
    unfold held
    split
    · exact found.inside_servoTo _
    · exact .rfl' found
  split
  · exact hfound.trans (found.inside_tim _)
  · exact (hfound.trans hheld).trans (Blk.inside_jumpRecord _)

theorem Blk.inside_rawOffset (off : Int) : b.Inside (b.rawOffset off) := by
  unfold Blk.rawOffset
  extract_lets u x t limit before raws
  have ht (t' : Tim) : b.Inside { x with tim := t' } := b.inside_tim t'
  split
  · split
    · exact ((ht _).trans (Blk.inside_jumpRecord _)).trans (Blk.inside_servoFollow _)
    · exact (ht _).trans (Blk.inside_servoFollow _)
  · split
    · exact ((ht _).trans (Blk.inside_jumpFound _ _ _)).trans (Blk.inside_servoFollow _)
    · split
      · split
        · exact ((ht _).trans (Blk.inside_jumpFound _ _ _)).trans (Blk.inside_servoFollow _)
        · exact (ht _).trans (Blk.inside_servoFollow _)
      · exact (ht _).trans (Blk.inside_servoFollow _)

theorem Blk.inside_syncOffset (sub : Nat) (origin arrival : Int) : b.Inside (b.syncOffset sub origin arrival) := by
  unfold Blk.syncOffset
  extract_lets p asym t x
  have hx : b.Inside x := b.inside_tim _
  split
  · exact hx.trans (x.inside_rawOffset _)
  · exact hx

end

/-! ### PPS_OUT_PULSE (R378) -/

section
variable {s : State} (hp : s.blk.sys.phase = .service) (ht : s.blk.hasTime = true)

include hp ht in
theorem ppsOutPulse_leaves (hon : s.blk.timeCfg.outEn = true) (hvalid : s.blk.timeCfg.squelch = true → s.blk.tim.valid = true) :
    exec .ppsOutPulse s = .next (s.put (s.blk.emit (.ppsOut (-s.blk.timeCfg.outComp) s.blk.timeCfg.outWidth))) := by
  have hdue : (s.blk.timeCfg.outEn && (!s.blk.timeCfg.squelch || s.blk.tim.valid)) = true := by
    cases hsq : s.blk.timeCfg.squelch with
    | false => simp [hon]
    | true => simp [hon, hvalid hsq]
  exact State.timeRow_to _ hp ht (if_pos hdue) (s.blk.inside_emit _)

theorem ppsOutPulse_silent (h : s.blk.timeCfg.outEn = false ∨ s.blk.timeCfg.squelch = true ∧ s.blk.tim.valid = false) :
    exec .ppsOutPulse s = .next s := by
  refine State.timeRow_idle (if_neg ?_)
  rcases h with hoff | ⟨hsq, hinv⟩
  · simp [hoff]
  · simp [hsq, hinv]

/-! ### SOURCE_TIMEOUT, HO_VALID_EXPIRY (R365, R366) -/

/-- The block once its source delivers no more offsets. -/
def Blk.undelivered (b : Blk) : Blk := { b with tim := { b.tim with delivers := false } }

theorem Blk.sourceLost_eq (b : Blk) : b.sourceLost = match b.tim.servo with
    | .locked => (b.undelivered.count 0x94 0 82).servoTo .holdover
    | .acquiring => (b.undelivered.count 0x94 0 82).servoTo (if b.tim.valid then .holdover else .freerun)
    | _ => b.undelivered := rfl

section
variable {b : Blk}

theorem Blk.sourceLost_locked (h : b.tim.servo = .locked) :
    b.sourceLost = (b.undelivered.count 0x94 0 82).servoTo .holdover := by rw [Blk.sourceLost_eq, h]

theorem Blk.sourceLost_acquiring (h : b.tim.servo = .acquiring) :
    b.sourceLost = (b.undelivered.count 0x94 0 82).servoTo (if b.tim.valid = true then .holdover else .freerun) := by
  rw [Blk.sourceLost_eq, h]

theorem Blk.sourceLost_unlocked (h : b.tim.servo = .freerun ∨ b.tim.servo = .holdover) : b.sourceLost = b.undelivered := by
  rcases h with h | h <;> rw [Blk.sourceLost_eq, h]

end

theorem Blk.inside_undelivered (b : Blk) : b.Inside b.undelivered := .of_eq rfl rfl

theorem Blk.inside_sourceLost (b : Blk) : b.Inside b.sourceLost := by
  have hcounted (st : Servo) : b.Inside ((b.undelivered.count 0x94 0 82).servoTo st) :=
    (b.inside_undelivered.trans (Blk.inside_count _ _ _ _)).trans (Blk.inside_servoTo _ _)
  cases h : b.tim.servo with
  | freerun => exact Blk.sourceLost_unlocked (.inl h) ▸ b.inside_undelivered
  | acquiring => exact Blk.sourceLost_acquiring h ▸ hcounted _
  | locked => exact Blk.sourceLost_locked h ▸ hcounted _
  | holdover => exact Blk.sourceLost_unlocked (.inr h) ▸ b.inside_undelivered

include hp ht in
theorem sourceTimeout_lost (hsrc : s.blk.timeCfg.src ≠ 0) : exec .sourceTimeout s = .next (s.put s.blk.sourceLost) :=
  State.timeRow_to _ hp ht (if_neg hsrc) s.blk.inside_sourceLost

theorem sourceTimeout_none (hsrc : s.blk.timeCfg.src = 0) : exec .sourceTimeout s = .next s :=
  State.timeRow_idle (if_pos hsrc)

theorem Blk.held_of_leftLocked {b : Blk} {left : Nat} (h : b.tim.leftLocked = some left) :
    b.held = decide (b.clk.fc ≤ left + 8000 * b.timeCfg.hoValid) := by
  simp [Blk.held, h]

include hp ht in
theorem hoValidExpiry_expires {left : Nat} (hleft : s.blk.tim.leftLocked = some left)
    (hservo : s.blk.tim.servo = .holdover ∨ s.blk.tim.servo = .acquiring)
    (hover : left + 8000 * s.blk.timeCfg.hoValid < s.blk.clk.fc) :
    exec .hoValidExpiry s = .next (s.put { s.blk with tim := { s.blk.tim with valid := false } }) :=
  State.timeRow_to _ hp ht (if_pos ⟨hservo, by simp [Blk.held_of_leftLocked hleft, hover]⟩) (.of_eq rfl rfl)

theorem hoValidExpiry_holds {left : Nat} (hleft : s.blk.tim.leftLocked = some left)
    (hin : s.blk.clk.fc ≤ left + 8000 * s.blk.timeCfg.hoValid) : exec .hoValidExpiry s = .next s :=
  State.timeRow_idle (if_neg fun h => by simp [Blk.held_of_leftLocked hleft, hin] at h)

/-! ### PPS_IN_EDGE (R379) -/

/-- An integer second in the units of the time base. -/
def secondTime : Int := 65536000000000

/-- The timestamp of an edge at the balls. -/
def Blk.edgeStamp (b : Blk) (edge : Int) : Int := edge - (b.timeCfg.inComp : Int) * 65536 / 10

/-- What a pulse's time is off the integer second nearest to it. -/
def pulseOffset (stamp : Int) : Int := (stamp + secondTime / 2) / secondTime * secondTime - stamp

/-- The block once a pulse came in time. -/
def Blk.pulseKept (b : Blk) (stamp : Int) : Blk := { b with tim := { b.tim with missing := 0, lastPulse := some stamp } }

/-- The block once an edge counted as a missing pulse; `last` is the pulse that the next edge is held against. -/
def Blk.pulseMissed (b : Blk) (last : Option Int) : Blk :=
  Blk.count { b with tim := { b.tim with missing := b.tim.missing + 1, lastPulse := last } } 0x94 3 82

theorem Blk.inside_pulseKept (b : Blk) (stamp : Int) : b.Inside (b.pulseKept stamp) := .of_eq rfl rfl

theorem Blk.inside_pulseMissed (b : Blk) (last : Option Int) : b.Inside (b.pulseMissed last) :=
  (b.inside_tim _).trans (Blk.inside_count _ _ _ _)

theorem ppsInEdge_off (hoff : s.blk.timeCfg.inEn = false) (edge : Int) : exec (.ppsInEdge edge) s = .next s :=
  State.timeRow_idle (if_pos (by simp [hoff]))

section
include hp ht
variable (hon : s.blk.timeCfg.inEn = true) {edge : Int}
include hon

theorem ppsInEdge_inTime (hgap : ∀ p, s.blk.tim.lastPulse = some p → 9 * secondTime ≤ 10 * (s.blk.edgeStamp edge - p)
      ∧ 10 * (s.blk.edgeStamp edge - p) ≤ 11 * secondTime) :
    exec (.ppsInEdge edge) s = .next (s.put (if s.blk.timeCfg.src = 2
      then (s.blk.pulseKept (s.blk.edgeStamp edge)).rawOffset (pulseOffset (s.blk.edgeStamp edge))
      else s.blk.pulseKept (s.blk.edgeStamp edge))) := by
  refine State.timeRow_to _ hp ht ?_ ?_
  · refine (if_neg (by simp [hon])).trans ((if_neg ?_).trans rfl)
    cases hlast : s.blk.tim.lastPulse with
    | none => simp
    | some p =>
      obtain ⟨hlo, hhi⟩ := hgap p hlast
      simp only [Blk.edgeStamp, secondTime] at hlo hhi
      simp only [Option.map_some, Bool.or_eq_true, decide_eq_true_eq]
      omega
  · split
    · exact (s.blk.inside_pulseKept _).trans (Blk.inside_rawOffset _ _)
    · exact s.blk.inside_pulseKept _

variable (hsrc : s.blk.timeCfg.src ≠ 2) {p : Int} (hlast : s.blk.tim.lastPulse = some p)
include hsrc hlast

theorem ppsInEdge_early (hgap : 10 * (s.blk.edgeStamp edge - p) < 9 * secondTime) :
    exec (.ppsInEdge edge) s = .next (s.put (s.blk.pulseMissed s.blk.tim.lastPulse)) := by
  have hearly : (s.blk.edgeStamp edge - p) * 10 < 589824000000000 := by simp only [secondTime] at hgap; omega
  simp only [Blk.edgeStamp, Blk.timeCfg] at hearly hsrc hon
  refine State.timeRow_to _ hp ht ?_ (s.blk.inside_pulseMissed _)
  simp [Blk.timeCfg, hon, hlast, hearly, hsrc, Blk.pulseMissed]

theorem ppsInEdge_late (hgap : 11 * secondTime < 10 * (s.blk.edgeStamp edge - p)) :
    exec (.ppsInEdge edge) s = .next (s.put (s.blk.pulseMissed (some (s.blk.edgeStamp edge)))) := by
  have hlate : 720896000000000 < (s.blk.edgeStamp edge - p) * 10 := by simp only [secondTime] at hgap; omega
  have hearly : ¬(s.blk.edgeStamp edge - p) * 10 < 589824000000000 := by omega
  simp only [Blk.edgeStamp, Blk.timeCfg] at hlate hearly hsrc hon
  refine State.timeRow_to _ hp ht ?_ (s.blk.inside_pulseMissed _)
  simp [Blk.timeCfg, hon, hlast, hearly, hlate, hsrc, Blk.pulseMissed, Blk.edgeStamp]

end
end

/-! ### PTP_MESSAGE_RX (R26, R28, R373) -/

/-- The block under the version of the time unit's configuration that a stamp names. -/
def Blk.asStamped (b : Blk) (stamp : Nat) : Blk :=
  { b with tim := { b.tim with cfg := [(0, Vers.at {} b.tim.cfg (stampAt stamp b.clk.epoch))] } }

/-- What a message does matters on the block as its stamp has it alone. -/
theorem Blk.underStamp_congr {b : Blk} {stamp : Nat} {f g : Blk → Blk} (h : f (b.asStamped stamp) = g (b.asStamped stamp)) :
    b.underStamp stamp f = b.underStamp stamp g :=
  congrArg (fun r : Blk => { r with tim := { r.tim with cfg := b.tim.cfg } }) h

theorem Blk.inside_underStamp {b : Blk} {stamp : Nat} {f : Blk → Blk} (h : (b.asStamped stamp).Inside (f (b.asStamped stamp))) :
    b.Inside (b.underStamp stamp f) :=
  ((b.inside_tim _).trans h).trans (Blk.inside_tim _ _)

/-- The block once the oldest PTP message has been taken. -/
def Blk.ptpPopped (b : Blk) (r : List PtpIn) : Blk := { b with tim := { b.tim with ptpIn := r } }

section
variable {b : Blk} {m : PtpIn}

theorem Blk.ptpTake_foreign (h : field m.bytes 4 1 ≠ b.timeCfg.domain ∨ field m.bytes 1 1 % 16 ≠ 2) :
    b.ptpTake m = b.count 0x96 2 (64 + m.sub) := if_pos h

/-- A one-step Sync of the domain gives an offset. -/
theorem Blk.ptpTake_sync (hdomain : field m.bytes 4 1 = b.timeCfg.domain) (hversion : field m.bytes 1 1 % 16 = 2)
    (hkind : field m.bytes 0 1 % 16 = 0) (hstep : bit (field m.bytes 6 1) 1 = false) :
    b.ptpTake m = (b.count 0x96 0 (64 + m.sub)).syncOffset m.sub (ptpStamp m.bytes 34 + ptpCorrection m.bytes) m.toa := by
  have hours : ¬(field m.bytes 4 1 ≠ b.timeCfg.domain ∨ field m.bytes 1 1 % 16 ≠ 2) := by simp [hdomain, hversion]
  refine (if_neg hours).trans ?_
  simp [hkind, hstep]

end

theorem ptpMessageRx_none {s : State} (h : s.blk.tim.ptpIn = []) : exec .ptpMessageRx s = .next s :=
  State.timeRow_idle (by simp [h])

section
variable {s : State} (hp : s.blk.sys.phase = .service) (ht : s.blk.hasTime = true) {m : PtpIn} {r : List PtpIn}
  (hfront : s.blk.tim.ptpIn = m :: r)
include hp ht hfront

theorem ptpMessageRx_stale (hstale : stale m.stamp s.blk.clk.epoch = true) :
    exec .ptpMessageRx s = .next (s.put ((s.blk.ptpPopped r).staleDiscard 82)) :=
  State.timeRow_to _ hp ht (by simp [hfront, hstale, Blk.ptpPopped])
    ((s.blk.inside_tim _).trans (Blk.noted_staleDiscard _ _).inside)

/-- A message that is not too old does what it does under its stamp. -/
theorem ptpMessageRx_taken (hfresh : stale m.stamp s.blk.clk.epoch = false) {f : Blk → Blk}
    (hf : ((s.blk.ptpPopped r).asStamped m.stamp).ptpTake m = f ((s.blk.ptpPopped r).asStamped m.stamp))
    (hin : ∀ b : Blk, b.Inside (f b)) :
    exec .ptpMessageRx s = .next (s.put ((s.blk.ptpPopped r).underStamp m.stamp f)) := by
  refine State.timeRow_to _ hp ht ?_ ((s.blk.inside_tim _).trans (Blk.inside_underStamp (hin _)))
  rw [← Blk.underStamp_congr (f := fun b => b.ptpTake m) hf]
  simp [hfront, hfresh, Blk.ptpPopped]

end

/-! ### PTP_MESSAGE_TX (R372, R374) -/

/-- The block once a message has left a sub-port: what it says of time, and the port after it. -/
def Blk.ptpSent (b : Blk) (sub kind : Nat) (q : PtpPort) (seq : Nat) (said : Int × Int) (a : Option Announce) : Blk :=
  (Blk.emit { b with tim := { b.tim with ports := Tab.set {} b.tim.ports sub q } }
    (.ptpFrame sub kind seq ((Tab.get {} b.timeCfg.ports sub).dest b.timeCfg.profile kind) said.1 said.2 a)).count 0x96 1 (64 + sub)

theorem Blk.inside_ptpSent (b : Blk) (sub kind : Nat) (q : PtpPort) (seq : Nat) (said : Int × Int) (a : Option Announce) :
    b.Inside (b.ptpSent sub kind q seq said a) :=
  ((b.inside_tim _).trans (Blk.inside_emit _ _)).trans (Blk.inside_count _ _ _ _)

/-- A port after a message of its own that is no request. -/
def PtpPort.counted (p : PtpPort) : PtpPort := { p with seq := (p.seq + 1) % 65536 }

theorem ptpMessageTx_silent {s : State} {sub kind : Nat} (depart : Int)
    (h : (Tab.get {} s.blk.tim.ports sub).sends s.blk.timeCfg.profile kind = false) :
    exec (.ptpMessageTx sub kind depart) s = .next s :=
  State.timeRow_idle (if_pos (.inr (.inr (by simp [h]))))

section
variable {s : State} {sub kind : Nat} {depart : Int} (hp : s.blk.sys.phase = .service) (ht : s.blk.hasTime = true)
  (hrole : (Tab.get {} s.blk.timeCfg.ports sub).role ≠ 0) (hup : s.blk.subUp sub = true) {p : PtpPort}
  (hport : Tab.get {} s.blk.tim.ports sub = p)
include hp ht hrole hup hport

/-- A message of a port's own, with the port's next number. -/
theorem ptpMessageTx_own (hsends : p.sends s.blk.timeCfg.profile kind = true) (h9 : kind ≠ 9) (h3 : kind ≠ 3) :
    exec (.ptpMessageTx sub kind depart) s = .next (s.put (s.blk.ptpSent sub kind
      { p.counted with req := if kind = 1 ∨ kind = 2 then some (p.seq, depart + s.blk.txCorrection sub) else p.req } p.seq
      (p.carries kind (depart + s.blk.txCorrection sub)) (if kind = 0xB then some s.blk.announces else none))) := by
  subst hport
  refine State.timeRow_to _ hp ht ((if_neg (by simp [hrole, hup, hsends])).trans ?_) (s.blk.inside_ptpSent _ _ _ _ _ _)
  simp [h9, h3, Blk.ptpSent, PtpPort.counted]

/-- A reply, with the number of what it answers. -/
theorem ptpMessageTx_reply (hsends : p.sends s.blk.timeCfg.profile kind = true) (hkind : kind = 9 ∨ kind = 3)
    {k seq : Nat} {arrival corr : Int} (hasked : p.asked = some (k, seq, arrival, corr)) :
    exec (.ptpMessageTx sub kind depart) s = .next (s.put (s.blk.ptpSent sub kind { p with asked := none } seq
      (p.carries kind (depart + s.blk.txCorrection sub)) none)) := by
  subst hport
  have hreply : (kind == 0x9 || kind == 0x3) = true := by simpa using hkind
  have hplain : kind ≠ 0xB := by omega
  refine State.timeRow_to _ hp ht ((if_neg (by simp [hrole, hup, hsends])).trans ?_) (s.blk.inside_ptpSent _ _ _ _ _ _)
  simp [hreply, hplain, hasked, Blk.ptpSent]

end

/-! ### Outputs that leave one after another -/

theorem foldl_ite_unique {α β : Type} (hit : α → Prop) [DecidablePred hit] (f : β → α → β) (l : List α) (i : Nat) (x : α)
    (hx : l[i]? = some x) (hhit : hit x) (hother : ∀ j y, j ≠ i → l[j]? = some y → ¬hit y) (b : β) :
    l.foldl (fun b y => if hit y then f b y else b) b = f b x := by
  induction l generalizing i b with
  | nil => simp at hx
  | cons y r ih =>
    cases i with
    | zero =>
      obtain rfl : y = x := by simpa using hx
      have hrest (b : β) : r.foldl (fun b y => if hit y then f b y else b) b = b :=
        List.foldlRecOn (motive := (· = b)) _ _ rfl fun c hc z hz => by
          obtain ⟨j, hj⟩ := List.getElem?_of_mem hz
          rw [if_neg (hother (j + 1) z (by omega) (by simpa using hj)), hc]
      rw [List.foldl_cons, if_pos hhit, hrest]
    | succ i =>
      rw [List.foldl_cons, if_neg (hother 0 y (by omega) (by simp))]
      exact ih i (by simpa using hx) (fun j z hj hz => hother (j + 1) z (by omega) (by simpa using hz)) b

/-- Outputs that are no messages to a vector, sent one after another: each that leaves is among the outputs, and nothing else
changes. -/
theorem Blk.foldl_emit {α : Type} (o : Nat → α → Output) (hpend : ∀ n x m, pend m (o n x) = m) (l : List α) (b : Blk) :
    l.foldl (fun b x => b.emit (o b.clk.fc x)) b
      = { b with out := ((l.map (o b.clk.fc)).filter b.leaves).reverse ++ b.out } := by
  induction l generalizing b with
  | nil => rfl
  | cons x r ih =>
    have hemit : b.emit (o b.clk.fc x) = { b with out := [o b.clk.fc x].filter b.leaves ++ b.out } := by
      rw [Blk.emit, Blk.emits]
      simp only [List.foldl_cons, List.foldl_nil, hpend]
    have hleaves : { b with out := [o b.clk.fc x].filter b.leaves ++ b.out }.leaves = b.leaves := rfl
    rw [List.foldl_cons, ih, hemit, hleaves]
    cases hout : b.leaves (o b.clk.fc x) <;> simp [hout]

/-- Of outputs sent one after another, each that leaves is there. -/
theorem Blk.mem_sent (b : Blk) {α : Type} {o : α → Output} {l : List α} {x : α} (hx : x ∈ l) (hleaves : b.leaves (o x) = true) :
    o x ∈ ((l.map o).filter b.leaves).reverse ++ b.out :=
  List.mem_append_left _ (List.mem_reverse.mpr (List.mem_filter.mpr ⟨List.mem_map_of_mem hx, hleaves⟩))

/-! ### TOD_WRITE_STANDARD, ESMC_TX (R377, R383) -/

section
variable {s : State} (hp : s.blk.sys.phase = .service) (ht : s.blk.hasTime = true)

/-- The time that the terminals of a standard tree are told (R94, R370, R383). -/
def Blk.treeTime (b : Blk) (tree : Nat) : Nat :=
  b.tim.tod + 160 * frameTime + (b.tree tree).mode.txBall + (Tab.get {} b.timeCfg.trees tree).optTx * 65536 / 10

/-- The indices of a tree whose terminals are active. -/
def Blk.activeOn (b : Blk) (tree : Nat) : List Nat := (List.range 512).filter (fun i => (b.term (gid tree i)).state = .active)

include hp ht in
theorem todWriteStandard_writes {tree : Nat} (hfit : tree < Part.trees s.blk.sys.part) (hmode : (s.blk.tree tree).mode ≠ .native)
    (hvalid : s.blk.tim.valid = true) :
    exec (.todWriteStandard tree) s = .next (s.put { s.blk with
      out := (((s.blk.activeOn tree).map fun i => .todWrite (gid tree i) (s.blk.clk.fc + 160) (s.blk.treeTime tree)).filter
        s.blk.leaves).reverse ++ s.blk.out }) := by
  refine State.timeRow_to _ hp ht ((if_neg ?_).trans ?_) (.of_eq rfl rfl)
  · simp [hmode, hvalid, hfit]
  · exact Blk.foldl_emit (fun n i => .todWrite (gid tree i) (n + 160) (s.blk.treeTime tree)) (fun _ _ _ => rfl) _ _

/-- The QL that an ESMC PDU to a sub-port carries (R377). -/
def Blk.esmcQl (b : Blk) (sub : Nat) : Nat :=
  if b.tim.selected.map b.timeCfg.syncSub = some sub then 15
  else match b.tim.selected with
    | some i => (Tab.get {} b.tim.sync i).ql
    | none => eecQl

theorem Blk.esmcQl_of_selected {b : Blk} {i sub : Nat} (h : b.tim.selected = some i) :
    b.esmcQl sub = if sub = b.timeCfg.syncSub i then 15 else (Tab.get {} b.tim.sync i).ql := by
  simp [Blk.esmcQl, h, eq_comm (b := sub)]

theorem Blk.esmcQl_of_none {b : Blk} {sub : Nat} (h : b.tim.selected = none) : b.esmcQl sub = eecQl := by
  simp [Blk.esmcQl, h]

/-- The uplink sub-ports that are up. -/
def Blk.upSubs (b : Blk) : List Nat := (List.range 48).filter b.subUp

theorem Blk.mem_upSubs (b : Blk) {sub : Nat} (hsub : sub < 48) (hup : b.subUp sub = true) : sub ∈ b.upSubs := by
  simpa [Blk.upSubs, hsub] using hup

theorem esmcTx_off (hoff : s.blk.timeCfg.txFollow = false) : exec .esmcTx s = .next s :=
  State.timeRow_idle (if_neg (by simp [hoff]))

include hp ht in
theorem esmcTx_sends (hon : s.blk.timeCfg.txFollow = true) :
    exec .esmcTx s = .next (s.put { s.blk with
      out := ((s.blk.upSubs.map fun sub => .esmc sub (s.blk.esmcQl sub)).filter s.blk.leaves).reverse
        ++ s.blk.out }) :=
  State.timeRow_to _ hp ht ((if_pos hon).trans (Blk.foldl_emit (fun _ sub => .esmc sub (s.blk.esmcQl sub)) (fun _ _ _ => rfl) _ _))
    (.of_eq rfl rfl)

end

/-! ### The choice of a SyncE source (R375) -/

theorem Blk.inside_syncSet (b : Blk) (i : Nat) (f : SyncSource → SyncSource) : b.Inside (b.syncSet i f) :=
  .of_eq (b.syncKept_syncSet i f).clk (b.syncKept_syncSet i f).sys

/-- The sub-port that a record of a choice names: 0xFF for none. -/
def TimeCfg.chosenSub (c : TimeCfg) (best : Option Nat) : Nat := (best.map c.syncSub).getD 0xFF

section
variable {b : Blk}

theorem Blk.syncChoose_same (h : b.syncBest = b.tim.selected) : b.syncChoose = b := if_pos h

theorem Blk.syncChoose_other (h : b.syncBest ≠ b.tim.selected) : b.syncChoose =
    (Blk.count { b with tim := { b.tim with selected := b.syncBest } } 0x94 4 82).vent
      { type := 0x0902, island := 82, object := b.timeCfg.chosenSub b.syncBest } := by
  refine (if_neg h).trans ?_
  cases hbest : b.syncBest <;> simp [Blk.timeCfg, TimeCfg.chosenSub]

end

section
variable {s : State} (hp : s.blk.sys.phase = .service) (ht : s.blk.hasTime = true)
include hp ht

theorem synceSourceLoss_linkDown {entry : Nat} (h : entry < 4) : exec (.synceSourceLoss entry .linkDown) s
    = .next (s.put (s.blk.syncSet entry (fun y => { y with failed := true }))) :=
  State.timeRow_to _ hp ht (if_pos h) (s.blk.inside_syncSet _ _)

theorem synceWtrExpiry_recovers {entry : Nat} (h : entry < 4) : exec (.synceWtrExpiry entry) s
    = .next (s.put (s.blk.syncSet entry (fun y => { y with failed := false }))) :=
  State.timeRow_to _ hp ht (if_pos h) (s.blk.inside_syncSet _ _)

/-- A source after an ESMC PDU. -/
def SyncSource.heardAt (ql : Nat) (ppb : Int) (wtr : Nat) (y : SyncSource) : SyncSource :=
  { y with ql := ql % 16, heard := true, inRange := decide (|ppb| ≤ 9200), failed := y.failed && wtr != 0 }

/-- The PDU is heard on the one source of the list that its sub-port is. -/
theorem esmcRx_hears {sub ql : Nat} {ppb : Int} {i : Nat} {e : Nat × Bool} (hi : i < 4)
    (hsource : s.blk.timeCfg.sources[i]? = some e) (hsub : e.1 = sub)
    (hother : ∀ j f, j ≠ i → s.blk.timeCfg.sources[j]? = some f → f.1 ≠ sub) :
    exec (.esmcRx sub ql ppb) s
      = .next (s.put (s.blk.syncSet i (SyncSource.heardAt ql ppb s.blk.timeCfg.wtr))) := by
  refine State.timeRow_to _ hp ht ?_ (s.blk.inside_syncSet _ _)
  refine foldl_ite_unique (fun x : Nat × Nat × Bool => x.2.1 = sub)
    (fun b x => b.syncSet x.1 (SyncSource.heardAt ql ppb b.timeCfg.wtr)) _ i (i, e) ?_ hsub ?_ s.blk
  · exact List.getElem?_zip_eq_some.mpr ⟨by simp [hi], hsource⟩
  · intro j y hj hy
    exact hother j y.2 hj (List.getElem?_zip_eq_some.mp hy).2

end

/-- What a choice of the SyncE source comes to, once the condition of one has changed. -/
theorem Blk.syncSet_cases (b : Blk) (i : Nat) (f : SyncSource → SyncSource) :
    let x : Blk := { b with tim := { b.tim with sync := Tab.upd {} b.tim.sync i f } }
    (x.syncBest = b.tim.selected → b.syncSet i f = x)
    ∧ (x.syncBest ≠ b.tim.selected → b.syncSet i f
      = (Blk.count { x with tim := { x.tim with selected := x.syncBest } } 0x94 4 82).vent
          { type := 0x0902, island := 82, object := (x.syncBest.map b.timeCfg.syncSub).getD 0xFF }) := by
  intro x
  exact ⟨Blk.syncChoose_same (b := x), Blk.syncChoose_other (b := x)⟩

/-- Settles O50, row by row. -/
theorem timeUnitFollowsItsSources : Obligations.TimeUnitFollowsItsSources := by
  unfold Obligations.TimeUnitFollowsItsSources
  intro s hp ht b cfg second
  refine ⟨⟨ppsOutPulse_leaves hp ht, ppsOutPulse_silent⟩, ⟨?lost, ?lostAcquiring, ?lostUnlocked, sourceTimeout_none⟩,
    fun left hleft hservo => ⟨hoValidExpiry_expires hp ht hleft hservo, hoValidExpiry_holds hleft⟩,
    ⟨ppsInEdge_off, ?edge⟩, ⟨ptpMessageRx_none, ?message⟩, ?sent, ?timeOfDay, ⟨esmcTx_off, ?esmc, ?esmcNone⟩, ?heard, ?synce⟩
  case lost =>
    intro hsrc hservo
    rw [sourceTimeout_lost hp ht hsrc, Blk.sourceLost_locked hservo]
    rfl
  case lostAcquiring =>
    intro hsrc hservo
    rw [sourceTimeout_lost hp ht hsrc, Blk.sourceLost_acquiring hservo]
    rfl
  case lostUnlocked =>
    intro hsrc hservo
    rw [sourceTimeout_lost hp ht hsrc, Blk.sourceLost_unlocked hservo]
    rfl
  case edge =>
    intro hon edge at_ nearest kept
    refine ⟨fun hgap => ?_, fun p hlast hgap hsrc => ppsInEdge_early hp ht hon hsrc hlast hgap,
      fun p hlast hgap hsrc => ppsInEdge_late hp ht hon hsrc hlast hgap⟩
    have htaken := ppsInEdge_inTime hp ht hon hgap
    exact ⟨fun hsrc => htaken.trans (by rw [if_pos hsrc]; rfl), fun hsrc => htaken.trans (by rw [if_neg hsrc]; rfl)⟩
  case message =>
    intro m r hfront x domain
    refine ⟨ptpMessageRx_stale hp ht hfront, fun hfresh hforeign => ?_, fun hfresh hdomain hversion hkind hstep => ?_⟩
    · exact ptpMessageRx_taken hp ht hfront hfresh (Blk.ptpTake_foreign hforeign) (fun b => b.inside_count _ _ _)
    · exact ptpMessageRx_taken hp ht hfront hfresh (Blk.ptpTake_sync hdomain hversion hkind hstep)
        (fun b => (b.inside_count _ _ _).trans (Blk.inside_syncOffset _ _ _ _))
  case sent =>
    intro sub kind depart hrole hup p c at_ sent next
    have hown := @ptpMessageTx_own s sub kind depart hp ht hrole hup p rfl
    have hreply := @ptpMessageTx_reply s sub kind depart hp ht hrole hup p rfl
    refine ⟨?sync, ?announce, ?request, ?peerReply, ?delayReply, ptpMessageTx_silent depart⟩
    case sync =>
      rintro rfl hstate
      exact hown (by simp [PtpPort.sends, hstate]) (by decide) (by decide)
    case announce =>
      rintro rfl hstate
      exact hown (by simp [PtpPort.sends, hstate]) (by decide) (by decide)
    case request =>
      rintro (⟨rfl, hprofile, hstate⟩ | ⟨rfl, hprofile⟩)
      · exact hown (by simp [PtpPort.sends, hstate, show s.blk.timeCfg.profile = 0 from hprofile]) (by decide) (by decide)
      · exact hown (by simp [PtpPort.sends, show s.blk.timeCfg.profile = 1 from hprofile]) (by decide) (by decide)
    case peerReply =>
      rintro seq arrival corr rfl hprofile hasked
      have hsends : p.sends s.blk.timeCfg.profile 3 = true := by
        rw [show s.blk.timeCfg.profile = 1 from hprofile]; simp [PtpPort.sends, hasked]
      have hcarries : p.carries 3 (depart + s.blk.txCorrection sub) = (0, at_ - arrival + corr) := by
        simp [PtpPort.carries, hasked, at_, b]
      rw [hreply hsends (.inr rfl) hasked, hcarries]
      rfl
    case delayReply =>
      rintro seq arrival corr rfl hprofile hstate hasked
      have hsends : p.sends s.blk.timeCfg.profile 9 = true := by
        rw [show s.blk.timeCfg.profile = 0 from hprofile]; simp [PtpPort.sends, hstate, hasked]
      have hcarries : p.carries 9 (depart + s.blk.txCorrection sub) = (arrival / 65536, corr - arrival % 65536) := by
        simp [PtpPort.carries, hasked]
      rw [hreply hsends (.inl rfl) hasked, hcarries]
      rfl
  case timeOfDay =>
    intro tree hfit hmode hvalid
    refine ⟨_, todWriteStandard_writes hp ht hfit hmode hvalid, rfl, fun i hi hactive time htime => ?_⟩
    subst htime
    exact s.blk.mem_sent (o := fun i => .todWrite (gid tree i) (s.blk.clk.fc + 160) (s.blk.treeTime tree))
      (by simpa [Blk.activeOn, hi] using hactive)
  case esmc =>
    intro hon
    refine ⟨_, esmcTx_sends hp ht hon, rfl, fun i hi sub hsub hup => ?_⟩
    have hleft := s.blk.mem_sent (o := fun sub => .esmc sub (s.blk.esmcQl sub)) (s.blk.mem_upSubs hsub hup)
    rw [Blk.esmcQl_of_selected hi] at hleft
    exact hleft
  case esmcNone =>
    intro hon hnone
    refine ⟨_, esmcTx_sends hp ht hon, fun sub hsub hup => ?_⟩
    have hleft := s.blk.mem_sent (o := fun sub => .esmc sub (s.blk.esmcQl sub)) (s.blk.mem_upSubs hsub hup)
    rw [Blk.esmcQl_of_none hnone] at hleft
    exact hleft
  case heard => exact fun sub ql ppb i e hi _ hsource hsub hother => esmcRx_hears hp ht hi hsource hsub hother
  case synce =>
    intro entry hentry
    rw [synceSourceLoss_linkDown hp ht hentry, synceWtrExpiry_recovers hp ht hentry]
    have hcases (f : SyncSource → SyncSource) := s.blk.syncSet_cases entry f
    exact ⟨⟨fun h => by rw [(hcases _).1 h], fun h => by rw [(hcases _).2 h]⟩,
      ⟨fun h => by rw [(hcases _).1 h], fun h => by rw [(hcases _).2 h]⟩⟩

end Sys2Proof.Machine

/-! PROOFS. The commands of the time unit. -/
namespace Sys2Proof.Machine

/-! ### What the servo and a step leave of the time unit (R365, R366, R368) -/

/-- The time unit t' is t with the servo in the state st: beside it LOCKED's last frame, the run towards LOCKED and validity
may differ, and nothing else. -/
def Tim.Served (t : Tim) (st : Servo) (t' : Tim) : Prop :=
  ∃ left run v e, t' = { t with servo := st, leftLocked := left, lockRun := run, valid := v, everValid := e }

theorem Tim.served_self (t : Tim) : t.Served t.servo t := ⟨_, _, _, _, rfl⟩

theorem Blk.served_servoTo (b : Blk) (st : Servo) : b.tim.Served st (b.servoTo st).tim := by
  unfold Blk.servoTo
  dsimp only
  split
  next h => exact h ▸ b.tim.served_self
  next => exact ⟨_, _, _, _, Blk.vent_tim _ _⟩

/-- Validity is the servo's own. -/
theorem Tim.Served.settle {t : Tim} {st : Servo} {b : Blk} (h : t.Served st b.tim) : t.Served st b.settle.tim := by
  obtain ⟨left, run, v, e, ht⟩ := h
  have hsettle : b.settle.tim = { b.tim with valid := b.settle.tim.valid, everValid := b.settle.tim.everValid } := rfl
  exact ⟨left, run, _, _, hsettle.trans (by rw [ht])⟩

@[simp] theorem Blk.admitFlag_tim (b : Blk) (q : Nat) (f : Frame) : (b.admitFlag q f).1.tim = b.tim := by
  unfold Blk.admitFlag
  split_ifs <;> simp

@[simp] theorem Blk.mirrorMark_tim (b : Blk) (n : Nat) : (b.mirrorMark n).tim = b.tim := by
  unfold Blk.mirrorMark
  extract_lets e
  split
  · rfl
  · exact b.admitFlag_tim _ _

theorem Blk.inside_mirrorMark (b : Blk) (n : Nat) : b.Inside (b.mirrorMark n) := by
  unfold Blk.mirrorMark
  extract_lets e
  split
  · exact .rfl' b
  · exact b.inside_enqueue _ _

/-- The time unit at a step: the new time, its TIME_GEN, and no offset that was taken before it. -/
def Tim.stepped (t : Tim) (new : Nat) (absolute : Bool) : Tim :=
  { t with
    tod := new, gen := (t.gen + b2n (decide (new < t.tod))) % 65536, absStep := t.absStep || absolute,
    raws := [], fresh := false, jump := none, jumpRun := none, jumpRec := none, autoStep := false, sampled := none }

/-- The block at a step, counted, the servo told and its validity set. -/
def Blk.steppedTo (b : Blk) (new : Nat) (absolute : Bool) : Blk :=
  ((Blk.count { b with tim := b.tim.stepped new absolute } 0x94 2 82).servoTo
    (if b.timeCfg.src != 0 && b.tim.delivers then .acquiring else .freerun)).settle

theorem Blk.stepTo_eq (b : Blk) (new : Nat) (absolute : Bool) : b.stepTo new absolute =
    if new < b.tim.tod then (b.steppedTo new absolute).mirrorMark new else b.steppedTo new absolute := by
  rw [← ite_congr (decide_eq_true_eq (p := new < b.tim.tod)) (fun _ => rfl) (fun _ => rfl)]
  rfl

theorem Blk.served_stepTo (b : Blk) (new : Nat) (absolute : Bool) :
    ∃ st, (b.tim.stepped new absolute).Served st (b.stepTo new absolute).tim := by
  have hstep : (b.stepTo new absolute).tim = (b.steppedTo new absolute).tim := by
    rw [Blk.stepTo_eq]
    split <;> simp
  have hservo := (Blk.count { b with tim := b.tim.stepped new absolute } 0x94 2 82).served_servoTo
    (if b.timeCfg.src != 0 && b.tim.delivers then .acquiring else .freerun)
  rw [Blk.count_tim] at hservo
  exact ⟨_, hstep ▸ hservo.settle⟩

theorem Blk.stepTo_keeps (b : Blk) (new : Nat) (absolute : Bool) : (b.stepTo new absolute).tim.tod = new
    ∧ (b.stepTo new absolute).tim.gen = (if new < b.tim.tod then (b.tim.gen + 1) % 65536 else b.tim.gen % 65536)
    ∧ (b.stepTo new absolute).tim.absStep = (b.tim.absStep || absolute) ∧ (b.stepTo new absolute).tim.raws = []
    ∧ (b.stepTo new absolute).tim.sampled = none := by
  obtain ⟨st, left, run, v, e, htim⟩ := b.served_stepTo new absolute
  rw [htim]
  refine ⟨rfl, ?_, rfl, rfl, rfl⟩
  by_cases hback : new < b.tim.tod <;> simp [Tim.stepped, b2n, hback]

theorem Blk.inside_stepTo (b : Blk) (new : Nat) (absolute : Bool) : b.Inside (b.stepTo new absolute) := by
  have hstepped : b.Inside (b.steppedTo new absolute) :=
    (((b.inside_tim _).trans (Blk.inside_count _ _ _ _)).trans (Blk.inside_servoTo _ _)).trans (Blk.inside_settle _)
  rw [Blk.stepTo_eq]
  split
  · exact hstepped.trans (Blk.inside_mirrorMark _ _)
  · exact hstepped

theorem Blk.inside_setTimeCfg (b : Blk) (f : TimeCfg → TimeCfg) : b.Inside (b.setTimeCfg f) := b.inside_tim _

@[simp] theorem Blk.timeCfg_setTimeCfg (b : Blk) (f : TimeCfg → TimeCfg) : (b.setTimeCfg f).timeCfg = f b.timeCfg :=
  Vers.cur_write _ _ _ _

theorem Blk.timeCfg_congr {b b' : Blk} (h : b'.tim.cfg = b.tim.cfg) : b'.timeCfg = b.timeCfg := congrArg (Vers.cur ({} : TimeCfg)) h

/-! ### TIME_CONFIG (R365, R367, R386) -/

/-- The block with the configuration that TIME_CONFIG's device form gives. -/
def Blk.deviceTimed (b : Blk) (c : Cmd) : Blk := b.setTimeCfg (fun x => { x with
  src := c.f 0 62 61, profile := c.f 0 60 60, domain := c.f 0 59 52, lockThresh := c.f 0 51 42,
  jumpLimit := c.f 0 41 30, hoValid := c.f 0 29 14, slewMax := c.f 0 13 7 })

/-- The time unit once its source is another: nothing that the old one told is kept. -/
def Tim.resourced (t : Tim) : Tim :=
  { t with raws := [], delivers := false, fresh := true, jump := none, jumpRun := none, jumpRec := none, autoStep := false,
           sampled := none }

/-- The time unit with the source that TIME_CONFIG's device form names. -/
def Blk.sourceSet (b : Blk) (c : Cmd) : Blk :=
  if c.f 0 62 61 = b.timeCfg.src then b.deviceTimed c
  else { b.deviceTimed c with tim := (b.deviceTimed c).tim.resourced }

/-- All that TIME_CONFIG's device form does. -/
def Blk.timeConfigured (b : Blk) (c : Cmd) : Blk :=
  (if c.f 0 62 61 = 0 then (b.sourceSet c).servoTo .freerun else b.sourceSet c).settle

/-- A change of the profile is refused while a port has a role. -/
def Blk.profileHeld (b : Blk) (c : Cmd) : Prop :=
  c.f 0 60 60 ≠ b.timeCfg.profile ∧ b.timeCfg.ports.any (fun p => p.2.role != 0) = true

theorem applyTimeConfigDevice_takes {c : Cmd} {b : Blk} (h : ¬b.profileHeld c) :
    applyTimeConfigDevice c b = (b.timeConfigured c, {}) := if_neg h

theorem applyTimeConfigDevice_held {c : Cmd} {b : Blk} (h : b.profileHeld c) :
    applyTimeConfigDevice c b = (b, Res.badField 0 60) := if_pos h

theorem Blk.sourceSet_cases (b : Blk) (c : Cmd) :
    (c.f 0 62 61 = b.timeCfg.src ∧ (b.sourceSet c).tim = (b.deviceTimed c).tim)
    ∨ (c.f 0 62 61 ≠ b.timeCfg.src ∧ (b.sourceSet c).tim = (b.deviceTimed c).tim.resourced) := by
  unfold Blk.sourceSet
  split
  next h => exact .inl ⟨h, rfl⟩
  next h => exact .inr ⟨h, rfl⟩

theorem Blk.inside_sourceSet (b : Blk) (c : Cmd) : b.Inside (b.sourceSet c) := by
  unfold Blk.sourceSet
  split
  · exact b.inside_setTimeCfg _
  · exact (b.inside_setTimeCfg _).trans (Blk.inside_tim (b.deviceTimed c) _)

theorem Blk.inside_timeConfigured (b : Blk) (c : Cmd) : b.Inside (b.timeConfigured c) := by
  unfold Blk.timeConfigured
  refine .trans ?_ (Blk.inside_settle _)
  split
  · exact (b.inside_sourceSet c).trans (Blk.inside_servoTo _ _)
  · exact b.inside_sourceSet c

/-- The same source, which is not the head-end itself: the new configuration, and validity by it. -/
theorem Blk.timeConfigured_same {b : Blk} {c : Cmd} (h : c.f 0 62 61 = b.timeCfg.src) (h0 : c.f 0 62 61 ≠ 0) :
    b.timeConfigured c = (b.deviceTimed c).settle := by
  rw [Blk.timeConfigured, if_neg h0, Blk.sourceSet, if_pos h]

/-- The servo's state after TIME_CONFIG's device form is FREERUN without a source. -/
theorem Blk.served_timeConfigured (b : Blk) (c : Cmd) :
    ∃ st, (c.f 0 62 61 = 0 → st = .freerun) ∧ (b.sourceSet c).tim.Served st (b.timeConfigured c).tim := by
  unfold Blk.timeConfigured
  split
  next h => exact ⟨.freerun, fun _ => rfl, ((b.sourceSet c).served_servoTo .freerun).settle⟩
  next h => exact ⟨_, fun h0 => absurd h0 h, (b.sourceSet c).tim.served_self.settle⟩

/-- What TIME_CONFIG's device form leaves: its configuration, the time of day, and no offset of a source that it has changed. -/
theorem Blk.timeConfigured_keeps (b : Blk) (c : Cmd) : (b.timeConfigured c).timeCfg = (b.deviceTimed c).timeCfg
    ∧ (c.f 0 62 61 = 0 → (b.timeConfigured c).tim.servo = .freerun) ∧ (b.timeConfigured c).tim.tod = b.tim.tod
    ∧ (c.f 0 62 61 ≠ b.timeCfg.src → (b.timeConfigured c).tim.raws = [] ∧ (b.timeConfigured c).tim.delivers = false
      ∧ (b.timeConfigured c).tim.sampled = none ∧ (b.timeConfigured c).tim.fresh = true) := by
  obtain ⟨st, hst, left, run, v, e, htim⟩ := b.served_timeConfigured c
  rcases b.sourceSet_cases c with ⟨hsame, hsource⟩ | ⟨hother, hsource⟩
  · rw [hsource] at htim
    exact ⟨Blk.timeCfg_congr (by rw [htim]), by rw [htim]; exact hst, by rw [htim]; rfl, fun h => absurd hsame h⟩
  · rw [hsource] at htim
    exact ⟨Blk.timeCfg_congr (by rw [htim]; rfl), by rw [htim]; exact hst, by rw [htim]; rfl,
      fun _ => by rw [htim]; exact ⟨rfl, rfl, rfl, rfl⟩⟩

section
variable {c : Cmd} {s : State}

theorem timeConfigDevice_takes (ht : s.Takes Op.timeConfigDevice c) (h : ¬s.blk.profileHeld c) :
    exec (.timeConfigDevice c) s = .next (s.answered Op.timeConfigDevice c (s.blk.timeConfigured c) {}) :=
  exec_opcode_ok (i := .timeConfigDevice c) rfl rfl ht.live ht.2 (applyTimeConfigDevice_takes h) rfl
    (s.blk.inside_timeConfigured c)

theorem timeConfigDevice_held (ht : s.Takes Op.timeConfigDevice c) (h : s.blk.profileHeld c) :
    exec (.timeConfigDevice c) s = .next (s.answered Op.timeConfigDevice c s.blk (Res.badField 0 60)) :=
  exec_opcode_fails (i := .timeConfigDevice c) rfl rfl ht.live ht.2 (congrArg Prod.snd (applyTimeConfigDevice_held h))
    (by decide) (by decide)

theorem timeConfigTree_takes (ht : s.Takes Op.timeConfigTree c) : exec (.timeConfigTree c) s
    = .next (s.answered Op.timeConfigTree c (s.blk.setTimeCfg (fun x => { x with
        trees := Tab.set {} x.trees (c.f 0 62 57) { optTx := c.f 0 56 43, optRx := c.f 0 42 29, dnFrac := c.f 0 28 5 } })) {}) :=
  exec_opcode_ok (i := .timeConfigTree c) rfl rfl ht.live ht.2 rfl rfl (s.blk.inside_setTimeCfg _)

/-! ### PTP_PORT_CONFIG (R387) -/

/-- The role, priority, addressing and asymmetry that PTP_PORT_CONFIG gives a port. -/
def ptpCfgOf (c : Cmd) : PtpCfg :=
  { role := c.f 0 63 62, prio := c.f 0 61 54, mcast := c.b 0 53, asym := signed (c.f 0 52 29) 24 }

/-- The block with a port's new configuration. -/
def Blk.ptpPortSet (b : Blk) (c : Cmd) : Blk :=
  b.setTimeCfg (fun x => { x with ports := Tab.set {} x.ports (c.unit % 4096) (ptpCfgOf c) })

/-- What is kept of a port whose role is set: nothing where it has none. -/
def PtpPort.rolled (role : Nat) (p : PtpPort) : PtpPort := if role = 0 then {} else { p with state := 1 }

/-- All that PTP_PORT_CONFIG does. -/
def Blk.ptpConfigured (b : Blk) (c : Cmd) : Blk :=
  Blk.chooseMaster { b.ptpPortSet c with tim := { (b.ptpPortSet c).tim with
    ports := Tab.upd {} b.tim.ports (c.unit % 4096) (PtpPort.rolled (c.f 0 63 62)) } }

theorem Blk.chooseMaster_eq (b : Blk) : ∃ t : Tim, b.chooseMaster = { b with tim := t } ∧ t.cfg = b.tim.cfg := by
  unfold Blk.chooseMaster
  refine ⟨_, rfl, ?_⟩
  dsimp only
  split <;> rfl

theorem Blk.ptpConfigured_eq (b : Blk) (c : Cmd) :
    ∃ t : Tim, b.ptpConfigured c = { b with tim := t } ∧ t.cfg = (b.ptpPortSet c).tim.cfg := by
  obtain ⟨t, hb, ht⟩ := Blk.chooseMaster_eq { b.ptpPortSet c with tim := { (b.ptpPortSet c).tim with
    ports := Tab.upd {} b.tim.ports (c.unit % 4096) (PtpPort.rolled (c.f 0 63 62)) } }
  exact ⟨t, hb, ht⟩

/-- The port that was configured reads as configured. -/
theorem Blk.ptpConfigured_port {b : Blk} (c : Cmd) (hwf : Tab.wf {} b.timeCfg.ports = true) :
    Tab.get {} (b.ptpConfigured c).timeCfg.ports (c.unit % 4096) = ptpCfgOf c := by
  obtain ⟨t, hconfigured, hcfg⟩ := b.ptpConfigured_eq c
  have htime : (b.ptpConfigured c).timeCfg = (b.ptpPortSet c).timeCfg := Blk.timeCfg_congr (by rw [hconfigured, hcfg])
  rw [htime, Blk.ptpPortSet, Blk.timeCfg_setTimeCfg]
  exact Tab.get_set_same _ _ _ _ hwf

/-- The other ports that have a role. -/
def Blk.otherPorts (b : Blk) (c : Cmd) : Nat :=
  (b.timeCfg.ports.filter (fun p => p.1 != c.unit % 4096 && p.2.role != 0)).length

theorem applyPtpPortConfig_takes {b : Blk} (hformed : b.subFormed (c.unit % 4096) = true)
    (hprio : b.timeCfg.profile ≠ 0 ∨ c.f 0 61 54 ≠ 0) (hroom : c.f 0 63 62 = 0 ∨ b.otherPorts c < 16) :
    applyPtpPortConfig c b = (b.ptpConfigured c, {}) := by
  have hfull : ¬(c.f 0 63 62 ≠ 0 ∧ 16 ≤ b.otherPorts c) := by omega
  have hnone : ¬(b.timeCfg.profile = 0 ∧ c.f 0 61 54 = 0) := by omega
  refine (if_neg (by simp [hformed])).trans ((if_neg hnone).trans ((if_neg hfull).trans ?_))
  by_cases hrole : c.f 0 63 62 = 0
  · have hrolled : PtpPort.rolled (c.f 0 63 62) = fun _ => {} := funext fun p => if_pos hrole
    rw [Blk.ptpConfigured, hrolled]
    exact congrArg (fun x : Blk => (x.chooseMaster, ({} : Res))) (if_pos hrole)
  · have hrolled : PtpPort.rolled (c.f 0 63 62) = fun p => { p with state := 1 } := funext fun p => if_neg hrole
    rw [Blk.ptpConfigured, hrolled]
    exact congrArg (fun x : Blk => (x.chooseMaster, ({} : Res))) (if_neg hrole)

theorem ptpPortConfig_takes (ht : s.Takes Op.ptpPortConfig c) (hformed : s.blk.subFormed (c.unit % 4096) = true)
    (hprio : s.blk.timeCfg.profile ≠ 0 ∨ c.f 0 61 54 ≠ 0) (hroom : c.f 0 63 62 = 0 ∨ s.blk.otherPorts c < 16) :
    exec (.ptpPortConfig c) s = .next (s.answered Op.ptpPortConfig c (s.blk.ptpConfigured c) {}) := by
  refine exec_opcode_ok (i := .ptpPortConfig c) rfl rfl ht.live ht.2 (applyPtpPortConfig_takes hformed hprio hroom) rfl ?_
  obtain ⟨t, hconfigured, -⟩ := s.blk.ptpConfigured_eq c
  exact hconfigured ▸ s.blk.inside_tim t

theorem ptpPortConfig_unformed (ht : s.Takes Op.ptpPortConfig c) (hformed : s.blk.subFormed (c.unit % 4096) = false) :
    exec (.ptpPortConfig c) s = .next (s.answered Op.ptpPortConfig c s.blk (Res.err .badParam 0)) :=
  exec_opcode_fails (i := .ptpPortConfig c) rfl rfl ht.live ht.2 (congrArg Prod.snd (if_pos (by simp [hformed])))
    (by decide) (by decide)

section
variable (ht : s.Takes Op.ptpPortConfig c) (hformed : s.blk.subFormed (c.unit % 4096) = true)
include ht hformed

theorem ptpPortConfig_noPriority (hprofile : s.blk.timeCfg.profile = 0) (hprio : c.f 0 61 54 = 0) :
    exec (.ptpPortConfig c) s = .next (s.answered Op.ptpPortConfig c s.blk (Res.badField 0 54)) :=
  exec_opcode_fails (i := .ptpPortConfig c) rfl rfl ht.live ht.2
    (congrArg Prod.snd ((if_neg (by simp [hformed])).trans (if_pos ⟨hprofile, hprio⟩))) (by decide) (by decide)

theorem ptpPortConfig_full (hprio : s.blk.timeCfg.profile ≠ 0 ∨ c.f 0 61 54 ≠ 0) (hrole : c.f 0 63 62 ≠ 0)
    (hfull : 16 ≤ s.blk.otherPorts c) :
    exec (.ptpPortConfig c) s = .next (s.answered Op.ptpPortConfig c s.blk (Res.err .noSpace)) := by
  have hnone : ¬(s.blk.timeCfg.profile = 0 ∧ c.f 0 61 54 = 0) := by omega
  exact exec_opcode_fails (i := .ptpPortConfig c) rfl rfl ht.live ht.2
    (congrArg Prod.snd ((if_neg (by simp [hformed])).trans ((if_neg hnone).trans (if_pos ⟨hrole, hfull⟩)))) (by decide) (by decide)

end

/-! ### STEP_TIME (R368, R388) -/

/-- The time that an ABSOLUTE step asks for. -/
def absoluteTime (c : Cmd) : Nat := (c.word 1 * 1000000000 + c.f 2 63 32) * 65536 + c.f 2 31 16

/-- The time that a step by an OFFSET asks for. -/
def offsetTime (c : Cmd) (old : Nat) : Int := (old : Int) + signed (c.word 1) 64 * 65536 + c.f 2 31 16

theorem stepTarget_absolute (h : c.f 0 63 62 = 0) (old : Nat) (off : Option Int) :
    stepTarget c old off = some ((absoluteTime c : Nat) : Int) := by
  simp [stepTarget, h, absoluteTime, ns]

theorem stepTarget_offset (h : c.f 0 63 62 = 1) (old : Nat) (off : Option Int) :
    stepTarget c old off = some (offsetTime c old) := by
  simp [stepTarget, h, offsetTime]

theorem stepTarget_source (h : c.f 0 63 62 = 2) (old : Nat) (off : Option Int) :
    stepTarget c old off = off.map (fun o => (old : Int) + o) := by
  simp [stepTarget, h]

/-- What STEP_TIME answers. -/
def stepAnswer (b : Blk) (new : Int) (absolute : Bool) : Res :=
  Res.words [satSigned ((new - b.tim.tod) / 65536) 64, pack [((b.stepTo new.toNat absolute).tim.gen, 48)]]

/-- A step to a time that is there. -/
theorem stepTime_takes (ht : s.Takes Op.stepTime c) {new : Int}
    (htarget : stepTarget c s.blk.tim.tod s.blk.tim.sampled = some new) (h0 : 0 ≤ new) :
    exec (.stepTime c) s = .next (s.answered Op.stepTime c (s.blk.stepTo new.toNat (c.f 0 63 62 == 0))
      (stepAnswer s.blk new (c.f 0 63 62 == 0))) := by
  have happly : applyStepTime c s.blk
      = (s.blk.stepTo new.toNat (c.f 0 63 62 == 0), stepAnswer s.blk new (c.f 0 63 62 == 0)) := by
    rw [applyStepTime, htarget]
    exact if_neg (not_lt.mpr h0)
  exact exec_opcode_ok (i := .stepTime c) rfl rfl ht.live ht.2 happly rfl (s.blk.inside_stepTo _ _)

theorem stepTime_negative (ht : s.Takes Op.stepTime c) {new : Int}
    (htarget : stepTarget c s.blk.tim.tod s.blk.tim.sampled = some new) (h0 : new < 0) :
    exec (.stepTime c) s = .next (s.answered Op.stepTime c s.blk (Res.badField 1 0)) := by
  have happly : applyStepTime c s.blk = (s.blk, Res.badField 1 0) := by
    rw [applyStepTime, htarget]
    exact if_pos h0
  exact exec_opcode_fails (i := .stepTime c) rfl rfl ht.live ht.2 (congrArg Prod.snd happly) (by decide) (by decide)

theorem stepTime_none (ht : s.Takes Op.stepTime c) (htarget : stepTarget c s.blk.tim.tod s.blk.tim.sampled = none) :
    exec (.stepTime c) s = .next (s.answered Op.stepTime c s.blk (Res.badField 0 62)) := by
  have happly : applyStepTime c s.blk = (s.blk, Res.badField 0 62) := by rw [applyStepTime, htarget]
  exact exec_opcode_fails (i := .stepTime c) rfl rfl ht.live ht.2 (congrArg Prod.snd happly) (by decide) (by decide)

/-! ### PPS_CONFIG, SYNCE_CONFIG (R375, R390) -/

theorem ppsConfig_takes (ht : s.Takes Op.ppsConfig c) : exec (.ppsConfig c) s
    = .next (s.answered Op.ppsConfig c (s.blk.setTimeCfg (fun x => { x with
        outEn := c.b 0 63, squelch := c.b 0 62, outWidth := c.f 0 61 40, outComp := signed (c.f 0 39 24) 16,
        inEn := c.b 0 23, inComp := c.f 0 22 7 })) {}) :=
  exec_opcode_ok (i := .ppsConfig c) rfl rfl ht.live ht.2 rfl rfl (s.blk.inside_setTimeCfg _)

/-- The block with the list of SyncE sources that SYNCE_CONFIG gives. -/
def Blk.sourcesListed (b : Blk) (c : Cmd) : Blk := b.setTimeCfg (fun x => { x with
  sources := syncSources c, qlEn := c.b 0 35, txFollow := c.b 0 34, wtr := c.f 0 33 30 })

/-- The conditions of the sources that stand where they stood. -/
def Blk.keptSources (b : Blk) (c : Cmd) : Tab SyncSource :=
  let keep := (List.range 4).filter (fun i => b.timeCfg.sources.getD i (0, false) == (syncSources c).getD i (0, false))
  b.tim.sync.filter (fun p => keep.contains p.1)

/-- All that SYNCE_CONFIG does. -/
def Blk.synceConfigured (b : Blk) (c : Cmd) : Blk :=
  Blk.syncChoose { b.sourcesListed c with tim := { (b.sourcesListed c).tim with sync := b.keptSources c } }

theorem applySynceConfig_takes {b : Blk} (h : ∀ x ∈ syncSources c, x.2 = true → b.subFormed x.1 = true) :
    applySynceConfig c b = (b.synceConfigured c, {}) := by
  have hformed : ((syncSources c).zip [58, 51, 44, 37]).filter (fun x => x.1.2 && !b.subFormed x.1.1) = [] := by
    refine List.filter_eq_nil_iff.mpr fun x hx => ?_
    have hsource := h x.1 (List.of_mem_zip hx).1
    cases hon : x.1.2 with
    | false => simp
    | true => simp [hsource hon]
  unfold applySynceConfig
  dsimp only
  rw [hformed]
  rfl

theorem Blk.syncChoose_tim (b : Blk) : b.syncChoose.tim = { b.tim with selected := b.syncBest } := by
  by_cases h : b.syncBest = b.tim.selected
  · rw [Blk.syncChoose_same h, h]
  · rw [Blk.syncChoose_other h, Blk.vent_tim, Blk.count_tim]

/-- The choice rests on the configuration, the conditions of the sources and the sub-ports alone. -/
theorem Blk.syncBest_congr {b b' : Blk} (hcfg : b'.tim.cfg = b.tim.cfg) (hsync : b'.tim.sync = b.tim.sync)
    (hpair : b'.pair = b.pair) (hsw : b'.sw = b.sw) : b'.syncBest = b.syncBest := by
  have hup : b'.subUp = b.subUp := funext fun sub => by simp only [Blk.subUp, Blk.lit, Blk.subFormed, Blk.sub, hpair, hsw]
  have hselectable : b'.syncSelectable = b.syncSelectable := funext₂ fun i e => by
    simp only [Blk.syncSelectable, Blk.timeCfg_congr hcfg, hsync, hup]
  rw [Blk.syncBest, Blk.syncBest, Blk.timeCfg_congr hcfg, hsync, hselectable]

theorem Blk.syncBest_syncChoose (b : Blk) : b.syncChoose.syncBest = b.syncBest := by
  by_cases h : b.syncBest = b.tim.selected
  · rw [Blk.syncChoose_same h]
  · rw [Blk.syncChoose_other h]
    exact Blk.syncBest_congr (by simp) (by simp) (by simp) (by simp)

theorem Blk.selected_syncChoose (b : Blk) : b.syncChoose.tim.selected = b.syncChoose.syncBest := by
  rw [Blk.syncBest_syncChoose, Blk.syncChoose_tim]

theorem Blk.timeCfg_synceConfigured (b : Blk) (c : Cmd) : (b.synceConfigured c).timeCfg = (b.sourcesListed c).timeCfg :=
  Blk.timeCfg_congr (by rw [Blk.synceConfigured, Blk.syncChoose_tim])

theorem Blk.inside_synceConfigured (b : Blk) (c : Cmd) : b.Inside (b.synceConfigured c) := by
  have hkept := Blk.syncKept_syncChoose
    { b.sourcesListed c with tim := { (b.sourcesListed c).tim with sync := b.keptSources c } }
  exact .of_eq hkept.clk hkept.sys

theorem synceConfig_takes (ht : s.Takes Op.synceConfig c)
    (h : ∀ x ∈ syncSources c, x.2 = true → s.blk.subFormed x.1 = true) :
    exec (.synceConfig c) s = .next (s.answered Op.synceConfig c (s.blk.synceConfigured c) {}) :=
  exec_opcode_ok (i := .synceConfig c) rfl rfl ht.live ht.2 (applySynceConfig_takes h) rfl (s.blk.inside_synceConfigured c)

end

end Sys2Proof.Machine

/-! PROOFS. What a change of the pair state keeps, and the commands of the pair unit. -/
namespace Sys2Proof.Machine

/-! ### Operations that keep the pair state (R415) -/

/-- b' lies inside the frame of b, and its pair state is that of b. -/
structure Blk.RoleKept (b b' : Blk) : Prop where
  inside : b.Inside b'
  role : b'.pair.role = b.pair.role

theorem Blk.RoleKept.rfl' (b : Blk) : b.RoleKept b := ⟨.rfl' b, rfl⟩

theorem Blk.RoleKept.trans {a b c : Blk} (h : a.RoleKept b) (k : b.RoleKept c) : a.RoleKept c :=
  ⟨h.inside.trans k.inside, k.role.trans h.role⟩

theorem Blk.roleKept_foldl {α : Type} (f : Blk → α → Blk) (h : ∀ b x, Blk.RoleKept b (f b x)) (l : List α) (b : Blk) :
    b.RoleKept (l.foldl f b) :=
  List.foldlRecOn (motive := b.RoleKept) _ _ (.rfl' b) (fun y hy x _ => hy.trans (h y x))

theorem Blk.roleKept_ite {b x y : Blk} {c : Prop} [Decidable c] (hx : b.RoleKept x) (hy : b.RoleKept y) :
    b.RoleKept (if c then x else y) := by
  split
  · exact hx
  · exact hy

theorem Blk.Noted.roleKept {b b' : Blk} (h : b.Noted b') : b.RoleKept b' := ⟨h.inside, congrArg Pair.role h.pair_eq⟩

section
variable (b : Blk)

theorem Blk.roleKept_vent (n : RecIn) : b.RoleKept (b.vent n) := (b.noted_vent n).roleKept

theorem Blk.roleKept_count (family counter inst : Nat) : b.RoleKept (b.count family counter inst) :=
  (b.noted_count family counter inst).roleKept

theorem Blk.roleKept_emit (o : Output) : b.RoleKept (b.emit o) := (b.noted_emit o).roleKept

theorem Blk.roleKept_updTree (t : Nat) (f : Tree → Tree) : b.RoleKept (b.updTree t f) := ⟨b.inside_updTree t f, rfl⟩

theorem Blk.roleKept_driveTx (t : Nat) : b.RoleKept (b.driveTx t) := ⟨b.inside_driveTx t, rfl⟩

theorem Blk.roleKept_driveAll : b.RoleKept b.driveAll := Blk.roleKept_foldl _ (fun b t => b.roleKept_driveTx t) _ b

/-! ### A move of the transmitting side (R152) -/

theorem Blk.roleKept_sideOn (t : Nat) : b.RoleKept (b.sideOn t) := (b.roleKept_updTree _ _).trans (Blk.roleKept_driveTx _ _)

theorem Blk.roleKept_sideOff (t : Nat) : b.RoleKept (b.sideOff t) := (b.roleKept_updTree _ _).trans (Blk.roleKept_driveTx _ _)

theorem Blk.roleKept_drawSkew (t peer : Nat) : b.RoleKept (b.drawSkew t peer) := ⟨.of_eq rfl rfl, rfl⟩

theorem Blk.roleKept_moveSide (t : Nat) (here : Bool) : b.RoleKept (b.moveSide t here) := by
  unfold Blk.moveSide
  extract_lets x drawn own moved
  have hdrawn : b.RoleKept drawn := Blk.roleKept_ite (b.roleKept_drawSkew _ _) (.rfl' b)
  have hown : b.RoleKept own := hdrawn.trans (Blk.roleKept_ite (drawn.roleKept_sideOn _) (drawn.roleKept_sideOff _))
  have hmoved : b.RoleKept moved := hown.trans
    (Blk.roleKept_ite (Blk.roleKept_ite (own.roleKept_sideOff _) (own.roleKept_sideOn _)) (.rfl' own))
  exact Blk.roleKept_ite (.rfl' b) (hmoved.trans (moved.roleKept_vent _))

/-! ### A sub-port that goes down (R319) -/

theorem Blk.syncSet_pair (i : Nat) (f : SyncSource → SyncSource) : (b.syncSet i f).pair = b.pair := by
  have h := b.syncSet_cases i f
  by_cases hbest : Blk.syncBest { b with tim := { b.tim with sync := Tab.upd {} b.tim.sync i f } } = b.tim.selected
  · rw [h.1 hbest]
  · rw [h.2 hbest, Blk.vent_pair, Blk.count_pair]

theorem Blk.syncDown_pair (sub : Nat) : (b.syncDown sub).pair = b.pair :=
  List.foldlRecOn (motive := fun x : Blk => x.pair = b.pair) _ _ rfl (fun x hx _ _ => (x.syncSet_pair _ _).trans hx)

theorem Blk.flushSub_pair (sub : Nat) : (b.flushSub sub).pair = b.pair :=
  List.foldlRecOn (motive := fun x : Blk => x.pair = b.pair) _ _ (b.countN_pair _ _ _ _) (fun _ hx _ _ => hx)

theorem Blk.roleKept_subDown (sub : Nat) : b.RoleKept (b.subDown sub) := by
  have hsync := Blk.syncDown_pair ((b.flushSub sub).updSub sub SubPort.lowered) sub
  rw [Blk.updSub_pair, b.flushSub_pair sub] at hsync
  exact ⟨b.inside_subDown sub, congrArg Pair.role hsync⟩

/-! ### Counters that resume (R340, R341, R417) -/

theorem Blk.roleKept_updCarrier (flow : Nat) (f : CarrierKeys → CarrierKeys) : b.RoleKept (b.updCarrier flow f) :=
  ⟨b.inside_updCarrier flow f, rfl⟩

theorem Blk.roleKept_updLease (key : Nat) (f : Lease → Lease) : b.RoleKept (b.updLease key f) :=
  Blk.roleKept_ite ⟨.of_eq rfl rfl, rfl⟩ (b.roleKept_updCarrier _ _)

theorem Blk.roleKept_leaseTaken (key e : Nat) : b.RoleKept (b.leaseTaken key e) := by
  have hset : b.RoleKept (b.setLeaseEnd key e) := Blk.roleKept_ite ⟨.of_eq rfl rfl, rfl⟩ (b.roleKept_updCarrier _ _)
  exact ((hset.trans (Blk.roleKept_updLease _ _ _)).trans (Blk.roleKept_count _ _ _ _)).trans (Blk.roleKept_count _ _ _ _)

theorem Blk.roleKept_startLease (key e : Nat) : b.RoleKept (b.startLease key e) := by
  have hpending := b.roleKept_updLease key (fun l => { l with pending := some (e + leaseSize) })
  exact Blk.roleKept_ite (.rfl' b) (Blk.roleKept_ite (b.roleKept_leaseTaken _ _)
    (Blk.roleKept_ite hpending ((hpending.trans (Blk.roleKept_emit _ _)).trans (Blk.roleKept_emit _ _))))

theorem Blk.roleKept_leaseAnew (key e : Nat) : b.RoleKept (b.leaseAnew key e) :=
  (b.roleKept_updLease _ _).trans (Blk.roleKept_startLease _ _ _)

theorem Blk.roleKept_limitRecords (key n : Nat) (warned spent : Bool) : b.RoleKept (b.limitRecords key n warned spent) := by
  unfold Blk.limitRecords
  extract_lets isl own noted
  have hnoted : b.RoleKept noted := Blk.roleKept_ite (b.roleKept_vent _) (.rfl' b)
  exact Blk.roleKept_ite (hnoted.trans (Blk.roleKept_vent _ _)) hnoted

theorem Blk.roleKept_moveEp (e n : Nat) : b.RoleKept (b.moveEp e n) :=
  (b.roleKept_limitRecords _ _ _ _).trans ⟨.of_eq rfl rfl, rfl⟩

theorem Blk.roleKept_updFlow (x : Nat) (f : Flow → Flow) : b.RoleKept (b.updFlow x f) := ⟨.of_eq rfl rfl, rfl⟩

theorem Blk.roleKept_moveCarrier (flow n : Nat) : b.RoleKept (b.moveCarrier flow n) :=
  ((b.roleKept_limitRecords _ _ _ _).trans (Blk.roleKept_updCarrier _ _ _)).trans (Blk.roleKept_updFlow _ _ _)

theorem Blk.roleKept_resumeCounters : b.RoleKept b.resumeCounters :=
  (Blk.roleKept_foldl _ (fun b _ => (b.roleKept_moveEp _ _).trans (Blk.roleKept_leaseAnew _ _ _)) _ b).trans
    (Blk.roleKept_foldl _ (fun b _ => (b.roleKept_moveCarrier _ _).trans (Blk.roleKept_leaseAnew _ _ _)) _ _)

/-! ### Changes of the pair state (R415 to R418, R427, R428) -/

/-- A change of the pair state sets it, and what follows keeps it. -/
theorem Blk.toRole_kept (r : PairRole) : (b.setPair (fun p => { p with role := r })).RoleKept (b.toRole r) := by
  unfold Blk.toRole
  split
  next h => exact ⟨.of_eq rfl rfl, h⟩
  next h =>
    extract_lets old set noted driven
    have hnoted : set.RoleKept noted := (set.roleKept_count _ _ _).trans (Blk.roleKept_vent _ _)
    have hdriven : set.RoleKept driven := hnoted.trans noted.roleKept_driveAll
    exact Blk.roleKept_ite hdriven (hdriven.trans (Blk.roleKept_foldl _
      (fun y sub => Blk.roleKept_ite (y.roleKept_subDown sub) (.rfl' y)) _ _))

theorem Blk.role_toRole (r : PairRole) : (b.toRole r).pair.role = r := (b.toRole_kept r).role

theorem Blk.inside_toRole (r : PairRole) : b.Inside (b.toRole r) := (b.inside_setPair _).trans (b.toRole_kept r).inside

/-- A change of the pair unit that leaves its state. -/
theorem Blk.roleKept_setPair {f : Pair → Pair} (h : ∀ p, (f p).role = p.role) : b.RoleKept (b.setPair f) :=
  ⟨b.inside_setPair f, h _⟩

theorem Blk.roleKept_updTrees (f : Nat → Tree → Tree) (l : List Nat) : b.RoleKept (l.foldl (fun b t => b.updTree t (f t)) b) :=
  Blk.roleKept_foldl (fun b t => b.updTree t (f t)) (fun b t => b.roleKept_updTree t (f t)) l b

theorem Blk.takeOver_kept : (b.toRole .alone).RoleKept b.takeOver := by
  unfold Blk.takeOver
  extract_lets parted gey counted trees resumed moved
  have hparted : (b.toRole .alone).RoleKept parted := Blk.roleKept_setPair _ fun _ => rfl
  have hgey (g : Geyser) : parted.RoleKept { parted with gey := g } := ⟨.of_eq rfl rfl, rfl⟩
  have hcounted : parted.RoleKept counted := (hgey _).trans (Blk.roleKept_count _ _ _ _)
  have htrees : counted.RoleKept trees := counted.roleKept_updTrees _ _
  have hmoved : resumed.RoleKept moved := Blk.roleKept_foldl _
    (fun y t => Blk.roleKept_ite (y.roleKept_moveSide t true) (.rfl' y)) _ _
  exact ((((hparted.trans hcounted).trans htrees).trans trees.roleKept_resumeCounters).trans hmoved).trans moved.roleKept_driveAll

theorem Blk.isolate_kept : (b.toRole .isolated).RoleKept b.isolate := by
  unfold Blk.isolate
  extract_lets parted
  have hparted : (b.toRole .isolated).RoleKept parted := Blk.roleKept_setPair _ fun _ => rfl
  exact hparted.trans (Blk.roleKept_foldl _ (fun y t => Blk.roleKept_ite (y.roleKept_moveSide t false) (.rfl' y)) _ _)

theorem Blk.roleKept_emptyCold : b.RoleKept b.emptyCold := by
  unfold Blk.emptyCold
  extract_lets host cip dir gey sw cls tum emptied
  have hemptied : b.RoleKept emptied := ⟨.of_eq rfl rfl, rfl⟩
  exact hemptied.trans (emptied.roleKept_updTrees _ _)

theorem Blk.join_kept : (b.toRole .joining).RoleKept b.join := by
  unfold Blk.join
  extract_lets begun cold
  have hbegun : (b.toRole .joining).RoleKept begun := Blk.roleKept_setPair _ fun _ => rfl
  have hcold := hbegun.trans begun.roleKept_emptyCold
  exact Blk.roleKept_ite (hcold.trans (cold.roleKept_updTrees _ _)) hcold

end

theorem Blk.inside_takeOver (b : Blk) : b.Inside b.takeOver := (b.inside_toRole _).trans b.takeOver_kept.inside

theorem Blk.inside_isolate (b : Blk) : b.Inside b.isolate := (b.inside_toRole _).trans b.isolate_kept.inside

theorem Blk.inside_join (b : Blk) : b.Inside b.join := (b.inside_toRole _).trans b.join_kept.inside

theorem Blk.inside_startWtr (b : Blk) : b.Inside b.startWtr := b.inside_setPair _

theorem Blk.inside_swapRoles (b : Blk) : b.Inside b.swapRoles := (b.inside_toRole _).trans (Blk.inside_startWtr _)

/-- In a joined pair the preferred chip is active unless it waits. -/
theorem Blk.preferred_active {b : Blk} (h : b.joined = true) :
    (if b.prefWaits = true then b.pair.role.swapped else b.pair.role) = (if b.pref = true then .active else .standby) := by
  have hrole : b.pair.role = .active ∨ b.pair.role = .standby := by simpa [Blk.joined] using h
  rcases hrole with hrole | hrole <;> cases hpref : b.pref <;> simp [Blk.prefWaits, hrole, hpref, PairRole.swapped]

/-! ### PAIR_CONFIG (R429) -/

/-- The block with what PAIR_CONFIG sets. -/
def Blk.pairSet (b : Blk) (c : Cmd) : Blk := b.setPair (fun p => { p with
  enable := c.b 0 63, auto := c.b 0 62, secret := BitVec.ofNat 256 (c.inl / 2 ^ 64),
  idleFrame := p.idleFrame || b.pair.enable != c.b 0 63 })

section
variable {c : Cmd} {s : State} (ht : s.Takes Op.pairConfig c)
include ht

theorem pairConfig_starts (hon : c.b 0 63 = true) (hr : s.blk.pair.role = .solo) :
    exec (.pairConfig c) s = .next (s.answered Op.pairConfig c ((s.blk.pairSet c).toRole .alone) {}) :=
  exec_opcode_ok (i := .pairConfig c) rfl rfl ht.live ht.2
    ((if_neg (by simp [hon])).trans (if_pos ⟨hon, hr⟩)) rfl ((s.blk.inside_setPair _).trans (Blk.inside_toRole _ _))

theorem pairConfig_sets (h : c.b 0 63 = true ↔ s.blk.pair.role ≠ .solo) :
    exec (.pairConfig c) s = .next (s.answered Op.pairConfig c (s.blk.pairSet c) {}) := by
  refine exec_opcode_ok (i := .pairConfig c) rfl rfl ht.live ht.2 ?_ rfl (s.blk.inside_setPair _)
  cases hon : c.b 0 63 with
  | true =>
    have hr : s.blk.pair.role ≠ .solo := h.mp hon
    exact (if_neg (by simp [hon])).trans ((if_neg fun hx => hr hx.2).trans (if_neg (by simp [hon])))
  | false =>
    have hr : s.blk.pair.role = .solo := by simpa [hon] using h
    exact (if_neg (by simp [hr])).trans ((if_neg (by simp [hon])).trans (if_neg (by simp [hr])))

theorem pairConfig_ends (hoff : c.b 0 63 = false) (hr : s.blk.pair.role = .alone) :
    exec (.pairConfig c) s
      = .next (s.answered Op.pairConfig c (((s.blk.pairSet c).toRole .solo).setPair Pair.parted) {}) :=
  exec_opcode_ok (i := .pairConfig c) rfl rfl ht.live ht.2
    ((if_neg (by simp [hr])).trans ((if_neg (by simp [hoff])).trans (if_pos ⟨by simp [hoff], hr⟩))) rfl
    (((s.blk.inside_setPair _).trans (Blk.inside_toRole _ _)).trans (Blk.inside_setPair _ _))

theorem pairConfig_refused (hoff : c.b 0 63 = false) (hsolo : s.blk.pair.role ≠ .solo) (halone : s.blk.pair.role ≠ .alone) :
    exec (.pairConfig c) s = .next (s.answered Op.pairConfig c s.blk (Res.badField 0 63)) :=
  exec_opcode_fails (i := .pairConfig c) rfl rfl ht.live ht.2 (congrArg Prod.snd (if_pos ⟨by simp [hoff], hsolo, halone⟩))
    (by decide) (by decide)

end

/-! ### ROLE_REQUEST (R418, R426, R431) -/

/-- LOCK: the block with the lockout, on its preferred chip. -/
def Blk.roleLocked (b : Blk) : Blk :=
  let x := b.setPair (fun p => { p with lockout := true, wtrEnd := none })
  if b.prefWaits then x.toRole b.pair.role.swapped else x

theorem Blk.roleLocked_waits {b : Blk} (h : b.prefWaits = true) : b.roleLocked =
    (b.setPair (fun p => { p with lockout := true, wtrEnd := none })).toRole b.pair.role.swapped := if_pos h

theorem Blk.roleLocked_stands {b : Blk} (h : b.prefWaits = false) : b.roleLocked =
    b.setPair (fun p => { p with lockout := true, wtrEnd := none }) := if_neg (by simp [h])

theorem Blk.inside_roleLocked (b : Blk) : b.Inside b.roleLocked := by
  unfold Blk.roleLocked
  extract_lets x
  have hx : b.Inside x := b.inside_setPair _
  split
  · exact hx.trans (x.inside_toRole _)
  · exact hx

/-- RESTORE_NOW: the roles swap where wait-to-restore runs. -/
def Blk.restoredNow (b : Blk) : Blk :=
  if b.pair.wtrEnd.isSome then (b.setPair (fun p => { p with wtrEnd := none })).swapRoles else b

theorem Blk.restoredNow_none {b : Blk} (h : b.pair.wtrEnd = none) : b.restoredNow = b := if_neg (by simp [h])

theorem Blk.restoredNow_waits {b : Blk} (h : b.pair.wtrEnd ≠ none) :
    b.restoredNow = (b.setPair (fun p => { p with wtrEnd := none })).swapRoles :=
  if_pos (Option.isSome_iff_ne_none.mpr h)

theorem Blk.inside_restoredNow (b : Blk) : b.Inside b.restoredNow := by
  unfold Blk.restoredNow
  split
  · exact (b.inside_setPair _).trans (Blk.inside_swapRoles _)
  · exact .rfl' b

/-- LEAVE: the chip that fetched the command is isolated, and its partner takes over. -/
def Blk.left (b : Blk) (partner : Bool) : Blk := if partner then b.takeOver else b.isolate

theorem Blk.inside_left (b : Blk) (partner : Bool) : b.Inside (b.left partner) := by
  cases partner
  · exact b.inside_isolate
  · exact b.inside_takeOver

theorem Blk.roleAct_ok {b : Blk} {ok : Bool} (hj : b.joined = true) (hok : ok = true) (f : Blk → Blk) :
    b.roleAct ok f = (f b, {}) := if_pos (by simp [hj, hok])

theorem Blk.roleAct_refused {b : Blk} {ok : Bool} (h : b.joined = false ∨ ok = false) (f : Blk → Blk) :
    b.roleAct ok f = (b, Res.badField 0 61) := if_neg (by rcases h with h | h <;> simp [h])

section
variable {c : Cmd} {s : State}

section
variable {i : Instr} {action : Nat} {apply : Cmd → Blk → Blk × Res} {ok : Bool} {f : Blk → Blk}
  (hrow : opRow s.blk.sys.part i = some ⟨Op.roleRequest action, c, apply⟩) (hm : movesPhase i = false)
  (happly : apply c s.blk = s.blk.roleAct ok f) (ht : s.Takes (Op.roleRequest action) c)
include hrow hm happly ht

/-- A chip of a joined pair carries an action out. -/
theorem roleRequest_acts (hj : s.blk.joined = true) (hok : ok = true) (hin : s.blk.Inside (f s.blk)) :
    exec i s = .next (s.answered (Op.roleRequest action) c (f s.blk) {}) :=
  exec_opcode_ok hrow hm ht.live ht.2 (happly.trans (Blk.roleAct_ok hj hok f)) rfl hin

theorem roleRequest_refused (h : s.blk.joined = false ∨ ok = false) :
    exec i s = .next (s.answered (Op.roleRequest action) c s.blk (Res.badField 0 61)) :=
  exec_opcode_fails hrow hm ht.live ht.2 (congrArg Prod.snd (happly.trans (Blk.roleAct_refused h f))) (by decide) (by decide)

end

section
variable (hj : s.blk.joined = true)
include hj

theorem roleSwap_takes (ht : s.Takes (Op.roleRequest 0) c) (hfree : s.blk.pair.lockout = false) :
    exec (.roleSwap c) s = .next (s.answered (Op.roleRequest 0) c s.blk.swapRoles {}) :=
  roleRequest_acts (i := .roleSwap c) (f := Blk.swapRoles) rfl rfl rfl ht hj (by simp [hfree]) s.blk.inside_swapRoles

theorem roleLock_takes (ht : s.Takes (Op.roleRequest 1) c) :
    exec (.roleLock c) s = .next (s.answered (Op.roleRequest 1) c s.blk.roleLocked {}) :=
  roleRequest_acts (i := .roleLock c) (f := Blk.roleLocked) rfl rfl rfl ht hj rfl s.blk.inside_roleLocked

theorem roleUnlock_takes (ht : s.Takes (Op.roleRequest 2) c) : exec (.roleUnlock c) s
    = .next (s.answered (Op.roleRequest 2) c (s.blk.setPair (fun p => { p with lockout := false })) {}) :=
  roleRequest_acts (i := .roleUnlock c) (f := fun b => b.setPair _) rfl rfl rfl ht hj rfl (s.blk.inside_setPair _)

theorem roleLeave_takes (ht : s.Takes (Op.roleRequest 3) c) :
    exec (.roleLeave c) s = .next (s.answered (Op.roleRequest 3) c (s.blk.left c.partner) {}) :=
  roleRequest_acts (i := .roleLeave c) (f := fun b => b.left c.partner) rfl rfl rfl ht hj rfl (s.blk.inside_left _)

theorem roleRestoreNow_takes (ht : s.Takes (Op.roleRequest 4) c) :
    exec (.roleRestoreNow c) s = .next (s.answered (Op.roleRequest 4) c s.blk.restoredNow {}) :=
  roleRequest_acts (i := .roleRestoreNow c) (f := Blk.restoredNow) rfl rfl rfl ht hj rfl s.blk.inside_restoredNow

end

/-! ### RESYNC_START, WTR_CONFIG (R432, R433) -/

theorem resyncStart_joins (ht : s.Takes Op.resyncStart c) (hr : s.blk.pair.role = .isolated) (hup : s.blk.pair.linkUp = true) :
    exec (.resyncStart c) s = .next (s.answered Op.resyncStart c s.blk.join {}) :=
  exec_opcode_ok (i := .resyncStart c) rfl rfl ht.live ht.2 (if_pos ⟨hr, hup⟩) rfl s.blk.inside_join

theorem resyncStart_refused (ht : s.Takes Op.resyncStart c) (h : s.blk.pair.role ≠ .isolated ∨ s.blk.pair.linkUp = false) :
    exec (.resyncStart c) s = .next (s.answered Op.resyncStart c s.blk (Res.err .badParam 0)) := by
  have hrefused : ¬(s.blk.pair.role = .isolated ∧ s.blk.pair.linkUp = true) := by
    rcases h with h | h <;> simp [h]
  exact exec_opcode_fails (i := .resyncStart c) rfl rfl ht.live ht.2 (congrArg Prod.snd (if_neg hrefused)) (by decide) (by decide)

theorem wtrConfig_takes (ht : s.Takes Op.wtrConfig c) : exec (.wtrConfig c) s
    = .next (s.answered Op.wtrConfig c (s.blk.setPair (fun p => { p with revert := c.b 0 63, wtr := c.f 0 62 51 })) {}) :=
  exec_opcode_ok (i := .wtrConfig c) rfl rfl ht.live ht.2 rfl rfl (s.blk.inside_setPair _)

end

end Sys2Proof.Machine

/-! PROOFS. The commands of the Tumbler engines, and those of the time unit, the pair unit and the engines together. -/
namespace Sys2Proof.Machine

/-! ### A handler as it is kept (R447, R458) -/

section
variable {h : List Nat}

/-- A word whose 39 low bits hold a value below 2^39 in the place of others. -/
theorem div_lowBits {w x k : Nat} (hx : x < 2 ^ 39) (hk : 39 ≤ k) : (w / 2 ^ 39 * 2 ^ 39 + x) / 2 ^ k = w / 2 ^ k := by
  have hlow : (w / 2 ^ 39 * 2 ^ 39 + x) / 2 ^ 39 = w / 2 ^ 39 := by omega
  rw [← Nat.add_sub_cancel' hk, Nat.pow_add, ← Nat.div_div_eq_div_mul, ← Nat.div_div_eq_div_mul, hlow]

/-- WORST of a kept handler: 0 where it is not valid. -/
def keptWorst (h : List Nat) : Nat := if bit (h.getD 0 0) 63 then handlerWorst h else 0

theorem handlerKept_eq (h : List Nat) :
    handlerKept h = (h.getD 0 0 / 2 ^ 39 * 2 ^ 39 + keptWorst h * 2 ^ 26) :: h.drop 1 := rfl

theorem handlerKept_step (h : List Nat) (k : Nat) : (handlerKept h).getD (k + 1) 0 = h.getD (k + 1) 0 := by
  simp [handlerKept_eq, List.getD_eq_getElem?_getD, Nat.add_comm]

/-- A valid handler that R458 lets pass takes at most 4096 cycles. -/
theorem keptWorst_lt (hgood : handlerBad h = false) : keptWorst h < 2 ^ 13 := by
  unfold keptWorst
  split
  next hvalid =>
    have hworst : ¬4096 < handlerWorst h := by
      intro hlong
      have hhead : (handlerHead h).valid = true := hvalid
      simp [handlerBad, hhead, hlong] at hgood
    omega
  next => decide

theorem handlerHead_kept (hgood : handlerBad h = false) :
    handlerHead (handlerKept h) = { handlerHead h with worst := keptWorst h } := by
  have hworst := keptWorst_lt hgood
  have hx : keptWorst h * 2 ^ 26 < 2 ^ 39 := by omega
  have hfield : (h.getD 0 0 / 2 ^ 39 * 2 ^ 39 + keptWorst h * 2 ^ 26) / 2 ^ 26 % 2 ^ 13 = keptWorst h := by omega
  simp only [handlerHead, handlerKept_eq, List.getD_cons_zero, bit, bits, div_lowBits hx (by decide : 39 ≤ 63),
    div_lowBits hx (by decide : 39 ≤ 56), div_lowBits hx (by decide : 39 ≤ 55), div_lowBits hx le_rfl]
  rw [hfield]

theorem keptWorst_mod (hgood : handlerBad h = false) :
    keptWorst h = if bit (h.getD 0 0) 63 = true then handlerWorst h % 2 ^ 13 else 0 := by
  rw [← Nat.mod_eq_of_lt (keptWorst_lt hgood), keptWorst]
  split <;> rfl

theorem handlerIn_getD (ext : List Byte) (i : Nat) {k : Nat} (hk : k < 65) :
    (handlerIn ext i).getD k 0 = leWord ext (65 * i + k) := by
  simp [handlerIn, List.getD_eq_getElem?_getD, hk]

end

/-! ### HANDLER_WRITE (R458) -/

/-- The handlers that HANDLER_WRITE carries, as they are kept. -/
def handlersWritten (c : Cmd) (t : Tab (List Nat)) : Tab (List Nat) :=
  Tab.setRun resetHandler t (c.f 0 63 57) (c.f 0 56 49) (fun i => handlerKept (handlerIn c.ext i))

/-- All that HANDLER_WRITE does. -/
def Blk.handlerWritten (b : Blk) (c : Cmd) : Blk :=
  { b with tum := { b.tum with handlers := Vers.write [] b.tum.handlers b.clk.epoch (handlersWritten c) } }

theorem Blk.handlers_written (b : Blk) (c : Cmd) :
    Vers.cur [] (b.handlerWritten c).tum.handlers = handlersWritten c (Vers.cur [] b.tum.handlers) := Vers.cur_write _ _ _ _

section
variable {c : Cmd} {s : State}

/-- The handlers of a command that passes its checks keep R458. -/
theorem handlerBad_of_accepted {b : Blk} (h : b.acceptCheck Op.handlerWrite c = none) {i : Nat} (hi : i < c.f 0 56 49) :
    handlerBad (handlerIn c.ext i) = false := by
  have hnone := (List.append_eq_nil_iff.mp (Op.bad_of_accepted h)).2
  by_contra hbad
  have hany : (List.range (c.f 0 56 49)).any (fun i => handlerBad (handlerIn c.ext i)) = true :=
    List.any_eq_true.mpr ⟨i, List.mem_range.mpr hi, by simpa using hbad⟩
  simp [hany] at hnone

theorem handlerWrite_takes (ht : s.Takes Op.handlerWrite c) :
    exec (.handlerWrite c) s = .next (s.answered Op.handlerWrite c (s.blk.handlerWritten c) {}) :=
  exec_opcode_ok (i := .handlerWrite c) rfl rfl ht.live ht.2 rfl rfl (.of_eq rfl rfl)

theorem handlerOf_written {t : Tab (List Nat)} (hwf : Tab.wf resetHandler t = true) {i : Nat} (hi : i < c.f 0 56 49) :
    handlerOf (handlersWritten c t) (c.f 0 63 57 + i) = handlerKept (handlerIn c.ext i) := Tab.get_setRun hwf _ hi

theorem handlerOf_other (t : Tab (List Nat)) {k : Nat} (hk : k < c.f 0 63 57 ∨ c.f 0 63 57 + c.f 0 56 49 ≤ k) :
    handlerOf (handlersWritten c t) k = handlerOf t k := Tab.get_setRun_other t _ hk

/-! ### MGMT_CONFIG (R459) -/

/-- The block with a tree's management settings. -/
def Blk.mgmtSet (b : Blk) (t : Nat) (m : MgmtCfg) : Blk := { b with tum := { b.tum with mgmt := Tab.set {} b.tum.mgmt t m } }

theorem mgmtConfigTree_native (ht : s.Takes Op.mgmtConfigTree c) (hmode : (s.blk.tree (c.unit % 4096)).mode = .native)
    (hlo : 1 ≤ c.f 0 60 58) (hhi : c.f 0 60 58 ≤ 4) (hretry : c.f 0 54 51 ≠ 0) :
    exec (.mgmtConfigTree c) s = .next (s.answered Op.mgmtConfigTree c (s.blk.mgmtSet (c.unit % 4096) {
      enable := c.b 0 62, mib := c.b 0 61, maxOut := c.f 0 60 58, retries := c.f 0 57 55, retryS := c.f 0 54 51 }) {}) := by
  refine exec_opcode_ok (i := .mgmtConfigTree c) rfl rfl ht.live ht.2 ?_ rfl (.of_eq rfl rfl)
  have hout : ¬(c.f 0 60 58 = 0 ∨ 4 < c.f 0 60 58) := by omega
  refine (if_neg fun h => hout h.2).trans ((if_neg fun h => hretry h.2).trans ?_)
  simp [hmode, Blk.mgmtSet]

theorem mgmtConfigTree_standard (ht : s.Takes Op.mgmtConfigTree c) (hmode : (s.blk.tree (c.unit % 4096)).mode ≠ .native) :
    exec (.mgmtConfigTree c) s = .next (s.answered Op.mgmtConfigTree c (s.blk.mgmtSet (c.unit % 4096)
      { s.blk.mgmt (c.unit % 4096) with enable := c.b 0 62, mib := c.b 0 61 }) {}) := by
  refine exec_opcode_ok (i := .mgmtConfigTree c) rfl rfl ht.live ht.2 ?_ rfl (.of_eq rfl rfl)
  refine (if_neg (by simp [hmode])).trans ((if_neg (by simp [hmode])).trans ?_)
  simp [hmode, Blk.mgmtSet]

/-- The terminal that MGMT_CONFIG's send form names. -/
def sendTo (c : Cmd) : Nat := gid (c.unit % 4096) (c.f 0 62 54)

/-- Whether MGMT_CONFIG's send form may go: the terminal is active, and on a native tree its carrier is one for management. -/
def Blk.mayManage (b : Blk) (c : Cmd) : Prop :=
  (b.term (sendTo c)).state = .active ∧ ((b.tree (c.unit % 4096)).mode ≠ .native
    ∨ (Tab.get {} b.swCfg.carriers (c.unit % 4096 * 65536 + c.f 0 62 54)).purpose = 3)

theorem applyMgmtConfigSend_may {b : Blk} (h : b.mayManage c) : applyMgmtConfigSend c b =
    if c.f 0 53 38 ≠ 0 ∧ b.mgmtFull (sendTo c) (c.ext.take c.extLen) then (b, Res.err .noSpace)
    else (b.startSend (sendTo c) (c.f 0 53 38) (c.ext.take c.extLen), {}) := by
  obtain ⟨hactive, hcarrier⟩ := h
  refine if_neg ?_
  rintro (hidle | ⟨hmode, hpurpose⟩)
  · exact hidle hactive
  · exact hcarrier.elim (· hmode) hpurpose

theorem mgmtConfigSend_sends (ht : s.Takes Op.mgmtConfigSend c) (h : s.blk.mayManage c)
    (hroom : c.f 0 53 38 = 0 ∨ s.blk.mgmtFull (sendTo c) (c.ext.take c.extLen) = false) :
    exec (.mgmtConfigSend c) s = .next (s.answered Op.mgmtConfigSend c
      (s.blk.startSend (sendTo c) (c.f 0 53 38) (c.ext.take c.extLen)) {}) := by
  refine exec_opcode_ok (i := .mgmtConfigSend c) rfl rfl ht.live ht.2 ((applyMgmtConfigSend_may h).trans (if_neg ?_)) rfl
    (.of_eq rfl rfl)
  rcases hroom with hroom | hroom <;> simp [hroom]

theorem mgmtConfigSend_full (ht : s.Takes Op.mgmtConfigSend c) (h : s.blk.mayManage c) (htci : c.f 0 53 38 ≠ 0)
    (hfull : s.blk.mgmtFull (sendTo c) (c.ext.take c.extLen) = true) :
    exec (.mgmtConfigSend c) s = .next (s.answered Op.mgmtConfigSend c s.blk (Res.err .noSpace)) :=
  exec_opcode_fails (i := .mgmtConfigSend c) rfl rfl ht.live ht.2
    (congrArg Prod.snd ((applyMgmtConfigSend_may h).trans (if_pos ⟨htci, hfull⟩))) (by decide) (by decide)

theorem mgmtConfigSend_idle (ht : s.Takes Op.mgmtConfigSend c) (h : (s.blk.term (sendTo c)).state ≠ .active) :
    exec (.mgmtConfigSend c) s = .next (s.answered Op.mgmtConfigSend c s.blk (Res.badField 0 54)) :=
  exec_opcode_fails (i := .mgmtConfigSend c) rfl rfl ht.live ht.2 (congrArg Prod.snd (if_pos (.inl h))) (by decide) (by decide)

/-- A message that expects no reply opens no transaction. -/
theorem Blk.startSend_plain (b : Blk) (g : Nat) (msg : List Byte) : b.startSend g 0 msg =
    { b with tum := { b.tum with sends := b.tum.sends ++ [(g, msg, b.clk.epoch)] } } := rfl

end


/-- Settles O59, command by command. -/
theorem timePairAndEnginesAreConfigured : Obligations.TimePairAndEnginesAreConfigured := by
  unfold Obligations.TimePairAndEnginesAreConfigured
  intro c s b times
  refine ⟨?device, timeConfigTree_takes, ?port, fun ht => ⟨?absolute, ?offset, ?negative, ?source, ?none⟩, ppsConfig_takes, ?synce,
    ?pair, ?role, b.role_toRole, ?takeOver, ?isolate, ?join, Blk.preferred_active,
    fun hj ht => roleRequest_refused (i := .roleSwap c) rfl rfl rfl ht (.inl hj),
    fun hj ht => roleRequest_refused (i := .roleLock c) rfl rfl rfl ht (.inl hj),
    fun hj ht => roleRequest_refused (i := .roleLeave c) rfl rfl rfl ht (.inl hj),
    fun hj ht => roleRequest_refused (i := .roleRestoreNow c) rfl rfl rfl ht (.inl hj),
    fun hj ht => roleRequest_refused (i := .roleUnlock c) rfl rfl rfl ht (.inl hj),
    fun ht => ⟨resyncStart_joins ht, resyncStart_refused ht⟩, wtrConfig_takes, ?handler, ?mgmtTree, ?mgmtSend⟩
  case device =>
    intro ht profile src set
    refine ⟨fun hprofile => ?_, fun hother hroles => timeConfigDevice_held ht ⟨hother, hroles⟩⟩
    have hfree : ¬b.profileHeld c := fun ⟨hother, hroles⟩ =>
      hprofile.elim hother (fun hnone => Bool.false_ne_true (hnone.symm.trans hroles))
    have htakes := timeConfigDevice_takes ht hfree
    exact ⟨fun hsame h0 => htakes.trans (by rw [Blk.timeConfigured_same hsame h0]; rfl), _, htakes, b.timeConfigured_keeps c⟩
  case port =>
    intro ht sub
    refine ⟨ptpPortConfig_unformed ht, ptpPortConfig_noPriority ht, fun hformed hprio hroom hwf => ?_,
      fun hformed hprio hrole hfull => ptpPortConfig_full ht hformed hprio hrole hfull⟩
    obtain ⟨t, hconfigured, -⟩ := b.ptpConfigured_eq c
    exact ⟨_, ptpPortConfig_takes ht hformed hprio hroom, by rw [hconfigured], Blk.ptpConfigured_port c hwf⟩
  case absolute =>
    intro hmode new
    obtain ⟨htod, hgen, habs, hraws, -⟩ := b.stepTo_keeps (absoluteTime c) (c.f 0 63 62 == 0)
    exact ⟨_, _, rfl, stepTime_takes ht (stepTarget_absolute hmode _ _) (Int.natCast_nonneg _), htod, hgen,
      habs.trans (by simp [hmode]), hraws⟩
  case offset =>
    intro hmode h0
    obtain ⟨htod, -⟩ := b.stepTo_keeps (offsetTime c b.tim.tod).toNat (c.f 0 63 62 == 0)
    exact ⟨_, _, rfl, stepTime_takes ht (stepTarget_offset hmode _ _) h0, by rw [htod]; exact Int.toNat_of_nonneg h0⟩
  case negative => exact fun hmode hneg => stepTime_negative ht (stepTarget_offset hmode _ _) hneg
  case source =>
    intro o hmode hsampled h0
    have htarget := (stepTarget_source hmode b.tim.tod b.tim.sampled).trans (congrArg _ hsampled)
    obtain ⟨htod, -, -, -, hnone⟩ := b.stepTo_keeps ((b.tim.tod : Int) + o).toNat (c.f 0 63 62 == 0)
    exact ⟨_, _, rfl, stepTime_takes ht htarget h0, by rw [htod]; exact Int.toNat_of_nonneg h0, hnone⟩
  case none =>
    intro hmode hsampled
    exact stepTime_none ht ((stepTarget_source hmode b.tim.tod b.tim.sampled).trans (congrArg _ hsampled))
  case synce =>
    intro ht hformed
    exact ⟨_, synceConfig_takes ht hformed, (b.timeCfg_synceConfigured c).trans (Blk.timeCfg_setTimeCfg _ _),
      Blk.selected_syncChoose _⟩
  case pair =>
    intro ht set
    exact ⟨pairConfig_starts ht, pairConfig_sets ht, pairConfig_ends ht, pairConfig_refused ht⟩
  case role =>
    intro hj
    refine ⟨roleSwap_takes hj, fun ht hlock => ?_, fun ht => ?_, roleUnlock_takes hj, fun ht => ?_, fun ht hnone => ?_,
      fun ht hwait => ?_⟩
    · exact roleRequest_refused (i := .roleSwap c) rfl rfl rfl ht (.inr (by rw [show s.blk.pair.lockout = true from hlock]; rfl))
    · have hlock := roleLock_takes hj ht
      exact ⟨fun h => Blk.roleLocked_waits h ▸ hlock, fun h => Blk.roleLocked_stands h ▸ hlock⟩
    · have hleave := roleLeave_takes hj ht
      exact ⟨fun h => hleave.trans (by rw [h]; rfl), fun h => hleave.trans (by rw [h]; rfl)⟩
    · exact (roleRestoreNow_takes hj ht).trans (by rw [Blk.restoredNow_none hnone])
    · exact (roleRestoreNow_takes hj ht).trans (by rw [Blk.restoredNow_waits hwait]; rfl)
  case takeOver => exact b.takeOver_kept.role.trans (b.role_toRole _)
  case isolate => exact b.isolate_kept.role.trans (b.role_toRole _)
  case join => exact b.join_kept.role.trans (b.role_toRole _)
  case handler =>
    intro ht hwf
    refine ⟨_, handlerWrite_takes ht, rfl, fun i hi k hk => ?_, fun i hi => ?_, fun k hk => ?_⟩
    · rw [b.handlers_written c, handlerOf_written hwf hi, handlerKept_step, handlerIn_getD _ _ (by omega), Nat.add_assoc]
    · have hgood := handlerBad_of_accepted ht.2 hi
      have hfirst := handlerIn_getD c.ext i (k := 0) (by decide)
      rw [b.handlers_written c, handlerOf_written hwf hi, handlerHead_kept hgood, keptWorst_mod hgood, hfirst, Nat.add_zero]
    · rw [b.handlers_written c, handlerOf_other _ hk]
  case mgmtTree => exact fun ht => ⟨mgmtConfigTree_native ht, mgmtConfigTree_standard ht⟩
  case mgmtSend =>
    intro ht t g tci msg
    refine ⟨fun hactive hcarrier => ⟨fun htci => ?_, fun _ hroom => ?_, fun htci hfull => ?_⟩, mgmtConfigSend_idle ht⟩
    · have hsend := mgmtConfigSend_sends ht ⟨hactive, hcarrier⟩ (.inl htci)
      rwa [show c.f 0 53 38 = 0 from htci, Blk.startSend_plain] at hsend
    · exact mgmtConfigSend_sends ht ⟨hactive, hcarrier⟩ (.inr hroom)
    · exact mgmtConfigSend_full ht ⟨hactive, hcarrier⟩ htci hfull

end Sys2Proof.Machine

/-! PROOFS. The layout of a Vent record, counters that saturate, records that merge, and the events of a fault source. -/
namespace Sys2Proof.Machine

/-! ### The layout of a Vent record (R473) -/

/-- A word of some words, as host memory holds them. -/
theorem leWord_wordsLe (ws : List Nat) (i : Nat) (hi : i < ws.length) (h : ws[i] < 2 ^ 64) : leWord (wordsLe ws) i = ws[i] := by
  induction ws generalizing i with
  | nil => exact absurd hi (Nat.not_lt_zero i)
  | cons w r ih =>
    rw [← List.append_nil (wordsLe (w :: r))]
    cases i with
    | zero => exact leWord_zero w r [] h
    | succ i =>
      rw [leWord_succ, List.append_nil]
      exact ih i (Nat.lt_of_succ_lt_succ hi) h

/-- Word 0 of a record. -/
def Rec.word0 (r : Rec) : Nat := pack [(r.type, 48), (r.tenant, 41), (r.island, 34), (r.rep, 16)]

/-- The fields of word 0, each where R473 puts it, and its reserved bits 0. -/
theorem Rec.word0_fields (r : Rec) (htype : r.type < 2 ^ 16) (htenant : r.tenant < 2 ^ 7) (hisland : r.island < 2 ^ 7)
    (hrep : r.rep < 2 ^ 18) :
    r.word0 < 2 ^ 64 ∧ bits r.word0 63 48 = r.type ∧ bits r.word0 47 41 = r.tenant ∧ bits r.word0 40 34 = r.island
    ∧ bits r.word0 33 16 = r.rep ∧ bits r.word0 15 0 = 0 := by
  simp only [bits, Rec.word0, pack, List.foldl]
  omega

/-- Settles O20: every field is read back from the word that holds it. -/
theorem ventRecordLayout : Obligations.VentRecordLayout := by
  unfold Obligations.VentRecordLayout
  intro r htype htenant hisland hrep hseq hfirst hlast hobject hdetail hw6 hw7
  obtain ⟨hword0, hfields⟩ := r.word0_fields htype htenant hisland hrep
  have hread (i : Nat) (hi : i < 8) := leWord_wordsLe r.words i hi
  have h0 : leWord (wordsLe r.words) 0 = r.word0 := hread 0 (by decide) hword0
  obtain ⟨hbtype, hbtenant, hbisland, hbrep, hspare⟩ := hfields
  rw [h0]
  exact ⟨wordsLe_length _, hbtype, hbtenant, hbisland, hbrep, hspare, hread 1 (by decide) hseq, hread 2 (by decide) hfirst,
    hread 3 (by decide) hlast, hread 4 (by decide) hobject, hread 5 (by decide) hdetail, hread 6 (by decide) hw6,
    hread 7 (by decide) hw7⟩

/-! ### Counters (R463, R467) -/

theorem Tele.get_bump_same (t : Tele) (k n : Nat) (hw : Tab.wf {} t.ctrs = true) :
    Tab.get {} (t.bump k n).1.ctrs k = ((Tab.get {} t.ctrs k).bump n).1 := Tab.get_set_same _ _ _ _ hw

theorem Tele.get_bump_other (t : Tele) (k n : Nat) {j : Nat} (hj : j ≠ k) :
    Tab.get {} (t.bump k n).1.ctrs j = Tab.get {} t.ctrs j := Tab.get_set_other _ _ _ _ _ hj

/-- Settles O23: below the top, at the top again, and at the top for the first time. -/
theorem countersSaturate : Obligations.CountersSaturate := by
  unfold Obligations.CountersSaturate
  intro b family counter inst n hn hw k c
  have hsame : Tab.get {} (b.tele.bump k n).1.ctrs k = (c.bump n).1 := b.tele.get_bump_same k n hw
  refine ⟨fun hlow => ?_, fun hhigh hsat => ?_, fun hhigh hsat => ⟨?_, ?_⟩⟩
  · have hbump := c.bump_low n hlow
    rw [b.countN_quiet family counter inst n hn.ne' (congrArg Prod.snd hbump)]
    exact ⟨hsame.trans (congrArg Prod.fst hbump), rfl, fun j hj => b.tele.get_bump_other k n hj⟩
  · have hbump := c.bump_high n hhigh
    rw [b.countN_quiet family counter inst n hn.ne' ((congrArg Prod.snd hbump).trans (by simp [hsat]))]
    exact ⟨hsame.trans (congrArg Prod.fst hbump), rfl⟩
  · exact hsame.trans (congrArg Prod.fst (c.bump_high n hhigh))
  · exact b.countN_sat family counter inst n hn.ne' ((congrArg Prod.snd (c.bump_high n hhigh)).trans (by simp [hsat, hn.ne']))

/-! ### Records (R471, R472) -/

/-- A record equal to the newest one held. -/
theorem Blk.ventStore_merges {b : Blk} {n : RecIn} {l : List Rec} {r : Rec} (h : b.tele.vent = l ++ [r]) (hr : r.same n = true) :
    (b.ventStore n).tele.vent = l ++ [r.merge n b.clk.epoch] ∧ (b.ventStore n).tele.seq = b.tele.seq := by
  have hlast : b.tele.vent.getLast? = some r := by simp [h]
  simp only [Blk.ventStore, hlast, hr, if_true]
  exact ⟨by simp [h], rfl⟩

section
variable {b : Blk} {n : RecIn} (hnew : ∀ r, b.tele.vent.getLast? = some r → r.same n = false) (hlost : b.tele.losses = [])

include hnew in
theorem Blk.ventStore_new : b.ventStore n = b.ventRoom n := by
  unfold Blk.ventStore
  split
  next r hr => exact if_neg (by simp [hnew r hr])
  next => rfl

include hnew hlost

theorem Blk.ventStore_appends (h : b.tele.vent.length < b.tele.capacity) : b.ventStore n = b.ventAppend n := by
  rw [Blk.ventStore_new hnew, Blk.ventRoom, Blk.flushLost_none _ _ hlost]
  exact if_pos h

/-- In a full ring the loss is the first of its island. -/
theorem Blk.ventStore_loses (h : b.tele.capacity ≤ b.tele.vent.length) :
    b.ventStore n = { b with tele := { (b.tele.bump (ctrKey 0xC4 3 n.island) 1).1 with
      losses := Tab.set {} [] n.island { count := 1, first := b.clk.epoch, last := b.clk.epoch } } } := by
  rw [Blk.ventStore_new hnew, Blk.ventRoom, Blk.flushLost_none _ _ hlost]
  refine (if_neg (Nat.not_lt.mpr h)).trans ?_
  simp only [Tele.bump, hlost]
  rfl

end

/-- Settles O24: merged, appended or lost. -/
theorem ventMergesAppendsOrLoses : Obligations.VentMergesAppendsOrLoses := by
  unfold Obligations.VentMergesAppendsOrLoses
  intro b n
  refine ⟨fun l r h hr => Blk.ventStore_merges h hr, fun hnew hlost => ⟨fun hroom => ?_, fun hfull => ?_⟩⟩
  · rw [Blk.ventStore_appends hnew hlost hroom]
    exact ⟨rfl, rfl⟩
  · rw [Blk.ventStore_loses hnew hlost hfull]
    exact ⟨rfl, rfl, Tab.get_set_same _ _ _ _ rfl⟩

/-! ### The window of a fault source (R476, R477) -/

/-- A fault source after an event at an epoch, of which w is the window. -/
def Source.judged (x : Source) (epoch : Nat) (w : Nat × Nat) : Source :=
  let events := (epoch :: x.events).take 16
  { x with events := events, doomed := x.doomed || decide (w.2 ≤ (events.filter (fun e => epoch < e + 1000 * w.1)).length) }

/-- Of the sources an event changes its own, and the counts and the record that follow change none. -/
theorem Blk.faultEvent_sources (b : Blk) (kind index : Nat) :
    (b.faultEvent kind index).tele.sources = Tab.upd {} b.tele.sources (sourceKey kind index)
      (fun x => x.judged b.clk.epoch (b.tele.window kind)) :=
  ((Blk.logged_count _ _ _ _).trans (Blk.logged_vent _ _)).sources_eq

/-- Settles O25. -/
theorem faultWindowJudges : Obligations.FaultWindowJudges := by
  unfold Obligations.FaultWindowJudges
  intro b kind index hw k old w now
  have hnow : now = old.judged b.clk.epoch w :=
    (congrArg (fun t => Tab.get {} t k) (b.faultEvent_sources kind index)).trans (Tab.get_upd_same _ _ _ _ hw)
  rw [hnow, b.faultEvent_sources kind index]
  refine ⟨rfl, ?_, rfl, by simp, fun j hj => Tab.get_upd_other _ _ _ _ _ hj⟩
  rw [Source.judged, Bool.or_eq_true, decide_eq_true_iff]

end Sys2Proof.Machine

/-! PROOFS. Start-up, self-test and Dormant: what a command does to the straps and to the phase of life, which commands wait for
service, and cold starts. -/
namespace Sys2Proof.Machine

/-! ### What a command does to the straps and to the phase of life (R491, R492, R500, R503, R509, R523) -/

/-- The straps change at a release in reset alone, and the phase with the commands that move it. -/
structure Lives (i : Instr) (b b' : Blk) : Prop where
  straps : releases i = false ∨ b.sys.phase ≠ .reset → b'.sys.straps = b.sys.straps
  phase : movesPhase i = false → b'.sys.phase = b.sys.phase

theorem Lives.same (i : Instr) (b : Blk) : Lives i b b := ⟨fun _ => rfl, fun _ => rfl⟩

theorem Lives.within (i : Instr) (b after : Blk) : Lives i b (b.within after) := ⟨fun _ => rfl, fun _ => rfl⟩

/-- A command that may move the phase. -/
theorem Lives.moves {i : Instr} {b b' : Blk} (hm : movesPhase i = true) (hs : b'.sys.straps = b.sys.straps) : Lives i b b' :=
  ⟨fun _ => hs, fun h => absurd (hm.symm.trans h) Bool.false_ne_true.symm⟩

/-- A release in reset. -/
theorem Lives.samples {i : Instr} {b b' : Blk} (hm : movesPhase i = true) (hr : releases i = true) (hp : b.sys.phase = .reset) :
    Lives i b b' :=
  ⟨fun h => h.elim (fun hno => absurd (hr.symm.trans hno) Bool.false_ne_true.symm) (fun hno => absurd hp hno),
    fun h => absurd (hm.symm.trans h) Bool.false_ne_true.symm⟩

theorem Lives.timed {i : Instr} (hm : movesPhase i = true) (b after : Blk) : Lives i b (b.timed after) := .moves hm rfl

theorem Lives.timed_at {i : Instr} (hm : movesPhase i = true) (b after : Blk) (epoch fc : Nat) :
    Lives i b ((b.timed after).at epoch fc) := .moves hm rfl

theorem Lives.ite {i : Instr} {b x y : Blk} {c : Prop} [Decidable c] (hx : c → Lives i b x) (hy : Lives i b y) :
    Lives i b (if c then x else y) := by
  split
  next h => exact hx h
  next => exact hy

/-- The commands with a shape of their own. -/
theorem raw_lives (i : Instr) (s : State) (h : (movesPhase i || movesFrame i) = true) :
    ∃ b, exec i s = .next (s.put b) ∧ Lives i s.blk b := by
  rcases raw_cases i h with rfl | rfl | ⟨n, rfl⟩ | ⟨x, rfl⟩ | ⟨x, rfl⟩ | ⟨r, rfl⟩ | ⟨t, l, rfl⟩ | ⟨l, n, rfl⟩ | ⟨r, rfl⟩ | rfl |
    ⟨c, rfl⟩ | ⟨x, rfl⟩ | ⟨x, mac, kek, rfl⟩
  · exact ⟨_, rfl, .moves rfl rfl⟩
  · exact ⟨_, rfl, .moves rfl rfl⟩
  · exact ⟨_, rfl, .ite (fun _ => .same _ _) (.moves rfl rfl)⟩
  · exact ⟨_, rfl, .ite (fun hx => .samples rfl rfl hx.1) (.same _ _)⟩
  · exact ⟨_, rfl, .ite (fun hx => .samples rfl rfl hx.1) (.same _ _)⟩
  · exact ⟨_, rfl, .ite (fun _ => .same _ _) (.moves rfl rfl)⟩
  · exact ⟨_, rfl, .ite (fun _ => .same _ _) (.ite (fun _ => .moves rfl rfl) (.timed rfl _ _))⟩
  · exact ⟨_, rfl, .ite (fun _ => .timed_at rfl _ _ _ _) (.same _ _)⟩
  · exact ⟨_, rfl, .timed rfl _ _⟩
  · exact ⟨_, rfl, .ite (fun _ => .ite (fun _ => .timed_at rfl _ _ _ _) (.same _ _))
      (.ite (fun _ => .timed_at rfl _ _ _ _) (.same _ _))⟩
  · exact ⟨_, selftestRun_shape c s, .timed rfl _ _⟩
  · exact ⟨_, rfl, .ite (fun _ => ⟨fun _ => rfl, fun _ => rfl⟩) (.same _ _)⟩
  · exact ⟨_, rfl, .ite (fun _ => .ite (fun _ => ⟨fun _ => rfl, fun _ => rfl⟩) (.within _ _ _)) (.same _ _)⟩

theorem exec_lives (i : Instr) (s : State) : ∃ b, exec i s = .next (s.put b) ∧ Lives i s.blk b := by
  cases shape i s with
  | unit f h => exact ⟨_, h.trans (State.unit_eq s f), .within _ _ _⟩
  | svc f h =>
    by_cases hp : s.blk.sys.phase = .service
    · exact ⟨_, h.trans (State.svc_eq s f hp), .within _ _ _⟩
    · exact ⟨_, h.trans (State.svc_out s f hp), .same _ _⟩
  | alive f h =>
    by_cases hp : s.blk.sys.phase.paced = true
    · exact ⟨_, h.trans (State.alive_eq s f hp), .within _ _ _⟩
    · exact ⟨_, h.trans (State.alive_out s f (by simpa using hp)), .same _ _⟩
  | raw h => exact raw_lives i s h

theorem exec_next_lives {i : Instr} {s t : State} (h : exec i s = .next t) : Lives i s.blk t.blk := by
  obtain ⟨b, hb, hl⟩ := exec_lives i s
  obtain rfl : s.put b = t := by simpa using hb.symm.trans h
  exact hl

/-! ### Releases (R492, R494, R526) -/

/-- The block once start-up has begun. -/
theorem resetRelease_starts (x : Straps) {s : State} (hp : s.blk.sys.phase = .reset) (hr : s.blk.sys.railLow = false) :
    exec (.resetRelease x) s = .next (s.put (s.blk.startUp x)) := by
  show execResetRelease x s = _
  rw [execResetRelease, State.run_eq, if_pos ⟨hp, by simp [hr]⟩, State.put]

theorem undervoltageRelease_starts (x : Straps) {s : State} (hp : s.blk.sys.phase = .reset) (hr : s.blk.sys.railLow = true) :
    exec (.undervoltageRelease x) s
      = .next (s.put (Blk.startUp { s.blk with sys := { s.blk.sys with railLow := false, startKind := 0 } } x)) := by
  show execUndervoltageRelease x s = _
  rw [execUndervoltageRelease, State.run_eq, if_pos ⟨hp, hr⟩, State.put]

/-- Settles O9: a release in reset samples them, and by `exec_lives` nothing else does. -/
theorem strapsAreSampledAtRelease : Obligations.StrapsAreSampledAtRelease :=
  ⟨fun x _ hp hr => ⟨_, resetRelease_starts x hp hr, rfl⟩, fun x _ hp hr => ⟨_, undervoltageRelease_starts x hp hr, rfl⟩,
    fun _ _ _ h => (exec_next_lives h).straps⟩

/-- Settles O10. -/
theorem onlyStartUpMovesThePhase : Obligations.OnlyStartUpMovesThePhase :=
  fun _ _ _ hm h => (exec_next_lives h).phase hm

/-! ### What waits for service, or for the end of self-test (R493, R496, R501) -/

/-- Of the commands with a shape of their own two carry service. -/
theorem raw_service {i : Instr} (h : (movesPhase i || movesFrame i) = true) (hs : serviceRow i = true) :
    (∃ x, i = .downstreamFrame x) ∨ ∃ x mac kek, i = .joinHandshake x mac kek := by
  rcases raw_cases i h with rfl | rfl | ⟨n, rfl⟩ | ⟨x, rfl⟩ | ⟨x, rfl⟩ | ⟨r, rfl⟩ | ⟨t, l, rfl⟩ | ⟨l, n, rfl⟩ | ⟨r, rfl⟩ | rfl |
    ⟨c, rfl⟩ | hx | hx
  case inr.inr.inr.inr.inr.inr.inr.inr.inr.inr.inr.inl => exact .inl hx
  case inr.inr.inr.inr.inr.inr.inr.inr.inr.inr.inr.inr => exact .inr hx
  all_goals exact absurd hs Bool.false_ne_true

/-- And one is an opcode command. -/
theorem raw_opcode {i : Instr} (h : (movesPhase i || movesFrame i) = true) (ho : isOpcode i = true) : ∃ c, i = .selftestRun c := by
  rcases raw_cases i h with rfl | rfl | ⟨n, rfl⟩ | ⟨x, rfl⟩ | ⟨x, rfl⟩ | ⟨r, rfl⟩ | ⟨t, l, rfl⟩ | ⟨l, n, rfl⟩ | ⟨r, rfl⟩ | rfl |
    hc | ⟨x, rfl⟩ | ⟨x, mac, kek, rfl⟩
  case inr.inr.inr.inr.inr.inr.inr.inr.inr.inr.inl => exact hc
  all_goals exact absurd ho Bool.false_ne_true

/-- Settles O11: a service row is a unit that acts in service alone, the frame tick or the handshake. -/
theorem serviceCommandsNeedService : Obligations.ServiceCommandsNeedService := by
  unfold Obligations.ServiceCommandsNeedService
  intro i s hs hp
  cases shape i s with
  | unit f _ _ hno => exact absurd (hs.symm.trans hno) Bool.false_ne_true.symm
  | svc f h => exact h.trans (State.svc_out s f hp)
  | alive f _ _ hno => exact absurd (hs.symm.trans hno) Bool.false_ne_true.symm
  | raw h =>
    rcases raw_service h hs with ⟨x, rfl⟩ | ⟨x, mac, kek, rfl⟩
    · show execDownstreamFrame x s = _
      rw [execDownstreamFrame, State.run_eq, if_neg (fun hx => hp hx.1)]
    · show execJoinHandshake x mac kek s = _
      rw [execJoinHandshake, State.run_eq, if_neg (fun hx => hp hx.1)]

/-- Which commands have an opcode row does not depend on the part. -/
theorem opRow_isSome (p q : Part) (i : Instr) : (opRow p i).isSome = (opRow q i).isSome := by
  cases i <;> dsimp only [opRow, Option.isSome_some, Option.isSome_none]

/-- Settles O12: an opcode row takes nothing in another phase, SELFTEST_RUN included. -/
theorem opcodesWaitForSelfTest : Obligations.OpcodesWaitForSelfTest := by
  unfold Obligations.OpcodesWaitForSelfTest
  intro i s ho hservice hdormant
  have hout : ¬(s.blk.sys.phase = .service ∨ s.blk.sys.phase = .dormant) := not_or.mpr ⟨hservice, hdormant⟩
  cases hm : movesPhase i with
  | false =>
    obtain ⟨r, hr⟩ := Option.isSome_iff_exists.mp ((opRow_isSome s.blk.sys.part .bvh6400 i).trans ho)
    rw [opcode_shape i r s hr hm, State.opcode]
    exact State.unit_idle (Blk.runOp_out _ _ _ _ hout)
  | true =>
    obtain ⟨c, rfl⟩ := raw_opcode (by simp [hm]) ho
    rw [selftestRun_shape, State.run_eq, Blk.runOp_out _ _ _ _ hout]
    rfl

/-! ### Cold starts (R491, R499, R525, R526, R530) -/

theorem Blk.cold_cleared (b : Blk) (phase : Phase) (kind : Nat) : (b.cold phase kind).Cleared :=
  ⟨rfl, rfl, rfl, rfl, rfl, rfl, rfl, rfl, rfl, rfl, rfl, rfl, rfl, rfl⟩

/-- RESET_N low for 2 µs. -/
theorem pinReset_long {n : Nat} {s : State} (hn : 2000 ≤ n) (hp : s.blk.sys.phase ≠ .unpowered) :
    exec (.pinReset n) s = .next (s.put (s.blk.cold .reset (if s.blk.sys.railLow then 0 else 1))) := by
  show execPinReset n s = _
  rw [execPinReset, State.run_eq, if_neg (not_or.mpr ⟨Nat.not_lt.mpr hn, hp⟩), State.put]

theorem pinReset_short {n : Nat} {s : State} (hn : n < 2000) : exec (.pinReset n) s = .next s := by
  show execPinReset n s = _
  rw [execPinReset, State.run_eq, if_pos (.inl hn)]

theorem railUndervoltage_watched {rail : Rail} {s : State} (hr : rail ≠ .aon) (hp : s.blk.sys.phase ≠ .unpowered) :
    exec (.railUndervoltage rail) s
      = .next (s.put (Blk.cold { s.blk with sys := { s.blk.sys with railLow := true } } .reset 0)) := by
  show execRailUndervoltage rail s = _
  rw [execRailUndervoltage, State.run_eq, if_neg (not_or.mpr ⟨hr, hp⟩), State.put]

theorem railUndervoltage_aon (s : State) : exec (.railUndervoltage .aon) s = .next s := by
  show execRailUndervoltage .aon s = _
  rw [execRailUndervoltage, State.run_eq, if_pos (.inl rfl)]

/-- Settles O26, cause by cause. -/
theorem coldStartsClearTheBlock : Obligations.ColdStartsClearTheBlock :=
  ⟨fun _ => ⟨_, rfl, rfl, Blk.cold_cleared _ _ _, rfl, rfl, rfl, rfl, rfl⟩,
    fun _ => ⟨_, rfl, rfl, Blk.cold_cleared _ _ _, rfl, rfl⟩,
    fun _ _ hn hp => ⟨_, pinReset_long hn hp, rfl, Blk.cold_cleared _ _ _, rfl, rfl, rfl, rfl, rfl⟩,
    fun _ _ hn => pinReset_short hn,
    fun _ _ hr hp => ⟨_, railUndervoltage_watched hr hp, rfl, Blk.cold_cleared _ _ _, rfl, rfl, rfl, rfl⟩,
    railUndervoltage_aon⟩

end Sys2Proof.Machine

/-! PROOFS. The tests of a cold start, the loss of a reference, temperatures and the test port, and the resets of PCIe. -/
namespace Sys2Proof.Machine

/-! ### The tests of a cold start (R494, R497 to R500, R505) -/

section
variable {test : Nat} {s : State}

/-- A test that is due ends, but for a failed test 0x01. -/
theorem selftestTestDone_ends {failed : List Nat} (hdue : s.blk.testDue test = true)
    (h : test ≠ 0x01 ∨ s.blk.testFails test failed = []) :
    exec (.selftestTestDone test failed) s = .next (s.put (s.blk.timed (s.blk.testDone test failed))) := by
  show execSelftestTestDone test failed s = _
  rw [execSelftestTestDone, State.run_eq, if_neg (by simp [hdue]), if_neg (fun hx => h.elim (· hx.1) hx.2), State.put]

theorem selftestTestDone_held {failed : List Nat} (hdue : s.blk.testDue 0x01 = true) (h : s.blk.testFails 0x01 failed ≠ []) :
    exec (.selftestTestDone 0x01 failed) s = .next (s.put (s.blk.cold .reset s.blk.sys.startKind)) := by
  show execSelftestTestDone 0x01 failed s = _
  rw [execSelftestTestDone, State.run_eq, if_neg (by simp [hdue]), if_pos ⟨rfl, h⟩, State.put]

end

/-- The block with a test struck off the list. -/
def Blk.struck (b : Blk) (test : Nat) : Blk := { b with sys := { b.sys with tests := b.sys.tests.erase test } }

theorem Blk.testPassed_plain (b : Blk) {test : Nat} (h1 : test ≠ 0x01) (h4 : test ≠ 0x04) (h13 : test ≠ 0x13) :
    b.testPassed test = b := by simp [Blk.testPassed, h1, h4, h13]

/-- Of the system's registers a test that passes changes its list and whether PCIe is up. -/
theorem Blk.struck_testPassed_sys (b : Blk) (test : Nat) :
    ((b.struck test).testPassed test).sys
        = { b.sys with tests := b.sys.tests.erase test, pcieUp := ((b.struck test).testPassed test).sys.pcieUp }
      ∧ ((b.struck test).testPassed test).clk = b.clk := by
  unfold Blk.testPassed
  split_ifs
  · simp [Blk.struck]
  · exact ⟨rfl, rfl⟩
  · exact ⟨rfl, rfl⟩
  · exact ⟨rfl, rfl⟩

/-- Which units fail a test depends on the part and on the references. -/
theorem Blk.testFails_congr {b b' : Blk} (hpart : b'.sys.part = b.sys.part) (htree : b'.sys.refTree = b.sys.refTree)
    (huplink : b'.sys.refUplink = b.sys.refUplink) (test : Nat) (failed : List Nat) :
    b'.testFails test failed = b.testFails test failed := by
  rw [Blk.testFails, Blk.testFails, hpart, htree, huplink]

/-- A test without a failure. -/
theorem Blk.testDone_passes {b : Blk} {test : Nat} (h : b.testFails test [] = []) :
    b.testDone test [] = ((b.struck test).testPassed test).coldDone := by
  have hsys := (b.struck_testPassed_sys test).1
  have hfails : ((b.struck test).testPassed test).testFails test [] = [] :=
    (Blk.testFails_congr (congrArg Sys.part hsys :) (congrArg Sys.refTree hsys :) (congrArg Sys.refUplink hsys :) test []).trans h
  show (match (Blk.testEnds (if b.testFails test [] = [] then (b.struck test).testPassed test else b.struck test) {} test []).2 with
    | none => (Blk.testEnds (if b.testFails test [] = [] then (b.struck test).testPassed test else b.struck test) {} test []).1
    | some cause => _).coldDone = _
  rw [if_pos h, Blk.testEnds, hfails]
  rfl

theorem Blk.coldDone_waits {b : Blk} (h : b.sys.tests ≠ []) : b.coldDone = b := if_neg (fun hx => h hx.2)

/-- A test passes that is not the last. -/
theorem selftestTestDone_passes {test : Nat} {s : State} (hdue : s.blk.testDue test = true) (h : s.blk.testFails test [] = [])
    (hmore : s.blk.sys.tests.erase test ≠ []) :
    exec (.selftestTestDone test []) s = .next (s.put ((s.blk.struck test).testPassed test)) := by
  obtain ⟨hsys, hclk⟩ := s.blk.struck_testPassed_sys test
  rw [selftestTestDone_ends hdue (.inr h), Blk.testDone_passes h, Blk.coldDone_waits (by rw [hsys]; exact hmore),
    Blk.timed_eq (b := s.blk) hclk (congrArg Sys.part hsys :) (congrArg Sys.rev hsys :) (congrArg Sys.straps hsys :)]

/-- The last test passes: the head-end is in service. -/
theorem selftestTestDone_last {s : State} (hp : s.blk.sys.phase = .selfTest) (htests : s.blk.sys.tests = [0x12])
    (href : s.blk.sys.refTree = true) (hheld : s.blk.host.sb.held = none) :
    exec (.selftestTestDone 0x12 []) s
      = .next (s.put { s.blk with sys := { s.blk.sys with phase := .service, tests := [] } }) := by
  have hdue : s.blk.testDue 0x12 = true := by
    rw [Blk.testDue, hp, htests]
    decide
  have hfails : s.blk.testFails 0x12 [] = [] := rfl
  have hstruck : s.blk.struck 0x12 = { s.blk with sys := { s.blk.sys with tests := [] } } := by
    rw [Blk.struck, htests]
    rfl
  have hdone : (s.blk.struck 0x12).coldDone = { s.blk with sys := { s.blk.sys with phase := .service, tests := [] } } := by
    rw [hstruck, Blk.coldDone, if_pos ⟨hp, rfl⟩]
    exact (if_pos href).trans (Blk.sbRelease_none _ hheld)
  rw [selftestTestDone_ends hdue (.inr hfails), Blk.testDone_passes hfails,
    Blk.testPassed_plain _ (by decide) (by decide) (by decide), hdone]
  rfl

theorem Blk.coldDone_dormant {b : Blk} (h : b.sys.phase = .dormant) : b.coldDone = b :=
  if_neg (fun hx => Phase.noConfusion (h.symm.trans hx.1))

/-- The block after the failure of a test with no unit to retire, which is counted and recorded. -/
def Blk.deviceFails (b : Blk) (test : Nat) : Blk :=
  Blk.vent { b.struck test with sys := { (b.struck test).sys with stFails := min 65535 (b.sys.stFails + 1) } } (testFail test 0 2)

theorem Blk.testDone_device {b : Blk} {test : Nat} (h : test = 0x02 ∨ test = 0x12) :
    b.testDone test [0] = ((b.deviceFails test).enterDormant (causeWord 1 test 0 0)).coldDone := by
  rcases h with rfl | rfl
  · rfl
  · rfl

/-- A failed test of the device leads to Dormant. -/
theorem selftestTestDone_device {test : Nat} {s : State} (h : test = 0x02 ∨ test = 0x12) (hp : s.blk.sys.phase = .selfTest)
    (hdue : s.blk.testDue test = true) :
    ∃ t, exec (.selftestTestDone test [0]) s = .next t ∧ t.pending = s.pending ∧ t.blk.sys.phase = .dormant
      ∧ t.blk.sys.cause = causeWord 1 test 0 0 ∧ t.blk.sys.stFails = min 65535 (s.blk.sys.stFails + 1) := by
  have hsys : (s.blk.deviceFails test).sys
      = { (s.blk.struck test).sys with stFails := min 65535 (s.blk.sys.stFails + 1) } := Blk.vent_sys _ _
  have hawake : (s.blk.deviceFails test).sys.phase.inDormant = false := by
    rw [hsys]
    exact congrArg Phase.inDormant hp
  have hcause : causeWord 1 test 0 0 / 2 ^ 56 ≠ 3 := by rcases h with rfl | rfl <;> decide
  obtain ⟨hentered, -, -⟩ := (s.blk.deviceFails test).enterDormant_spec (causeWord 1 test 0 0) hawake hcause
  have hnot1 : test ≠ 0x01 := by rcases h with rfl | rfl <;> decide
  refine ⟨_, selftestTestDone_ends hdue (.inl hnot1), rfl, ?_⟩
  rw [Blk.testDone_device h, Blk.coldDone_dormant (by rw [hentered]), State.put, Blk.timed_sys, hentered, hsys]
  exact ⟨rfl, rfl, rfl⟩

/-- Settles O27, from the release to the last test. -/
theorem selfTestLeadsToService : Obligations.SelfTestLeadsToService := by
  unfold Obligations.SelfTestLeadsToService
  refine ⟨fun x s hp hr => resetRelease_starts x hp hr, fun x s hp hr => undervoltageRelease_starts x hp hr,
    fun test s _ hdue hfails hmore => ?passes, fun s => selftestTestDone_last, fun s _ hdue => ?held,
    fun test s => selftestTestDone_device⟩
  case passes =>
    intro sys
    have hpass := selftestTestDone_passes hdue hfails hmore
    refine ⟨fun h1 h4 h13 => ?_, ?_, ?_, ?_⟩
    · rwa [Blk.testPassed_plain _ h1 h4 h13] at hpass
    · rintro rfl
      exact hpass
    · rintro rfl
      exact hpass
    · rintro rfl
      rw [hpass]
      simp [Blk.testPassed, Blk.coldStart, pack, Nat.mul_comm]
      rfl
  case held => exact ⟨_, selftestTestDone_held hdue (by simp [Blk.testFails, testsUnit]), rfl, Blk.cold_cleared _ _ _, rfl⟩

/-! ### The loss and return of a reference (R478, R501, R523) -/

/-- Fault sources after others, when all that changed is that more units are doomed. -/
structure MoreDoomed (t t' : Tab Source) : Prop where
  wf : Tab.wf {} t' = true
  role : ∀ k, (Tab.get {} t' k).role = (Tab.get {} t k).role
  doomed : ∀ k, (Tab.get {} t k).doomed = true → (Tab.get {} t' k).doomed = true

theorem MoreDoomed.refl {t : Tab Source} (h : Tab.wf {} t = true) : MoreDoomed t t := ⟨h, fun _ => rfl, fun _ => id⟩

theorem MoreDoomed.trans {t u v : Tab Source} (h : MoreDoomed t u) (k : MoreDoomed u v) : MoreDoomed t v :=
  ⟨k.wf, fun i => (k.role i).trans (h.role i), fun i hi => k.doomed i (h.doomed i hi)⟩

theorem moreDoomed_upd {t : Tab Source} (h : Tab.wf {} t = true) (key : Nat) :
    MoreDoomed t (Tab.upd {} t key (fun x => { x with doomed := true })) := by
  have hget : ∀ k, Tab.get {} (Tab.upd {} t key (fun x => { x with doomed := true })) k
      = if k = key then { Tab.get {} t k with doomed := true } else Tab.get {} t k := by
    intro k
    split
    next hk => rw [hk, Tab.get_upd_same _ _ _ _ h]
    next hk => rw [Tab.get_upd_other _ _ _ _ _ hk]
  refine ⟨Tab.wf_upd _ _ _ _ h, fun k => ?_, fun k hk => ?_⟩
  · rw [hget]
    split <;> rfl
  · rw [hget]
    split
    · rfl
    · exact hk

/-- Whether an island is retired is told by roles alone. -/
theorem Tele.islandRetired_congr {t t' : Tele} (h : ∀ k, (Tab.get {} t'.sources k).role = (Tab.get {} t.sources k).role) (i : Nat) :
    t'.islandRetired i = t.islandRetired i := by
  simp only [Tele.islandRetired, Tele.retired, Tele.role, h]

/-- Dooms an island that is not retired yet. -/
def Blk.doomIsland (b : Blk) (i : Nat) : Blk :=
  if b.tele.islandRetired i then b else b.updSource 0x01 i (fun x => { x with doomed := true })

theorem Blk.doomIslands_eq (b : Blk) (l : List Nat) :
    l.foldl Blk.doomIsland b = { b with tele := { b.tele with sources := (l.foldl Blk.doomIsland b).tele.sources } } := by
  induction l generalizing b with
  | nil => rfl
  | cons i l ih =>
    have hi : b.doomIsland i = { b with tele := { b.tele with sources := (b.doomIsland i).tele.sources } } := by
      unfold Blk.doomIsland
      split <;> rfl
    rw [List.foldl_cons, ih, hi]

/-- The block without its uplink reference. -/
def Blk.uplinkLost (b : Blk) : Blk := { b with sys := { b.sys with refUplink := false } }

theorem Blk.timed_doomIslands (b : Blk) (l : List Nat) :
    b.timed (l.foldl Blk.doomIsland b.uplinkLost) = { b.uplinkLost with
      tele := { b.tele with sources := (l.foldl Blk.doomIsland b.uplinkLost).tele.sources } } := by
  have hfold := Blk.doomIslands_eq b.uplinkLost l
  generalize l.foldl Blk.doomIsland b.uplinkLost = doomed at hfold ⊢
  rw [hfold]
  rfl

theorem Blk.moreDoomed_doomIsland {b : Blk} (h : Tab.wf {} b.tele.sources = true) (i : Nat) :
    MoreDoomed b.tele.sources (b.doomIsland i).tele.sources := by
  unfold Blk.doomIsland
  split
  · exact .refl h
  · exact moreDoomed_upd h _

theorem Blk.moreDoomed_doomIslands {b : Blk} (h : Tab.wf {} b.tele.sources = true) (l : List Nat) :
    MoreDoomed b.tele.sources (l.foldl Blk.doomIsland b).tele.sources := by
  induction l generalizing b with
  | nil => exact .refl h
  | cons i l ih =>
    have hi := Blk.moreDoomed_doomIsland h i
    exact hi.trans (ih hi.wf)

/-- Each island of the list that is not retired is doomed. -/
theorem Blk.doomIslands_doomed {b : Blk} (h : Tab.wf {} b.tele.sources = true) {l : List Nat} {i : Nat} (hi : i ∈ l)
    (hr : b.tele.islandRetired i = false) :
    (Tab.get {} (l.foldl Blk.doomIsland b).tele.sources (sourceKey 0x01 i)).doomed = true := by
  induction l generalizing b with
  | nil => cases hi
  | cons j l ih =>
    have hj := Blk.moreDoomed_doomIsland h j
    rcases List.mem_cons.mp hi with rfl | hi
    · refine (Blk.moreDoomed_doomIslands hj.wf l).doomed _ ?_
      rw [Blk.doomIsland, if_neg (by simp [hr]), Blk.updSource_tele, Tab.get_upd_same _ _ _ _ h]
    · exact ih hj.wf hi ((Tele.islandRetired_congr hj.role i).trans hr)

section
variable {s : State}

/-- The tree reference lost in service. -/
theorem refclkLoss_tree_service (hp : s.blk.sys.phase = .service) :
    exec (.refclkLoss .tree) s = .next (s.put (s.blk.timed
      (Blk.enterDormant { s.blk with sys := { s.blk.sys with refTree := false } } (causeWord 2 0 101 1)))) := by
  show execRefclkLoss .tree s = _
  rw [execRefclkLoss, State.run_eq, State.put]
  dsimp only
  rw [if_pos hp]

/-- The uplink reference lost in service. -/
theorem refclkLoss_uplink_service (hp : s.blk.sys.phase = .service) :
    ∃ sources, exec (.refclkLoss .uplink) s = .next (s.put { s.blk with
        sys := { s.blk.sys with refUplink := false }, tele := { s.blk.tele with sources := sources } })
      ∧ ∀ i, 71 ≤ i → i ≤ 76 → Tab.wf {} s.blk.tele.sources = true → s.blk.tele.islandRetired i = false →
        (Tab.get {} sources (sourceKey 0x01 i)).doomed = true := by
  have hexec : exec (.refclkLoss .uplink) s
      = .next (s.put (s.blk.timed (((List.range 6).map (71 + ·)).foldl Blk.doomIsland s.blk.uplinkLost))) := by
    show execRefclkLoss .uplink s = _
    rw [execRefclkLoss, State.run_eq, State.put]
    dsimp only
    rw [if_pos hp]
    rfl
  refine ⟨_, hexec.trans (congrArg (fun b => Host.Outcome.next (s.put b)) (Blk.timed_doomIslands s.blk _)),
    fun i hlo hhi hw hr => ?_⟩
  have hi : i ∈ (List.range 6).map (71 + ·) := List.mem_map.mpr ⟨i - 71, List.mem_range.mpr (by omega), by omega⟩
  exact Blk.doomIslands_doomed (b := s.blk.uplinkLost) hw hi hr

theorem refclkLoss_tree_early (hp : s.blk.sys.phase = .reset ∨ s.blk.sys.phase = .selfTest) :
    exec (.refclkLoss .tree) s = .next (s.put { s.blk with sys := { s.blk.sys with refTree := false } }) := by
  have hphase : s.blk.sys.phase ≠ .service ∧ s.blk.sys.phase.inDormant = false := by rcases hp with h | h <;> rw [h] <;> decide
  show execRefclkLoss .tree s = _
  rw [execRefclkLoss, State.run_eq, State.put]
  dsimp only
  rw [if_neg hphase.1, if_neg (by simp [hphase.2])]
  rfl

theorem refclkLoss_tree_dormant (hp : s.blk.sys.phase = .dormant) :
    exec (.refclkLoss .tree) s = .next (s.put { s.blk with
      sys := { s.blk.sys with refTree := false }, clk := { s.blk.clk with healthPaced := true } }) := by
  show execRefclkLoss .tree s = _
  rw [execRefclkLoss, State.run_eq, State.put]
  dsimp only
  rw [if_neg (by simp [hp]), if_pos (by simp [hp, Phase.inDormant])]
  rfl

end

/-- Settles O28: Dormant is entered as `Blk.enterDormant_spec` says, and the uplink islands are doomed one by one. -/
theorem referenceLossesAreHandled : Obligations.ReferenceLossesAreHandled := by
  unfold Obligations.ReferenceLossesAreHandled
  refine ⟨fun s hp => ?tree, fun s => refclkLoss_tree_early, fun s => refclkLoss_tree_dormant, fun s hp => ?uplink,
    fun s => rfl, fun s => rfl, fun s => rfl, fun s => rfl⟩
  case tree =>
    obtain ⟨hsys, hclk, hhost⟩ := Blk.enterDormant_spec { s.blk with sys := { s.blk.sys with refTree := false } }
      (causeWord 2 0 101 1) (congrArg Phase.inDormant hp) (by decide)
    refine ⟨_, refclkLoss_tree_service hp, rfl, ?_⟩
    simp only [State.put, Blk.timed_sys, Blk.timed_clk, Blk.timed_host, hsys, hclk]
    exact ⟨trivial, trivial, trivial, trivial, trivial, rfl, hhost⟩
  case uplink =>
    obtain ⟨sources, hexec, hdoomed⟩ := refclkLoss_uplink_service hp
    exact ⟨_, hexec, rfl, rfl, hdoomed⟩

/-! ### Temperatures and the test port (R535, R537, R538) -/

/-- The bit of a stack. -/
theorem getLsbD_stack (k i : Nat) (hi : i < 2) : (BitVec.ofNat 2 (2 ^ k)).getLsbD i = decide (i = k) := by
  rw [BitVec.getLsbD_ofNat, decide_eq_true hi, Bool.true_and, Nat.testBit_two_pow]
  exact decide_eq_decide.mpr eq_comm

theorem Blk.inside_refresh (b : Blk) (stack : Nat) (twice : Bool) : b.Inside (b.refresh stack twice) := ⟨rfl, rfl, rfl, rfl, rfl, rfl⟩

theorem hbmTempHigh_refreshes (k : Nat) {s : State} (hp : s.blk.sys.phase = .service) :
    exec (.hbmTempHigh k) s = .next (s.put (s.blk.refresh k true)) :=
  State.svc_to (f := fun b => b.refresh k true) _ hp rfl (s.blk.inside_refresh k true)

theorem hbmTempNormal_refreshes (k : Nat) {s : State} (hp : s.blk.sys.phase = .service) :
    exec (.hbmTempNormal k) s = .next (s.put (s.blk.refresh k false)) :=
  State.svc_to (f := fun b => b.refresh k false) _ hp rfl (s.blk.inside_refresh k false)

/-- Settles O29. -/
theorem thermalAndTestPortEvents : Obligations.ThermalAndTestPortEvents := by
  unfold Obligations.ThermalAndTestPortEvents
  refine ⟨fun k s _ hp => ⟨_, hbmTempHigh_refreshes k hp, rfl, fun i hi => ?_⟩,
    fun k s _ hp => ⟨_, hbmTempNormal_refreshes k hp, rfl, fun i hi => ?_⟩,
    fun s hp => ?_, fun x s hp => ?_, fun s => rfl⟩
  · show (s.blk.sys.refresh2x ||| BitVec.ofNat 2 (2 ^ k)).getLsbD i = _
    rw [BitVec.getLsbD_or, getLsbD_stack k i hi, Bool.or_comm]
  · show (s.blk.sys.refresh2x &&& ~~~ BitVec.ofNat 2 (2 ^ k)).getLsbD i = _
    rw [BitVec.getLsbD_and, BitVec.getLsbD_not, getLsbD_stack k i hi, decide_eq_true hi, Bool.true_and, Bool.and_comm]
  · show execThermTrip s = _
    exact State.unit_to _ (if_neg hp) ⟨rfl, rfl, rfl, rfl, rfl, rfl⟩
  · show execExtest x s = _
    exact State.unit_to _ (if_neg hp) ⟨rfl, rfl, rfl, rfl, rfl, rfl⟩

/-! ### The resets of PCIe (R495, R523) -/

theorem Blk.inside_pcieReset (b : Blk) (hit : Nat → Bool) : b.Inside (b.pcieReset hit) := .of_eq rfl rfl

/-- A filter by keys that drops key k. -/
theorem Tab.get_filter_dropped {α : Type} (d : α) (p : Nat → Bool) (t : Tab α) (k : Nat) (h : p k = false) :
    Tab.get d (t.filter (fun x => p x.1)) k = d :=
  Tab.get_absent d _ k fun x hx hk => by
    have hp := (List.mem_filter.mp hx).2
    rw [hk, h] at hp
    exact Bool.false_ne_true hp

/-- A table without the keys that are hit. -/
theorem Tab.get_unhit {α : Type} (d : α) (hit : Nat → Bool) (t : Tab α) (k : Nat) :
    Tab.get d (t.filter (fun x => !hit x.1)) k = if hit k then d else Tab.get d t k := by
  split
  next h => exact Tab.get_filter_dropped d (fun k => !hit k) t k (by simp [h])
  next h => exact Tab.get_filter d (fun k => !hit k) t k (by simpa using h)

/-- What becomes of a receive ring of a function: its weight alone stays. -/
def resetRx (hit : Nat → Bool) (x : Nat × RxRing) : Option (Nat × RxRing) :=
  if hit x.1 then (if x.2.weight = 1 then none else some (x.1, { ({} : RxRing) with weight := x.2.weight })) else some x

theorem get_resetRx (hit : Nat → Bool) (t : Tab RxRing) (hw : Tab.wf {} t = true) (k : Nat) :
    Tab.get {} (t.filterMap (resetRx hit)) k
      = if hit k then { ({} : RxRing) with weight := (Tab.get {} t k).weight } else Tab.get {} t k := by
  induction t with
  | nil => simp [Tab.get]
  | cons x r ih =>
    obtain ⟨j, w⟩ := x
    obtain ⟨-, habove, hr⟩ := (Tab.wf_cons _ j w r).mp hw
    have hnext := ih hr
    by_cases hj : hit j = true
    · by_cases h1 : w.weight = 1
      · rw [List.filterMap_cons_none (by simp [resetRx, hj, h1]), hnext]
        by_cases hk : j = k
        · subst hk
          rw [Tab.get_of_above _ _ _ habove, Tab.get, if_pos rfl, h1]
          simp [hj]
        · rw [Tab.get, if_neg hk]
      · rw [List.filterMap_cons_some (b := (j, { ({} : RxRing) with weight := w.weight })) (by simp [resetRx, hj, h1])]
        by_cases hk : j = k
        · subst hk
          simp [Tab.get, hj]
        · simp [Tab.get, hk, hnext]
    · rw [List.filterMap_cons_some (b := (j, w)) (by simp [resetRx, hj])]
      by_cases hk : j = k
      · subst hk
        simp [Tab.get, hj]
      · simp [Tab.get, hk, hnext]

theorem pcieConfigRequest_answers (fn sinceReset sincePerst : Nat) (s : State) : exec (.pcieConfigRequest fn sinceReset sincePerst) s
    = .next (s.put (s.blk.emit (.configAnswer fn (decide (sinceReset < 60000 ∨ sincePerst < 60000))))) :=
  State.unit_to (f := fun b => b.emit (.configAnswer fn (decide (sinceReset < 60000 ∨ sincePerst < 60000)))) _ rfl
    (s.blk.inside_emit _)

/-- Settles O31. -/
theorem pcieResetsActOnPcieAlone : Obligations.PcieResetsActOnPcieAlone := by
  unfold Obligations.PcieResetsActOnPcieAlone
  refine ⟨fun s h => State.unit_to _ (if_pos h) (s.blk.inside_pcieReset _),
    fun s h => State.unit_to _ (if_pos h) (s.blk.inside_pcieReset _),
    fun fn s h => State.unit_to _ (if_pos h) (s.blk.inside_pcieReset _),
    fun fn a b s => pcieConfigRequest_answers fn a b s, fun b hit => ?_⟩
  refine ⟨Tab.get_unhit {} (fun k => hit (k / 8)) b.host.rings, Tab.get_unhit {} (fun k => hit (k / 16)) b.msix,
    get_resetRx hit b.sw.rings, rfl, ?_, rfl⟩
  simp [Blk.pcieReset, List.map_map, Function.comp_def]

end Sys2Proof.Machine

/-! PROOFS. The Marionette link: HELLO, frames, silence, the handshake and the states named for a boundary to come. -/
namespace Sys2Proof.Machine

/-! ### What a joined partner tells of the trees (R152, R183) -/

theorem Blk.moveSide_pair (b : Blk) (t : Nat) (here : Bool) : (b.moveSide t here).pair = b.pair := by
  unfold Blk.moveSide
  by_cases hmove : (b.tree t).transmits = here
  · simp [hmove]
  · by_cases hpeer : (b.tree t).protect.scheme = 2 <;> cases here <;>
      simp [hmove, hpeer, Blk.protectRec, Blk.sideOn, Blk.sideOff, Blk.driveTx, Blk.drawSkew]

theorem Blk.judgeSide_pair (b : Blk) (t : Nat) : (b.judgeSide t).pair = b.pair := by
  unfold Blk.judgeSide
  split
  · rfl
  · split
    · exact b.moveSide_pair t _
    · rfl

theorem Blk.roleKept_judgeSide (b : Blk) (t : Nat) : b.RoleKept (b.judgeSide t) := by
  unfold Blk.judgeSide
  split
  · exact .rfl' b
  · split
    · exact b.roleKept_moveSide t _
    · exact b.roleKept_updTree t _

theorem Blk.takeFact_pair (b : Blk) (f : TreeFact) : (b.takeFact f).pair = b.pair := by
  unfold Blk.takeFact
  extract_lets x told judged
  show judged.pair = told.pair
  by_cases h : (x.otherLos != f.los && x.protect.scheme == 1) = true
  · exact (congrArg Blk.pair (if_pos h)).trans ((Blk.judgeSide_pair _ _).trans (Blk.vent_pair _ _))
  · exact congrArg Blk.pair (if_neg h)

theorem Blk.roleKept_takeFact (b : Blk) (f : TreeFact) : b.RoleKept (b.takeFact f) := by
  unfold Blk.takeFact
  extract_lets x told judged
  have htold : b.RoleKept told := b.roleKept_updTree _ _
  have hjudged : told.RoleKept judged :=
    Blk.roleKept_ite ((told.roleKept_vent _).trans (Blk.roleKept_judgeSide _ _)) (.rfl' told)
  exact (htold.trans hjudged).trans (judged.roleKept_driveTx _)

/-- What the partner tells of several trees. -/
def Blk.takeFacts (b : Blk) (l : List TreeFact) : Blk := l.foldl Blk.takeFact b

theorem Blk.takeFacts_pair (b : Blk) (l : List TreeFact) : (b.takeFacts l).pair = b.pair :=
  List.foldlRecOn (motive := fun c : Blk => c.pair = b.pair) _ _ rfl fun (c : Blk) hc f _ => (c.takeFact_pair f).trans hc

theorem Blk.roleKept_takeFacts (b : Blk) (l : List TreeFact) : b.RoleKept (b.takeFacts l) :=
  Blk.roleKept_foldl _ Blk.roleKept_takeFact l b

/-! ### HELLO (R393, R397, R418) -/

theorem helloTx_sends {s : State} (hp : s.blk.sys.phase = .service) (hpair : s.blk.hasPair = true) :
    exec .helloTx s = .next (s.put (s.blk.sendLink 0x01 (Config.helloBytes (s.blk.ownHello ++ s.blk.treeFacts)))) := by
  show execHelloTx s = _
  rw [execHelloTx]
  exact State.pairRow_to _ hp hpair rfl (s.blk.inside_sendLink _ _)

theorem Blk.joined_congr {b c : Blk} (h : c.pair.role = b.pair.role) : c.joined = b.joined := by rw [Blk.joined, h, Blk.joined]

/-- A chip that has joined is not ISOLATED. -/
theorem Blk.mayJoin_joined {b : Blk} (h : b.joined = true) : b.mayJoin = false := by
  cases hr : b.pair.role <;> simp_all [Blk.joined, Blk.mayJoin]

theorem Blk.roleKept_setPair_count (b : Blk) {f : Pair → Pair} (h : ∀ p, (f p).role = p.role) {family counter inst : Nat} :
    b.RoleKept ((b.setPair f).count family counter inst) := (b.roleKept_setPair h).trans (Blk.roleKept_count _ _ _ _)

theorem Blk.roleKept_setPair_vent (b : Blk) {f : Pair → Pair} (h : ∀ p, (f p).role = p.role) {n : RecIn} :
    b.RoleKept ((b.setPair f).vent n) := (b.roleKept_setPair h).trans (Blk.roleKept_vent _ _)

/-- A HELLO is counted, and tells who the partner is. -/
def Blk.greet (b : Blk) (hello : Hello) : Blk :=
  let was := b.pair.linkUp
  let b := if was then b else b.setPair (fun p => { p with txSeq := [], rxSeq := [], retries := [] })
  (b.setPair (fun p => { p with
    hello := some hello, partner := hello.state % 16, linkUp := true, wdIn := if was then p.wdIn else true,
    wdNoted := was && p.wdNoted, actIn := hello.state == 1 || hello.state == 3 })).count 0xA4 1 83

/-- The straps of a HELLO are compared with ours. -/
def Blk.compareStraps (b : Blk) (hello : Hello) : Blk :=
  if (hello.wave == b.wave || hello.pref == b.pref) && !b.pair.strapBad then
    (b.setPair (fun p => { p with strapBad := true })).vent { type := 0x0A00, island := 83 }
  else b

/-- A joined chip takes what a HELLO tells of the trees. -/
def Blk.informed (b : Blk) (trees : List TreeFact) : Blk :=
  if b.joined then b.takeFacts (trees.filter (fun f => decide (f.tree < Part.trees b.sys.part))) else b

/-- An ISOLATED chip begins to join where it may. -/
def Blk.joinIfMay (b : Blk) : Blk := if b.mayJoin && b.pair.auto then b.join else b

theorem execHelloRx_eq (h : Hello) (trees : List TreeFact) (s : State) : exec (.helloRx ⟨h, trees⟩) s = s.pairRow (fun b =>
    if b.laneCount < 3 then b else (((b.greet h).compareStraps h).informed trees).joinIfMay) := rfl

/-- What a HELLO says of the partner, on a link that is up. -/
def Blk.greeted (b : Blk) (h : Hello) : Blk :=
  (b.setPair (fun p => { p with hello := some h, partner := h.state % 16, actIn := h.state == 1 || h.state == 3 })).count 0xA4 1 83

theorem Blk.greet_up {b : Blk} (h : Hello) (hup : b.pair.linkUp = true) : b.greet h = b.greeted h := by
  have hstay : b.setPair (fun p => { p with
      hello := some h, partner := h.state % 16, linkUp := true, wdIn := if b.pair.linkUp then p.wdIn else true,
      wdNoted := b.pair.linkUp && p.wdNoted, actIn := h.state == 1 || h.state == 3 })
      = b.setPair (fun p => { p with hello := some h, partner := h.state % 16, actIn := h.state == 1 || h.state == 3 }) := by
    simp [Blk.setPair, hup]
  unfold Blk.greet
  dsimp only
  rw [if_pos hup, hstay, Blk.greeted]

theorem Blk.greet_straps (b : Blk) (h : Hello) : (b.greet h).wave = b.wave ∧ (b.greet h).pref = b.pref := by
  simp only [Blk.greet, Blk.wave, Blk.pref, Blk.count_sys, Blk.setPair_sys]
  split <;> simp

theorem Blk.roleKept_greet (b : Blk) (h : Hello) : b.RoleKept (b.greet h) := by
  unfold Blk.greet
  extract_lets was begun
  have hbegun : b.RoleKept begun := Blk.roleKept_ite (.rfl' b) (b.roleKept_setPair fun _ => rfl)
  refine hbegun.trans (begun.roleKept_setPair_count ?_)
  exact fun _ => rfl

theorem Blk.compareStraps_agree {b : Blk} {h : Hello} (hwave : h.wave ≠ b.wave) (hpref : h.pref ≠ b.pref) :
    b.compareStraps h = b := if_neg (by simp [hwave, hpref])

theorem Blk.compareStraps_clash {b : Blk} {h : Hello} (hclash : h.wave = b.wave ∨ h.pref = b.pref) :
    (b.compareStraps h).pair.strapBad = true := by
  unfold Blk.compareStraps
  cases hbad : b.pair.strapBad with
  | true => simp [hbad]
  | false => simp [hclash]

theorem Blk.roleKept_compareStraps (b : Blk) (h : Hello) : b.RoleKept (b.compareStraps h) := by
  unfold Blk.compareStraps
  split
  · refine b.roleKept_setPair_vent ?_
    exact fun _ => rfl
  · exact .rfl' b

theorem Blk.informed_pair (b : Blk) (trees : List TreeFact) : (b.informed trees).pair = b.pair := by
  unfold Blk.informed
  split
  · exact b.takeFacts_pair _
  · rfl

theorem Blk.roleKept_informed (b : Blk) (trees : List TreeFact) : b.RoleKept (b.informed trees) :=
  Blk.roleKept_ite (b.roleKept_takeFacts _) (.rfl' b)

theorem Blk.joinIfMay_stays {b : Blk} (h : b.joined = true ∨ b.pair.role ≠ .isolated ∨ b.pair.auto = false ∨ b.pair.strapBad = true) :
    b.joinIfMay = b := by
  refine if_neg fun hx => ?_
  obtain ⟨hmay, hauto⟩ := Bool.and_eq_true_iff.mp hx
  rcases h with h | h | h | h
  · simp [Blk.mayJoin_joined h] at hmay
  · simp [Blk.mayJoin, h] at hmay
  · simp [h] at hauto
  · simp [Blk.mayJoin, h] at hmay

section
variable {s : State} (hp : s.blk.sys.phase = .service) (hpair : s.blk.hasPair = true)
include hp hpair

/-- A HELLO on a link that is up, whose straps agree with ours. -/
theorem helloRx_agrees {h : Hello} {trees : List TreeFact} (b : Blk) (hlanes : 3 ≤ s.blk.laneCount)
    (hup : s.blk.pair.linkUp = true) (hwave : h.wave ≠ s.blk.wave) (hpref : h.pref ≠ s.blk.pref)
    (hb : ((s.blk.greeted h).informed trees).joinIfMay = b) (hin : s.blk.Inside b) :
    exec (.helloRx ⟨h, trees⟩) s = .next (s.put b) := by
  obtain ⟨hw, hf⟩ := s.blk.greet_straps h
  rw [execHelloRx_eq]
  refine State.pairRow_to b hp hpair ?_ hin
  rw [if_neg (Nat.not_lt.mpr hlanes), Blk.compareStraps_agree (by rwa [hw]) (by rwa [hf]), Blk.greet_up h hup, hb]

/-- A HELLO whose straps clash with ours ends all joining. -/
theorem helloRx_clash {h : Hello} {trees : List TreeFact} (hlanes : 3 ≤ s.blk.laneCount)
    (hclash : h.wave = s.blk.wave ∨ h.pref = s.blk.pref) :
    ∃ t, exec (.helloRx ⟨h, trees⟩) s = .next t ∧ t.pending = s.pending ∧ t.blk.pair.strapBad = true
      ∧ t.blk.pair.role = s.blk.pair.role := by
  obtain ⟨hw, hf⟩ := s.blk.greet_straps h
  have hbad : (((s.blk.greet h).compareStraps h).informed trees).pair.strapBad = true := by
    rw [Blk.informed_pair]
    exact Blk.compareStraps_clash (by rwa [hw, hf])
  have hkept : s.blk.RoleKept (((s.blk.greet h).compareStraps h).informed trees) :=
    ((s.blk.roleKept_greet h).trans (Blk.roleKept_compareStraps _ h)).trans (Blk.roleKept_informed _ trees)
  refine ⟨s.put (((s.blk.greet h).compareStraps h).informed trees), ?_, rfl, hbad, hkept.role⟩
  rw [execHelloRx_eq]
  refine State.pairRow_to _ hp hpair ?_ hkept.inside
  rw [if_neg (Nat.not_lt.mpr hlanes), Blk.joinIfMay_stays (.inr (.inr (.inr hbad)))]

end

section
variable {b : Blk} {h : Hello} {trees : List TreeFact}

theorem Blk.roleKept_greeted (b : Blk) (h : Hello) : b.RoleKept (b.greeted h) := by
  refine b.roleKept_setPair_count ?_
  exact fun _ => rfl

/-- A joined chip learns of the trees. -/
theorem Blk.hello_joined (hj : b.joined = true) : ((b.greeted h).informed trees).joinIfMay
    = (b.greeted h).takeFacts (trees.filter (fun f => decide (f.tree < Part.trees b.sys.part))) := by
  have hgreeted : (b.greeted h).joined = true := (Blk.joined_congr (b.roleKept_greeted h).role).trans hj
  have hsys : (b.greeted h).sys = b.sys := Blk.count_sys _ _ _ _
  rw [Blk.joinIfMay_stays (.inl ((Blk.joined_congr (Blk.roleKept_informed _ trees).role).trans hgreeted)), Blk.informed,
    if_pos hgreeted, hsys]

theorem Blk.informed_apart (hj : b.joined = false) : (b.greeted h).informed trees = b.greeted h :=
  if_neg (by simp [Blk.joined_congr (b.roleKept_greeted h).role, hj])

/-- A chip apart that may not join of its own stays. -/
theorem Blk.hello_stays (hj : b.joined = false) (hr : b.pair.role ≠ .isolated ∨ b.pair.auto = false) :
    ((b.greeted h).informed trees).joinIfMay = b.greeted h := by
  rw [Blk.informed_apart hj]
  refine Blk.joinIfMay_stays (.inr (hr.imp (fun hr => ?_) (fun hr => .inl ?_)))
  · rwa [(b.roleKept_greeted h).role]
  · simpa [Blk.greeted] using hr

/-- An ISOLATED chip with AUTO begins to join. -/
theorem Blk.hello_joins (hr : b.pair.role = .isolated) (hauto : b.pair.auto = true) (hup : b.pair.linkUp = true)
    (hbad : b.pair.strapBad = false) (hlive : b.tele.retired 0x08 0 = false) :
    ((b.greeted h).informed trees).joinIfMay = (b.greeted h).join := by
  have hsources : (b.greeted h).tele.sources = b.tele.sources := (Blk.logged_count _ _ _ _).sources_eq
  have hlive' : (b.greeted h).tele.retired 0x08 0 = false := by
    rw [Tele.retired, Tele.role, hsources]
    exact hlive
  rw [Blk.informed_apart (by simp [Blk.joined, hr])]
  refine if_pos ?_
  rw [Blk.mayJoin, hlive']
  simp [Blk.greeted, hr, hauto, hup, hbad]

end


/-! ### Frames of the link (R396, R397) -/

section
variable {s : State} (hp : s.blk.sys.phase = .service) (hpair : s.blk.hasPair = true)

theorem laneless_idle (hlanes : s.blk.laneCount < 3) :
    (∀ h, exec (.helloRx h) s = .next s) ∧ ∀ f, exec (.linkFrameRx f) s = .next s := by
  refine ⟨fun h => ?_, fun f => ?_⟩
  · show execHelloRx h s = _
    rw [execHelloRx]
    exact State.pairRow_idle (if_pos hlanes)
  · show execLinkFrameRx f s = _
    rw [execLinkFrameRx]
    exact State.pairRow_idle (if_pos hlanes)

include hp hpair

/-- A frame in order is delivered and counted. -/
theorem linkFrameRx_inOrder {f : LinkFrame} (hlanes : 3 ≤ s.blk.laneCount) (hlane : f.lane = none) (hcrc : f.crcOk = true)
    (hlo : 1 ≤ f.kind) (hhi : f.kind ≤ 14) (hseq : f.seq = Tab.get 0 s.blk.pair.rxSeq (f.cls % 4)) :
    exec (.linkFrameRx f) s = .next (s.put ((s.blk.setPair (fun p => { p with
      rxSeq := Tab.set 0 p.rxSeq (f.cls % 4) ((Tab.get 0 s.blk.pair.rxSeq (f.cls % 4) + 1) % 2 ^ 32),
      retries := Tab.set 0 p.retries (f.cls % 4) 0, linkUp := true })).count 0xA4 1 83)) := by
  show execLinkFrameRx f s = _
  rw [execLinkFrameRx]
  refine State.pairRow_to _ hp hpair ?_ ((s.blk.inside_setPair _).trans (Blk.inside_count _ _ _ _))
  rw [if_neg (Nat.not_lt.mpr hlanes), hlane]
  dsimp only
  rw [if_neg (by simp [hcrc, hseq]), if_neg (not_not_intro hseq), if_pos ⟨hlo, hhi⟩]

/-- A frame ahead of its turn is asked for again, three times at most. -/
theorem linkFrameRx_ahead {f : LinkFrame} (hlanes : 3 ≤ s.blk.laneCount) (hlane : f.lane = none)
    (hlo : Tab.get 0 s.blk.pair.rxSeq (f.cls % 4) < f.seq) (hhi : f.seq < Tab.get 0 s.blk.pair.rxSeq (f.cls % 4) + 2 ^ 31)
    (hretries : Tab.get 0 s.blk.pair.retries (f.cls % 4) < 3) :
    exec (.linkFrameRx f) s = .next (s.put ((s.blk.setPair (fun p => { p with
      retries := Tab.set 0 p.retries (f.cls % 4) (Tab.get 0 p.retries (f.cls % 4) + 1) })).count 0xA4 2 83)) := by
  have hahead : (f.seq + 2 ^ 32 - Tab.get 0 s.blk.pair.rxSeq (f.cls % 4)) % 2 ^ 32 < 2 ^ 31 := by omega
  show execLinkFrameRx f s = _
  rw [execLinkFrameRx]
  refine State.pairRow_to _ hp hpair ?_ ((s.blk.inside_setPair _).trans (Blk.inside_count _ _ _ _))
  rw [if_neg (Nat.not_lt.mpr hlanes), hlane]
  dsimp only
  rw [if_pos (.inr ⟨Nat.ne_of_gt hlo, hahead⟩), if_neg (by omega)]
  rfl

end

/-! ### The watchdog and silence (R394, R403, R416) -/

section
variable {s : State} {f : Blk → Blk}

/-- What a row of the pair unit makes of the pair state. -/
theorem State.pairRow_becomes {r : PairRole} (hp : s.blk.sys.phase = .service) (hpair : s.blk.hasPair = true)
    (hr : (f s.blk).pair.role = r) : ∃ t, s.pairRow f = .next t ∧ t.pending = s.pending ∧ t.blk.pair.role = r := by
  refine ⟨_, State.svc_eq s _ hp, rfl, ?_⟩
  rw [Blk.within_pair, if_pos hpair, hr]

end

section
variable {b : Blk}

theorem Blk.role_takeOver (b : Blk) : b.takeOver.pair.role = .alone := b.takeOver_kept.role.trans (b.role_toRole _)

theorem Blk.role_isolate (b : Blk) : b.isolate.pair.role = .isolated := b.isolate_kept.role.trans (b.role_toRole _)

/-- A chip of a joined pair whose partner is lost goes on alone. -/
theorem Blk.partnerLost_joined (h : b.pair.role = .active ∨ b.pair.role = .standby) : b.partnerLost.pair.role = .alone := by
  have htaken : b.partnerLost = b.takeOver := by rcases h with h | h <;> rw [Blk.partnerLost, h]
  rw [htaken, Blk.role_takeOver]

/-- What the loss of the link makes of a joined pair: the active chip goes on alone, a standby follows the watchdog. -/
theorem Blk.linkLost_active (h : b.pair.role = .active) : b.linkLost.pair.role = .alone := by
  have htaken : b.linkFailed = (b.vent pairLink).takeOver := by rw [Blk.linkFailed, h]
  unfold Blk.linkLost
  split
  · rw [htaken, Blk.role_takeOver]
  · exact Blk.partnerLost_joined (.inl h)

theorem Blk.linkLost_standby_alive (h : b.pair.role = .standby) (hwd : b.pair.wdIn = true) :
    b.linkLost.pair.role = .isolated := by
  have hleft : b.linkFailed = (b.vent pairLink).isolate := by rw [Blk.linkFailed, h]
  rw [Blk.linkLost, if_pos hwd, hleft, Blk.role_isolate]

theorem Blk.linkLost_standby_dead (h : b.pair.role = .standby) (hwd : b.pair.wdIn = false) : b.linkLost.pair.role = .alone := by
  rw [Blk.linkLost, if_neg (by simp [hwd])]
  exact Blk.partnerLost_joined (.inr h)

theorem Blk.linkLost_solo (h : b.pair.role = .solo) : b.linkLost = b := by simp [Blk.linkLost, Blk.linkFailed, Blk.partnerLost, h]

end

section
variable {s : State} (hp : s.blk.sys.phase = .service) (hpair : s.blk.hasPair = true)

theorem watchdogToggle_idle (h : s.blk.pair.wdGood = false) : exec .watchdogToggle s = .next s := by
  show execWatchdogToggle s = _
  rw [execWatchdogToggle]
  exact State.pairRow_idle (if_neg (by simp [h]))

theorem agreedItemDeadline_present {item arg : Nat} (h : s.blk.itemMissing item arg = false) :
    exec (.agreedItemDeadline item arg) s = .next s := by
  show execAgreedItemDeadline item arg s = _
  rw [execAgreedItemDeadline]
  exact State.pairRow_idle (if_neg (by simp [h]))

include hp hpair

theorem watchdogToggle_good (h : s.blk.pair.wdGood = true) :
    exec .watchdogToggle s = .next (s.put (s.blk.setPair (fun p => { p with wdOut := !p.wdOut }))) := by
  show execWatchdogToggle s = _
  rw [execWatchdogToggle]
  exact State.pairRow_to _ hp hpair (if_pos h) (s.blk.inside_setPair _)

theorem watchdogSilence_first (he : s.blk.pair.enable = true) (hup : s.blk.pair.linkUp = true)
    (hnoted : s.blk.pair.wdNoted = false) : exec .watchdogSilence s
      = .next (s.put ((s.blk.setPair (fun p => { p with wdIn := false, wdNoted := true })).vent { type := 0x0A03, island := 83 })) := by
  show execWatchdogSilence s = _
  rw [execWatchdogSilence]
  refine State.pairRow_to _ hp hpair ?_ ((s.blk.inside_setPair _).trans (Blk.inside_vent _ _))
  simp [he, hup, hnoted, Blk.setPair]

theorem watchdogSilence_again (h : s.blk.pair.enable = false ∨ s.blk.pair.linkUp = true ∧ s.blk.pair.wdNoted = true) :
    exec .watchdogSilence s = .next (s.put (s.blk.setPair (fun p => { p with wdIn := false }))) := by
  show execWatchdogSilence s = _
  rw [execWatchdogSilence]
  refine State.pairRow_to _ hp hpair ?_ (s.blk.inside_setPair _)
  rcases h with h | ⟨hup, hnoted⟩
  · simp [h]
  · simp [hup, hnoted]

theorem watchdogSilence_down (hr : s.blk.pair.role = .active ∨ s.blk.pair.role = .standby) (he : s.blk.pair.enable = true)
    (hup : s.blk.pair.linkUp = false) :
    ∃ t, exec .watchdogSilence s = .next t ∧ t.pending = s.pending ∧ t.blk.pair.role = .alone := by
  show ∃ t, execWatchdogSilence s = .next t ∧ _
  rw [execWatchdogSilence]
  refine State.pairRow_becomes hp hpair ?_
  dsimp only
  rw [if_neg (by simp [he]), if_pos (by simp [hup])]
  exact Blk.partnerLost_joined hr

theorem linkSilence_becomes {r : PairRole}
    (hr : (s.blk.setPair (fun p => { p with linkUp := false })).linkLost.pair.role = r) :
    ∃ t, exec .linkSilence s = .next t ∧ t.pending = s.pending ∧ t.blk.pair.role = r := by
  show ∃ t, execLinkSilence s = .next t ∧ _
  rw [execLinkSilence]
  exact State.pairRow_becomes hp hpair hr

theorem linkSilence_solo (hr : s.blk.pair.role = .solo) :
    exec .linkSilence s = .next (s.put (s.blk.setPair (fun p => { p with linkUp := false }))) := by
  show execLinkSilence s = _
  rw [execLinkSilence]
  exact State.pairRow_to _ hp hpair (Blk.linkLost_solo hr) (s.blk.inside_setPair _)

theorem agreedItemDeadline_becomes {r : PairRole} {item arg : Nat} (hmissing : s.blk.itemMissing item arg = true)
    (hr : s.blk.linkLost.pair.role = r) :
    ∃ t, exec (.agreedItemDeadline item arg) s = .next t ∧ t.pending = s.pending ∧ t.blk.pair.role = r := by
  show ∃ t, execAgreedItemDeadline item arg s = .next t ∧ _
  rw [execAgreedItemDeadline]
  refine State.pairRow_becomes hp hpair ?_
  rw [if_pos hmissing, hr]

end

/-! ### The handshake (R418, R419) -/

section
variable {b : Blk} {h : Hello} {mac kek : List Byte}

/-- Whether a handshake is looked at. -/
theorem Blk.handshake_closed (hc : b.pair.linkUp = false ∨ b.pair.agreed = true ∨ b.pair.strapBad = true) :
    b.handshake h mac kek = (b, false) := by
  refine if_pos ?_
  rcases hc with hc | hc | hc
  · exact .inl (by simp [hc])
  · exact .inr (.inl hc)
  · exact .inr (.inr (.inl hc))

section
variable (hup : b.pair.linkUp = true) (hagreed : b.pair.agreed = false) (hstraps : b.pair.strapBad = false)
  (hlive : b.tele.retired 0x08 0 = false) (hr : b.pair.role = .alone)
include hup hagreed hstraps hlive hr

theorem Blk.handshake_fails {k : Nat} (hk : b.handshakeFault h mac = some k) : b.handshake h mac kek = (b.refuse k, false) := by
  unfold Blk.handshake
  dsimp only
  rw [if_neg (by simp [hup, hagreed, hstraps, hlive, hr]), hk]

/-- A chip alone feeds a newcomer. -/
theorem Blk.handshake_feeds (hk : b.handshakeFault h mac = none) (hstate : h.state = 5) :
    b.handshake h mac kek = (b.draw.feed (toBe (Config.freeTransferKey b.free).toNat 32), false) := by
  unfold Blk.handshake
  dsimp only
  rw [if_neg (by simp [hup, hagreed, hstraps, hlive, hr]), hk]
  dsimp only
  rw [if_pos hr, if_pos (.inr hstate)]

end

theorem Blk.inside_feed (b : Blk) (transfer : List Byte) : b.Inside (b.feed transfer) :=
  (b.inside_setPair _).trans (Blk.inside_sendLink _ _ _)

/-- A handshake that leaves the numbers alone. -/
theorem joinHandshake_to {s : State} {c : Blk} (hp : s.blk.sys.phase = .service) (hpair : s.blk.hasPair = true)
    (hc : s.blk.handshake h mac kek = (c, false)) (hin : s.blk.Inside c) : exec (.joinHandshake h mac kek) s = .next (s.put c) := by
  show execJoinHandshake h mac kek s = _
  rw [execJoinHandshake, State.run_eq, if_pos ⟨hp, hpair⟩]
  dsimp only
  rw [hc, if_neg Bool.false_ne_true, hin.within_eq, State.put]

end

section
variable {s : State} (hp : s.blk.sys.phase = .service) (hpair : s.blk.hasPair = true)

theorem wtrExpiry_idle (h : s.blk.pair.wtrEnd = none) : exec .wtrExpiry s = .next s := by
  show execWtrExpiry s = _
  rw [execWtrExpiry]
  exact State.pairRow_idle (by rw [h])

theorem fwVersionMismatch_idle (h : s.blk.pair.fwDiffer < 2) : exec .fwVersionMismatch s = .next s := by
  show execFwVersionMismatch s = _
  rw [execFwVersionMismatch]
  exact State.pairRow_idle (if_neg (by simp [h]))

include hp hpair

theorem handshakeRetry_sends (he : s.blk.pair.enable = true) (hup : s.blk.pair.linkUp = true) (hagreed : s.blk.pair.agreed = false)
    (hstraps : s.blk.pair.strapBad = false)
    (hr : s.blk.pair.role = .alone ∨ s.blk.pair.role = .joining ∨ s.blk.pair.role = .isolated) :
    exec .handshakeRetry s = .next (s.put (s.blk.sendLink 0x02 (Config.helloBytes s.blk.ownHello))) := by
  show execHandshakeRetry s = _
  rw [execHandshakeRetry]
  refine State.pairRow_to _ hp hpair (if_pos ?_) (s.blk.inside_sendLink _ _)
  rcases hr with hr | hr | hr <;> simp [he, hup, hagreed, hstraps, hr]

/-! ### States named for a boundary to come (R426, R508) -/

theorem wtrExpiry_swaps {e : Nat} (h : s.blk.pair.wtrEnd = some e) (hj : s.blk.joined = true) (hdue : e ≤ s.blk.clk.epoch)
    (hlock : s.blk.pair.lockout = false) : exec .wtrExpiry s = .next (s.put (s.blk.setPair (fun p => { p with
      wtrEnd := none, next := some (s.blk.clk.epoch + 1, p.role.swapped) }))) := by
  show execWtrExpiry s = _
  rw [execWtrExpiry]
  refine State.pairRow_to _ hp hpair ?_ (s.blk.inside_setPair _)
  rw [h]
  exact if_pos (by simp [hj, hdue, hlock])

theorem fwVersionMismatch_parts (hj : s.blk.joined = true) (hdiffer : 2 ≤ s.blk.pair.fwDiffer) : exec .fwVersionMismatch s
    = .next (s.put (((s.blk.vent { type := 0x0A01, island := 83, object := s.blk.clk.epoch, detail := 0 }).faultEvent 0x08
      0).setPair (fun p => { p with next := some (s.blk.clk.epoch + 2, if s.blk.pair.role = .standby then .isolated else .alone) }))) := by
  show execFwVersionMismatch s = _
  rw [execFwVersionMismatch]
  refine State.pairRow_to _ hp hpair ?_
    (((s.blk.inside_vent _).trans (Blk.inside_faultEvent _ _ _)).trans (Blk.inside_setPair _ _))
  rw [if_pos (by simp [hj, hdiffer]), Blk.diverged]
  simp only [beq_iff_eq]

end

/-- Settles O51, command by command. -/
theorem pairLinkIsSupervised : Obligations.PairLinkIsSupervised := by
  unfold Obligations.PairLinkIsSupervised
  intro s hp hpair b becomes
  refine ⟨helloTx_sends hp hpair, laneless_idle, fun h trees hlanes hup hwave hpref => ⟨fun hj => ?_, fun hj hr => ?_,
      fun hr hauto hstraps hlive => ?_⟩, fun h trees => helloRx_clash hp hpair, fun f hlanes hlane hcrc hlo hhi =>
      ⟨linkFrameRx_inOrder hp hpair hlanes hlane hcrc hlo hhi,
        fun hlo hhi _ => linkFrameRx_ahead hp hpair hlanes hlane hlo hhi⟩,
    ⟨watchdogToggle_good hp hpair, watchdogToggle_idle⟩, watchdogSilence_first hp hpair, watchdogSilence_again hp hpair,
    watchdogSilence_down hp hpair, fun hr => linkSilence_becomes hp hpair (Blk.linkLost_active hr),
    fun hr hwd => linkSilence_becomes hp hpair (Blk.linkLost_standby_alive hr hwd),
    fun hr hwd => linkSilence_becomes hp hpair (Blk.linkLost_standby_dead hr hwd), linkSilence_solo hp hpair,
    fun item arg hm => ⟨fun hr => agreedItemDeadline_becomes hp hpair hm (Blk.linkLost_active hr),
      fun hr hwd => agreedItemDeadline_becomes hp hpair hm (Blk.linkLost_standby_alive hr hwd)⟩,
    fun item arg => agreedItemDeadline_present, fun h mac kek hup hagreed hstraps hlive hr => ⟨fun k hk => ?_, fun hk hstate => ?_⟩,
    fun h mac kek hc => joinHandshake_to hp hpair (Blk.handshake_closed hc) (.rfl' _), handshakeRetry_sends hp hpair,
    fun e => wtrExpiry_swaps hp hpair, wtrExpiry_idle, fwVersionMismatch_parts hp hpair, fwVersionMismatch_idle⟩
  · exact helloRx_agrees hp hpair _ hlanes hup hwave hpref (Blk.hello_joined hj)
      ((b.roleKept_greeted h).trans (Blk.roleKept_takeFacts _ _)).inside
  · exact helloRx_agrees hp hpair _ hlanes hup hwave hpref (Blk.hello_stays hj hr) (b.roleKept_greeted h).inside
  · exact helloRx_agrees hp hpair _ hlanes hup hwave hpref (Blk.hello_joins hr hauto hup hstraps hlive)
      ((b.roleKept_greeted h).inside.trans (Blk.inside_join _))
  · exact joinHandshake_to hp hpair (Blk.handshake_fails hup hagreed hstraps hlive hr hk) (Blk.inside_vent _ _)
  · exact joinHandshake_to hp hpair (Blk.handshake_feeds hup hagreed hstraps hlive hr hk hstate)
      ((Blk.Inside.of_eq rfl rfl : b.Inside b.draw).trans (Blk.inside_feed _ _))

end Sys2Proof.Machine

/-! PROOFS. The Tumbler engines: jobs, their write-back, reports and terminal management. -/
namespace Sys2Proof.Machine

/-! ### What a job's run comes to (R439 to R442, R447) -/

theorem Run.step_end (r : Run) (j : Job) {s : HStep} (pc : Nat) (h : s.op = 0) :
    r.step j s pc = ({ r with cycles := r.cycles + 1 }, .ended) := by
  unfold Run.step
  simp [h, stepCost]

/-- A handler whose first step ends it. -/
theorem Run.run_ends (j : Job) (h : List Nat) (n : Nat) (r : Run) (hop : (stepOf h 0).op = 0) :
    Run.run j h (n + 1) r 0 = ({ r with cycles := r.cycles + 1 }, .ended) := by
  rw [Run.run, Run.step_end r j 0 hop]

theorem pow_bytes (n : Nat) : 256 ^ n = 2 ^ (8 * n) := (Nat.pow_mul 2 8 n).symm

/-- The endpoint's handler state stands at byte 256 of the workspace. -/
theorem Job.start_state (j : Job) (b : Blk) :
    (j.start b).bytes 256 56 = toLe (Tab.get {} b.dir.ctxs j.endpoint).handler 56 := by
  have hmsg : (j.msg.take 256 ++ List.replicate (256 - j.msg.length) (0 : Byte)).length = 256 := by
    rw [List.length_append, List.length_take, List.length_replicate]
    omega
  show ((j.msg.take 256 ++ List.replicate (256 - j.msg.length) 0 ++ toLe (Tab.get ({} : Ctx) b.dir.ctxs j.endpoint).handler 56
    ++ toBe j.info 8 ++ List.replicate 192 0).drop 256).take 56 = _
  rw [List.append_assoc, List.append_assoc, List.drop_left' hmsg, List.take_left' (toLe_length _ _)]

/-- How a job ends that fails with a code. -/
def jobFailed (b : Blk) (j : Job) (engine code cycles : Nat) : JobEnd :=
  let hd := handlerHead (handlerOf (Vers.at [] b.tum.handlers j.stamp) j.svc)
  { fail := code, failAction := hd.valid && hd.failAction, outs := [], counts := [], handler := 0, cycles := cycles, engine := engine,
    stamp := b.clk.epoch }

section
variable {b : Blk} {j : Job} {engine : Nat}

theorem Blk.runJob_noFirmware (hfw : b.sys.fwReady = false) : b.runJob j engine = (b, some (jobFailed b j engine 9 0)) :=
  if_pos (by simp [hfw])

theorem Blk.runJob_invalid (hfw : b.sys.fwReady = true)
    (hvalid : (handlerHead (handlerOf (Vers.at [] b.tum.handlers j.stamp) j.svc)).valid = false) :
    b.runJob j engine = (b, some (jobFailed b j engine 8 32)) :=
  (if_neg (by simp [hfw])).trans (if_pos (by simp [hvalid]))

theorem Blk.runJob_ends (hfw : b.sys.fwReady = true)
    (hvalid : (handlerHead (handlerOf (Vers.at [] b.tum.handlers j.stamp) j.svc)).valid = true)
    (hop : (stepOf (handlerOf (Vers.at [] b.tum.handlers j.stamp) j.svc) 0).op = 0) :
    b.runJob j engine = (b, some {
      fail := 0, failAction := false, outs := [], counts := [],
      handler := (Tab.get {} b.dir.ctxs j.endpoint).handler % 2 ^ 448, cycles := 33, engine := engine, stamp := b.clk.epoch }) := by
  have hstate : leNat ((j.start b).bytes 256 56) = (Tab.get {} b.dir.ctxs j.endpoint).handler % 2 ^ 448 := by
    rw [Job.start_state, leNat_toLe, pow_bytes, show 8 * 56 = 448 from rfl]
  unfold Blk.runJob
  dsimp only
  rw [if_neg (by simp [hfw]), if_neg (by simp [hvalid]), Run.run_ends j _ 63 (j.start b) hop, ← hstate]
  rfl

/-! ### HANDLER_JOB (R440) -/

/-- A job that ended on its engine. -/
def Blk.jobEnded (b : Blk) (j : Job) (engine : Nat) (waits : Cycles → Cycles) (r : JobEnd) : Blk :=
  Blk.engineCycles { b with tum := { b.tum with jobs := putJob j (some { j with result := some r }) b.tum.jobs } } engine waits

/-- A job that is too old is discarded. -/
def Blk.jobDiscarded (b : Blk) (j : Job) (engine : Nat) : Blk :=
  (Blk.stopWaiting { b with tum := { b.tum with jobs := putJob j none b.tum.jobs } } j.endpoint).staleDiscard (84 + engine / 17)

theorem Blk.startJob_ends {waits : Cycles → Cycles} {rest : List Job} {r : JobEnd}
    (hruns : stale j.stamp b.clk.epoch = false ∨ j.reruns ≠ 0) (hrun : b.runJob j engine = (b, some r)) :
    Blk.startJob engine waits (j :: rest) b = b.jobEnded j engine waits r := by
  rw [Blk.startJob, if_neg (by rcases hruns with h | h <;> simp [h]), hrun, Blk.jobEnded]

theorem Blk.startJob_stale {waits : Cycles → Cycles} {rest : List Job}
    (hold : ¬(stale j.stamp b.clk.epoch = false ∨ j.reruns ≠ 0)) :
    Blk.startJob engine waits (j :: rest) b = b.jobDiscarded j engine := by
  rw [Blk.startJob, if_pos (by simpa using hold), Blk.jobDiscarded, clusterIsland]

theorem Blk.inside_jobEnded (b : Blk) (j : Job) (engine : Nat) (waits : Cycles → Cycles) (r : JobEnd) :
    b.Inside (b.jobEnded j engine waits r) := .of_eq rfl rfl

theorem Blk.inside_jobDiscarded (b : Blk) (j : Job) (engine : Nat) : b.Inside (b.jobDiscarded j engine) :=
  ((Blk.Inside.of_eq rfl rfl : b.Inside { b with tum := { b.tum with jobs := putJob j none b.tum.jobs } }).trans
    (Blk.inside_updLease _ _ _)).trans (Blk.noted_staleDiscard _ _).inside

/-- The cycles that an engine waited. -/
def addWaits (cw mw ow : Nat) (c : Cycles) : Cycles :=
  { c with cipher := c.cipher + cw, memory := c.memory + mw, output := c.output + ow }

end

section
variable {s : State} {engine cw mw ow : Nat} {j : Job} (hp : s.blk.sys.phase = .service)

theorem handlerJob_idle (h : s.blk.tele.role 0x09 engine ≠ .serving ∨ s.blk.sys.fwWriting.isSome = true
    ∨ s.blk.nextJob (engine / 17) = none) : exec (.handlerJob engine cw mw ow) s = .next s := by
  show execHandlerJob engine cw mw ow s = _
  rw [execHandlerJob]
  refine State.svc_idle ?_
  by_cases hout : s.blk.tele.role 0x09 engine != .serving ∨ 272 ≤ engine ∨ s.blk.sys.fwWriting.isSome
  · exact if_pos hout
  · rw [if_neg hout]
    have hready : s.blk.readyJobs (engine / 17) = [] := by
      rcases h with h | h | h
      · exact absurd (.inl (by simpa using h)) hout
      · exact absurd (.inr (.inr h)) hout
      · exact List.head?_eq_none_iff.mp h
    rw [hready, Blk.startJob]

include hp

/-- An engine in service takes its cluster's next job. -/
theorem handlerJob_starts (b : Blk) (he : engine < 272) (hserves : s.blk.tele.role 0x09 engine = .serving)
    (hfw : s.blk.sys.fwWriting = none) (hnext : s.blk.nextJob (engine / 17) = some j)
    (hb : ∀ rest, Blk.startJob engine (addWaits cw mw ow) (j :: rest) s.blk = b) (hin : s.blk.Inside b) :
    exec (.handlerJob engine cw mw ow) s = .next (s.put b) := by
  obtain ⟨rest, hready⟩ := List.head?_eq_some_iff.mp hnext
  show execHandlerJob engine cw mw ow s = _
  rw [execHandlerJob]
  refine State.svc_to b hp ?_ hin
  rw [if_neg (by simp [hserves, hfw, he]), hready]
  exact hb rest

theorem handlerJob_ends {r : JobEnd} (he : engine < 272) (hserves : s.blk.tele.role 0x09 engine = .serving)
    (hfw : s.blk.sys.fwWriting = none) (hnext : s.blk.nextJob (engine / 17) = some j)
    (hruns : stale j.stamp s.blk.clk.epoch = false ∨ j.reruns ≠ 0) (hrun : s.blk.runJob j engine = (s.blk, some r)) :
    exec (.handlerJob engine cw mw ow) s = .next (s.put (s.blk.jobEnded j engine (addWaits cw mw ow) r)) :=
  handlerJob_starts hp _ he hserves hfw hnext (fun _ => Blk.startJob_ends hruns hrun) (Blk.inside_jobEnded _ _ _ _ _)

theorem handlerJob_stale (he : engine < 272) (hserves : s.blk.tele.role 0x09 engine = .serving)
    (hfw : s.blk.sys.fwWriting = none) (hnext : s.blk.nextJob (engine / 17) = some j)
    (hold : ¬(stale j.stamp s.blk.clk.epoch = false ∨ j.reruns ≠ 0)) :
    exec (.handlerJob engine cw mw ow) s = .next (s.put (s.blk.jobDiscarded j engine)) :=
  handlerJob_starts hp _ he hserves hfw hnext (fun _ => Blk.startJob_stale hold) (Blk.inside_jobDiscarded _ _ _)

end

/-! ### JOB_WRITE_BACK and ENGINE_FAULT (R443, R444, R454) -/

theorem Blk.inside_engineCycles (b : Blk) (engine : Nat) (f : Cycles → Cycles) : b.Inside (b.engineCycles engine f) := .of_eq rfl rfl

/-- A job without outputs opens no report. -/
theorem Blk.judgeStore_silent {b : Blk} {j : Job} {r : JobEnd} (h : r.outs = []) : b.judgeStore j r = r := by
  refine if_neg fun hx => absurd hx.1 ?_
  simp [Blk.newReports, h]

theorem Blk.writeBack_failed {b : Blk} {j : Job} {r : JobEnd} (houts : r.outs = []) (hfail : r.fail ≠ 0)
    (haction : r.failAction = false) : b.writeBack j r = ((b.count 0xBD 0 (svcInst j)).count 0xBD 1 (svcInst j)).engineCycles r.engine
      (fun c => { c with failed := c.failed + r.cycles }) := by
  unfold Blk.writeBack
  dsimp only
  rw [Blk.judgeStore_silent houts, if_pos hfail, if_neg (by simp [haction])]

/-- The context of an endpoint whose read meets no error. -/
theorem Blk.readCtx_sound {b : Blk} {e : Nat} (hlatent : b.dir.latent = []) (hfault : Tab.get 0 b.dir.faults e = 0) :
    b.readCtx e = (b, some (Tab.get {} b.dir.ctxs e)) := by
  rw [Blk.readCtx, Blk.meetErrors_none hlatent]
  exact if_pos hfault

theorem Blk.writeBack_ended {b : Blk} {j : Job} {r : JobEnd} (houts : r.outs = []) (hcounts : r.counts = []) (hfail : r.fail = 0)
    (hside : j.oneSided = false) (hlatent : b.dir.latent = []) (hfault : Tab.get 0 b.dir.faults j.endpoint = 0) :
    b.writeBack j r = (((b.count 0xBD 0 (svcInst j)).countN 0xBD 5 (svcInst j) r.cycles).engineCycles r.engine (fun c => { c with
      retired := c.retired + r.cycles })).writeCtx j.endpoint { Tab.get {} b.dir.ctxs j.endpoint with handler := r.handler } := by
  have hdir : (((b.count 0xBD 0 (svcInst j)).countN 0xBD 5 (svcInst j) r.cycles).engineCycles r.engine (fun c => { c with
      retired := c.retired + r.cycles })).dir = b.dir := (Blk.countN_dir _ _ _ _ _).trans (Blk.count_dir _ _ _ _)
  unfold Blk.writeBack
  dsimp only
  rw [Blk.judgeStore_silent houts, if_neg (not_not_intro hfail), if_neg (by simp [hside]),
    Blk.readCtx_sound (by rw [hdir, hlatent]) (by rw [hdir, hfault]), hcounts, houts, hdir]
  rfl

section
variable {s : State}

theorem jobWriteBack_idle (h : s.blk.tum.jobs = []) (cluster : Nat) : exec (.jobWriteBack cluster) s = .next s := by
  show execJobWriteBack cluster s = _
  rw [execJobWriteBack]
  refine State.svc_idle ?_
  rw [h]
  rfl

/-- The oldest job that has ended is written back. -/
theorem jobWriteBack_first {j : Job} {rest : List Job} {r : JobEnd} {b : Blk} (hp : s.blk.sys.phase = .service)
    (hjobs : s.blk.tum.jobs = j :: rest) (hr : j.result = some r)
    (hb : Blk.writeBack { s.blk with tum := { s.blk.tum with jobs := rest } } j r = b) (hin : s.blk.Inside b) :
    exec (.jobWriteBack (s.blk.jobCluster j.endpoint)) s = .next (s.put b) := by
  have hput : putJob j none s.blk.tum.jobs = rest := by simp [hjobs, putJob]
  have hfirst : findAfter (fun front (x : Job) => x.result.isSome && s.blk.jobCluster x.endpoint == s.blk.jobCluster j.endpoint
      && !front.any (fun i => bankOf i.endpoint == bankOf x.endpoint)) [] s.blk.tum.jobs = some j := by
    rw [hjobs]
    exact if_pos (by simp [hr])
  show execJobWriteBack _ s = _
  rw [execJobWriteBack]
  refine State.svc_to b hp ?_ hin
  dsimp only
  rw [hfirst]
  dsimp only
  rw [hr, hput]
  exact hb

theorem engineFault_idle {engine cycles : Nat} {why : EngineFault} (h : s.blk.tele.role 0x09 engine ≠ .serving) :
    exec (.engineFault engine cycles why) s = .next s := by
  show execEngineFault engine cycles why s = _
  rw [execEngineFault]
  exact State.svc_idle (if_pos (.inl (by simpa using h)))

/-- A job that is to start again after a fault. -/
def Blk.jobReruns (b : Blk) (j : Job) (engine cycles : Nat) : Blk :=
  Blk.engineCycles { b with tum := { b.tum with jobs := putJob j (some { j with reruns := j.reruns + 1 }) b.tum.jobs } } engine
    (fun c => { c with rerun := c.rerun + cycles })

theorem Blk.inside_jobReruns (b : Blk) (j : Job) (engine cycles : Nat) : b.Inside (b.jobReruns j engine cycles) := .of_eq rfl rfl

/-- The job of an engine that fails starts again. -/
theorem engineFault_reruns {engine cycles : Nat} {why : EngineFault} {j : Job} (hp : s.blk.sys.phase = .service)
    (he : engine < 272) (hserves : s.blk.tele.role 0x09 engine = .serving) (hnext : s.blk.nextJob (engine / 17) = some j)
    (hwhy : why ≠ .overrun ∨ (handlerHead (handlerOf (Vers.at [] s.blk.tum.handlers j.stamp) j.svc)).worst + 64 < cycles)
    (hreruns : j.reruns < 3) : exec (.engineFault engine cycles why) s = .next (s.put
      (((s.blk.jobReruns j engine cycles).count 0xBC 0 (engine / 17)).faultEvent 0x09 engine)) := by
  show execEngineFault engine cycles why s = _
  rw [execEngineFault]
  refine State.svc_to _ hp ?_ (((s.blk.inside_jobReruns j engine cycles).trans (Blk.inside_count _ _ _ _)).trans
    (Blk.inside_faultEvent _ _ _))
  dsimp only
  rw [if_neg (by simp [hserves, he]), hnext]
  dsimp only
  rw [if_neg (fun hx => hwhy.elim (· hx.1) (Nat.not_lt.mpr hx.2)), if_pos hreruns, Blk.jobReruns]

/-! ### OUTAGE_JOB (R451) -/

theorem Blk.inside_gather (b : Blk) (ev : OutEvent) : b.Inside (b.gather ev) :=
  .of_eq (b.frontKept_gather ev).clk (b.frontKept_gather ev).sys

theorem outageJob_idle (h : s.blk.dir.events = []) : exec .outageJob s = .next s := by
  show execOutageJob s = _
  rw [execOutageJob]
  exact State.svc_idle (by rw [h])

theorem outageJob_takes {ev : OutEvent} {rest : List OutEvent} {b : Blk} (hp : s.blk.sys.phase = .service)
    (hev : s.blk.dir.events = ev :: rest) (hfw : s.blk.sys.fwWriting = none)
    (hb : (if s.blk.sys.fwReady then Blk.gather { s.blk with dir := { s.blk.dir with events := rest } }
      { ev with cluster := s.blk.serves ev.cluster } else { s.blk with dir := { s.blk.dir with events := rest } }) = b)
    (hin : s.blk.Inside b) : exec .outageJob s = .next (s.put b) := by
  show execOutageJob s = _
  rw [execOutageJob]
  refine State.svc_to b hp ?_ hin
  rw [hev]
  dsimp only
  rw [if_neg (by simp [hfw])]
  exact hb

end


/-! ### REPORT_CLOSE and REPORT_DELIVER (R446) -/

theorem Blk.inside_closeReport (b : Blk) (r : Report) : b.Inside (b.closeReport r) := .of_eq rfl rfl

theorem Blk.inside_serviceOut (b : Blk) (stamp : Nat) (h : ServiceHead) (payload : List Byte) :
    b.Inside (b.serviceOut stamp h payload) := by
  unfold Blk.serviceOut
  extract_lets x
  have hx : b.Inside x.1 := b.inside_admitFlag _ _
  split
  · exact hx
  · have hlost (c : Blk) (lost : Tab Nat) : c.Inside { c with tum := { c.tum with lost := lost } } := .of_eq rfl rfl
    exact (hx.trans (hlost _ _)).trans (Blk.inside_count _ _ _ _)

theorem Blk.inside_service (b : Blk) (stamp : Nat) (h : ServiceHead) (payload : List Byte) : b.Inside (b.service stamp h payload) :=
  (Blk.Inside.of_eq rfl rfl : b.Inside (b.serviceSeq h.tenant).1).trans (Blk.inside_serviceOut _ _ _ _)

section
variable {s : State} {tenant cls key : Nat} {r : Report}

/-- A report whose boundary point has passed, with no job of a message before it left. -/
theorem Blk.reportDue_of {b : Blk} (hpoint : r.closeAt ≤ b.dir.point)
    (hjobs : ∀ j ∈ b.tum.jobs, j.tenant ≠ r.tenant ∨ j.svc ≠ r.svc ∨ 64 * r.closeAt ≤ orderSlot j.order + 1) :
    b.reportDue r = true := by
  unfold Blk.reportDue
  rw [Bool.and_eq_true, decide_eq_true_eq, Bool.not_eq_true', List.any_eq_false]
  refine ⟨hpoint, fun j hj => ?_⟩
  rcases hjobs j hj with h | h | h <;> simp [Job.after, h]

theorem Blk.reportDue_before {b : Blk} (h : b.dir.point < r.closeAt) : b.reportDue r = false := by
  simp [Blk.reportDue, Nat.not_le.mpr h]

variable (hfind : s.blk.tum.reports.find? (fun r => r.tenant == tenant && r.svc == cls && r.key == key) = some r)
include hfind

theorem reportClose_waits (h : s.blk.dir.point < r.closeAt) : exec (.reportClose tenant cls key) s = .next s := by
  show execReportClose tenant cls key s = _
  rw [execReportClose]
  refine State.svc_idle ?_
  rw [hfind]
  exact if_neg (by simp [Blk.reportDue_before h])

theorem reportClose_closes (hp : s.blk.sys.phase = .service) (hpoint : r.closeAt ≤ s.blk.dir.point)
    (hjobs : ∀ j ∈ s.blk.tum.jobs, j.tenant ≠ tenant ∨ j.svc ≠ cls ∨ 64 * r.closeAt ≤ orderSlot j.order + 1) :
    exec (.reportClose tenant cls key) s = .next (s.put { s.blk with tum := { s.blk.tum with
      seq := Tab.set 0 s.blk.tum.seq tenant ((Tab.get 0 s.blk.tum.seq tenant + 1) % 65536),
      reports := s.blk.tum.reports.filter (· != r),
      closed := s.blk.tum.closed ++ [{ r with seq := Tab.get 0 s.blk.tum.seq tenant, stamp := s.blk.clk.epoch }] } }) := by
  have hr := List.find?_some hfind
  simp only [Bool.and_eq_true, beq_iff_eq] at hr
  obtain ⟨⟨rfl, rfl⟩, rfl⟩ := hr
  show execReportClose _ _ _ s = _
  rw [execReportClose]
  refine State.svc_to (s.blk.closeReport r) hp ?_ (s.blk.inside_closeReport r)
  rw [hfind]
  exact if_pos (Blk.reportDue_of hpoint hjobs)

end

section
variable {s : State}

theorem reportDeliver_idle (h : s.blk.tum.closed = []) : exec .reportDeliver s = .next s := by
  show execReportDeliver s = _
  rw [execReportDeliver]
  exact State.svc_idle (by rw [h])

/-- The service header of a report. -/
def Report.head (r : Report) : ServiceHead :=
  { kind := 3, tenant := r.tenant, svc := r.svc, key := r.key, count := r.entries.length, seq := r.seq, stamp := r.first }

/-- The oldest closed report goes to its tenant's queue. -/
theorem reportDeliver_first {r : Report} {rest : List Report} {b : Blk} (hp : s.blk.sys.phase = .service)
    (hclosed : s.blk.tum.closed = r :: rest)
    (hb : Blk.serviceOut { s.blk with tum := { s.blk.tum with closed := rest } } r.stamp r.head r.entries.flatten = b) :
    exec .reportDeliver s = .next (s.put b) := by
  subst hb
  show execReportDeliver s = _
  rw [execReportDeliver]
  refine State.svc_to _ hp ?_ ((Blk.Inside.of_eq rfl rfl :
    s.blk.Inside { s.blk with tum := { s.blk.tum with closed := rest } }).trans (Blk.inside_serviceOut _ _ _ _))
  rw [hclosed]
  rfl

end

/-! ### Terminal management (R449, R450) -/

theorem Blk.inside_mgmtTransmit (b : Blk) (g : Nat) (msg : List Byte) (epoch : Nat) : b.Inside (b.mgmtTransmit g msg epoch) :=
  b.inside_toTree _ _ _

section
variable {s : State} {tree : Nat}

theorem managementJob_disabled (h : (s.blk.mgmt tree).enable = false) : exec (.managementJob tree) s = .next s := by
  show execManagementJob tree s = _
  rw [execManagementJob]
  refine State.svc_idle ?_
  simp [h]

/-- The block with a message taken off those that wait. -/
def Blk.unsent (b : Blk) (x : Nat × List Byte × Nat) : Blk := { b with tum := { b.tum with sends := b.tum.sends.erase x } }

theorem Blk.inside_unsent (b : Blk) (x : Nat × List Byte × Nat) : b.Inside (b.unsent x) := .of_eq rfl rfl

/-- The oldest message of a tree that waits is sent, where firmware is ready. -/
def Blk.mgmtSend (b : Blk) (tree : Nat) : Blk :=
  match b.tum.sends.find? (fun x => x.1 / 512 == tree) with
  | none => b
  | some x =>
    if b.sys.fwReady then ((b.unsent x).mgmtTransmit x.1 x.2.1 x.2.2).count 0xBC 1 (b.mgmtCluster tree) else b.unsent x

/-- What a service row does depends on what its function makes of this block. -/
theorem State.svc_congr {f g : Blk → Blk} (h : f s.blk = g s.blk) : s.svc f = s.svc g := by
  simp only [State.svc, State.run, h]

section
variable (hon : (s.blk.mgmt tree).enable = true) (hfw : s.blk.sys.fwWriting = none)
  (huploads : ∀ g ∈ s.blk.tum.uploads, g / 512 ≠ tree)
include hon hfw huploads

/-- Without an upload of the tree, the job looks for the oldest message that waits. -/
theorem managementJob_sends : exec (.managementJob tree) s = s.svc (fun b => b.mgmtSend tree) := by
  have hnone : s.blk.tum.uploads.find? (fun g => g / 512 == tree) = none :=
    List.find?_eq_none.mpr fun g hg => by simpa using huploads g hg
  show execManagementJob tree s = _
  rw [execManagementJob]
  refine State.svc_congr ?_
  simp only [hfw, hon, hnone, Option.isSome_none, Bool.not_true, Bool.false_eq_true, if_false]
  rfl

theorem managementJob_idle (hnone : s.blk.tum.sends.find? (fun x => x.1 / 512 == tree) = none) :
    exec (.managementJob tree) s = .next s := by
  rw [managementJob_sends hon hfw huploads]
  exact State.svc_idle (by rw [Blk.mgmtSend, hnone])

theorem managementJob_transmits {x : Nat × List Byte × Nat} (hp : s.blk.sys.phase = .service) (hready : s.blk.sys.fwReady = true)
    (hsome : s.blk.tum.sends.find? (fun x => x.1 / 512 == tree) = some x) : exec (.managementJob tree) s = .next (s.put
      (((s.blk.unsent x).mgmtTransmit x.1 x.2.1 x.2.2).count 0xBC 1 (s.blk.mgmtCluster tree))) := by
  rw [managementJob_sends hon hfw huploads]
  refine State.svc_to _ hp ?_
    (((s.blk.inside_unsent x).trans (Blk.inside_mgmtTransmit _ _ _ _)).trans (Blk.inside_count _ _ _ _))
  rw [Blk.mgmtSend, hsome]
  exact if_pos hready

end

/-! ### MGMT_MESSAGE_RX and MGMT_RETRY (R145, R318, R450) -/

/-- The block once the oldest SDU of a terminal that waits is taken. -/
def Blk.mgmtTaken (b : Blk) (x : Nat × List Byte × Nat) : Blk := { b with tum := { b.tum with mgmtIn := b.tum.mgmtIn.erase x } }

theorem Blk.inside_mgmtTaken (b : Blk) (x : Nat × List Byte × Nat) : b.Inside (b.mgmtTaken x) := .of_eq rfl rfl

/-- The transactions that are left once a message with a TCI has come. -/
def unanswered (l : List Trans) (tci : Nat) : List Trans :=
  match l.find? (fun y => y.tci == tci) with
  | some y => l.erase y
  | none => l

/-- What a message does whose check is right. -/
def Blk.mgmtAnswered (b : Blk) (terminal stamp : Nat) (msg : List Byte) (l : List Trans) : Blk :=
  Blk.service { b with tum := { b.tum with trans := Tab.set [] b.tum.trans terminal l } } b.clk.epoch
    { kind := 4, tenant := 0, key := terminal, seq := 0, stamp := stamp, tci := beNat (msg.take 2) } msg

theorem Blk.inside_mgmtAnswered (b : Blk) (terminal stamp : Nat) (msg : List Byte) (l : List Trans) :
    b.Inside (b.mgmtAnswered terminal stamp msg l) :=
  (Blk.Inside.of_eq rfl rfl : b.Inside { b with tum := { b.tum with trans := Tab.set [] b.tum.trans terminal l } }).trans
    (Blk.inside_service _ _ _ _)

theorem mgmtMessageRx_idle {terminal : Nat} {fail : Bool} (h : s.blk.tum.mgmtIn.find? (fun x => x.1 == terminal) = none) :
    exec (.mgmtMessageRx terminal fail) s = .next s := by
  show execMgmtMessageRx terminal fail s = _
  rw [execMgmtMessageRx]
  exact State.svc_idle (by rw [h])

section
variable {terminal stamp : Nat} {sdu : List Byte} (hp : s.blk.sys.phase = .service)
  (hfind : s.blk.tum.mgmtIn.find? (fun x => x.1 == terminal) = some (terminal, sdu, stamp))
include hp hfind

theorem mgmtMessageRx_checkFail : exec (.mgmtMessageRx terminal true) s
    = .next (s.put ((s.blk.mgmtTaken (terminal, sdu, stamp)).checkFail (84 + s.blk.mgmtCluster (terminal / 512)))) := by
  show execMgmtMessageRx terminal true s = _
  rw [execMgmtMessageRx]
  refine State.svc_to _ hp ?_ ((s.blk.inside_mgmtTaken _).trans (Blk.inside_checkFail _ _))
  rw [hfind]
  rfl

theorem mgmtMessageRx_stale (hold : stale stamp s.blk.clk.epoch = true) : exec (.mgmtMessageRx terminal false) s
    = .next (s.put ((s.blk.mgmtTaken (terminal, sdu, stamp)).staleDiscard (84 + s.blk.mgmtCluster (terminal / 512)))) := by
  show execMgmtMessageRx terminal false s = _
  rw [execMgmtMessageRx]
  refine State.svc_to _ hp ?_ ((s.blk.inside_mgmtTaken _).trans (Blk.noted_staleDiscard _ _).inside)
  rw [hfind]
  dsimp only
  rw [if_neg Bool.false_ne_true, if_pos hold]
  rfl

variable (hfresh : stale stamp s.blk.clk.epoch = false)
include hfresh

theorem mgmtMessageRx_ignored (h : (s.blk.mgmt (terminal / 512)).enable = false
      ∨ sdu.drop (sdu.length - 4) ≠ s.blk.mgmtCheck terminal (sdu.take (sdu.length - 4))) :
    exec (.mgmtMessageRx terminal false) s = .next (s.put (s.blk.mgmtTaken (terminal, sdu, stamp))) := by
  show execMgmtMessageRx terminal false s = _
  rw [execMgmtMessageRx]
  refine State.svc_to _ hp ?_ (s.blk.inside_mgmtTaken _)
  rw [hfind]
  dsimp only
  rw [if_neg Bool.false_ne_true, if_neg (by simp [hfresh])]
  exact if_pos (h.imp (fun h => by simpa [Blk.mgmt] using h) .inr)

/-- A message whose check is right goes to tenant 0's service queue. -/
theorem mgmtMessageRx_answered {rest : List Trans} (hon : (s.blk.mgmt (terminal / 512)).enable = true)
    (hready : s.blk.sys.fwReady = true)
    (hcheck : sdu.drop (sdu.length - 4) = s.blk.mgmtCheck terminal (sdu.take (sdu.length - 4)))
    (hrest : unanswered (Tab.get [] s.blk.tum.trans terminal) (beNat ((sdu.take (sdu.length - 4)).take 2)) = rest) :
    exec (.mgmtMessageRx terminal false) s = .next (s.put
      ((s.blk.mgmtTaken (terminal, sdu, stamp)).mgmtAnswered terminal stamp (sdu.take (sdu.length - 4)) rest)) := by
  subst hrest
  show execMgmtMessageRx terminal false s = _
  rw [execMgmtMessageRx]
  refine State.svc_to _ hp ?_ ((s.blk.inside_mgmtTaken _).trans (Blk.inside_mgmtAnswered _ _ _ _ _))
  rw [hfind]
  dsimp only
  rw [if_neg Bool.false_ne_true, if_neg (by simp [hfresh])]
  refine (if_neg ?_).trans rfl
  rintro (h | h | h)
  · exact absurd hon (by simpa [Blk.mgmt] using h)
  · simp [hready] at h
  · exact h hcheck

end

/-- The block with the transactions of a terminal. -/
def Blk.setTrans (b : Blk) (g : Nat) (l : List Trans) : Blk := { b with tum := { b.tum with trans := Tab.set [] b.tum.trans g l } }

theorem Blk.inside_setTrans (b : Blk) (g : Nat) (l : List Trans) : b.Inside (b.setTrans g l) := .of_eq rfl rfl

section
variable {index : Nat} {x : Trans} (hp : s.blk.sys.phase = .service) (hon : (s.blk.mgmt tree).enable = true)
  (hready : s.blk.sys.fwReady = true) (htrans : Tab.get [] s.blk.tum.trans (gid tree index) = [x])
  (hdue : x.sent + (s.blk.mgmtRetries tree).2 ≤ s.blk.clk.epoch) (hin : s.blk.tum.mgmtIn = [])
include htrans hdue hin

/-- The transaction that is due. -/
theorem mgmtRetry_due : (Tab.get [] s.blk.tum.trans (gid tree index)).find? (fun y =>
    decide (y.sent + (s.blk.mgmtRetries tree).2 ≤ s.blk.clk.epoch)
      && !s.blk.tum.mgmtIn.any (fun m => m.1 == gid tree index && beNat (m.2.1.take 2) == y.tci)) = some x := by
  rw [htrans, List.find?_cons_of_pos (by simp [hdue, hin])]

include hp hon hready

/-- A transaction that is due with no retry left ends. -/
theorem mgmtRetry_ends (hleft : x.left = 0) : exec (.mgmtRetry tree index) s
    = .next (s.put (((s.blk.setTrans (gid tree index) []).service s.blk.clk.epoch {
      kind := 5, tenant := 0, key := gid tree index, seq := 0, stamp := s.blk.clk.epoch, tci := x.tci } []).count 0xBC 3
        (s.blk.mgmtCluster tree))) := by
  show execMgmtRetry tree index s = _
  rw [execMgmtRetry]
  refine State.svc_to _ hp ?_
    (((s.blk.inside_setTrans _ _).trans (Blk.inside_service _ _ _ _)).trans (Blk.inside_count _ _ _ _))
  dsimp only
  rw [if_neg (by simp [hon, hready]), mgmtRetry_due htrans hdue hin, htrans]
  dsimp only
  rw [if_pos hleft, List.erase_cons_head]
  rfl

/-- One with a retry left is sent again. -/
theorem mgmtRetry_sendsAgain (hleft : x.left ≠ 0) : exec (.mgmtRetry tree index) s
    = .next (s.put (((s.blk.setTrans (gid tree index) [{ x with sent := s.blk.clk.epoch, left := x.left - 1 }]).mgmtTransmit
      (gid tree index) x.msg s.blk.clk.epoch).count 0xBC 2 (s.blk.mgmtCluster tree))) := by
  show execMgmtRetry tree index s = _
  rw [execMgmtRetry]
  refine State.svc_to _ hp ?_
    (((s.blk.inside_setTrans _ _).trans (Blk.inside_mgmtTransmit _ _ _ _)).trans (Blk.inside_count _ _ _ _))
  dsimp only
  rw [if_neg (by simp [hon, hready]), mgmtRetry_due htrans hdue hin, htrans]
  dsimp only
  rw [if_neg hleft, List.map_cons, List.map_nil, if_pos rfl]
  rfl

end

end

/-- Settles O53, command by command. -/
theorem tumblerJobsRunAndReport : Obligations.TumblerJobsRunAndReport := by
  unfold Obligations.TumblerJobsRunAndReport
  intro s hp b
  refine ⟨fun engine cw mw ow j he hserves hfw hnext => ?job, fun engine cw mw ow => handlerJob_idle,
    fun j rest r hjobs hr houts hcounts => ?writeBack, fun cluster h => jobWriteBack_idle h cluster,
    fun engine cycles why j he hserves hnext => engineFault_reruns hp he hserves hnext, fun engine cycles why => engineFault_idle,
    fun ev rest hev hfw => ?outage, outageJob_idle, fun tenant cls key r hfind => ?close, fun r rest hclosed => ?deliver,
    reportDeliver_idle, fun tree hon hfw huploads => ⟨fun x hready hsome => managementJob_transmits hon hfw huploads hp hready hsome,
      managementJob_idle hon hfw huploads⟩, fun tree => managementJob_disabled, fun terminal sdu stamp hfind => ?rx,
    fun terminal fail => mgmtMessageRx_idle, fun tree index x hon hready htrans hdue hin =>
      ⟨mgmtRetry_ends hp hon hready htrans hdue hin, mgmtRetry_sendsAgain hp hon hready htrans hdue hin⟩⟩
  case job =>
    intro h ended runs
    exact ⟨fun hruns hready => handlerJob_ends hp he hserves hfw hnext hruns (Blk.runJob_noFirmware hready),
      fun hruns hready hvalid => (handlerJob_ends hp he hserves hfw hnext hruns (Blk.runJob_invalid hready hvalid)).trans (by
        rw [jobFailed, hvalid]
        rfl),
      fun hruns hready hvalid hop => handlerJob_ends hp he hserves hfw hnext hruns (Blk.runJob_ends hready hvalid hop),
      handlerJob_stale hp he hserves hfw hnext⟩
  case writeBack =>
    intro at_ x
    have htaken : b.Inside { b with tum := { b.tum with jobs := rest } } := .of_eq rfl rfl
    refine ⟨fun hfail haction => jobWriteBack_first hp hjobs hr (Blk.writeBack_failed houts hfail haction) ?_,
      fun hfail hside hlatent hfault =>
        jobWriteBack_first hp hjobs hr (Blk.writeBack_ended houts hcounts hfail hside hlatent hfault) ?_⟩
    · exact ((htaken.trans (Blk.inside_count _ _ _ _)).trans (Blk.inside_count _ _ _ _)).trans (Blk.inside_engineCycles _ _ _)
    · exact (((htaken.trans (Blk.inside_count _ _ _ _)).trans (Blk.inside_countN _ _ _ _ _)).trans
        (Blk.inside_engineCycles _ _ _)).trans (Blk.inside_writeCtx _ _ _)
  case outage =>
    intro x
    have htaken : b.Inside x := .of_eq rfl rfl
    exact ⟨fun hready => outageJob_takes hp hev hfw (if_pos hready) (htaken.trans (Blk.inside_gather _ _)),
      fun hready => outageJob_takes hp hev hfw (if_neg (by simp [b, hready])) htaken⟩
  case close => exact ⟨reportClose_closes hfind hp, reportClose_waits hfind⟩
  case deliver =>
    intro h x
    exact ⟨fun hx => reportDeliver_first hp hclosed (if_pos hx), fun hx => reportDeliver_first hp hclosed 
      (if_neg (Bool.eq_false_iff.mp hx))⟩
  case rx =>
    intro x msg l answered
    refine ⟨mgmtMessageRx_checkFail hp hfind, mgmtMessageRx_stale hp hfind, fun hfresh hon hready hcheck =>
      ⟨fun y hy => mgmtMessageRx_answered hp hfind hfresh hon hready hcheck ?_,
        fun hnone => mgmtMessageRx_answered hp hfind hfresh hon hready hcheck ?_⟩, mgmtMessageRx_ignored hp hfind⟩
    · rw [unanswered, hy]
    · rw [unanswered, hnone]

end Sys2Proof.Machine
